-- ==== Sys2Proof/Word.lean ====
section
/-!
DEFINITION. The words of the part and the names of its lanes.
Register words have 32 bits (R17), coded values 18 bits (R13, R14), and addresses 32 bits (R48).
-/
namespace Sys2Proof

/-- A byte of lane SRAM or of a message. -/
abbrev Byte := BitVec 8
/-- A register word or an address. -/
abbrev Word := BitVec 32
/-- A coded value, S18 or U18 (R13), or a slot of 18 independent bits (R104). -/
abbrev Val := BitVec 18

/-- The three lanes (R8, R10). -/
inductive LaneId where
  | a | b | c
deriving DecidableEq, Repr

/-- The lane code used in every field: 0 for A, 1 for B, 2 for C (chapter 03). -/
def LaneId.code : LaneId → Nat
  | .a => 0 | .b => 1 | .c => 2

/-- The next lane in letter order, to which link 0 leads. -/
def LaneId.next : LaneId → LaneId
  | .a => .b | .b => .c | .c => .a

/-- The previous lane in letter order, to which link 1 leads. -/
def LaneId.prev : LaneId → LaneId
  | .a => .c | .b => .a | .c => .b

/-- The lane of a code; none for code 3. -/
def LaneId.ofCode (n : Nat) : Option LaneId :=
  match n with
  | 0 => some .a | 1 => some .b | 2 => some .c | _ => none

/-- One value per lane. -/
structure Tri (α : Type) where
  a : α
  b : α
  c : α
deriving DecidableEq, Repr

/-- The value of lane l. -/
def Tri.get {α : Type} (t : Tri α) (l : LaneId) : α :=
  match l with
  | .a => t.a | .b => t.b | .c => t.c

/-- t with the value of lane l replaced. -/
def Tri.set {α : Type} (t : Tri α) (l : LaneId) (v : α) : Tri α :=
  match l with
  | .a => { t with a := v } | .b => { t with b := v } | .c => { t with c := v }

/-- The same value for every lane. -/
def Tri.all {α : Type} (v : α) : Tri α := ⟨v, v, v⟩

/-- A function applied to each lane's value. -/
def Tri.map {α β : Type} (f : α → β) (t : Tri α) : Tri β := ⟨f t.a, f t.b, f t.c⟩

/-- The values of the three lanes in letter order. -/
def Tri.toList {α : Type} (t : Tri α) : List α := [t.a, t.b, t.c]

/-- The lanes a mask holds, in letter order. -/
def Tri.members (t : Tri Bool) : List LaneId :=
  (if t.a then [LaneId.a] else []) ++ (if t.b then [LaneId.b] else []) ++ (if t.c then [LaneId.c] else [])

/-- A lane mask as the fields code it, lane A in bit 0. -/
def Tri.mask (t : Tri Bool) : Nat := t.a.toNat + 2 * t.b.toNat + 4 * t.c.toNat

/-- The lane mask of a field, lane A in bit 0. -/
def Tri.ofMask (n : Nat) : Tri Bool := ⟨n.testBit 0, n.testBit 1, n.testBit 2⟩

/-- The lane mask that holds exactly one lane. -/
def Tri.only (l : LaneId) : Tri Bool := (Tri.all false).set l true

end Sys2Proof
end

