-- ==== Sys2Proof/Syntax.lean ====
section
/-!
DEFINITION. The commands and events of the block: what reaches a lane from its links, its host, its pins, its timers and its
own engines.
Every command names its lane, and the operand t is the tick of that lane's current control cycle at which it comes; a command
of a fixed phase of R34 names no tick.
What a command brings from outside the lane (a received frame, a converter code, whether a signature verifies) is an operand.
-/
namespace Sys2Proof

/-- The fields of an agreement frame, with the CRC-32C that it carries (R99). COUNT is the number of values. -/
structure AgreeFrame where
  type   : Nat
  src    : Nat
  lstate : Nat
  smode  : Nat
  vset   : Nat
  ccn    : Word
  auth   : Nat
  twin   : Bool
  cfgTag : BitVec 16
  values : List Val
  crc    : BitVec 32 := 0
deriving DecidableEq, Repr

/-- The fields of an output frame, with the CRC-32C that it carries (R100). COUNT is the number of tokens. -/
structure OutFrame where
  type   : Nat
  src    : Nat
  vset   : Nat
  rxm    : Nat
  held   : Bool
  ccnLo  : BitVec 8
  tokens : List Val
  digest : BitVec 64
  crc    : BitVec 32 := 0
deriving DecidableEq, Repr

/-- A control frame but for its message code, which its command fixes: the header fields, the payload as it stands on the link (its
layout is internal to the part) and the CRC-32C that the frame carries (R102). -/
structure CtlHdr where
  type    : Nat
  src     : Nat
  dest    : Nat
  ccn     : Word
  payload : List Byte := []
  crc     : BitVec 32 := 0
deriving DecidableEq, Repr

/-- The agreement image of a host command (R378): descriptor words 0 and 3 to 11, queue, function and payload hash. -/
structure CmdImage where
  cid    : Nat
  flags  : Nat
  opcode : Nat
  length : Nat
  args   : List Word
  queue  : Nat
  fn     : Nat
  hash   : Nat
deriving DecidableEq, Repr

/-- One section of a configuration image or staging bundle (R498); data holds the section's words in order. -/
structure Section where
  kind : Nat
  addr : Nat
  data : List Nat
deriving DecidableEq, Repr

/-- A firmware image, configuration image or staging bundle as Vigil and the boot ROM see it (R497): the 64 little-endian words of its
header, the outcome of the cryptographic checks, and the sections. -/
structure Image where
  header   : List Word
  sigOk    : Bool
  hashOk   : Bool
  sections : List Section
deriving DecidableEq, Repr

/-- The payload of an In command as it reached this lane (R381): none when it did not arrive or its hash differs; otherwise its
length in bytes, and what it holds. -/
inductive Payload where
  | none
  | bundle (img : Image)
  | mapPages (entries : List (Nat × Nat × Nat))
  | nor (bytes : Nat) (complete : Option Image)
  | key (id : Nat) (formatOk : Bool)
  | opening (bytes : List Byte)
deriving DecidableEq, Repr

/-- What a lane reports of a pending commit (R134, R398, R400): its cycle, the staged tag where the bank is checked, why the sender is not ready
(0: it is), and the lanes whose COMMIT_READY for that cycle and its own tag it holds. -/
structure CommitShow where
  at_    : Word
  tag    : Option (BitVec 16)
  reason : Nat
  got    : Tri Bool
deriving DecidableEq, Repr

/-- What a STATUS message reports (R102, R119, R131, R134, R135, R137, R331, R378, R427, R457); silent holds the sender's silent count of each
peer, claimBad says that the CLAIMs of this cycle do not agree at the sender, admitted is the lane that the AUTHORITY has admitted by JOIN,
check the sender's safety check value (R330). -/
structure StatusMsg where
  lstate    : Nat
  linkHeard : Tri Bool
  pulseHeard : Tri Bool
  silent    : Tri Nat
  window    : Nat
  acn       : Nat
  tag       : BitVec 16
  lifecycle : Nat
  sealed    : Bool
  twin      : Bool
  recordOk  : Bool
  images    : List CmdImage
  smode     : Nat
  ringReady : Bool
  covered   : Word
  claimBad  : Bool := false
  commit    : Option CommitShow := none
  admitted  : Option LaneId := none
  check     : Word := 0
deriving DecidableEq, Repr

/-- A slow activation as a transfer carries it (R137): SEQ, the cycles of its nominal start, start and release, what has completed, and
whether it can no longer complete (R162). -/
structure XferAct where
  seq     : BitVec 16
  nominal : Word
  start   : Word
  release : Word
  done    : Nat
  dead    : Bool
deriving DecidableEq, Repr

/-- One item of a state-transfer block (R137). The layout of a block is internal to the part (R102). Units have a committed and a working copy;
what is none has ended at the donor. -/
inductive XferItem where
  | sramWord (addr : Nat) (v : BitVec 64)
  | tableWord (word : Nat) (v : Val)
  | slotState (slot : Nat) (work : Bool) (integ dst fbPrev : Int) (started : Bool) (feCount : Nat) (feActive : Bool) (prevOut : Val)
  | genState (gen : Nat) (work : Bool) (pos vel acc vcap : Int) (stopping arrived preset : Bool)
  | persist (key n : Nat)
  | frames (used : Nat)
  | latched (arc : Nat) (v : BitVec 19)
  | release (flow arc : Nat) (v : Option (BitVec 16 × Bool × Val))
  | activation (flow : Nat) (act : Option XferAct)
  | deferred (flow : Nat) (nominal : Option Word)
  | config (regs : List (Nat × Word)) (nodes : List (Nat × BitVec 128)) (arcs inMap : List (Nat × Word)) (keys : List Nat)
  | staging (opened checked : Bool) (regs : List (Nat × Word)) (nodes : List (Nat × BitVec 128)) (arcs : List (Nat × Word))
      (params : List (Nat × Option Byte)) (inMap : List (Nat × Word)) (keys : List Nat) (tag : BitVec 16) (reject : Nat) (baseBad : Bool)
  | confirmed (on : Bool) (value : Word)
  | safety (session cmdStop fromReset : Bool)
deriving DecidableEq, Repr

/-- The place of the state that an item carries: its kind and its number among that kind. -/
def XferItem.place : XferItem → Nat × Nat
  | .sramWord a _ => (0, a) | .tableWord w _ => (1, w) | .slotState k work _ _ _ _ _ _ _ => (2, 2 * k + work.toNat)
  | .genState k work _ _ _ _ _ _ _ => (3, 2 * k + work.toNat) | .persist k _ => (4, k) | .frames _ => (5, 0) | .latched a _ => (6, a)
  | .release flow arc _ => (7, 4096 * flow + arc) | .activation flow _ => (8, flow) | .deferred flow _ => (9, flow)
  | .config _ _ _ _ _ => (10, 0) | .staging _ _ _ _ _ _ _ _ _ _ _ => (11, 0) | .confirmed _ _ => (12, 0) | .safety _ _ _ => (13, 0)

/-- The item that says that the state an item carries is there no longer; none where another item says so, or nothing reads it. -/
def XferItem.cleared : XferItem → Option XferItem
  | .tableWord w _ => some (.tableWord w 0)
  | .persist k _ => some (.persist k 0)
  | .latched a _ => some (.latched a 0)
  | .release flow arc _ => some (.release flow arc none)
  | _ => none

/-- A control message: its content by message code (R102). -/
inductive CtlMsg where
  | status (m : StatusMsg)
  | fence (cause : Nat)
  | claim (named : Nat)
  | move (target : Nat) (at_ : Word)
  | commitReady (at_ : Word) (tag : BitVec 16)
  | hostCmd (img : CmdImage)
  | join
  | xfer (block : List XferItem) (left : Nat)
  | xferCut (block : List XferItem) (cut : Word)
  | syncStart (start : Nat)
deriving DecidableEq, Repr

/-- The message code of a control message (R102). -/
def CtlMsg.code : CtlMsg → Nat
  | .status _ => 0x01 | .fence _ => 0x02 | .claim _ => 0x03 | .move _ _ => 0x04 | .commitReady _ _ => 0x05
  | .hostCmd _ => 0x06 | .join => 0x07 | .xfer _ _ => 0x08 | .xferCut _ _ => 0x09 | .syncStart _ => 0x0A

/-- A physical upset found in a read word (R74, R75, R183): none, one bit, two bits with the syndrome they give, or a word that was stored at
another address, with its syndrome. -/
inductive Upset where
  | none
  | single
  | double (syndrome : BitVec 8)
  | misplaced (syndrome : BitVec 8)
deriving DecidableEq, Repr

/-- The upsets that the reads of one command find in table memory (R183): word number and upset. -/
abbrev Hits := List (Nat × Upset)

/-- The upset that is found in word w. -/
def hitAt (hs : Hits) (w : Nat) : Upset := match hs.find? fun h => decide (h.1 = w) with | some h => h.2 | none => .none

/-- A core local memory (R89, MEMORY codes 0x1 to 0x6). -/
inductive CoreMem where
  | beacon | taper (n : Nat) | comms
deriving DecidableEq, Repr

/-- A request of the Grarid debug protocol (R537): the challenge and signature exchange of R513; at level 1 a fabric read, with the upset that it finds, and a read of
trace; at level 2 core control (R85 to R88), reads of core registers and local memories, fabric writes and the debug reset with the scope of code 0x6 or 0x7 (R491); in MAKER an
on-demand test of a partition (R527). -/
inductive GdpReq where
  | exchange
  | read (addr : Word) (up : Upset)
  | trace
  | halt
  | resume
  | step
  | coreWrite (target : Nat) (val : Word)
  | coreRead (target : Nat)
  | write (addr v : Word)
  | reset (full : Bool)
  | test (part : Nat)
deriving DecidableEq, Repr

/-- A bus write of a Beacon core (R54, R56): address, data, byte strobes and attributes. -/
structure BusWr where
  addr   : Word
  data   : BitVec 64
  strobe : BitVec 8
  attr   : BitVec 8 := 0
deriving DecidableEq, Repr

/-- The level of a safety contact against its switch points (R304). -/
inductive ContactLevel where
  | low | between | high
deriving DecidableEq, Repr

/-- What surrounds the payload of an Ethernet II frame (R412): destination and source address, the tag (PCP and VID) if there is one, the
EtherType, and whether its FCS is correct. -/
structure EthHdr where
  dst     : Nat
  src     : Nat
  tag     : Option (Nat × Nat)
  etherType : Nat
  fcsOk   : Bool
deriving DecidableEq, Repr

/-- The Wick header with its CRC (R413), and the payload as a little-endian number. -/
structure WickHdr where
  crc     : BitVec 32
  version : Nat
  kind    : Nat
  slot    : Nat
  dir     : Nat
  wcn     : Word
  mode    : Nat
  lane    : Nat
  primary : Bool
  hold    : Bool
  node    : Nat
  len     : Nat
  txage   : Nat
  hops    : Nat
  payload : Nat
deriving DecidableEq, Repr

/-- A Wick frame (R412, R413). -/
structure WickFrame extends EthHdr, WickHdr
deriving DecidableEq, Repr

/-- A CAN frame (R431): identifier and its format, whether it is a remote frame, FD format and bit-rate switching, the data length
code, and the payload as a little-endian number. -/
structure CanFrame where
  ide    : Bool
  id     : Nat
  remote : Bool
  fdf    : Bool
  brs    : Bool
  dlc    : Nat
  payload : Nat
deriving DecidableEq, Repr

/-- The fields of a slot directory copy (R445): DSEQ, ACTIVE, and STATE, FW_VERSION and CFG_VERSION of slot 0 and slot 1. -/
structure NorDir where
  dseq   : Word
  active : Nat
  state0 : Nat
  state1 : Nat
  fw0    : Nat
  fw1    : Nat
  cfg0   : Nat
  cfg1   : Nat
deriving DecidableEq, Repr

/-- A NOR slot (R444, R518): its firmware and configuration images when complete, and the first unwritten byte of each area. -/
structure NorSlot where
  fw      : Option Image := none
  cfg     : Option Image := none
  fwNext  : Nat := 0
  cfgNext : Nat := 0
deriving DecidableEq, Repr

/-- A confirmation record (R331, R448): its sequence number, the check value it carries, and whether its CRC and binding verify. -/
structure ConfRec where
  seq   : Nat
  value : Word
  valid : Bool
deriving DecidableEq, Repr

/-- What the NOR holds (R444 to R448): the 16 words of each directory copy, the slots, the confirmation records of the two
halves in order of writing, the half in use, and a count of its changes. -/
structure Nor where
  dir0    : List Nat := []
  dir1    : List Nat := []
  slot0   : NorSlot := {}
  slot1   : NorSlot := {}
  conf0   : List ConfRec := []
  conf1   : List ConfRec := []
  half    : Nat := 0
  changes : Nat := 0
deriving DecidableEq, Repr

/-- A NOR device as its SFDP gives it (R440 to R442, R462): capacity in bytes, erase sector in KiB, program page in bytes, erase cycles, whether it
has 8D-8D-8D and the read strobe DS, its read dummy cycles, and the longest program or erase in microseconds. -/
structure NorDev where
  cap       : Nat
  sectorKib : Nat := 64
  pageBytes : Nat := 256
  endurance : Nat := 100000
  octal     : Bool := true
  ds        : Bool := true
  dummy     : BitVec 8 := 0
  maxUs     : Nat := 0
deriving DecidableEq, Repr

/-- A NAND device as its parameter page and its factory marks give it (R440, R441, R450, R453): blocks, pages per block, page size in KiB, spare bytes per
page, erase cycles, whether its on-die ECC is enabled, the protocols of XSP.CS_CFG.PROTO that it has and whether it has DS, its read dummy cycles, bad
blocks, whether the last journal entry is cut short, and whether the CRC of each bad-block table copy verifies. -/
structure NandDev where
  blocks  : Nat
  pages   : Nat
  pageKib : Nat
  spare   : Nat := 128
  endurance : Nat := 60000
  eccOn   : Bool := true
  protos  : List Nat := [0, 1, 2]
  ds      : Bool := true
  dummy   : BitVec 8 := 0
  bad     : List Nat
  cut     : Bool
  table0  : Bool := true
  table1  : Bool := true
deriving DecidableEq, Repr

/-- What an xSPI operation reports as it completes (R442 to R453): a NOR program or erase verified or failed, a NAND read of a
block with the bits corrected in its worst sector or an uncorrectable sector, a failed NAND program or erase of a block, one that has succeeded. -/
inductive FlashEnd where
  | norDone (ok : Bool)
  | nandRead (block corrected : Nat) (bad : Bool)
  | nandFailed (block : Nat)
  | nandDone
deriving DecidableEq, Repr

/-- A command descriptor (R368), read from its words 0 to 11. -/
structure Desc where
  cid    : Nat
  flags  : Nat
  opcode : Nat
  seq    : Word
  addr   : Word
  length : Nat
  args   : List Word
deriving DecidableEq, Repr

/-- The descriptor that words 0 to 11 spell (R368). -/
def Desc.ofWords (ws : List Word) : Desc :=
  let w := fun (k : Nat) => ws.getD k 0
  { cid := (w 0).toNat / 2 ^ 16, flags := (w 0).toNat / 2 ^ 8 % 2 ^ 8, opcode := (w 0).toNat % 2 ^ 8, seq := w 1, addr := w 2
    length := (w 3).toNat, args := (List.range 8).map fun k => w (k + 4) }

/-- What a Beacon core puts out (R54, R56): a bus write, with the register writebacks since its last one. -/
structure CoreOut where
  wr : BusWr
  wb : List (BitVec 64)
deriving DecidableEq, Repr

/-- What another lane says for a command that names it (R520, R533): whether the lane named is ready for it (UPDATE_READY, VERIFIED), and
whether INSVC_EN is 1 in every other lane of the VSET. -/
structure PeerFacts where
  ready : Bool
  insvc : Bool
deriving DecidableEq, Repr

/-- A reader of table memory by its number, a core or a loop slot, with the upsets that its reads find (R183). -/
structure TableUser where
  no   : Nat
  hits : Hits := []
deriving DecidableEq, Repr

/-- What a drain-source comparator meets (R284): the switch and its voltage in millivolts. -/
structure Sensed where
  sw : Nat
  mv : Nat
deriving DecidableEq, Repr

/-- A key level at a tick, and for how many milliseconds it has lasted (R478). -/
structure KeyHeld where
  tick : Nat
  ms   : Nat
deriving DecidableEq, Repr

/-- The level of the wake pin, and for how many microseconds it has lasted (R478). -/
structure PinHeld where
  us   : Nat
  high : Bool
deriving DecidableEq, Repr

/-- The commands and events of the block, one constructor per row of spec/opcode_table.json, in its order. -/
inductive Instr where
  /-- R33: The lane's cycle timer starts a new control cycle: the CCN increments, trim is applied, the pulse line toggles and a cycle marker is sent. -/
  | cycleStart (l : LaneId) (rb0 rb1 : Bool)
  /-- R352: A handling episode closes at the first qualifying commit or at the eighth cycle start, and merged sources still in the fault state are
  raised anew. -/
  | episodeClose (l : LaneId) (t : Nat)
  /-- R34: At 2.0 µs the input vector closes and the lane sends its agreement frame on both links. -/
  | inputVectorClose (l : LaneId)
  /-- R99: An agreement frame arrives from a peer; it is discarded on a bad CRC, a wrong CCN or an undefined type. -/
  | agreementFrame (l : LaneId) (t : Nat) (link : Nat) (f : AgreeFrame)
  /-- R105: At 2.7 µs the lane fixes its VSET and forms each agreed value by class from the frames it used. -/
  | inputAgreement (l : LaneId)
  /-- R144: At 2.9 µs the fast flow's source tokens and the due slow flows' source tokens are injected, and latched arcs deliver their values. -/
  | sourceInjection (l : LaneId)
  /-- R317: At 2.9 µs the safety unit evaluates demands, SLP, SLR, LAST LIGHT and the SS1 envelope on the agreed vector. -/
  | sfuEvaluation (l : LaneId)
  /-- R324: The LAST LIGHT time counter expires, and the part enters SAFE STOP. -/
  | lastLightExpiry (l : LaneId) (t : Nat)
  /-- R164: At 4.8 µs a fast activation that has not placed all its sink tokens raises fast flow deadline miss. -/
  | fastFlowDeadlineCheck (l : LaneId)
  /-- R144: At 4.9 µs the fast sink tokens are handed to the XLA, remaining flow 0 tokens are discarded, and the output frame is sent on both links. -/
  | outputExchange (l : LaneId)
  /-- R100: An output frame arrives from a peer, and its tokens are compared with the lane's own as they stream in. -/
  | outputFrame (l : LaneId) (t : Nat) (link : Nat) (f : OutFrame)
  /-- R109: At the 5.35 µs receive deadline the lane evaluates its peers, takes the majority and either commits the tokens assigned to it by 5.5 µs or
  holds the cycle. -/
  | majorityCommit (l : LaneId)
  /-- R378: 1.5 µs before the end of its configured cycle, a lane sends its STATUS message listing its authenticated, not yet agreed command images. -/
  | statusSend (l : LaneId)
  /-- R102: A STATUS control message arrives from a peer, carrying lane state, heard flags, silent counts and pending command images. -/
  | statusMessage (l : LaneId) (t : Nat) (link : Nat) (h : CtlHdr) (m : StatusMsg)
  /-- R102: A FENCE control message arrives, and the sender leaves the receiver's VSET. -/
  | fenceMessage (l : LaneId) (t : Nat) (link : Nat) (h : CtlHdr) (cause : Nat)
  /-- R131: A CLAIM message arrives in a migration hold cycle, naming the sender's next AUTHORITY. -/
  | claim (l : LaneId) (t : Nat) (link : Nat) (h : CtlHdr) (named : Nat)
  /-- R132: A MOVE message arrives, confirming a commanded authority move. -/
  | move (l : LaneId) (t : Nat) (link : Nat) (h : CtlHdr) (target : Nat) (at_ : Word)
  /-- R132: At the named cycle a confirmed move makes the target AUTHORITY and the old AUTHORITY STANDBY; an unconfirmed move is refused. -/
  | authorityMoveApply (l : LaneId)
  /-- R134: A COMMIT_READY message arrives, announcing a peer's readiness for a commit at a named cycle. -/
  | commitReady (l : LaneId) (t : Nat) (link : Nat) (h : CtlHdr) (at_ : Word) (tag : BitVec 16)
  /-- R134: At the start of cycle M a commit that every lane of the VSET declared ready applies; otherwise it fails in every lane. -/
  | commitApply (l : LaneId)
  /-- R378: A HOST_CMD message arrives carrying the agreement image of a command authenticated at a peer. -/
  | hostCmd (l : LaneId) (t : Nat) (link : Nat) (h : CtlHdr) (img : CmdImage)
  /-- R378: At the start of cycle k+2 a command authenticated by a quorum in the STATUS messages of cycle k is carried out by every VSET lane. -/
  | hostCommandAgreed (l : LaneId) (t : Nat) (img : CmdImage) (peer : PeerFacts) (otpOk : Bool)
  /-- R380: A command image not agreed within the agreement time-out is dropped and completed NOT_AGREED. -/
  | agreementTimeout (l : LaneId) (t : Nat) (img : CmdImage)
  /-- R137: The AUTHORITY receives JOIN and accepts the lane into RESYNC, or refuses it in LAST LIGHT and SAFE STOP. -/
  | join (l : LaneId) (t : Nat) (link : Nat) (h : CtlHdr)
  /-- R137: In the background phase the donor sends the next changed 256-byte state block, or XFER_CUT when the rest fits one phase. -/
  | xferSend (l : LaneId) (t : Nat) (block : List XferItem) (left : Nat) (last : Bool)
  /-- R137: A joining lane receives one XFER block of state. -/
  | xfer (l : LaneId) (t : Nat) (link : Nat) (h : CtlHdr) (block : List XferItem) (left : Nat)
  /-- R137: A joining lane receives the last block and the cut cycle from which it computes. -/
  | xferCut (l : LaneId) (t : Nat) (link : Nat) (h : CtlHdr) (block : List XferItem) (cut : Word)
  /-- R137: From the cut cycle, the joining lane runs every flow on the agreed vector and sends its own frames. -/
  | cutCycleStart (l : LaneId)
  /-- R137: The clean-cycle count reaches ceil(1 s ÷ cycle length), and the joining lane enters STANDBY at the next cycle start. -/
  | cleanPeriodComplete (l : LaneId)
  /-- R138: A transfer not cut within 50 ms of JOIN acceptance is abandoned, and the joining lane is fenced. -/
  | transferTimeout (l : LaneId) (t : Nat)
  /-- R135: The authority-elect names a start instant in SYNC_START once three lanes match, or 130 ms after its lane ready with two. -/
  | syncStartDecision (l : LaneId) (t : Nat) (start : Nat)
  /-- R135: A SYNC_START message arrives, naming the start instant. -/
  | syncStart (l : LaneId) (t : Nat) (link : Nat) (h : CtlHdr) (start : Nat)
  /-- R135: At the named instant matching lanes step their cycle start, set CCN to 0 and enter AUTHORITY or STANDBY in SNUFFED. -/
  | initialStart (l : LaneId)
  /-- R96: A peer's cycle marker arrives; from the authority it gives the offset that drives trim and the alignment-loss checks. -/
  | cycleMarkerReceive (l : LaneId) (link : Nat) (arr : Int)
  /-- R95: A peer's pulse line toggles, and counts as heard when it lies within ±500 ns of the receiver's cycle start. -/
  | pulseToggleReceive (l : LaneId) (link : Nat) (off : Int)
  /-- R91: A link loses 64b/66b block lock and starts training. -/
  | linkBlockLockLost (l : LaneId) (t : Nat) (link : Nat)
  /-- R91: Link training completes, and the one-way latency is measured and stored. -/
  | linkTrainingComplete (l : LaneId) (t : Nat) (link : Nat) (latency : Nat)
  /-- R55: At the end of a 128-core-cycle window, the main and checker signatures are captured and compared by both comparator copies. -/
  | lockstepWindowCompare (l : LaneId) (t : Nat) (wbMain wbChk : List (BitVec 64)) (bad0 bad1 : Bool)
  /-- R56: A main-core bus write is held in the output buffer, compared with the checker's, and released to the fabric only when it matches. -/
  | coreBusWrite (l : LaneId) (t : Nat) (m chk : CoreOut) (bad0 bad1 : Bool)
  /-- R65: Every 1 ms a pattern with one inverted bit enters a spare compare slot, and both comparator copies must flag it. -/
  | comparatorRehearsal (l : LaneId) (t : Nat) (flag0 flag1 : Bool)
  /-- R76: A read of lane SRAM corrects and writes back a single-bit error, or ends with a bus error on an uncorrectable error. -/
  | laneSramRead (l : LaneId) (t : Nat) (ini : Nat) (addr : Word) (up : Upset)
  /-- R78: A write to lane SRAM, as a read-modify-write when partial, is refused on an uncorrectable error and may carry an armed injection. -/
  | laneSramWrite (l : LaneId) (t : Nat) (ini : Nat) (addr : Word) (data : BitVec 64) (strobe : BitVec 8) (up : Upset)
  /-- R79: Every SCRUB_INTERVAL fabric cycles the scrubber reads the next lane SRAM word and handles errors without a bus error. -/
  | sramScrub (l : LaneId) (t : Nat) (up : Upset)
  /-- R74: An access to a core local memory finds a single-bit error, which is corrected, or a double-bit error, which resets the core or stops the pair. -/
  | coreLocalMemoryError (l : LaneId) (t : Nat) (mem : CoreMem) (dataMem : Bool) (off : Word) (up : Upset)
  /-- R72: The comms core watchdog expires after 10 ms, and the comms core alone is reset. -/
  | commsCoreWatchdog (l : LaneId) (t : Nat)
  /-- R88: A halt request is accepted or refused by lifecycle, lane state and mode; when accepted the lane fences itself and halts. -/
  | debugHaltRequest (l : LaneId) (t : Nat)
  /-- R87: A halted lane resumes, and it rejoins through SYNC and RESYNC. -/
  | debugResume (l : LaneId) (t : Nat)
  /-- R85: A single-step applied to the main core is replayed on the checker 2 core cycles later. -/
  | debugSingleStep (l : LaneId) (t : Nat)
  /-- R85: A debugger register or local-memory write is applied to the main core and replayed on the checker. -/
  | debugCoreWrite (l : LaneId) (t : Nat) (target : Nat) (val : Word)
  /-- R86: An instruction breakpoint or data watchpoint hits and halts both cores at the same instruction. -/
  | breakpointHit (l : LaneId) (t : Nat) (watch : Bool) (idx : Nat)
  /-- R85: A replay-queue entry drains, releasing a stalled probe when the queue was full. -/
  | replayQueueDrain (l : LaneId) (t : Nat)
  /-- R162: A dispatched node exceeds its worst case plus MARGIN; the core is reset and the affected activations cannot complete. -/
  | taperCoreUnresponsive (l : LaneId) (t : Nat) (core : Nat)
  /-- R160: A core running a lower-priority node stops at its next safe point, saves the context and starts the new node. -/
  | nodePreemption (l : LaneId) (t : Nat) (core : Nat)
  /-- R155: The node and arc tables are scrubbed, correcting single-bit errors and reporting uncorrectable ones. -/
  | pclTableScrub (l : LaneId) (t : Nat) (bank : Nat) (arcTable : Bool) (entry : Nat) (up : Upset)
  /-- R169: Operator 0x00 passes its input unchanged. -/
  | pass (l : LaneId) (t : Nat) (core : Nat)
  /-- R568: Operator 0x01 outputs parameter k, always valid. -/
  | const (l : LaneId) (t : Nat) (core : Nat)
  /-- R169: Operator 0x02 outputs a + b, saturated. -/
  | add (l : LaneId) (t : Nat) (core : Nat)
  /-- R169: Operator 0x03 outputs a − b, saturated. -/
  | sub (l : LaneId) (t : Nat) (core : Nat)
  /-- R169: Operator 0x04 outputs a × b. -/
  | mul (l : LaneId) (t : Nat) (core : Nat)
  /-- R169: Operator 0x05 outputs a × b + c. -/
  | mac (l : LaneId) (t : Nat) (core : Nat)
  /-- R169: Operator 0x06 outputs a ÷ b, invalid when b is 0. -/
  | div (l : LaneId) (t : Nat) (core : Nat)
  /-- R169: Operator 0x07 outputs abs(a). -/
  | abs (l : LaneId) (t : Nat) (core : Nat)
  /-- R169: Operator 0x08 outputs −a. -/
  | neg (l : LaneId) (t : Nat) (core : Nat)
  /-- R568: Operator 0x09 outputs a × g + o. -/
  | scale (l : LaneId) (t : Nat) (core : Nat)
  /-- R169: Operator 0x0A outputs the smaller input. -/
  | min (l : LaneId) (t : Nat) (core : Nat)
  /-- R169: Operator 0x0B outputs the larger input. -/
  | max (l : LaneId) (t : Nat) (core : Nat)
  /-- R568: Operator 0x0C clamps a to [lo, hi] and flags a clamp. -/
  | limit (l : LaneId) (t : Nat) (core : Nat)
  /-- R169: Operator 0x0D outputs the U18 square root. -/
  | sqrt (l : LaneId) (t : Nat) (core : Nat)
  /-- R169: Operator 0x0E outputs the angle of (x, y), invalid at the origin. -/
  | atan2 (l : LaneId) (t : Nat) (core : Nat)
  /-- R169: Operator 0x0F outputs sine and cosine of an angle. -/
  | sincos (l : LaneId) (t : Nat) (core : Nat)
  /-- R568: Operator 0x10 is a hysteresis comparator of a against b with width h. -/
  | cmp (l : LaneId) (t : Nat) (core : Nat)
  /-- R169: Operator 0x11 selects a or b by bit 0 of s. -/
  | select (l : LaneId) (t : Nat) (core : Nat)
  /-- R568: Operator 0x12 shifts and masks a discrete field. -/
  | bits (l : LaneId) (t : Nat) (core : Nat)
  /-- R568: Operator 0x13 applies a bitwise AND, OR or XOR. -/
  | logic (l : LaneId) (t : Nat) (core : Nat)
  /-- R568: Operator 0x14 emits a one-activation pulse on a selected bit edge. -/
  | edge (l : LaneId) (t : Nat) (core : Nat)
  /-- R568: Operator 0x15 debounces bit 0 with on and off counts. -/
  | debounce (l : LaneId) (t : Nat) (core : Nat)
  /-- R568: Operator 0x16 counts increments up to a limit, with reset. -/
  | counter (l : LaneId) (t : Nat) (core : Nat)
  /-- R568: Operator 0x17 counts activations while run is set and flags expiry. -/
  | timer (l : LaneId) (t : Nat) (core : Nat)
  /-- R568: Operator 0x18 is a first-order low-pass filter. -/
  | lpf1 (l : LaneId) (t : Nat) (core : Nat)
  /-- R568: Operator 0x19 is a second-order filter section. -/
  | biquad (l : LaneId) (t : Nat) (core : Nat)
  /-- R568: Operator 0x1A limits the rise and fall of a per activation. -/
  | ratelim (l : LaneId) (t : Nat) (core : Nat)
  /-- R568: Operator 0x1B removes a band around zero. -/
  | deadband (l : LaneId) (t : Nat) (core : Nat)
  /-- R568: Operator 0x1C outputs the mean of the last n valid inputs. -/
  | movavg (l : LaneId) (t : Nat) (core : Nat)
  /-- R568: Operator 0x1D integrates gain × a, clamped, with reset. -/
  | integ (l : LaneId) (t : Nat) (core : Nat)
  /-- R568: Operator 0x1E outputs a filtered derivative. -/
  | deriv (l : LaneId) (t : Nat) (core : Nat)
  /-- R568: Operator 0x1F outputs the token that entered k activations earlier. -/
  | delay (l : LaneId) (t : Nat) (core : Nat)
  /-- R569: Operator 0x20 interpolates a one-dimensional table in table memory. -/
  | lut1 (l : LaneId) (t : Nat) (core : TableUser)
  /-- R569: Operator 0x21 interpolates a table bilinearly. -/
  | lut2 (l : LaneId) (t : Nat) (core : TableUser)
  /-- R569: Operator 0x22 interpolates a ratio by angle and speed and outputs angle × ratio. -/
  | steermap (l : LaneId) (t : Nat) (core : TableUser)
  /-- R568: Operator 0x23 flags a value out of range for p activations. -/
  | rangechk (l : LaneId) (t : Nat) (core : Nat)
  /-- R568: Operator 0x24 outputs the mean of two values and flags a persistent difference. -/
  | xchk (l : LaneId) (t : Nat) (core : Nat)
  /-- R568: Operator 0x25 flags a change faster than the plausible rate. -/
  | plaus (l : LaneId) (t : Nat) (core : Nat)
  /-- R568: Operator 0x26 outputs a if valid, otherwise b. -/
  | validor (l : LaneId) (t : Nat) (core : Nat)
  /-- R568: Operator 0x27 flags a value unchanged for n activations while moving. -/
  | stuck (l : LaneId) (t : Nat) (core : Nat)
  /-- R212: Operator 0x28 forms the bridge command word and clears enable on any invalid input. -/
  | bridgecmd (l : LaneId) (t : Nat) (core : Nat)
  /-- R169: Operator 0x29 forms the safe-output word, setting its mask bits on any invalid input. -/
  | safeout (l : LaneId) (t : Nat) (core : Nat)
  /-- R570: Operator 0x2A scales and encodes a value into a raw signal field. -/
  | sigenc (l : LaneId) (t : Nat) (core : Nat)
  /-- R570: Operator 0x2B extracts and scales a field of a raw signal field. -/
  | sigdec (l : LaneId) (t : Nat) (core : Nat)
  /-- R568: Operator 0x2C makes a invalid when its age exceeds the limit. -/
  | agechk (l : LaneId) (t : Nat) (core : Nat)
  /-- R169: Operator 0x2D chooses one of three inputs by s bits [1:0]. -/
  | mux4 (l : LaneId) (t : Nat) (core : Nat)
  /-- R570: Operator 0x2E steps a state machine on the lowest present event. -/
  | statemach (l : LaneId) (t : Nat) (core : Nat)
  /-- R568: Operator 0x2F evaluates a cubic polynomial. -/
  | poly (l : LaneId) (t : Nat) (core : Nat)
  /-- R190: A loop slot with tokens on every wired port runs one PID passage and returns its output token. -/
  | loopSlotPassage (l : LaneId) (t : Nat) (slot : TableUser)
  /-- R199: A profile generator runs one jerk-limited passage and returns its output token. -/
  | profileGeneratorPassage (l : LaneId) (t : Nat) (gen : Nat)
  /-- R184: A write to table memory succeeds only in open staging to an unreferenced word; otherwise it ends with a bus error. -/
  | tableMemoryWrite (l : LaneId) (t : Nat) (ini : Nat) (addr : Word) (data : Word)
  /-- R185: Every INTERVAL core cycles the scrubber reads the next table word and handles errors. -/
  | tableMemoryScrub (l : LaneId) (t : Nat) (up : Upset)
  /-- R218: At a bridge's PWM period boundary, the shadow command is applied and the chopping on-time is placed for the period. -/
  | pwmPeriodBoundary (l : LaneId) (t : Nat) (b : Nat)
  /-- R233: The start timer reaches TIMEOUT before the sequence ends; start time-out is raised and the disable action applies. -/
  | startTimeout (l : LaneId) (t : Nat) (b : Nat)
  /-- R225: At t_s the AFE samples the bridge's two phase currents and DC link; the values latch at t_s + 200 ns. -/
  | currentSample (l : LaneId) (b cu cw cv : Nat)
  /-- R217: A sector change deferred out of the sample window is applied at t_s + 200 ns. -/
  | deferredSectorChange (l : LaneId) (t : Nat) (b : Nat)
  /-- R235: A fast ADC conversion completes, feeding the pulsed-short limit, chopper control and overvoltage checks. -/
  | fastConversion (l : LaneId) (t : Nat) (conv : List (Nat × Nat))
  /-- R235: A slow ADC conversion of the next channel in turn completes. -/
  | slowConversion (l : LaneId) (t : Nat) (code : Nat)
  /-- R238: After 1,024 conversions the rounded mean becomes the channel OFFSET, or current offset out of range is raised. -/
  | offsetCalibrationComplete (l : LaneId) (t : Nat) (ch : Nat)
  /-- R292: A chopper state change deferred out of a sample window is applied at t_s + 200 ns. -/
  | chopperDeferredChange (l : LaneId) (t : Nat)
  /-- R294: The overvoltage timer reaches T_OV1; the chopper is declared faulty and both bridges are held in winding short. -/
  | overvoltageTimerExpiry (l : LaneId) (t : Nat)
  /-- R245: A feedback line's filtered level changes, dated at its first sample, and updates hall, encoder, probe, chatter and stuck state. -/
  | lineEdgeAccepted (l : LaneId) (t : Nat) (lines levels : Nat)
  /-- R245: A raw pulse shorter than FILT samples is rejected and counted as a glitch. -/
  | lineGlitchRejected (l : LaneId) (t : Nat) (line : Nat)
  /-- R247: A 75,000-sample glitch window ends, and a glitch count above GLITCH_MAX is a chatter event. -/
  | glitchWindowEnd (l : LaneId) (t : Nat)
  /-- R247: CLEAR_MS pass with no chatter event, ending the chatter and re-evaluating the group. -/
  | chatterClear (l : LaneId) (t : Nat) (line : Nat)
  /-- R271: At the latch instant the PFB evaluates speeds and latches positions and status words for the input vector. -/
  | pfbVectorLatch (l : LaneId)
  /-- R265: At START ticks from the cycle start an SSI transaction clocks the sensor. -/
  | ssiTransactionStart (l : LaneId) (t : Nat) (port : Nat) (high : Bool)
  /-- R266: An SSI frame ends and is stored when valid, or raises SSI frame error. -/
  | ssiFrameComplete (l : LaneId) (t : Nat) (port raw : Nat)
  /-- R268: A SENT frame completes and is decoded and checked, updating fast channels and the slow message. -/
  | sentFrameReceived (l : LaneId) (t : Nat) (recv sync : Nat) (ivs : List Nat)
  /-- R257: A write to PFB.ARM arms probes or ONCE indices, taking effect at the next cycle start. -/
  | pfbArmWrite (l : LaneId) (t : Nat) (ini : Nat) (v : Word)
  /-- R283: An interlock finds both switches of a leg commanded on; the leg is forced off to the next boundary. -/
  | shootThroughCommand (l : LaneId) (t : Nat) (leg : Nat) (byDie : Bool)
  /-- R285: The desaturation comparator trips a conducting switch; the bridge turns off and waits. -/
  | desaturationTrip (l : LaneId) (t : Nat) (x : Sensed)
  /-- R285: The hard-short comparator trips a conducting switch; the bridge turns off and waits. -/
  | hardShortTrip (l : LaneId) (t : Nat) (x : Sensed)
  /-- R287: The retry wait ends, and the unit resumes at its next boundary or conversion as a try. -/
  | retryWaitExpiry (l : LaneId) (t : Nat) (unit : Nat)
  /-- R290: VGD falls below 8.0 V, and all 13 gate outputs are held low. -/
  | vgdUndervoltage (l : LaneId) (t : Nat)
  /-- R290: VGD stays above 8.6 V for WAIT; the lockout clears as a try, or latches at the limit. -/
  | vgdLockoutClear (l : LaneId) (t : Nat)
  /-- R290: At drive-die power-up VGD first rises above 8.6 V and the gate outputs are released. -/
  | vgdFirstRise (l : LaneId) (t : Nat)
  /-- R292: The drive die's DC-link comparator crosses SN_CH_ON or SN_CH_OFF and requests or releases the chopper. -/
  | driveDieVbusComparator (l : LaneId) (t : Nat) (above : Bool)
  /-- R281: An adaptive driver measures a switching edge and raises or lowers its step. -/
  | adaptiveEdgeMeasured (l : LaneId) (t : Nat) (k : Nat) (on : Bool) (time : Nat)
  /-- R298: The drive die receives a PWM update or heartbeat, discarding it on a CRC-8 failure. -/
  | driveDieUpdate (l : LaneId) (t : Nat) (heartbeat : Bool) (crcOk : Bool)
  /-- R298: The lane die commands the Snuff action, and the drive die enters it within 100 ns. -/
  | snuffCommand (l : LaneId) (t : Nat)
  /-- R300: A release command followed by a valid PWM update takes the drive die out of the Snuff action. -/
  | snuffRelease (l : LaneId) (t : Nat)
  /-- R298: The drive die's own timer finds updates or heartbeats missing beyond the limit and applies the Snuff action. -/
  | autonomousSnuff (l : LaneId) (t : Nat)
  /-- R305: 1.0 µs after cycle start the safety contacts are sampled, debounced and classed into demand or release. -/
  | safetyInputSample (l : LaneId) (levelA levelB : List ContactLevel)
  /-- R315: Every TEST_INT an energised safe output is switched off for the test pulse. -/
  | safeOutputTestPulse (l : LaneId) (t : Nat) (out : Nat)
  /-- R315: At the end of a test pulse, a readback not below threshold records safe output stuck on. -/
  | safeOutputTestPulseEnd (l : LaneId) (t : Nat) (out : Nat) (below : Bool)
  /-- R311: An output in current limit for 100 µs switches off with safe output overload. -/
  | safeOutputCurrentLimit (l : LaneId) (t : Nat) (out : Nat)
  /-- R333: No keep-alive is agreed for 250 ms; the session closes as lost and SS1 may be demanded. -/
  | commissioningSessionLost (l : LaneId) (t : Nat)
  /-- R344: A source delivers an event; the FCL assigns severity, opens or merges an episode and reacts within 1 µs. -/
  | faultEvent (l : LaneId) (t : Nat) (src : Nat) (info : Word) (level : Option Bool)
  /-- R353: A source quiet for QUIET leaves the fault state and its fence and demand lift, or it becomes sticky at the K-th recovery. -/
  | faultRecovery (l : LaneId) (t : Nat) (src : Nat)
  /-- R356: FCL.INJECT with TARGET 0 in MAKER raises an event of the named source. -/
  | injectSourceEvent (l : LaneId) (t : Nat) (ini src : Nat)
  /-- R356: FCL.INJECT with TARGET 1 in MAKER flips a bit in the Beacon main signature. -/
  | injectSignatureFlip (l : LaneId) (t : Nat) (ini : Nat)
  /-- R356: FCL.INJECT with TARGET 2 arms a single-bit error on the next lane SRAM write. -/
  | injectSramSingleBit (l : LaneId) (t : Nat) (ini : Nat)
  /-- R356: FCL.INJECT with TARGET 3 arms a double-bit error on the next lane SRAM write. -/
  | injectSramDoubleBit (l : LaneId) (t : Nat) (ini : Nat)
  /-- R356: FCL.INJECT with TARGET 4 arms a double-bit error on the next table-memory write. -/
  | injectTableDoubleBit (l : LaneId) (t : Nat) (ini : Nat)
  /-- R363: A function-level reset stops that function's fetching and transfers, and closes the function-0 session. -/
  | functionLevelReset (l : LaneId) (t fn : Nat)
  /-- R363: The PCIe link goes down, transfers stop and PCIe link down is raised. -/
  | pcieLinkDown (l : LaneId) (t : Nat)
  /-- R363: A function enters D3hot or has bus mastering cleared, and stops fetching and transferring. -/
  | pciePowerStateChange (l : LaneId) (t fn : Nat) (d3hot bme : Bool)
  /-- R365: A write to the SQ_TAIL doorbell sets the submission tail, and the QDM fetches descriptors. -/
  | sqTail (l : LaneId) (t fn q v : Nat)
  /-- R365: A write to the CQ_HEAD doorbell frees completion entries, releasing waiting completions. -/
  | cqHead (l : LaneId) (t fn q v : Nat)
  /-- R393: A write of the resume token to RESUME restarts a halted transfer at BYTES_DONE. -/
  | resume (l : LaneId) (t fn q : Nat) (token : Word)
  /-- R393: A write of the resume token to CANCEL completes the command ABORTED and resumes the queue. -/
  | cancel (l : LaneId) (t fn q : Nat) (token : Word)
  /-- R366: A descriptor arrives from the submission ring and is checked for format and queue permission. -/
  | descriptorFetch (l : LaneId) (t : Nat) (q : Nat) (ws : List Word) (tag : BitVec 128)
  /-- R388: A 256-byte-bounded burst is translated and transferred, or faults with PARTIAL_FAULT and halts the queue. -/
  | payloadBurst (l : LaneId) (t : Nat) (q : Nat) (hostOk : Bool) (data : List Word) (hash : Nat) (pay : Payload)
  /-- R371: A completion entry is written once its ring has room, with PHASE last and an MSI-X vector when required. -/
  | completionPost (l : LaneId) (t q : Nat)
  /-- R367: A completion that has waited 1 ms for room raises completion queue overflow. -/
  | completionWaitTimeout (l : LaneId) (t q : Nat)
  /-- R404: A write of QDM.QP_CFG ENABLE starts a queue, or stops fetching and aborts unagreed fetched commands. -/
  | qpEnableWrite (l : LaneId) (t ini q : Nat) (v : Word)
  /-- R372: Command 0x00 does nothing and completes. -/
  | nop (l : LaneId) (t q : Nat)
  /-- R372: Command 0x02 returns CLASS 7 tokens of the last commit. -/
  | resultRead (l : LaneId) (t q : Nat)
  /-- R541: Command 0x03 returns a block's latched statistics with the boundary CCN and SEQ. -/
  | statsRead (l : LaneId) (t q : Nat)
  /-- R459: Command 0x04 returns recorder records in RSN order from ARG0. -/
  | recorderRead (l : LaneId) (t q : Nat) (lost : List Nat)
  /-- R389: Command 0x08 maps window pages to host memory. -/
  | map (l : LaneId) (t q : Nat)
  /-- R389: Command 0x09 clears mappings and invalidates cache entries. -/
  | unmap (l : LaneId) (t q : Nat)
  /-- R394: Command 0x0A completes when every earlier-issued burst has completed. -/
  | fence (l : LaneId) (t q : Nat)
  /-- R396: Command 0x10 copies the active configuration into the staging bank and opens it. -/
  | stageOpen (l : LaneId) (t : Nat) (img : CmdImage)
  /-- R396: Command 0x11 replaces staged sections with a signed section payload. -/
  | stageWrite (l : LaneId) (t : Nat) (img : CmdImage)
  /-- R397: Command 0x12 verifies signatures and runs every block's load checks on the staged configuration. -/
  | stageCheck (l : LaneId) (t : Nat) (img : CmdImage)
  /-- R398: Command 0x13 schedules the staged configuration for atomic commit at cycle M. -/
  | commit (l : LaneId) (t : Nat) (img : CmdImage)
  /-- R396: Command 0x14 discards the staging bank. -/
  | stageAbort (l : LaneId) (t : Nat) (img : CmdImage)
  /-- R328: Command 0x20 with ARG0 0 grants or refuses drive enable out of SNUFFED. -/
  | driveEnable (l : LaneId) (t : Nat) (img : CmdImage)
  /-- R47: Command 0x20 with ARG0 1 leaves SNUFFED only after a commanded stop at standstill. -/
  | driveReenable (l : LaneId) (t : Nat) (img : CmdImage)
  /-- R318: Command 0x21 demands a commanded SS1 stop. -/
  | safeStop (l : LaneId) (t : Nat) (img : CmdImage)
  /-- R320: Command 0x22 demands a commanded safe torque off. -/
  | safeTorqueOff (l : LaneId) (t : Nat) (img : CmdImage)
  /-- R132: Command 0x23 requests a move of authority to a target lane at a named CCN. -/
  | authMove (l : LaneId) (t : Nat) (img : CmdImage)
  /-- R520: Command 0x24 takes a lane into UPDATE and reboots it on its VERIFIED slot. -/
  | laneUpdate (l : LaneId) (t : Nat) (img : CmdImage) (peerOk : Bool)
  /-- R333: Command 0x28 opens a commissioning session or keeps the open one alive. -/
  | commOpen (l : LaneId) (t : Nat) (img : CmdImage)
  /-- R333: Command 0x29 keeps the commissioning session alive. -/
  | commKeepalive (l : LaneId) (t : Nat) (img : CmdImage)
  /-- R333: Command 0x2A closes the commissioning session. -/
  | commClose (l : LaneId) (t : Nat) (img : CmdImage)
  /-- R330: Command 0x2B confirms the safety parameter set when its value matches in every lane. -/
  | confirmCheck (l : LaneId) (t : Nat) (img : CmdImage)
  /-- R518: Command 0x30 writes an image into a NOR slot and verifies the completed slot. -/
  | imageWrite (l : LaneId) (t : Nat) (img : CmdImage)
  /-- R506: Command 0x31 programs the customer key, and on a sealed part FIELD. -/
  | keyEnrol (l : LaneId) (t : Nat) (img : CmdImage) (peerOk otpOk : Bool)
  /-- R511: Command 0x32 programs the target lifecycle state. -/
  | lifecycleAdvance (l : LaneId) (t : Nat) (img : CmdImage) (otpOk : Bool)
  /-- R533: Command 0x38 with test 1 runs an in-service LBIST on a STANDBY lane. -/
  | testRequestInService (l : LaneId) (t : Nat) (img : CmdImage) (peer : PeerFacts)
  /-- R535: Command 0x38 with test 2 evaluates a fault source's reaction without effect. -/
  | testRequestRehearse (l : LaneId) (t : Nat) (img : CmdImage)
  /-- R384: A write to MBX.DATA is taken, or fails with a bus error while the mailbox is full. -/
  | mailboxDataWrite (l : LaneId) (t : Nat) (ini m w : Nat) (v : Word)
  /-- R384: A write to MBX.POST by the sender makes the mailbox full and delivers the message. -/
  | mailboxPost (l : LaneId) (t : Nat) (ini m : Nat) (v : Word)
  /-- R384: A write to MBX.ACK by the receiver empties the mailbox and interrupts the sender. -/
  | mailboxAck (l : LaneId) (t : Nat) (ini m : Nat) (v : Word)
  /-- R374: A SESSION_OPEN message is verified by Vigil and submitted for agreement. -/
  | sessionOpen (l : LaneId) (t : Nat) (fn hash : Nat) (sigOk : Bool)
  /-- R374: An agreed open derives the session key and returns SESSION_ACCEPT. -/
  | sessionOpenAgreed (l : LaneId) (t : Nat) (img : CmdImage)
  /-- R377: A SESSION_CLOSE message with a valid CMAC ends the session. -/
  | sessionClose (l : LaneId) (t : Nat) (cmacOk : Bool)
  /-- R386: An ECHO message is returned unchanged. -/
  | echo (l : LaneId) (t : Nat) (m : Nat)
  /-- R386: A NET_DIAG message returns network counters. -/
  | netDiag (l : LaneId) (t : Nat) (m : Nat)
  /-- R386: An ADDR_TABLE message returns the ISO 11783 address table. -/
  | addrTable (l : LaneId) (t : Nat) (m : Nat)
  /-- R385: An ERROR message reports a rejected message by its MSEQ. -/
  | error (l : LaneId) (t : Nat) (m : Nat)
  /-- R410: An 802.1AS message arrives and updates the offset and time synchronisation state. -/
  | ptpSyncMessage (l : LaneId) (t : Nat) (port : Nat) (off : Int)
  /-- R410: Three Sync intervals pass without a Sync, and time synchronisation is lost. -/
  | ptpSyncTimeout (l : LaneId) (t : Nat)
  /-- R411: At a Wick cycle boundary the lane records the boundary, takes the transmit snapshot, publishes or ages messages and switches mode when due. -/
  | wickBoundary (l : LaneId) (t : Nat) (w : Word)
  /-- R415: At a slot's transmit offset the lane sends the data frame of a slot that it owns. -/
  | wickSlotTransmit (l : LaneId) (t : Nat) (d slot : Nat)
  /-- R414: A Wick data frame arrives; it is validated, consumed and forwarded with HOPS decremented. -/
  | wickDataFrame (l : LaneId) (t : Nat) (port : Nat) (e : EthHdr) (w : WickHdr)
  /-- R426: An ANNOUNCE control frame arrives, and the lane decides whether to acknowledge the switch. -/
  | announce (l : LaneId) (t : Nat) (port : Nat) (e : EthHdr) (w : WickHdr)
  /-- R425: An ACK control frame for a pending switch arrives. -/
  | ack (l : LaneId) (t : Nat) (port : Nat) (e : EthHdr) (w : WickHdr)
  /-- R425: A CONFIRM control frame arrives in the control window of w_s − 1. -/
  | confirm (l : LaneId) (t : Nat) (port : Nat) (e : EthHdr) (w : WickHdr)
  /-- R427: The lane's control sub-window opens and it sends a pending ANNOUNCE, ACK or CONFIRM. -/
  | wickControlSubwindow (l : LaneId) (t : Nat)
  /-- R430: A non-Wick frame arrives and is queued for forwarding, or dropped when the queue is full. -/
  | bestEffortFrame (l : LaneId) (t : Nat) (port : Nat) (e : EthHdr) (bytes : Nat)
  /-- R409: A port's interface loses or regains synchronisation. -/
  | ethernetLinkChange (l : LaneId) (t : Nat) (port : Nat) (up : Bool)
  /-- R432: A transmit buffer's period elapses, or a commit changes an event buffer, and its payload is snapshotted and queued. -/
  | canTxBufferDue (l : LaneId) (t : Nat) (n buf : Nat)
  /-- R432: A CAN frame wins arbitration and completes, and the next due buffer is sent. -/
  | canFrameTransmitted (l : LaneId) (t : Nat) (n : Nat)
  /-- R434: A received CAN frame is stored in the lowest matching filter or discarded. -/
  | canFrameReceived (l : LaneId) (t : Nat) (n : Nat) (f : CanFrame)
  /-- R431: A controller enters error passive or bus-off, raising the matching fault. -/
  | canErrorStateChange (l : LaneId) (t : Nat) (n tec rec : Nat)
  /-- R431: The bus-off recovery sequence completes, and the controller returns to error active. -/
  | canBusOffRecovery (l : LaneId) (t : Nat) (n : Nat)
  /-- R435: A contending Address Claimed is received, and the lane claims its next alternative or cannot claim. -/
  | addressClaimContention (l : LaneId) (t : Nat) (n addr name : Nat)
  /-- R435: A request for Address Claimed is received and answered. -/
  | addressClaimRequest (l : LaneId) (t : Nat) (n : Nat)
  /-- R435: 250 ms after an uncontested claim, SA_INSERT buffers may be sent. -/
  | addressClaimSettled (l : LaneId) (t : Nat) (n : Nat)
  /-- R442: An xSPI program, erase or read completes, with failures reported. -/
  | xspiOperationComplete (l : LaneId) (t : Nat) (op : FlashEnd)
  /-- R442: An xSPI operation exceeds its time-out; the device is reset and discovered again. -/
  | xspiTimeout (l : LaneId) (t : Nat) (cs : Nat) (reader : Bool)
  /-- R443: A read through the NOR window fails with a bus error while a program or erase is busy. -/
  | norWindowRead (l : LaneId) (t : Nat) (ini : Nat) (addr : Word)
  /-- R446: At STO-domain reset discovery completes, and the directory, bad-block table and journal are mounted or replayed. -/
  | storageMount (l : LaneId) (t : Nat) (norDev : Option NorDev) (nor : Option Nor) (nand : Option NandDev)
  /-- R456: The open recorder page is programmed when full, FLUSH_MS after its first record, or before a power or reset transition. -/
  | recorderPageProgram (l : LaneId) (t : Nat)
  /-- R452: A scrub read due by SCRUB_DAYS or by read count moves a weak block. -/
  | nandScrub (l : LaneId) (t block worst total bad : Nat) (good : Bool)
  /-- R451: An erase-count spread above WL_DELTA moves the lowest-count block. -/
  | staticWearLevel (l : LaneId) (t : Nat)
  /-- R465: A monitored rail stays below its falling threshold for 2 µs and resets the lane. -/
  | supplyMonitorReset (l : LaneId) (t : Nat) (rail ns : Nat)
  /-- R491: VBAT_x rises and the lane performs a power-on reset, wake cell included. -/
  | vbatPowerOn (l : LaneId) (t : Nat)
  /-- R491: RESET_N_x held low for at least 1 µs resets the lane. -/
  | resetN (l : LaneId) (t : Nat) (ns : Nat)
  /-- R485: The reference leaves tolerance, is missing or the PLL unlocks, and the lane resets with cause 0x5. -/
  | crystalOrPllFault (l : LaneId) (t : Nat) (lockLost : Bool) (dev : Option Int)
  /-- R500: After reset release the boot ROM clears SRAM, reads OTP, mounts NOR, chooses and verifies a slot and starts firmware. -/
  | bootSequence (l : LaneId) (t : Nat) (otpOk : Bool)
  /-- R500: Resident firmware completes its self-test and load checks, and the lane moves from BOOT to SYNC. -/
  | laneReady (l : LaneId) (t : Nat)
  /-- R467: A domain's last vote is withdrawn in RUN, and the domain drops to GATED or RETAINED. -/
  | domainVoteWithdrawn (l : LaneId) (t : Nat) (dom : Nat)
  /-- R476: A vote arrives for a dropped or dropping domain and brings it back to ON. -/
  | domainVoteArrives (l : LaneId) (t : Nat) (dom : Nat)
  /-- R468: A write to PMU.HOST_VOTE sets or withdraws voter 14 on domains. -/
  | hostVoteWrite (l : LaneId) (t : Nat) (ini : Nat) (v : Word)
  /-- R470: PMU.CTRL.ENTER = 1 from the Beacon main core requests DOZE. -/
  | enterDoze (l : LaneId) (t : Nat) (ini : Nat)
  /-- R470: PMU.CTRL.ENTER = 2 from the Beacon main core requests BANK. -/
  | enterBank (l : LaneId) (t : Nat) (ini : Nat)
  /-- R470: PMU.CTRL.ENTER = 3 from the Beacon main core requests EMBER. -/
  | enterEmber (l : LaneId) (t : Nat) (ini : Nat)
  /-- R470: The draining voters withdraw or 50 ms pass, and the entry is accepted or refused. -/
  | entryDrainWaitEnd (l : LaneId) (t : Nat)
  /-- R472: An entry step completes at its abort point, where a pending wake abandons the entry. -/
  | entryStepComplete (l : LaneId) (t : Nat) (dom : Nat)
  /-- R472: Quiesce exceeds 2,048 fabric cycles, and the entry is abandoned. -/
  | quiesceTimeout (l : LaneId) (t : Nat) (dom : Nat)
  /-- R478: PWR_KEY_x stays on for KEY_DEB and wakes the lane or abandons an entry. -/
  | keyOn (l : LaneId) (h : KeyHeld)
  /-- R478: PWR_KEY_x stays off for KEY_DEB, waking DOZE and starting the key-off delay. -/
  | keyOff (l : LaneId) (h : KeyHeld)
  /-- R478: The RTC reaches its alarm time and wakes the lane. -/
  | rtcAlarm (l : LaneId) (t : Nat)
  /-- R478: PWR_WAKE_x holds its active level for WAKE_FILT and wakes the lane. -/
  | pwrWake (l : LaneId) (t : Nat) (p : PinHeld)
  /-- R491: PCIE_PERST_N_x changes, resetting the HSI domain or waking the lane on deassertion. -/
  | pciePerst (l : LaneId) (t : Nat) (asserted : Bool)
  /-- R478: A probe attaches to the debug port and wakes the lane. -/
  | debugAttach (l : LaneId) (t : Nat)
  /-- R480: The key has been off for DELAY ms; the key-off self-test runs and entry requests begin. -/
  | keyoffDelayExpiry (l : LaneId) (t : Nat)
  /-- R480: Every 100 ms with the key off, the lane requests entry to the key-off state again. -/
  | keyoffEntryRetry (l : LaneId) (t : Nat)
  /-- R486: A write to PMU.RTC_SET sets the RTC seconds, zeroes the fraction and sets RTC_VALID. -/
  | rtcSet (l : LaneId) (t : Nat) (ini : Nat) (v : Word)
  /-- R488: The fabric access timer expires and the access ends with a bus error. -/
  | fabricAccessTimeout (l : LaneId) (t : Nat)
  /-- R489: A write of CRU.FAT_CFG.DISABLE takes effect only on an open part in DEVELOP; otherwise access violation. -/
  | fatDisableWrite (l : LaneId) (t : Nat) (ini : Nat) (v : Word)
  /-- R490: Every 1 ms die temperatures are read, raising high or critical events. -/
  | temperatureReading (l : LaneId) (t : Nat) (lane drive : Int)
  /-- R513: A probe writes a signed challenge response, which Vigil verifies and submits for agreement. -/
  | debugSignatureWrite (l : LaneId) (t : Nat) (level : Nat) (sigOk : Bool)
  /-- R513: An agreed debug grant opens the port at the requested level. -/
  | debugGrantAgreed (l : LaneId) (t : Nat) (img : CmdImage)
  /-- R514: The 10-minute refusal after 3 failures ends. -/
  | debugLockoutEnd (l : LaneId) (t : Nat)
  /-- R528: 52 + 18 × L ms after reset release, the power-up LBIST starts. -/
  | lbistPowerUpStart (l : LaneId) (t : Nat)
  /-- R529: At the lane's CCN slot after the key-off delay, the key-off LBIST starts. -/
  | keyoffTestStart (l : LaneId)
  /-- R532: A partition's test ends; a matching MISR passes, otherwise LBIST failure is raised. -/
  | lbistPartitionComplete (l : LaneId) (t : Nat) (sig exp : BitVec 64)
  /-- R536: The TAP BYPASS instruction selects the bypass register. -/
  | bypass (l : LaneId) (t : Nat)
  /-- R536: The TAP IDCODE instruction returns the identification code. -/
  | idcode (l : LaneId) (t : Nat)
  /-- R536: The TAP SAMPLE/PRELOAD instruction, in MAKER only. -/
  | samplePreload (l : LaneId) (t : Nat)
  /-- R536: The TAP EXTEST instruction, in MAKER only. -/
  | extest (l : LaneId) (t : Nat)
  /-- R537: A 72-bit debug protocol request is served within the granted level. -/
  | gdpRequest (l : LaneId) (t : Nat) (req : GdpReq)
  /-- R538: A read of DBG.TRACE_DATA returns the next trace word and advances the pointer. -/
  | traceDataRead (l : LaneId) (t : Nat) (ini : Nat)
  /-- R539: At a cycle start with CCN a multiple of PERIOD, every statistics counter is latched and restarted. -/
  | statisticsBoundary (l : LaneId) (t : Nat)
  /-- R297: Setting GDC.LOCK locks RWL fields and copies GDC.SNUFF_CFG to the drive die. -/
  | gdcLockWrite (l : LaneId) (t : Nat) (ini : Nat) (v : Word)
  /-- R19: Setting a block's LOCK bit locks its RWL fields until lane reset. -/
  | blockLockSet (l : LaneId) (t : Nat) (ini blk : Nat)
  /-- R18: A write to a register without a row of its own acts by its access codes, views and locks, or fails with a bus error. -/
  | registerWrite (l : LaneId) (t : Nat) (ini : Nat) (addr v : Word)
  /-- R18: A read of a register returns its fields, clears RC fields, and fails with a bus error and a fault event for an unmapped offset or a P
  register read through the unprivileged view. -/
  | registerRead (l : LaneId) (t : Nat) (ini : Nat) (addr : Word)
  /-- R49: An access to an unmapped fabric address, or a write to the boot ROM or NOR window, fails with a bus error and raises a fault event. -/
  | unmappedAccess (l : LaneId) (t : Nat) (ini : Nat) (addr : Word) (w : Bool)
  /-- R514: A debug probe detaches and the debug session ends. -/
  | probeDetach (l : LaneId) (t : Nat)
  /-- R468: The PCIe link trains and comes up, setting HIF.STATUS.LINK_UP and, with bus mastering enabled, voter 4 on the CPU and HSI domains. -/
  | pcieLinkUp (l : LaneId) (t speed : Nat)
  /-- R464: VDD_x passes its rising threshold during a wake from EMBER, and the wake cell sets PWR_EN_IO_x. -/
  | supplyRisingThreshold (l : LaneId) (t : Nat) (rail : Nat)
deriving DecidableEq, Repr

end Sys2Proof
end

