-- ==== Sys2Proof/Decode.lean ====
section
/-!
DEFINITION. The commands that table words spell: the opcode table gives no row any bits.
-/
namespace Sys2Proof

/-- The command of a word of the given length: none, since every row of the table has a length of no bits. -/
def decodeTableWord (_nbits _w : Nat) : Option Instr := none

end Sys2Proof
end

