-- ==== Sys2Proof/Config.lean ====
section
/-!
DEFINITION. What the spec leaves open: free values, each an opaque constant with no body, so that every claim holds whatever
they are.
-/
namespace Sys2Proof

/-- The quotient that DIV delivers, invalid, for a divisor of 0 (R169 states no value). -/
opaque Config.divByZero : Val → Val
/-- The angle that ATAN2 delivers, invalid, at the origin (R169 states no value). -/
opaque Config.atanOrigin : Val
/-- The value that LUT1, LUT2 and STEERMAP deliver, invalid, for a span of zero or less (R181 states no value). -/
opaque Config.lutNoSpan : Val → Val → Val
/-- The value that a stateful operator of the given code delivers, invalid, before its first activation with all inputs valid,
where its initial state holds no output value (R567, R568). -/
opaque Config.beforeFirst : Nat → Val
/-- The digest image: the bytes that the firmware version lays out from the CCN and the persistent state words (R113). -/
opaque Config.digestImage : Nat → List (Nat × Nat) → List Byte
/-- The payload bytes of a control message, whose layouts are internal to the part (R102). -/
opaque Config.ctlPayload : CtlMsg → List Byte
/-- The bytes of the active configuration over which CFG_TAG is computed (R141 fixes no serialisation). -/
opaque Config.cfgImage : List (Nat × Nat) → List Byte
/-- A byte of the boot ROM, whose content is Grarid's (R48). -/
opaque Config.romByte : Nat → Byte
/-- A byte of the NOR as seen through the NOR window (R48); the first argument counts the changes of the NOR's content. -/
opaque Config.norByte : Nat → Nat → Byte
/-- A byte of host memory read through the translation unit: the host owns it; the first argument counts reads. -/
opaque Config.hostByte : Nat → Nat → Byte
/-- The folding of an architectural writeback into a signature register, which R54 does not define. -/
opaque Config.foldWriteback : BitVec 64 → BitVec 64 → BitVec 64
/-- The folding of a bus write, with address, data, byte strobes and attributes, into a signature register (R54). -/
opaque Config.foldWrite : BitVec 64 → BusWr → BitVec 64
/-- The value at which a signature register restarts (R55). -/
opaque Config.sigStart : BitVec 64
/-- A register word of CRY or OTP, whose layouts are not part of the interface (R563). -/
opaque Config.hiddenWord : Nat → Word
/-- A word of a debug or trace stream whose content the firmware fixes: a fresh value per use. -/
opaque Config.debugWord : Nat → Word
/-- The content of a core register or core local memory word read by a debugger (R86): a fresh value per use. -/
opaque Config.coreWord : Nat → Word
/-- The value a session identifier, ephemeral key or nonce takes (R374): a fresh value per use. -/
opaque Config.fresh : Nat → Word
/-- AES-256-CMAC under a key (R375); its standard is not part of the spec. -/
opaque Config.cmac : BitVec 256 → List Byte → BitVec 128
/-- HKDF-SHA-256 from salt, input keying material and info to 32 bytes; ECDH of a private key with a compressed public key; the compressed public key
of a private key; the ECDSA P-384 signature with a lane's identity key (R374). -/
opaque Config.hkdf : List Byte → List Byte → List Byte → BitVec 256
opaque Config.ecdh : BitVec 256 → List Byte → List Byte
opaque Config.publicKey : BitVec 256 → BitVec 264
opaque Config.identitySign : BitVec 384 → List Byte → BitVec 768
/-- An ephemeral private key and a lane nonce (R374): a fresh value per use. -/
opaque Config.freshKey : Nat → BitVec 256
opaque Config.freshNonce : Nat → BitVec 128
/-- The syndrome of an uncorrectable error placed by fault injection (R356 does not state it): a fresh value per use. -/
opaque Config.syndrome : Nat → BitVec 8
/-- The result of an interpolation or profile computation outside the range the spec states: a fresh value per use. -/
opaque Config.openValue : Nat → Int
/-- RESULT0 of a refused command of the given opcode where the spec gives no reason for the refusal (R132, R512, R506). -/
opaque Config.openReason : Nat → Word
/-- Whether VGD lies below 3.0 V while the gate outputs are held low for want of VGD (R277); no command tells. -/
opaque Config.vgdUnder3 : Nat → Bool
/-- How many ticks the reset of the communications core takes: R72 allows at most 2 ms, and no command ends it. -/
opaque Config.commsReset : Nat
/-- The silicon revision and the Grarid manufacturer field of the IDCODE (R536 states neither). -/
opaque Config.siliconRev : BitVec 4
opaque Config.manufacturer : BitVec 11

end Sys2Proof
end

