-- ==== Sys2Proof/Machine/Arith.lean ====
section
/-!
DEFINITION. Arithmetic of the formats S18, U18, A40 and P36 (R13 to R15, R176 to R180) and the check codes of R101 and R113.
Values are exact integers in units of the format's last place until they are narrowed.
-/
namespace Sys2Proof.Machine

open Sys2Proof

/-- x held between lo and hi. -/
def clampInt (lo hi x : Int) : Int := if x < lo then lo else if x > hi then hi else x

/-- floor(num / den + 1/2) for a positive den: rounding to nearest with ties toward +∞ (R177). -/
def roundDiv (num den : Int) : Int := Int.fdiv (2 * num + den) (2 * den)

/-- The S18 code of an integer in units of 2^-16, saturated (R178). -/
def toS18 (x : Int) : Val := BitVec.ofInt 18 (clampInt (-131072) 131071 x)
/-- The U18 code of an integer in units of 2^-16, saturated (R178). -/
def toU18 (x : Int) : Val := BitVec.ofInt 18 (clampInt 0 262143 x)
/-- An integer in units of 2^-32 saturated to A40. -/
def satA40 (x : Int) : Int := clampInt (-549755813888) 549755813887 x
/-- An integer in units of 2^-16 saturated to P36. -/
def satP36 (x : Int) : Int := clampInt (-34359738368) 34359738367 x
/-- The value of an S18 code in units of 2^-16. -/
def s18 (v : Val) : Int := v.toInt
/-- The value of a U18 code in units of 2^-16. -/
def u18 (v : Val) : Int := v.toNat
/-- A40 to S18: rounding at 2^-16, then saturation (R179); the integer result is in units of 2^-16. -/
def round18 (x : Int) : Val := toS18 (roundDiv x 65536)

/-- The magnitude of an integer. -/
def iabs (x : Int) : Int := if x < 0 then -x else x
/-- The smaller and the larger of two integers. -/
def imin (a b : Int) : Int := if a ≤ b then a else b
def imax (a b : Int) : Int := if a ≤ b then b else a

/-- The quotient num ÷ den rounded by R177, for any nonzero den. -/
def roundQuot (num den : Int) : Int := if den < 0 then roundDiv (-num) (-den) else roundDiv num den

/-- The largest r below 2^k with r² at most n, bit by bit. -/
def isqrtBits : Nat → Nat → Nat → Nat
  | 0, _, r => r
  | k + 1, n, r => let q := r + 2 ^ k; isqrtBits k n (if q * q ≤ n then q else r)

/-- The square root of n rounded to the nearest integer, ties upward, for n below 2^36. -/
def roundSqrt (n : Nat) : Nat :=
  let r := isqrtBits 19 n 0
  if n > r * r + r then r + 1 else r

/-- cos and sin of π / 2^k in units of 2^-96, rounded, for k from 0 to 17. -/
def rotUnit (k : Nat) : Int × Int :=
  match k with
  | 0 => (-79228162514264337593543950336, 0)
  | 1 => (0, 79228162514264337593543950336)
  | 2 => (56022770974786139918731938227, 56022770974786139918731938227)
  | 3 => (73197277745406789746128126514, 30319305170937817432302117203)
  | 4 => (77705815587385459894767493986, 15456647737653972240398692356)
  | 5 => (78846657256498550044590935806, 7765717923213880508008574353)
  | 6 => (79132728722732187244728061659, 3887541675809670510355249493)
  | 7 => (79204300472980947526267393315, 1944356441712994098036199278)
  | 8 => (79222196779339056064285443064, 972251429601035097806954306)
  | 9 => (79226671066494975824533590136, 486134866151990591466405863)
  | 10 => (79227789651444615435502306173, 243068577003004720891563897)
  | 11 => (79228069298504570632279043702, 121534431492630892444982651)
  | 12 => (79228139210320968575859978290, 60767233620214398787300339)
  | 13 => (79228156688278281134271721838, 30383619044344814903834065)
  | 14 => (79228161057767810090922444878, 15191809801452117091927406)
  | 15 => (79228162150140204881150854605, 7595904935636022491628671)
  | 16 => (79228162423233304363149568883, 3797952472181756746543196)
  | 17 => (79228162491506579282676848252, 1898976236636346561097729)
  | _ => (79228162514264337593543950336, 0)

/-- The product of two complex numbers in units of 2^-96. -/
def rotMul (a b : Int × Int) : Int × Int :=
  (Int.fdiv (a.1 * b.1 - a.2 * b.2) 79228162514264337593543950336,
   Int.fdiv (a.1 * b.2 + a.2 * b.1) 79228162514264337593543950336)

/-- cos and sin of n × π / 2^17 in units of 2^-96, where bit k of n contributes π / 2^(17 - k). -/
def rotBits : Nat → Nat → Int × Int → Int × Int
  | 0, _, acc => acc
  | k + 1, n, acc => rotBits k n (if n.testBit k then rotMul acc (rotUnit (17 - k)) else acc)

/-- cos and sin of n × π / 2^17, n below 2^18, in units of 2^-96. -/
def rotOf (n : Nat) : Int × Int :=
  rotBits 18 n (79228162514264337593543950336, 0)

/-- sin of a × π / 2^16, rounded to 2^-16 by R177; the angle's code a counts half turns of 2^16 (R169). -/
def sinCode (a : Int) : Int :=
  roundDiv (rotOf ((2 * a).emod 262144).toNat).2 1208925819614629174706176
/-- cos of a × π / 2^16, rounded to 2^-16. -/
def cosCode (a : Int) : Int :=
  roundDiv (rotOf ((2 * a).emod 262144).toNat).1 1208925819614629174706176

/-- The largest r, searched bit by bit, such that the angle of (x, y), y ≥ 0, is at least (r - 1/2) × π / 2^16. -/
def atanBits : Nat → Int → Int → Nat → Nat
  | 0, _, _, r => r
  | k + 1, x, y, r =>
    let q := r + 2 ^ k
    let cs := rotOf (2 * q - 1)
    atanBits k x y (if q ≤ 65536 ∧ y * cs.1 - x * cs.2 ≥ 0 then q else r)

/-- The angle of (x, y) in units of a half turn × 2^-16, rounded (R169, R177). No angle of two integer codes lies on a tie, so
the result of a negative y is the negated result of its magnitude. -/
def atan2Code (y x : Int) : Int :=
  if y < 0 then -(atanBits 17 x (-y) 0 : Int) else (atanBits 17 x y 0 : Int)

/-- CRC-32C over bytes, reflected (R101): one bit. -/
def crc32Step (c : BitVec 32) : BitVec 32 := if c.getLsbD 0 then (c >>> 1) ^^^ 0x82F63B78 else c >>> 1
/-- Eight bits of the CRC-32C register. -/
def crc32Byte (c : BitVec 32) (b : Byte) : BitVec 32 :=
  let x := c ^^^ (b.setWidth 32)
  crc32Step (crc32Step (crc32Step (crc32Step (crc32Step (crc32Step (crc32Step (crc32Step x)))))))
/-- The CRC-32C of a byte sequence (R101). -/
def crc32c (bs : List Byte) : BitVec 32 := (bs.foldl crc32Byte 0xFFFFFFFF) ^^^ 0xFFFFFFFF

/-- CRC-64, reflected (R113): one bit. -/
def crc64Step (c : BitVec 64) : BitVec 64 := if c.getLsbD 0 then (c >>> 1) ^^^ 0xC96C5795D7870F42 else c >>> 1
/-- Eight bits of the CRC-64 register. -/
def crc64Byte (c : BitVec 64) (b : Byte) : BitVec 64 :=
  let x := c ^^^ (b.setWidth 64)
  crc64Step (crc64Step (crc64Step (crc64Step (crc64Step (crc64Step (crc64Step (crc64Step x)))))))
/-- The state digest's CRC-64 of a byte sequence (R113). -/
def crc64 (bs : List Byte) : BitVec 64 := (bs.foldl crc64Byte 0xFFFFFFFFFFFFFFFF) ^^^ 0xFFFFFFFFFFFFFFFF

/-- The little-endian bytes of a register word. -/
def wordBytes (w : Word) : List Byte :=
  [w.extractLsb' 0 8, w.extractLsb' 8 8, w.extractLsb' 16 8, w.extractLsb' 24 8]

/-- The sum of a list of naturals. -/
def natSum : List Nat → Nat
  | [] => 0
  | x :: xs => x + natSum xs

/-- ceil(a / b), with 0 for b = 0. -/
def ceilDiv (a b : Nat) : Nat := if b = 0 then 0 else (a + b - 1) / b

/-- n saturated to the largest number of w bits. -/
def satN (w n : Nat) : Nat := if n < 2 ^ w then n else 2 ^ w - 1

end Sys2Proof.Machine
end

