-- ==== Sys2Proof/Machine/Frames.lean ====
section
/-!
DEFINITION. Frames as bits: the layouts of the agreement, output and control frame of chapter 03 in the order in which they are
sent, least significant bit first, with the CRC-32C over all bits that precede it (R99 to R102), and the Wick header (R413).
-/
namespace Sys2Proof

open Sys2Proof.Machine

/-- The n low bits of a number, least significant first. -/
def bitsLE (n v : Nat) : List Bool := (List.range n).map v.testBit

/-- The CRC-32C of a bit sequence (R101). -/
def crcBits (bs : List Bool) : BitVec 32 :=
  (bs.foldl (fun c b => crc32Step (c ^^^ BitVec.ofNat 32 b.toNat)) 0xFFFFFFFF) ^^^ 0xFFFFFFFF

/-- The 18-bit values of a frame. -/
def valBits (vs : List Val) : List Bool := vs.flatMap fun v => bitsLE 18 v.toNat

/-- The bits of an agreement frame before its CRC (R99). -/
def AgreeFrame.bits (f : AgreeFrame) : List Bool :=
  bitsLE 4 f.type ++ bitsLE 2 f.src ++ bitsLE 4 f.lstate ++ bitsLE 3 f.smode ++ bitsLE 3 f.vset ++ bitsLE 32 f.ccn.toNat ++
    bitsLE 8 f.values.length ++ bitsLE 2 f.auth ++ [f.twin] ++ bitsLE 5 0 ++ bitsLE 16 f.cfgTag.toNat ++ bitsLE 16 0 ++ valBits f.values

/-- The length of an agreement frame in bits, its CRC included. -/
def AgreeFrame.length (f : AgreeFrame) : Nat := f.bits.length + 32

/-- Whether an agreement frame has a COUNT of the format and its CRC verifies. -/
def AgreeFrame.crcOk (f : AgreeFrame) : Bool := decide (f.values.length ≤ 128) && decide (f.crc = crcBits f.bits)

/-- The frame with its CRC. -/
def AgreeFrame.withCrc (f : AgreeFrame) : AgreeFrame := { f with crc := crcBits f.bits }

/-- The bits of an output frame before its CRC (R100). -/
def OutFrame.bits (f : OutFrame) : List Bool :=
  bitsLE 4 f.type ++ bitsLE 2 f.src ++ bitsLE 3 f.vset ++ bitsLE 3 f.rxm ++ [f.held] ++ bitsLE 3 0 ++ bitsLE 8 f.tokens.length ++
    bitsLE 8 f.ccnLo.toNat ++ valBits f.tokens ++ bitsLE 64 f.digest.toNat

/-- The length of an output frame in bits, its CRC included. -/
def OutFrame.length (f : OutFrame) : Nat := f.bits.length + 32

/-- Whether an output frame has a COUNT of the format and its CRC verifies. -/
def OutFrame.crcOk (f : OutFrame) : Bool := decide (f.tokens.length ≤ 64) && decide (f.crc = crcBits f.bits)

/-- The frame with its CRC. -/
def OutFrame.withCrc (f : OutFrame) : OutFrame := { f with crc := crcBits f.bits }

/-- The bits of a control frame with the given message code before its CRC: the 64-bit header and the payload (R102). -/
def CtlHdr.bits (h : CtlHdr) (code : Nat) : List Bool :=
  bitsLE 4 h.type ++ bitsLE 2 h.src ++ bitsLE 2 h.dest ++ bitsLE 8 code ++ bitsLE 32 h.ccn.toNat ++ bitsLE 16 h.payload.length ++
    h.payload.flatMap fun b => bitsLE 8 b.toNat

/-- Whether a control frame has a payload of the format, an XFER block being 256 bytes, and its CRC verifies. -/
def CtlHdr.crcOk (h : CtlHdr) (code : Nat) : Bool :=
  decide (h.payload.length ≤ 256) && (decide (code ≠ 0x08) || decide (h.payload.length = 256)) && decide (h.crc = crcBits (h.bits code))

/-- The frame with its CRC. -/
def CtlHdr.withCrc (h : CtlHdr) (code : Nat) : CtlHdr := { h with crc := crcBits (h.bits code) }

/-- The bits of header bytes 0 to 10 of a Wick frame (R413). -/
def WickFrame.header (f : WickFrame) : List Bool :=
  bitsLE 4 f.version ++ bitsLE 4 f.kind ++ bitsLE 6 f.slot ++ bitsLE 1 f.dir ++ bitsLE 1 0 ++ bitsLE 32 f.wcn.toNat ++ bitsLE 2 f.mode ++
    bitsLE 2 f.lane ++ [f.primary, f.hold] ++ bitsLE 2 0 ++ bitsLE 5 f.node ++ bitsLE 3 0 ++ bitsLE 9 f.len ++ bitsLE 7 0 ++ bitsLE 8 f.txage

/-- The CRC of a Wick frame, over header bytes 0 to 10 and the payload. -/
def WickFrame.check (f : WickFrame) : BitVec 32 := crcBits (f.header ++ bitsLE (8 * f.len) f.payload)

/-- Whether a Wick frame has a LEN of the format and its CRC verifies. -/
def WickFrame.crcOk (f : WickFrame) : Bool := decide (f.len ≤ 256) && decide (f.crc = f.check)

/-- The frame with its CRC. -/
def WickFrame.withCrc (f : WickFrame) : WickFrame := { f with crc := f.check }

/-- The payload of a control message: at most 256 bytes, for XFER exactly 256, in a layout that is internal to the part (R102). -/
def CtlMsg.payload (m : CtlMsg) : List Byte :=
  let bs := Config.ctlPayload m
  if m.code = 0x08 then bs.takeD 256 0 else bs.take 256

/-! ### Image headers (R497) -/

/-- Word i of a header, and byte i. -/
def Image.word (m : Image) (i : Nat) : Nat := (m.header.getD i 0).toNat
def Image.byte (m : Image) (i : Nat) : Nat := m.word (i / 4) / 256 ^ (i % 4) % 256

/-- The fields of a header. -/
def Image.kind (m : Image) : Nat := m.byte 4
def Image.devOnly (m : Image) : Bool := m.byte 6 % 2 == 1
def Image.twinMask (m : Image) : Nat := m.byte 6 / 2 % 8
def Image.keySel (m : Image) : Nat := m.byte 6 / 16 % 2
def Image.secVer (m : Image) : Nat := m.word 2
def Image.acn (m : Image) : Nat := m.word 3 % 65536
def Image.length (m : Image) : Nat := m.word 4
def Image.baseTag (m : Image) : BitVec 16 := BitVec.ofNat 16 (m.word 6)
def Image.baseAny (m : Image) : Bool := m.byte 26 % 2 == 1

/-- Whether MAGIC and HDR_VERSION are right and every field is zero that the table gives as zero, for every KIND or for this one. -/
def Image.magicOk (m : Image) : Bool :=
  decide (m.word 0 = 0x4C47494D) && decide (m.byte 5 = 1) && decide (m.byte 6 / 32 = 0) && decide (m.byte 7 = 0) &&
    decide (m.word 3 / 65536 = 0) && decide (m.length % 16 = 0) && decide (m.word 6 / 131072 = 0) &&
    ([7] ++ (List.range 12).map (20 + ·) ++ (List.range 8).map (56 + ·)).all (fun i => decide (m.word i = 0)) &&
    (decide (m.kind ≠ 1) || (decide (m.twinMask = 0) && decide (m.word 5 = 0))) && (decide (m.kind = 1) || decide (m.keySel = 0)) &&
    (decide (m.kind = 3) || decide (m.word 6 = 0))

end Sys2Proof
end

