-- ==== Sys2Proof/Machine/Sources.lean ====
section
/-!
DEFINITION. The fault sources of R342: number, default severity, origin and unit, and the units that R345 fences.
-/
namespace Sys2Proof.Machine

/-- Fault severities (R23, R344), in rising order. -/
inductive Severity where
  | note | minor | major | lane
deriving DecidableEq, Repr

/-- The code of a severity in FCL.SRC_CFG[n].SEV (R358). -/
def Severity.code : Severity → Nat
  | .note => 0 | .minor => 1 | .major => 2 | .lane => 3

/-- The severity of a two-bit code. -/
def Severity.ofCode (n : Nat) : Severity :=
  match n with
  | 0 => .note | 1 => .minor | 2 => .major | _ => .lane

/-- Where a source is raised from (R342). -/
inductive Origin where
  | local | agreed | named
deriving DecidableEq, Repr

/-- A port that a unit fence closes (R345). -/
inductive PortId where
  | hall (h : Nat) | enc (e : Nat) | ssi (p : Nat) | sent (r : Nat) | probe (p : Nat)
  | can (n : Nat) | eth (p : Nat) | pcie
deriving DecidableEq, Repr

/-- The unit of a source (R342, R345). -/
inductive FUnit where
  | none | laneNamed | core | chopper | lane
  | bridge (b : Nat)
  | channel (c : Nat)
  | port (p : PortId)
  | own (cause : Nat)
deriving DecidableEq, Repr

/-- One row of R342. -/
structure SrcInfo where
  sev : Severity
  fixed : Bool := false
  noStop : Bool := false
  origin : Origin := .local
  unit : FUnit := .none
deriving DecidableEq, Repr

/-- The port group of the ten chattering sources 0x5E to 0x67. -/
def chatterPort (i : Nat) : PortId :=
  match i / 2 with
  | 0 => .hall (i % 2) | 1 => .enc (i % 2) | 2 => .ssi (i % 2) | 3 => .sent (i % 2) | _ => .probe (i % 2)

/-- The unit of protection source i of a group ST, BK, chopper. -/
def driveUnit (i : Nat) : FUnit := if i < 2 then .bridge i else .chopper

/-- The listed sources of R342; none for a reserved number. -/
def srcInfo (n : Nat) : Option SrcInfo :=
  match n with
  | 0x01 | 0x02 => some { sev := .lane, fixed := true, unit := .own 0x1 }
  | 0x03 => some { sev := .lane, unit := .lane }
  | 0x04 => some { sev := .note }
  | 0x05 => some { sev := .major, noStop := true, unit := .core }
  | 0x06 => some { sev := .major, fixed := true, noStop := true, unit := .core }
  | 0x07 | 0x08 => some { sev := .minor }
  | 0x10 => some { sev := .lane, fixed := true, unit := .own 0x2 }
  | 0x11 => some { sev := .lane, fixed := true, unit := .own 0x3 }
  | 0x12 => some { sev := .lane, fixed := true, unit := .own 0x6 }
  | 0x13 => some { sev := .lane, fixed := true, unit := .own 0x5 }
  | 0x14 => some { sev := .lane, fixed := true, unit := .own 0x7 }
  | 0x15 => some { sev := .lane, fixed := true, unit := .own 0x9 }
  | 0x16 => some { sev := .lane, fixed := true }
  | 0x17 => some { sev := .minor, origin := .named, unit := .laneNamed }
  | 0x18 | 0x19 => some { sev := .minor }
  | 0x1A => some { sev := .minor, origin := .agreed }
  | 0x1B | 0x1C | 0x1D => some { sev := .note }
  | 0x1E => some { sev := .lane, fixed := true, unit := .own 0x4 }
  | 0x20 | 0x21 | 0x22 | 0x23 | 0x24 => some { sev := .lane, unit := .lane }
  | 0x25 => some { sev := .note }
  | 0x26 => some { sev := .note, origin := .agreed }
  | 0x28 | 0x29 | 0x2A | 0x2B | 0x2C | 0x2D | 0x2E | 0x2F => some { sev := .major, origin := .agreed }
  | 0x30 => some { sev := .lane, unit := .lane }
  | 0x31 => some { sev := .note }
  | 0x32 | 0x33 | 0x34 | 0x35 => some { sev := .note, origin := .agreed }
  | 0x38 | 0x39 | 0x3A | 0x3B => some { sev := .note }
  | 0x3C | 0x3D => some { sev := .minor }
  | 0x3E | 0x3F | 0x40 | 0x41 => some { sev := .major, unit := .bridge (n % 2) }
  | 0x42 | 0x43 | 0x44 | 0x45 => some { sev := .major, unit := .channel (n - 0x42) }
  | 0x46 | 0x47 | 0x48 | 0x49 | 0x4A | 0x4B => some { sev := .minor, unit := .channel (n - 0x46) }
  | 0x4C | 0x4D | 0x4E | 0x4F | 0x50 | 0x51 | 0x52 | 0x53 => some { sev := .minor, unit := .channel (n - 0x46) }
  | 0x58 | 0x59 => some { sev := .minor, unit := .port (.hall (n % 2)) }
  | 0x5A | 0x5B => some { sev := .note }
  | 0x5C | 0x5D => some { sev := .major, unit := .port (.enc (n % 2)) }
  | 0x5E | 0x5F | 0x60 | 0x61 | 0x62 | 0x63 | 0x64 | 0x65 | 0x66 | 0x67 =>
    some { sev := .minor, unit := .port (chatterPort (n - 0x5E)) }
  | 0x68 | 0x69 => some { sev := .major, unit := .port (.hall (n % 2)) }
  | 0x6A | 0x6B => some { sev := .major, unit := .port (.enc (n % 2)) }
  | 0x6C | 0x6D => some { sev := .minor, unit := .port (.ssi (n % 2)) }
  | 0x6E | 0x6F => some { sev := .note }
  | 0x70 | 0x71 => some { sev := .minor, unit := .port (.sent (n % 2)) }
  | 0x72 | 0x73 => some { sev := .note }
  | 0x78 | 0x79 => some { sev := .major, unit := .bridge (n % 2) }
  | 0x7A | 0x7B | 0x7C => some { sev := .major, unit := driveUnit (n - 0x7A) }
  | 0x7D | 0x7E | 0x7F => some { sev := .major, unit := driveUnit (n - 0x7D) }
  | 0x80 => some { sev := .lane, unit := .lane }
  | 0x81 | 0x82 | 0x83 => some { sev := .major, unit := driveUnit (n - 0x81) }
  | 0x84 | 0x85 => some { sev := .major }
  | 0x86 => some { sev := .lane, fixed := true, unit := .lane }
  | 0x87 | 0x88 | 0x89 | 0x8A => some { sev := .note }
  | 0x8B => some { sev := .minor }
  | 0x90 | 0x91 | 0x92 | 0x93 | 0x94 | 0x95 | 0x96 | 0x97 | 0x98 | 0x99 => some { sev := .major }
  | 0x9A | 0x9B => some { sev := .minor }
  | 0x9C | 0x9D | 0x9E => some { sev := .major, origin := .agreed }
  | 0x9F => some { sev := .minor, origin := .agreed }
  | 0xA0 => some { sev := .note, origin := .agreed }
  | 0xA1 => some { sev := .note }
  | 0xA8 | 0xA9 | 0xAA | 0xAB => some { sev := .minor }
  | 0xAC | 0xAD => some { sev := .note }
  | 0xAE | 0xAF => some { sev := .minor }
  | 0xB0 => some { sev := .minor, unit := .port .pcie }
  | 0xB1 => some { sev := .note, origin := .agreed }
  | 0xB8 | 0xB9 => some { sev := .note }
  | 0xBA => some { sev := .minor }
  | 0xBB => some { sev := .note, origin := .agreed }
  | 0xBC | 0xBD => some { sev := .minor, unit := .port (.eth (n - 0xBC)) }
  | 0xBE => some { sev := .note }
  | 0xC0 | 0xC1 | 0xC2 | 0xC3 | 0xC4 | 0xC5 => some { sev := .minor, unit := .port (.can (n - 0xC0)) }
  | 0xC6 | 0xC7 | 0xC8 | 0xC9 | 0xCA | 0xCB => some { sev := .note }
  | 0xCC | 0xD0 | 0xD1 => some { sev := .minor }
  | 0xD2 => some { sev := .note }
  | 0xD3 => some { sev := .minor }
  | 0xD4 | 0xD5 => some { sev := .note }
  | 0xD8 => some { sev := .minor }
  | 0xD9 => some { sev := .lane, unit := .lane }
  | 0xDA => some { sev := .minor }
  | 0xDB => some { sev := .lane, unit := .lane }
  | 0xDC | 0xDD => some { sev := .note }
  | 0xE0 => some { sev := .lane, fixed := true }
  | 0xE1 => some { sev := .note }
  | 0xE2 => some { sev := .minor }
  | 0xE3 => some { sev := .lane, unit := .lane }
  | 0xE4 => some { sev := .lane, fixed := true, unit := .lane }
  | 0xE5 => some { sev := .note }
  | 0xE8 => some { sev := .lane, fixed := true }
  | 0xE9 | 0xEA | 0xF0 => some { sev := .note }
  | 0xF1 => some { sev := .lane, fixed := true, unit := .lane }
  | _ => none

/-- The reset value of FCL.SRC_CFG[n] (R358): the default severity, and STOP 1, or 0 for a source marked "no stop". A reserved
number resets to severity NOTE and STOP 1 as the register table gives them. -/
def srcCfgReset (n : Nat) : BitVec 32 :=
  match srcInfo n with
  | some i => BitVec.ofNat 32 (i.sev.code * 0x40000000 + (if i.noStop then 0 else 0x02000000))
  | none => 0x02000000

end Sys2Proof.Machine
end

