-- ==== Sys2Proof/Machine/Sparse.lean ====
section
/-!
DEFINITION. Sparse maps from a number to a value: lists of pairs with strictly rising keys and no entry equal to what an
unlisted key reads as, so that equal maps are equal lists.
-/
namespace Sys2Proof.Machine

/-- A sparse map: key and value pairs with strictly rising keys. -/
abbrev Sparse (α : Type) := List (Nat × α)

/-- The value at key k; an unlisted key reads as d. -/
def Sparse.get {α : Type} (d : α) : Sparse α → Nat → α
  | [], _ => d
  | (k', v) :: t, k => if k = k' then v else Sparse.get d t k

/-- The map without key k. -/
def Sparse.del {α : Type} : Sparse α → Nat → Sparse α
  | [], _ => []
  | (k', v) :: t, k => if k = k' then Sparse.del t k else (k', v) :: Sparse.del t k

/-- The map with value v put at key k, keeping the keys rising. -/
def Sparse.put {α : Type} : Sparse α → Nat → α → Sparse α
  | [], k, v => [(k, v)]
  | (k', v') :: t, k, v =>
    if k < k' then (k, v) :: (k', v') :: t
    else if k = k' then (k, v) :: t
    else (k', v') :: Sparse.put t k v

/-- The map after writing v at key k, where d is what k reads as when unlisted. -/
def Sparse.set {α : Type} [DecidableEq α] (d : α) (m : Sparse α) (k : Nat) (v : α) : Sparse α :=
  if v = d then Sparse.del m k else Sparse.put m k v

/-- The entries whose key satisfies p. -/
def Sparse.keep {α : Type} (p : Nat → Bool) (m : Sparse α) : Sparse α :=
  m.filter fun e => p e.1

/-- Whether every key is at least n, the keys rise strictly, and no entry equals what its key reads as when unlisted. -/
def Sparse.wfFrom {α : Type} [DecidableEq α] (d : Nat → α) : Nat → Sparse α → Bool
  | _, [] => true
  | n, (k, v) :: t => decide (n ≤ k) && decide (v ≠ d k) && Sparse.wfFrom d (k + 1) t

/-- The canonical form. -/
def Sparse.wf {α : Type} [DecidableEq α] (d : Nat → α) (m : Sparse α) : Bool := Sparse.wfFrom d 0 m

end Sys2Proof.Machine
end

