-- ==== Sys2Proof/Machine/Parts.lean ====
section
/-!
DEFINITION. What each unit of a lane holds beside its registers: memories, queues, counters, timers and states, unit by unit.
Every structure's default is its value after reset.
-/
namespace Sys2Proof.Machine

open Sys2Proof

/-- Lane states (R117). -/
inductive LaneState where
  | off | boot | sync | standby | authority | fenced | resync | update
deriving DecidableEq, Repr

/-- The code of a lane state (R117). -/
def LaneState.code : LaneState → Nat
  | .off => 0 | .boot => 1 | .sync => 2 | .standby => 3 | .authority => 4 | .fenced => 5 | .resync => 6 | .update => 7

/-- The lane state of a code; a code beyond R117 reads as OFF. -/
def LaneState.ofCode (n : Nat) : LaneState :=
  match n with
  | 1 => .boot | 2 => .sync | 3 => .standby | 4 => .authority | 5 => .fenced | 6 => .resync | 7 => .update | _ => .off

/-- System modes (R44). -/
inductive SysMode where
  | snuffed | triplex | duplex | lastLight | safeStop
deriving DecidableEq, Repr

/-- The SMODE code (R99). -/
def SysMode.code : SysMode → Nat
  | .snuffed => 0 | .triplex => 1 | .duplex => 2 | .lastLight => 3 | .safeStop => 4

/-- The phase of the control cycle (R34): before 2.9 µs, the fast flow, the output exchange, and the background phase. -/
inductive Phase where
  | sampling | fast | exchange | background
deriving DecidableEq, Repr

/-- The lane's timebase in ticks of 1.667 ns (R33): the ticks of the current and of the previous cycle
start, the tick of the command in hand, the
length of the current cycle, the number of cycle starts since lane power-on, and the phase of the cycle. -/
structure Clk where
  base   : Nat := 0
  last   : Nat := 0
  now    : Nat := 0
  len    : Nat := 12000
  cycles : Nat := 0
  phase  : Phase := .background
deriving DecidableEq, Repr

/-- The result of the last fabric or host access (R20, R21, R48, R361): none yet, the data, a bus error (to the host Completer Abort), or
unsupported request, which the host alone gets. -/
inductive BusRes where
  | none
  | done (data : BitVec 64)
  | error
  | unsupported
deriving DecidableEq, Repr

/-- Lane memories: lane SRAM by byte address (R75; cleared to zero by R81), its stored errors by word address (1 correctable,
2 uncorrectable), table memory by word number (R182) and its stored errors. -/
structure Memory where
  sram     : List Host.Cell := []
  sramErr  : Sparse Nat := []
  table    : Sparse Val := []
  tableErr : Sparse Nat := []
deriving DecidableEq, Repr

/-- An action in the debug replay queue (R85). -/
inductive DbgAct where
  | halt | resume | step
  | write (target : Nat) (val : Word)
  | hit (watch : Bool) (idx : Nat)
deriving DecidableEq, Repr

/-- An input of the Beacon pair that reaches the checker core through the delay registers (R52). -/
inductive BeaconIn where
  | cycleStart
  | readData (data : BitVec 64)
  | debug (a : DbgAct)
deriving DecidableEq, Repr

/-- The Beacon pair (chapter 02): the tick at which the main core left reset (R55); the signature registers of the main and the
checker core; the inputs in the delay registers with the tick at which the main core took each (R52); an armed signature flip (R356);
whether the pair is stopped by a mismatch, whether the main core is halted by a probe; the replay queue, each action with the tick at
which the main core took it, and the actions of a stalled probe (R85); what a debugger wrote to registers and local memories of the main
core, and whether the checker core is halted and what was written to it; the breakpoints and watchpoints that are set (R86); the
scrubber's next word and the tick of its last read (R79), the tick at which the comms core left reset (R72); and the ticks of earlier
mismatches and rehearsal failures (R60, AON). -/
structure Bcn where
  coreStart : Nat := 0
  sigMain   : BitVec 64 := 0
  sigChk    : BitVec 64 := 0
  delay     : List (BeaconIn × Nat) := []
  flip      : Bool := false
  stopped   : Bool := false
  halted    : Bool := false
  replay    : List (DbgAct × Nat) := []
  stalled   : List DbgAct := []
  core      : Sparse (Option Word) := []
  chkHalted : Bool := false
  chkCore   : Sparse (Option Word) := []
  breaks    : Sparse (Option Word) := []
  scrubAt   : Nat := 0
  scrubTick : Option Nat := none
  commsAt   : Nat := 0
  mismatches : List Nat := []
deriving DecidableEq, Repr

/-- A commanded authority move waiting for its cycle (R132). -/
structure MoveReq where
  target  : LaneId
  at_     : Word
  confirm : Tri Bool
  img     : CmdImage
deriving DecidableEq, Repr

/-- What a peer last reported of itself (R135, R330, R331). -/
structure PeerInfo where
  known     : Bool := false
  acn       : Nat := 0
  tag       : BitVec 16 := 0
  lifecycle : Nat := 0
  sealed    : Bool := false
  twin      : Bool := false
  recordOk  : Bool := false
  check     : Word := 0
deriving DecidableEq, Repr

/-- The cross-lane agreement unit (chapter 03): lane states as this lane holds them, system mode, voting set and AUTHORITY; the
frames, markers, toggles and messages of the current cycle; the agreed vector and persistence counts; the lane's own and the
committed tokens; by lane, how many cycles in a row its offset from the AUTHORITY lay outside the range (R98); whether this cycle is
the migration hold cycle (R129), the fence cause of the last lane lost; whether a key-off test has ended in this cycle (R530); whether
the AUTHORITY is new in this cycle, whether a peer entered SAFE STOP in it (R131); whether the AUTHORITY was already lost at this cycle's start
(R130); whether "service required" stands (R44); the lane that this AUTHORITY has admitted by JOIN, and the items
that a donor has sent, each as it was sent last (R137); what moves, synchronisation and resynchronisation are waiting
for; and the fence history (AON). -/
structure Xla where
  lst       : Tri LaneState := Tri.all .off
  mode      : SysMode := .snuffed
  vset      : Tri Bool := Tri.all false
  auth      : Option LaneId := none
  twins     : Tri Bool := Tri.all false
  held      : Bool := false
  noMaj     : Bool := false
  fenceRx   : Tri Bool := Tri.all false
  aframe    : Tri (Option AgreeFrame) := Tri.all none
  oframe    : Tri (Option OutFrame) := Tri.all none
  agreed    : Sparse Val := []
  usedN     : Nat := 0
  rxm       : Tri Bool := Tri.all false
  persist   : Sparse Nat := []
  statusWord : Val := 0
  tokens    : Sparse Val := []
  digest    : BitVec 64 := 0
  computed  : Bool := false
  majority  : Sparse Val := []
  committed : Bool := false
  linkHeard : Tri Bool := Tri.all false
  pulseHeard : Tri Bool := Tri.all false
  noPulse   : Tri Nat := Tri.all 0
  noFrame   : Tri Nat := Tri.all 0
  status    : Tri (Option StatusMsg) := Tri.all none
  statusPrev : Tri (Option StatusMsg) := Tri.all none
  statusOld : Tri (Option StatusMsg) := Tri.all none
  statusLost : Bool := false
  lostNow   : Tri Bool := Tri.all false
  markOff   : Tri (Option Int) := Tri.all none
  alignRun  : Tri Nat := Tri.all 0
  migration : Bool := false
  lossCause : Nat := 0
  testOver  : Bool := false
  tookOver  : Bool := false
  claimFail : Bool := false
  refLost   : Bool := false
  admitted  : Option LaneId := none
  service   : Bool := false
  claims    : Tri (Option Nat) := Tri.all none
  move      : Option MoveReq := none
  peers     : Tri PeerInfo := Tri.all {}
  readyAt   : Option Nat := none
  startAt   : Option Nat := none
  cut       : Option Word := none
  accepted  : Option Nat := none
  donorTo   : Option LaneId := none
  sent      : List XferItem := []
  noJoin    : Bool := false
  ready     : Tri (Option (Word × BitVec 16)) := Tri.all none
  updateReq : Option CmdImage := none
  commitHold : Bool := false
  joinNext  : Bool := false
  fences    : List Nat := []
deriving DecidableEq, Repr

/-- A token (R150) without its place: FLOW, SEQ, VALID and VALUE. -/
structure Tok where
  flow  : Nat
  seq   : BitVec 16
  valid : Bool
  value : Val
deriving DecidableEq, Repr

/-- A node ready, queued, running or saved (R159): bank, node, flow, SEQ, priority, the operands read at dispatch, and the ticks
at which it became ready (or was saved) and started. -/
structure Work where
  bank  : Nat
  node  : Nat
  flow  : Nat
  seq   : BitVec 16
  prio  : Nat
  args  : List Tok := []
  ready : Nat := 0
  start : Nat := 0
deriving DecidableEq, Repr

/-- A Taper core as the Percolator keeps it (R159 to R162, R171, R172): the running node, saved contexts, the dispatch queue, a
node waiting for the safe point of a pre-emption, and the live counters of the statistics period (largest depth, depth summed
over core cycles up to a tick, waits by bin, busy core cycles, pre-emptions and suspensions, most contexts). -/
structure Core where
  run     : Option Work := none
  ctx     : List Work := []
  queue   : List Work := []
  preempt : Option Work := none
  qMax    : Nat := 0
  qSum    : Nat := 0
  qSince  : Nat := 0
  hist    : Sparse Nat := []
  busy    : Nat := 0
  preempts : Nat := 0
  ctxMax  : Nat := 0
deriving DecidableEq, Repr

/-- One activation of a flow (R143 to R146): SEQ, bank, the cycles of its nominal start, of its start and of its release, how many nodes and engine
units have completed, whether it can no longer complete (R162), whether one has
been dispatched (R147), and the tick and cycle count at its start. -/
structure Activation where
  seq     : BitVec 16
  bank    : Nat
  nominal : Word
  start   : Word
  release : Word
  done    : Nat := 0
  dead    : Bool := false
  begun   : Bool := false
  since   : Nat := 0
  cycles  : Nat := 0
deriving DecidableEq, Repr

/-- An entry of the release buffer (R163): flow, SEQ, bank and arc, VALID and VALUE. -/
structure Rel where
  flow  : Nat
  seq   : BitVec 16
  bank  : Nat
  arc   : Nat
  valid : Bool
  value : Val
deriving DecidableEq, Repr

/-- The Percolator and Hopper (chapter 04; R147, R159, R163, R165): node and arc tables of two banks (keys 1,024 × bank + node, 4,096 × bank + arc), the
active and the draining bank, operand slots by 4,096 × bank + arc, engine port tokens by 48 × bank + port, latched values (VALID
in bit 18), activations by flow, the nominal cycle of a deferred start by flow, ready nodes that may not be dispatched yet, the
release buffer, the four cores, and live counters of the statistics period with the tick at which it began. -/
structure Pcl where
  nodes    : Sparse (BitVec 128) := []
  arcs     : Sparse Word := []
  bank     : Nat := 0
  draining : Bool := false
  hop      : Sparse (Option Tok) := []
  ports    : Sparse (Option Tok) := []
  latched  : Sparse (BitVec 19) := []
  acts     : Sparse (Option Activation) := []
  due      : Sparse (Option Word) := []
  waiting  : List Work := []
  rels     : List Rel := []
  cores    : Sparse Core := []
  hwm      : Nat := 0
  rbMax    : Nat := 0
  readied  : Nat := 0
  flowMax  : Sparse Nat := []
  statSince : Nat := 0
deriving DecidableEq, Repr

/-- The persistent state of a loop slot with what its status registers show (R205, R208): integrator and derivative state as
A40, the previous feedback, whether a passage has run, the following-error count and FE_ACTIVE, and the last output with its
flags and the last error. -/
structure SlotSt where
  integ   : Int := 0
  dst     : Int := 0
  fbPrev  : Int := 0
  started : Bool := false
  feCount : Nat := 0
  feActive : Bool := false
  out     : Val := 0
  valid   : Bool := false
  satHi   : Bool := false
  satLo   : Bool := false
  intHeld : Bool := false
  err     : Val := 0
deriving DecidableEq, Repr

/-- The persistent state of a profile generator (R198, R205): position in Q20.32, velocity and acceleration as A40, the velocity
ceiling, the stop, arrival and preset flags, and whether the last target was valid. -/
structure GenSt where
  pos      : Int := 0
  vel      : Int := 0
  acc      : Int := 0
  vcap     : Int := 0
  stopping : Bool := false
  arrived  : Bool := false
  preset   : Bool := false
  targetOk : Bool := false
deriving DecidableEq, Repr

/-- A configuration that a commit at cycle m has replaced while slow activations of before it drain (R206): its registers, the units that start
anew at m, and the state that those units still have for the older activations. -/
structure OldCfg where
  m     : Word
  regs  : Sparse Word
  units : List Nat := []
  slots : Sparse SlotSt := []
  gens  : Sparse GenSt := []
deriving DecidableEq, Repr

/-- The control engine and profile generators (chapter 05; R185, R187): committed and working copies of the units' state, the next word of
the table scrubber and the tick of its last read, and the replaced configurations that drain, oldest first. -/
structure Cen where
  slots   : Sparse SlotSt := []
  slotsW  : Sparse SlotSt := []
  gens    : Sparse GenSt := []
  gensW   : Sparse GenSt := []
  scrubAt : Nat := 0
  scrubTick : Option Nat := none
  old     : List OldCfg := []
deriving DecidableEq, Repr

/-- The state of one fault source in the FCL (R348 to R354): condition level, fault state, sticky, the severity in force, whether
counting gave it, that of the last event, event count, the cycle of the last event of severity MINOR or higher, the cycles of recent events and
recoveries, the fence it holds and whether that fence lifts at the next cycle start, the demand it holds (1 SS1, 2 STO), whether
the last event was merged, whether it took a reaction in the open episode, whether its reaction fenced the lane, and INFO. -/
structure Src where
  level    : Bool := false
  active   : Bool := false
  sticky   : Bool := false
  sev      : Severity := .note
  esc      : Bool := false
  lastSev  : Severity := .note
  events   : Nat := 0
  quietFrom : Nat := 0
  hist     : List Nat := []
  recov    : List Nat := []
  fence    : Bool := false
  lift     : Bool := false
  demand   : Nat := 0
  merged   : Bool := false
  mergedEp : Bool := false
  reacted  : Bool := false
  fencedLane : Bool := false
  info     : Word := 0
deriving DecidableEq, Repr

/-- The fault collector (chapter 10): its sources, the rank of the open episode (R350), the cycles in which it opened and last
reacted, whether its reaction fenced the lane, and the armed injection target (R356). -/
structure Fcl where
  src      : Sparse Src := []
  rank     : Nat := 0
  openedAt : Nat := 0
  reactAt  : Nat := 0
  epFenced : Bool := false
  armed    : Nat := 0
deriving DecidableEq, Repr

/-- What a bridge does between boundaries (R213, R214): all switches off, winding short, a sector pattern, or a pulsed short. -/
inductive Pat where
  | off | short | drive | pulsed
deriving DecidableEq, Repr

/-- A bridge in the commutation unit (R214 to R234): whether entries 1 to 3 of R214 or another MODE than DRIVE held at the
previous boundary, the tick and direction of a start in progress, a start that timed out, a deferred sector with the tick at which it takes effect,
the sector in force before DIR, the pattern of the
current period with its first tick, on-time and offset, whether a pulsed short has opened, sector and direction of the last
DRIVE period, consecutive degraded and floating-current samples, and the sample start, interval length, degraded mark and cap
of the coming cycle. -/
structure BridgeSt where
  idle     : Bool := true
  startAt  : Option Nat := none
  startDir : Nat := 0
  timedOut : Bool := false
  deferred : Option (Nat × Nat) := none
  sector   : Nat := 0
  pat      : Pat := .off
  from_    : Nat := 0
  h        : Nat := 0
  a        : Nat := 0
  opened   : Bool := false
  lastSec  : Nat := 0
  lastDir  : Nat := 0
  degRun   : Nat := 0
  floatRun : Nat := 0
  ts       : Nat := 540
  len      : Nat := 1080
  deg      : Bool := false
  cap      : Option Nat := none
deriving DecidableEq, Repr

/-- The commutation unit (chapter 06): its bridges, the committed words of every bridge of every lane (2 × lane + bridge), the model words in force, which a cap
changes, and those before the last commit or hold cycle (R220, R222), and the latched sources by 16 × bridge + position of R227 with their validity. -/
structure Cmu where
  br    : Sparse BridgeSt := []
  words : Sparse Val := []
  model : Sparse Val := []
  prev  : Sparse Val := []
  src   : Sparse (Bool × Val) := []
deriving DecidableEq, Repr

/-- The analog front end (R235 to R238): the channels that have converted since DRV-domain reset and those whose last conversion
was over-range (fast 0 to 5, slow 6 to 13), the next slow channel, and by current channel the sum and number of calibration
conversions and whether it has been calibrated since the lane reset. -/
structure Afe where
  seen     : Sparse Bool := []
  overs    : Sparse Bool := []
  slowNext : Nat := 0
  calSum   : Sparse Nat := []
  calN     : Sparse Nat := []
  calTried : Sparse Bool := []
deriving DecidableEq, Repr

/-- A feedback line (R245 to R248): the established level, the samples of its last accepted edge, rejected glitches in the
window, the tick of the last chatter event while it chatters, reference edges since its own last edge, whether it is stuck, and the tick at
which it last ceased to chatter. -/
structure LineSt where
  level    : Option Bool := none
  lastEdge : Option Nat := none
  glitches : Nat := 0
  chatter  : Option Nat := none
  refRun   : Nat := 0
  stuck    : Bool := false
  quietAt  : Option Nat := none
deriving DecidableEq, Repr

/-- A count event of a source as a probe looks back on it (R258, R262): its date, the count before it, after its edge and after it, and whether
it was a skip error or an applied index event. -/
structure CntEvt where
  date  : Nat
  pre   : Nat
  edge  : Nat
  post  : Nat
  skip  : Bool
  index : Bool
deriving DecidableEq, Repr

/-- A hall set or encoder (R250 to R260): the state or electrical position held and whether one has been taken, the sense of the
last edge, the dates of the accepted edges of the present history, newest first, what speed validity waits for, the marks that
the next vector latch shows, the count, recent count events, and the recent changes of the validity of its position with their dates, the
newest first. -/
structure CntSt where
  held    : Nat := 0
  has     : Bool := false
  impossible : Bool := false
  sense   : Int := 0
  hist    : List Nat := []
  spdBad  : Bool := false
  still   : Bool := true
  seqErr  : Bool := false
  index   : Bool := false
  skip    : Bool := false
  referenced : Bool := false
  zGate   : Bool := false
  count   : Nat := 0
  recent  : List CntEvt := []
  valids  : List (Nat × Bool) := []
deriving DecidableEq, Repr

/-- A probe (R262, R263): the date of its last latch. -/
structure ProbeSt where
  date : Option Nat := none
deriving DecidableEq, Repr

/-- An SSI port (R265, R266): whether a transaction runs, whether its idle check failed, and the tick of its start. -/
structure SsiSt where
  running : Bool := false
  idleBad : Bool := false
  startAt : Nat := 0
deriving DecidableEq, Repr

/-- A SENT receiver (R267 to R270): the last accepted sync pulse in samples, the serial message in progress as pairs of status
bits 3 and 2, oldest first, whether a valid frame came since the previous vector latch, and whether it has timed out. -/
structure SentSt where
  sync    : Option Nat := none
  serial  : List (Bool × Bool) := []
  fresh   : Bool := false
  timedOut : Bool := false
deriving DecidableEq, Repr

/-- The position feedback unit (chapter 07): lines, hall sets 0 and 1 and encoders 2 and 3, probes, SSI ports, SENT receivers,
arming written but not yet in effect (R257), the sources that the vector latch holds by 16 × position + instance (R271), and
the cycle count and tick at DRV-domain reset. -/
structure Pfb where
  lines  : Sparse LineSt := []
  cnt    : Sparse CntSt := []
  probes : Sparse ProbeSt := []
  ssi    : Sparse SsiSt := []
  sent   : Sparse SentSt := []
  armReq : Nat := 0
  src    : Sparse Val := []
  fromCycle : Nat := 0
  resetAt : Nat := 0
deriving DecidableEq, Repr

/-- Protection of a drive unit (R287, R303): normal, a leg off for the rest of the period, waiting, latched at the retry limit,
latched by a two-leg short. -/
inductive Prot where
  | normal | legOff | waiting | retryLimit | twoLeg
deriving DecidableEq, Repr

/-- The code of GDC.STATUS.ST_PROT. -/
def Prot.code : Prot → Nat
  | .normal => 0 | .legOff => 1 | .waiting => 2 | .retryLimit => 3 | .twoLeg => 4

/-- What is kept of a switch as its unit changes (R282, R286): the tick at which it was last turned off, and, if it was on, since when. -/
structure SwitchSt where
  offAt  : Option Nat := none
  onFrom : Option Nat := none
deriving DecidableEq, Repr

/-- The drive die (chapter 08): in the Snuff action, whether it entered it by itself and is not yet re-initialised, whether it holds a
shutdown notice (R471), a release
waiting for a valid update, the copied Snuff settings and DEADTIMEs of ST and BK, OV hold with the short sides that it holds, whether the chopper is
faulty (a latch of R296), the interface and VGD state, protection and
tries of ST, BK, chopper (and lockout clearings), legs off for the rest of a period, resumptions due at the next boundary, the
last trip (leg and tick), the chopper request of its own comparator, the ticks of the last valid update and heartbeat, of entry
into the Snuff action, of a release command, of the trips that the units wait for and of the last fall of VGD, and by switch and unit what was
noted at the last change. -/
structure Drive where
  snuff    : Bool := true
  auto_    : Bool := false
  autoSeen : Bool := false
  notice   : Bool := false
  release  : Bool := false
  linkUp   : Bool := false
  snuffCfg : Word := 0xD0D80001
  dead     : Option (Nat × Nat) := none
  ovHold   : Bool := false
  ovSide   : Nat := 0
  chopFaulty : Bool := false
  prot     : Sparse Prot := []
  legsOff  : Nat := 0
  resume   : Sparse Bool := []
  tries    : Sparse (List Nat) := []
  lastTrip : Option (Nat × Nat) := none
  uvlo     : Bool := false
  uvLatch  : Bool := false
  vgdRisen : Bool := false
  vbusReq  : Bool := false
  lastUpd  : Nat := 0
  lastBeat : Nat := 0
  snuffAt  : Nat := 0
  relAt    : Nat := 0
  waitAt   : Sparse Nat := []
  uvAt     : Nat := 0
  sws      : Sparse SwitchSt := []
  chg      : Sparse Nat := []
deriving DecidableEq, Repr

/-- The gate-drive control of the lane die (R292 to R295): its chopper request, the tick of the last change, a deferred change with the tick at which
it is made,
the last DC-link codes of ST and BK with whether each has converted, the tick at which the overvoltage timer started, the count
of conversions at V_OV2, the chopper-fault and level-2 flags, whether the lane die has released the drive die, the chopper word
applied in the current period of ST, the adaptive drivers held at their limit (bit 2k turn-off, 2k + 1 turn-on), whether their steps have
started since DRV-domain reset, and whether the die-to-die interface has been initialised since (R303). -/
structure Gdc where
  chopReq  : Bool := false
  chopAt   : Nat := 0
  deferred : Option (Bool × Nat) := none
  vdc      : Sparse (Option Nat) := []
  ovSince  : Option Nat := none
  ov2n     : Nat := 0
  ov2      : Bool := false
  released : Bool := false
  dump     : Val := 0
  adaptLim : Nat := 0
  adaptInit : Bool := false
  linkUp   : Bool := false
deriving DecidableEq, Repr

/-- A safety contact (R304, R305): its reading, how many latest samples in a row showed it, and the debounced level. -/
structure Contact where
  reading : Bool := false
  run     : Nat := 0
  level   : Bool := false
deriving DecidableEq, Repr

/-- A safety input (R305 to R308): its contacts, the discrepancy count, its hold after a discrepancy, whether contact A has shown
demand since power-on and whether the start-up test has passed, its demand as last sampled, and whether the present disagreement of its contacts has
given its discrepancy. -/
structure SafeIn where
  a       : Contact := {}
  b       : Contact := {}
  disc    : Nat := 0
  latched : Bool := false
  seen    : Bool := false
  tested  : Bool := false
  demand  : Bool := false
  given   : Bool := false
deriving DecidableEq, Repr

/-- A safe output (R313, R315): energised, in a test pulse, off after overload until its request falls, found stuck, the
readback, the counts of cycles with a wrong readback, its request, and the tick of its last test pulse. -/
structure SafeOut where
  on       : Bool := false
  pulse    : Bool := false
  overload : Bool := false
  stuck    : Bool := false
  readback : Bool := false
  highRun  : Nat := 0
  lowRun   : Nat := 0
  request  : Bool := false
  testAt   : Nat := 0
deriving DecidableEq, Repr

/-- A SAFE STOP in progress (R318 to R321): its first cycle and tick, v0, cycles above the envelope, ticks at standstill, and
whether it was entered by STO. -/
structure Stop where
  e     : Word
  since : Nat
  v0    : Nat := 0
  overs : Nat := 0
  still : Nat := 0
  sto   : Bool := false
deriving DecidableEq, Repr

/-- A cause of SAFE STOP: KIND of SFU.STOP_STATUS, whether it is commanded (R321), and whether it demands STO. -/
structure StopCause where
  kind : Nat
  cmd  : Bool
  sto  : Bool
deriving DecidableEq, Repr

/-- The safety unit (chapter 09): inputs and outputs, the committed safe-output word, agreed demand of the inputs, the stop in
progress, what the evaluation decided for the next cycle start (entry, end code), standstill outside a stop in ticks, limited
position and rate, the tick at which LAST LIGHT began and its counts, the fractions in force, confirmation and a confirmation from the next cycle
start (R330), the commissioning
session and the tick of its last keep-alive, host demands agreed in this cycle, a drive enable agreed in it (whether a re-enable, and its image), an enable granted for the next cycle start,
the tick of the last SAFE STOP entry, whether SNUFFED was reached from a commanded stop or stands from reset, the status word, and whether the lane's own record is
in force. -/
structure Sfu where
  ins      : Sparse SafeIn := []
  outs     : Sparse SafeOut := []
  soWord   : Val := 0
  demand   : Nat := 0
  stop     : Option Stop := none
  toStop   : Option StopCause := none
  endCode  : Nat := 0
  still    : Bool := false
  stillRun : Nat := 0
  slpActive : Bool := false
  slpRun   : Nat := 0
  slrActive : Bool := false
  slrRun   : Nat := 0
  slrSince : Nat := 0
  llStart  : Option Nat := none
  llRun    : Nat := 0
  llDone   : Bool := false
  tau      : Nat := 65536
  frac     : Nat := 65536
  confirmed : Bool := false
  confirmNext : Bool := false
  session  : Bool := false
  lastAlive : Nat := 0
  hostSs1  : Bool := false
  hostSto  : Bool := false
  sessSs1  : Bool := false
  ask      : Option (Bool × CmdImage) := none
  enable   : Option SysMode := none
  stopAt   : Option Nat := none
  cmdStop  : Bool := false
  fromReset : Bool := true
  removed  : Bool := false
  statusWord : Val := 0
deriving DecidableEq, Repr

/-- A pending or last schedule-mode switch (R425 to R427): whether this lane announced it, the announcing node, the acknowledgements
and confirmation that came in time, whether the commit applied, the Wick cycle in whose control window the announcement is sent first, and the
control frames still to be sent. -/
structure WickSwitch where
  mine     : Bool
  node     : Nat
  confirm  : Bool := false
  applied  : Bool := false
  annWcn   : Word := 0
  annDue   : Bool := false
  ackDue   : Bool := false
  confirmDue : Bool := false
deriving DecidableEq, Repr

/-- The Wick unit (chapter 12; R421, R427, R430): consecutive Syncs within the limit and the tick of the last; whether the lane was in
synchronisation throughout the Wick cycle, and whether a valid data frame, another MODE or another WCN came in it; whether data
frames are permitted; frames that arrived in it, published payloads, and what the vector took at the last cycle start (payload
and age by message); the transmit payload buffers, the snapshot with its HOLD and TXAGE, Wick boundaries since the last commit;
the counts of the cycle in progress (frames by port, missed and late by direction at 2 and 4 onward); the pending switch; and
best-effort frames waiting by port (802.1AS or not, bytes), with the tick up to which best-effort frames keep the port busy; and the ages of the
messages that the lane does not transmit (R421). -/
structure Wck where
  syncRun  : Nat := 0
  syncAt   : Option Nat := none
  syncAll  : Bool := false
  gotData  : Bool := false
  otherMode : Bool := false
  otherWcn : Bool := false
  txOk     : Bool := false
  arrived  : Sparse (Option WickFrame) := []
  pub      : Sparse Nat := []
  atStart  : Sparse Nat := []
  ageStart : Sparse Nat := []
  buf      : Sparse Nat := []
  snap     : Sparse Nat := []
  snapHold : Bool := false
  snapAge  : Nat := 0
  since    : Nat := 0
  counts   : Sparse Nat := []
  switch   : Option WickSwitch := none
  boundAt  : Nat := 0
  queue0   : List (Bool × Nat) := []
  queue1   : List (Bool × Nat) := []
  busy     : Sparse Nat := []
  ages     : Sparse Nat := []
deriving DecidableEq, Repr

/-- ISO 11783 address management of a controller (R435): the address claimed or being claimed, the alternative number, the
tick of the claim, and whether a claim waits for the comms core to run. -/
structure IsoSt where
  cand    : Nat := 255
  alt     : Nat := 0
  claimAt : Nat := 0
  waits   : Bool := false
deriving DecidableEq, Repr

/-- The CAN controllers (chapter 12; R431 to R435) by 32 × controller + buffer or filter: transmit payloads, snapshots waiting to be sent, how
often each buffer has been due since the enable; received payloads with the tick of the last frame, and what the vector took at
the last cycle start; and by controller the tick of its enable, its address management, and whether a new enable has started its recovery from
bus-off (R431). -/
structure Can where
  buf     : Sparse Nat := []
  due     : Sparse (Option Nat) := []
  times   : Sparse Nat := []
  rx      : Sparse Nat := []
  rxAt    : Sparse (Option Nat) := []
  atStart : Sparse Nat := []
  enAt    : Sparse (Option Nat) := []
  iso     : Sparse IsoSt := []
  recover : Sparse Bool := []
deriving DecidableEq, Repr

/-- A recorder record (R454) without its CRC; body holds words 4 onward. -/
structure Rec where
  rsn      : Nat
  ccn      : Word
  rtcS     : Nat
  rtcSub   : Nat
  smode    : Nat
  auth     : Nat
  lstate   : Nat
  type     : Nat
  body     : List Nat
  restored : Bool := false
deriving DecidableEq, Repr

/-- A copy of the bad-block table (R450): its sequence number and its blocks. -/
structure Bbt where
  seq : Nat := 0
  bad : List Nat := []
deriving DecidableEq, Repr

/-- A journal entry (R453): a block taken, moved to another, retired or erased, or a page of recorder data. -/
inductive JEntry where
  | taken (b : Nat)
  | moved (b c : Nat)
  | retired (b : Nat)
  | erased (b : Nat)
  | page
deriving DecidableEq, Repr

/-- What the NAND holds as the lane knows it (R450 to R458): whether its table was built, the bad blocks, erase counts and reads
since the last program by block, blocks in use, the two table copies, the sequence numbers of the last
journal entry and of the last checkpoint, the entries since that checkpoint, newest first, blocks that a read found weak and that are to be moved, the
programmed recorder pages, oldest first, each with its block, the RSN that the
next record takes (R454: never reused), and the scrub pass (R452): the lane's RUN time in ticks, that at which the pass began, the blocks that it
has read, and whether it is complete. -/
structure Nand where
  built    : Bool := false
  bad      : List Nat := []
  erases   : Sparse Nat := []
  reads    : Sparse Nat := []
  used     : List Nat := []
  bbt0     : Bbt := {}
  bbt1     : Bbt := {}
  journal  : Nat := 0
  checkpoint : Nat := 0
  entries  : List JEntry := []
  weak     : List Nat := []
  pages    : List (Nat × List Rec) := []
  nextRsn  : Nat := 0
  runTicks : Nat := 0
  passAt   : Nat := 0
  passed   : List Nat := []
  passOver : Bool := false
deriving DecidableEq, Repr

/-- A program or erase of a NOR slot in progress for IMAGE_WRITE (R443, R518): its command, slot, whether it is the configuration
area, the first byte and the number of bytes, and the image that it completes. -/
structure NorJob where
  img   : CmdImage
  slot  : Nat
  cfg   : Bool
  off   : Nat
  bytes : Nat
  image : Option Image
deriving DecidableEq, Repr

/-- A program that the STM makes of its own accord (R443, R446, R448): the directory copy that it writes, or a confirmation record, with the command that
waits for it. -/
inductive NorSys where
  | dir (copy1 : Bool)
  | conf (img : Option CmdImage)
deriving DecidableEq, Repr

/-- The storage manager (chapter 13): the open recorder page, the tick of its first record, system records held for the
AUTHORITY (R457), the latest CCN whose system records the AUTHORITY reports programmed, a NOR program or erase in progress for IMAGE_WRITE, those of
the STM's own, oldest first, the tick at which the one in hand began, twice the longest program or erase of the device in ticks, the block that the
recorder writes, and whether an overwrite (R458) has still to be raised. -/
structure Stm where
  page     : List Rec := []
  pageAt   : Nat := 0
  held     : List Rec := []
  covered  : Option Word := none
  norOp    : Option NorJob := none
  sysOps   : List NorSys := []
  opAt     : Nat := 0
  norMax   : Nat := 0
  block    : Nat := 0
  overs    : Bool := false
deriving DecidableEq, Repr

/-- A fabric access that waits for a domain's clock (R488, R565): its initiator, address, the word written (none for a read),
the 64-bit data and byte strobes of a write to lane SRAM, and the tick at which it was issued. -/
structure Stalled where
  ini   : Nat
  addr  : Word
  write : Option Word
  wide  : Option (BitVec 64 × BitVec 8) := none
  since : Nat
deriving DecidableEq, Repr

/-- Power states of a lane (R469). -/
inductive Power where
  | run | doze | bank | ember
deriving DecidableEq, Repr

/-- A lane-level entry in progress (R472 to R474): its target (1 DOZE, 2 BANK, 3 EMBER), the step, the domain states before it,
a wake event that has arrived, and the tick at which step 1 began. -/
structure Entry where
  target : Nat
  step   : Nat := 1
  since  : Nat := 0
  saved  : Word
  wake   : Option Nat := none
deriving DecidableEq, Repr

/-- The power and clock unit beside its registers: the real-time clock in units of 1/32,768 s and the tick at which it stood there
(R486), the power state (R469), stalled accesses, oldest first (R488); the debounced key and the filtered wake level (R478, R479);
the enable output PWR_EN_IO, the tick at which PWR_EN_CORE falls after an entry to EMBER, a wake from EMBER in progress (R464); the
tick since which the key has been off (from reset on), whether the key-off test is due, the tick of the last key-off entry request
(R480); an entry request with its tick, an accepted request and whether a STATUS message has shown it (R470), the entry in progress
(R472); by domain the step of a drop in RUN, whether a vote has arrived since, and the tick at which step 1 began (R476); and the
tick of the last temperature reading (R490). -/
structure Pmu where
  rtc      : Nat := 0
  rtcAt    : Nat := 0
  power    : Power := .run
  stalled  : List Stalled := []
  key      : Bool := false
  wakePin  : Bool := false
  enIo     : Bool := true
  coreOff  : Option Nat := none
  waking   : Bool := false
  keyOffAt : Option Nat := some 0
  keyTest  : Bool := false
  keyReq   : Option Nat := none
  request  : Option (Nat × Nat) := none
  accepted : Option Nat := none
  shown    : Bool := false
  entry    : Option Entry := none
  drops    : Sparse Nat := []
  dropWake : Sparse Bool := []
  dropAt   : Sparse Nat := []
  tempAt   : Option Nat := none
deriving DecidableEq, Repr

/-- Where a lane's start stands (R475, R481, R500): the tick of its reset release, whether steps 1 to 5 of R500 are done, whether
it comes from BANK or from an abandoned entry, with nothing lost, whether the ROM found nothing to boot, and the image records of rejected slots that the
ROM writes when the lane starts (R496, R501). -/
structure Boot where
  released : Nat := 0
  loaded   : Bool := false
  quick    : Bool := false
  failed   : Bool := false
  rejects  : List (List Nat) := []
deriving DecidableEq, Repr

/-- Debug access as Vigil keeps it (R513, R514): the level granted, the ticks of failures, the tick at which attempts were
blocked, the level whose grant is in agreement; and whether a key-off test failure has stopped the XLA island, or an in-service
test failure holds the lane in UPDATE (R532). -/
structure Sec where
  level   : Nat := 0
  fails   : List Nat := []
  blocked : Option Nat := none
  ask     : Option Nat := none
  silent  : Bool := false
  stuck   : Bool := false
deriving DecidableEq, Repr

/-- The trace buffer (R538): its records as words, oldest first, the records still to be taken after the trigger, the number of
records ever written, the read pointer in words, and whether the trigger's CCN lay ahead when it was written (R12). -/
structure Trace where
  recs  : List (List Nat) := []
  left  : Option Nat := none
  count : Nat := 0
  rd    : Nat := 0
  ccnArmed : Bool := false
deriving DecidableEq, Repr

/-- The instruction that the test access port has selected (R536); IDCODE after its reset, as IEEE 1149.1 has it. -/
inductive Tap where
  | bypass | idcode | sample | extest | gdp
deriving DecidableEq, Repr

/-- What the one-time-programmable memory holds that the lane's behaviour rests on (R496): the lifecycle state and SEALED
(R508, R510), the customer key by a number that names it, whether Grarid key 0 is revoked, and the two rollback counters
(R502); partly: a word of the lifecycle record is partly programmed (R510). An LGD3T960-Q ships in DEVELOP, sealed (R5). Then the MAC address and the PCIe
IDs, the records of the lane die and the drive die (R515), the package record and the lane's identity (R516), its private key and the delivery host
key (R505), each as its bytes with the first in the lowest bits. -/
structure Otp where
  lifecycle : Nat := 2
  sealed    : Bool := true
  partly    : Bool := false
  custKey   : Option Nat := none
  revoked0  : Bool := false
  ctrFw     : Nat := 0
  ctrCfg    : Nat := 0
  mac       : Nat := 0
  vendor    : BitVec 16 := 0
  subsystem : BitVec 16 := 0
  dieLane   : List Word := []
  dieDrive  : List Word := []
  serial    : BitVec 64 := 0
  pkgBind   : BitVec 384 := 0
  pkgSig    : BitVec 768 := 0
  idKey     : BitVec 768 := 0
  idCert    : BitVec 768 := 0
  idPriv    : BitVec 384 := 0
  hostKey   : BitVec 512 := 0
deriving DecidableEq, Repr

/-- A configuration as a whole (R395, R498): its registers by key, node and arc tables, parameter-area bytes by offset where they
differ from lane SRAM, input map, and the words of the two host keys. Table memory stands apart, since staged tables are written into free words (R184). -/
structure Cfg where
  regs   : Sparse Word := []
  nodes  : Sparse (BitVec 128) := []
  arcs   : Sparse Word := []
  params : Sparse (Option Byte) := []
  inMap  : Sparse Word := []
  keys   : List Nat := []
deriving DecidableEq, Repr

/-- The staging bank (R396 to R401): open, checked, the staged configuration, its tag, the code of R499 of the first staged bundle
that was rejected (0: none), and whether a bundle's BASE_TAG did not match. -/
structure Stage where
  isOpen  : Bool := false
  checked : Bool := false
  cfg     : Cfg := {}
  tag     : BitVec 16 := 0
  reject  : Nat := 0
  baseBad : Bool := false
deriving DecidableEq, Repr

/-- Where the command in hand of a queue stands (R366, R375, R388): its In payload is being read, it is authenticated and waits
to be executed, its Out payload is being written. -/
inductive CmdStage where
  | input | ready | output
deriving DecidableEq, Repr

/-- The command in hand of a queue (R366): its descriptor and submission slot, words 0 to 11 and the tag of that descriptor, bytes done, stage, whether it is halted after a fault,
its payload, the words of its Out payload, and its first result. -/
structure Cmd where
  desc   : Desc
  slot   : Nat
  raw    : List Word := []
  tag    : BitVec 128 := 0
  bytes  : Nat := 0
  stage  : CmdStage := .ready
  halted : Bool := false
  pay    : Payload := .none
  data   : List Nat := []
  r0     : Nat := 0
deriving DecidableEq, Repr

/-- A completion entry (R370) that waits for its ring and its cycle: what it carries, the cycle count from which it may be posted,
whether it may be posted in the background phase of that cycle only (R382), and the tick at which it came. -/
structure Completion where
  cid    : Nat
  seq    : Word
  status : Nat
  bytes  : Nat := 0
  r0     : Nat := 0
  r1     : Nat := 0
  token  : Nat := 0
  irq    : Bool := false
  sqHead : Nat := 0
  due    : Nat := 0
  late   : Bool := false
  since  : Nat := 0
deriving DecidableEq, Repr

/-- A queue pair (R364 to R367) beside its registers: the command in hand, completions that wait, whether the overflow of the
oldest has been raised, and whether the queue stops once its completions are written (R404), and whether QDM.QP_CFG has been written (R407). -/
structure Qp where
  cmd     : Option Cmd := none
  waiting : List Completion := []
  raised  : Bool := false
  stopping : Bool := false
  configured : Bool := false
deriving DecidableEq, Repr

/-- A class A command that this lane has authenticated and that has not been completed (R378): its image, SEQ, submission head and
IRQ flag, its bytes and payload, the tick of its authentication, whether it has been seen agreed here, and whether its completion is to be
discarded, since its function has stopped (R363). -/
structure Pending where
  img    : CmdImage
  seq    : Word := 0
  sqHead : Nat := 0
  irq    : Bool := false
  bytes  : Nat := 0
  pay    : Payload := .none
  since  : Nat := 0
  seen   : Bool := false
  mute     : Bool := false
deriving DecidableEq, Repr

/-- An agreed command that was carried out here and has no completion here yet (R382), with its result and the cycle count at which it took effect;
needs: its payload is still to be applied on arrival (R381). -/
structure Agreed where
  img    : CmdImage
  status : Nat
  r0     : Nat := 0
  r1     : Nat := 0
  needs  : Bool := false
  from_  : Nat := 0
deriving DecidableEq, Repr

/-- A commit that is scheduled (R398): its cycle, expected check value, whether it is two-step, whether this lane has sent
COMMIT_READY, whether step 1 has applied, whether no Wick cycle was found for its schedule-mode switch (R428), and its command. -/
structure CommitReq where
  m       : Word
  expect  : Option Word
  twoStep : Bool
  sent    : Bool := false
  stepped : Bool := false
  wickBad : Bool := false
  img     : CmdImage
deriving DecidableEq, Repr

/-- The host interface (chapter 11) beside its registers: queue pairs, authenticated commands not yet completed, images received
in HOST_CMD, images carried out in this cycle or the last with their cycle, results of agreed commands that await this lane's own descriptor, the
scheduled commit, the generation of resume
tokens, the 32 cached level-2 entries (page and entry, newest first), the queue of the last burst, functions in D3hot (bit f), the
sessions of the two functions and their keys (Vigil's private SRAM), whether function 0's is a delivery session, and whether the lane has
entered UPDATE and no session has been opened since (R380). -/
structure Hif where
  qp      : Sparse Qp := []
  authed  : List Pending := []
  known   : List CmdImage := []
  taken   : List (CmdImage × Nat) := []
  agreed  : List Agreed := []
  commit  : Option CommitReq := none
  gen     : Nat := 0
  cache   : List (Nat × Nat) := []
  d3      : Nat := 0
  sess0   : Option Word := none
  sess1   : Option Word := none
  key0    : BitVec 256 := 0
  key1    : BitVec 256 := 0
  delivery : Bool := false
  updated : Bool := false
  lastQ   : Option Nat := none
  served  : List Nat := List.range 8
  aborts  : Nat := 0
deriving DecidableEq, Repr

/-- The mailboxes (R383 to R385) beside their registers: the segment number that the receiver of a mailbox expects, the message
counter of a sending side of the part, the bytes of the segments taken so far, and messages that wait for their mailbox to be emptied. -/
structure Mbx where
  seg   : Sparse Nat := []
  seq   : Sparse Nat := []
  parts : Sparse (List Byte) := []
  queue : List (Nat × List Word) := []
deriving DecidableEq, Repr

end Sys2Proof.Machine
end

