-- ==== Sys2Proof/Machine/Fields.lean ====
section
/-!
DEFINITION. The fields of the register blocks (chapters 02 to 16 of spec/, the tables of R89 to R544), one constant per field,
with the addresses of R562 and R566.
A constant is named BLOCK.REGISTER_FIELD as R16 names it.
Its key is the register's offset from 0x4000_0000, and s1 and s2 are the strides of its indices.
For the blocks CAN0 to CAN5 the first index is the controller number.
The four words of FCL.LOG[e] are named LOG0 to LOG3.
-/
namespace Sys2Proof.Machine

/-- A register field: the key of element 0, the two index strides, the lowest bit and the width. -/
structure Fld where
  key : Nat
  s1  : Nat
  s2  : Nat
  lo  : Nat
  w   : Nat
deriving DecidableEq, Repr

/-! ### Block BCN (02_lane_compute.md, R89) -/
def BCN.MODE_LOCKSTEP : Fld := ⟨0x000000, 0x0, 0x0, 1, 1⟩
def BCN.MODE_TWIN : Fld := ⟨0x000000, 0x0, 0x0, 0, 1⟩
def BCN.LS_STATUS_COUNT : Fld := ⟨0x000004, 0x0, 0x0, 16, 8⟩
def BCN.LS_STATUS_LAST_CAUSE : Fld := ⟨0x000004, 0x0, 0x0, 12, 4⟩
def BCN.LS_STATUS_PERMANENT : Fld := ⟨0x000004, 0x0, 0x0, 8, 1⟩
def BCN.LS_STATUS_MISMATCH : Fld := ⟨0x000004, 0x0, 0x0, 0, 1⟩
def BCN.LS_CCN_CCN : Fld := ⟨0x000008, 0x0, 0x0, 0, 32⟩
def BCN.LS_CORE_CYCLE_CYCLE : Fld := ⟨0x00000C, 0x0, 0x0, 0, 19⟩
def BCN.LS_SIG_MAIN_LO_SIG : Fld := ⟨0x000010, 0x0, 0x0, 0, 32⟩
def BCN.LS_SIG_MAIN_HI_SIG : Fld := ⟨0x000014, 0x0, 0x0, 0, 32⟩
def BCN.LS_SIG_CHK_LO_SIG : Fld := ⟨0x000018, 0x0, 0x0, 0, 32⟩
def BCN.LS_SIG_CHK_HI_SIG : Fld := ⟨0x00001C, 0x0, 0x0, 0, 32⟩
def BCN.RH_STATUS_PASS_COUNT : Fld := ⟨0x000020, 0x0, 0x0, 16, 16⟩
def BCN.RH_STATUS_BIT_POS : Fld := ⟨0x000020, 0x0, 0x0, 8, 8⟩
def BCN.RH_STATUS_FAIL_1 : Fld := ⟨0x000020, 0x0, 0x0, 1, 1⟩
def BCN.RH_STATUS_FAIL_0 : Fld := ⟨0x000020, 0x0, 0x0, 0, 1⟩
def BCN.LS_CLEAR_MISMATCH : Fld := ⟨0x000024, 0x0, 0x0, 0, 1⟩
def BCN.SRAM_CTRL_SCRUB_INTERVAL : Fld := ⟨0x000040, 0x0, 0x0, 0, 16⟩
def BCN.SRAM_CE_COUNT_COUNT : Fld := ⟨0x000044, 0x0, 0x0, 0, 32⟩
def BCN.SRAM_ERR_ADDR_ADDR : Fld := ⟨0x000048, 0x0, 0x0, 0, 32⟩
def BCN.SRAM_ERR_INFO_INITIATOR : Fld := ⟨0x00004C, 0x0, 0x0, 24, 4⟩
def BCN.SRAM_ERR_INFO_MEMORY : Fld := ⟨0x00004C, 0x0, 0x0, 20, 4⟩
def BCN.SRAM_ERR_INFO_DATA : Fld := ⟨0x00004C, 0x0, 0x0, 16, 1⟩
def BCN.SRAM_ERR_INFO_SYNDROME : Fld := ⟨0x00004C, 0x0, 0x0, 8, 8⟩
def BCN.SRAM_ERR_INFO_UE : Fld := ⟨0x00004C, 0x0, 0x0, 0, 1⟩
def BCN.SCRUB_PASS_COUNT : Fld := ⟨0x000050, 0x0, 0x0, 0, 32⟩
def BCN.LOCK_LOCK : Fld := ⟨0x0000FC, 0x0, 0x0, 0, 1⟩

/-! ### Block XLA (03_cross_lane_agreement.md, R141) -/
def XLA.AUTH_STATE_HELD : Fld := ⟨0x010000, 0x0, 0x0, 20, 1⟩
def XLA.AUTH_STATE_AUTH_LANE : Fld := ⟨0x010000, 0x0, 0x0, 18, 2⟩
def XLA.AUTH_STATE_SYS_MODE : Fld := ⟨0x010000, 0x0, 0x0, 15, 3⟩
def XLA.AUTH_STATE_VSET : Fld := ⟨0x010000, 0x0, 0x0, 12, 3⟩
def XLA.AUTH_STATE_LSTATE_C : Fld := ⟨0x010000, 0x0, 0x0, 8, 4⟩
def XLA.AUTH_STATE_LSTATE_B : Fld := ⟨0x010000, 0x0, 0x0, 4, 4⟩
def XLA.AUTH_STATE_LSTATE_A : Fld := ⟨0x010000, 0x0, 0x0, 0, 4⟩
def XLA.LANE_ID_CANDIDATE : Fld := ⟨0x010004, 0x0, 0x0, 8, 1⟩
def XLA.LANE_ID_LANE : Fld := ⟨0x010004, 0x0, 0x0, 0, 2⟩
def XLA.CCN_CCN : Fld := ⟨0x010008, 0x0, 0x0, 0, 32⟩
def XLA.ALIGN_TRIM : Fld := ⟨0x01000C, 0x0, 0x0, 8, 9⟩
def XLA.ALIGN_OFFSET : Fld := ⟨0x01000C, 0x0, 0x0, 0, 8⟩
def XLA.AUTH_ORDER_THIRD : Fld := ⟨0x010010, 0x0, 0x0, 4, 2⟩
def XLA.AUTH_ORDER_SECOND : Fld := ⟨0x010010, 0x0, 0x0, 2, 2⟩
def XLA.AUTH_ORDER_FIRST : Fld := ⟨0x010010, 0x0, 0x0, 0, 2⟩
def XLA.VEC_CFG_OUT_COUNT : Fld := ⟨0x010014, 0x0, 0x0, 8, 7⟩
def XLA.VEC_CFG_VAL_COUNT : Fld := ⟨0x010014, 0x0, 0x0, 0, 8⟩
def XLA.CFG_TAG_TAG : Fld := ⟨0x010018, 0x0, 0x0, 0, 16⟩
def XLA.LINK_STATUS_LATENCY : Fld := ⟨0x010020, 0x4, 0x0, 8, 8⟩
def XLA.LINK_STATUS_PEER : Fld := ⟨0x010020, 0x4, 0x0, 4, 2⟩
def XLA.LINK_STATUS_TRAINED : Fld := ⟨0x010020, 0x4, 0x0, 3, 1⟩
def XLA.LINK_STATUS_BLOCK_LOCK : Fld := ⟨0x010020, 0x4, 0x0, 2, 1⟩
def XLA.LINK_STATUS_LOST : Fld := ⟨0x010020, 0x4, 0x0, 1, 1⟩
def XLA.LINK_STATUS_UP : Fld := ⟨0x010020, 0x4, 0x0, 0, 1⟩
def XLA.LINK_ERR_MISSING : Fld := ⟨0x010028, 0x4, 0x0, 16, 16⟩
def XLA.LINK_ERR_DISCARDED : Fld := ⟨0x010028, 0x4, 0x0, 0, 16⟩
def XLA.HB_STATUS_PATH_LOST_1 : Fld := ⟨0x010030, 0x0, 0x0, 13, 1⟩
def XLA.HB_STATUS_PULSE_FAULT_1 : Fld := ⟨0x010030, 0x0, 0x0, 12, 1⟩
def XLA.HB_STATUS_SILENT_1 : Fld := ⟨0x010030, 0x0, 0x0, 10, 2⟩
def XLA.HB_STATUS_PULSE_HEARD_1 : Fld := ⟨0x010030, 0x0, 0x0, 9, 1⟩
def XLA.HB_STATUS_LINK_HEARD_1 : Fld := ⟨0x010030, 0x0, 0x0, 8, 1⟩
def XLA.HB_STATUS_PATH_LOST_0 : Fld := ⟨0x010030, 0x0, 0x0, 5, 1⟩
def XLA.HB_STATUS_PULSE_FAULT_0 : Fld := ⟨0x010030, 0x0, 0x0, 4, 1⟩
def XLA.HB_STATUS_SILENT_0 : Fld := ⟨0x010030, 0x0, 0x0, 2, 2⟩
def XLA.HB_STATUS_PULSE_HEARD_0 : Fld := ⟨0x010030, 0x0, 0x0, 1, 1⟩
def XLA.HB_STATUS_LINK_HEARD_0 : Fld := ⟨0x010030, 0x0, 0x0, 0, 1⟩
def XLA.FENCE_STATUS_TOTAL : Fld := ⟨0x010034, 0x0, 0x0, 24, 8⟩
def XLA.FENCE_STATUS_LAST_CAUSE : Fld := ⟨0x010034, 0x0, 0x0, 12, 4⟩
def XLA.FENCE_STATUS_WINDOW_COUNT : Fld := ⟨0x010034, 0x0, 0x0, 8, 2⟩
def XLA.FENCE_STATUS_PERMANENT : Fld := ⟨0x010034, 0x0, 0x0, 0, 1⟩
def XLA.FENCE_CCN_CCN : Fld := ⟨0x010038, 0x0, 0x0, 0, 32⟩
def XLA.MIG_STATUS_COUNT : Fld := ⟨0x01003C, 0x0, 0x0, 16, 16⟩
def XLA.MIG_STATUS_FROM : Fld := ⟨0x01003C, 0x0, 0x0, 14, 2⟩
def XLA.MIG_STATUS_TO : Fld := ⟨0x01003C, 0x0, 0x0, 12, 2⟩
def XLA.MIG_STATUS_COMMANDED : Fld := ⟨0x01003C, 0x0, 0x0, 0, 1⟩
def XLA.MIG_CCN_CCN : Fld := ⟨0x010040, 0x0, 0x0, 0, 32⟩
def XLA.HOLD_COUNT_MIGRATION : Fld := ⟨0x010044, 0x0, 0x0, 16, 16⟩
def XLA.HOLD_COUNT_COMMIT : Fld := ⟨0x010044, 0x0, 0x0, 0, 16⟩
def XLA.DISAGREE_COUNT : Fld := ⟨0x010048, 0x0, 0x0, 24, 8⟩
def XLA.DISAGREE_LANE : Fld := ⟨0x010048, 0x0, 0x0, 12, 2⟩
def XLA.DISAGREE_INDEX : Fld := ⟨0x010048, 0x0, 0x0, 0, 7⟩
def XLA.RESYNC_STATUS_PHASE : Fld := ⟨0x01004C, 0x0, 0x0, 30, 2⟩
def XLA.RESYNC_STATUS_DONOR : Fld := ⟨0x01004C, 0x0, 0x0, 28, 2⟩
def XLA.RESYNC_STATUS_BLOCKS_LEFT : Fld := ⟨0x01004C, 0x0, 0x0, 0, 16⟩
def XLA.RESYNC_CLEAN_COUNT : Fld := ⟨0x010050, 0x0, 0x0, 0, 32⟩
def XLA.LOAD_RESULT_REASON : Fld := ⟨0x010054, 0x0, 0x0, 24, 8⟩
def XLA.LOAD_RESULT_ITEM : Fld := ⟨0x010054, 0x0, 0x0, 0, 8⟩
def XLA.DIGEST_LO_DIGEST : Fld := ⟨0x010058, 0x0, 0x0, 0, 32⟩
def XLA.DIGEST_HI_DIGEST : Fld := ⟨0x01005C, 0x0, 0x0, 0, 32⟩
def XLA.VALID_VALID : Fld := ⟨0x010060, 0x4, 0x0, 0, 32⟩
def XLA.ALIGN_EXC_EXCURSIONS : Fld := ⟨0x010070, 0x0, 0x0, 0, 32⟩
def XLA.VAL_CFG_TOL : Fld := ⟨0x010100, 0x4, 0x0, 14, 18⟩
def XLA.VAL_CFG_PERSIST : Fld := ⟨0x010100, 0x4, 0x0, 6, 8⟩
def XLA.VAL_CFG_DUP_RULE : Fld := ⟨0x010100, 0x4, 0x0, 5, 1⟩
def XLA.VAL_CFG_OWNER : Fld := ⟨0x010100, 0x4, 0x0, 2, 2⟩
def XLA.VAL_CFG_CLASS : Fld := ⟨0x010100, 0x4, 0x0, 0, 2⟩
def XLA.OUT_CFG_OWNER : Fld := ⟨0x010300, 0x4, 0x0, 12, 2⟩
def XLA.OUT_CFG_CLASS : Fld := ⟨0x010300, 0x4, 0x0, 8, 4⟩
def XLA.OUT_CFG_INDEX : Fld := ⟨0x010300, 0x4, 0x0, 0, 8⟩

/-! ### Block FCL (10_fault_handling.md, R358) -/
def FCL.STATUS_ACTIVE_N : Fld := ⟨0x020000, 0x0, 0x0, 24, 8⟩
def FCL.STATUS_STICKY_N : Fld := ⟨0x020000, 0x0, 0x0, 16, 8⟩
def FCL.STATUS_LOG_NEXT : Fld := ⟨0x020000, 0x0, 0x0, 12, 4⟩
def FCL.STATUS_DEMAND_STO : Fld := ⟨0x020000, 0x0, 0x0, 4, 1⟩
def FCL.STATUS_DEMAND_SS1 : Fld := ⟨0x020000, 0x0, 0x0, 3, 1⟩
def FCL.STATUS_MAJOR : Fld := ⟨0x020000, 0x0, 0x0, 2, 1⟩
def FCL.STATUS_MINOR : Fld := ⟨0x020000, 0x0, 0x0, 1, 1⟩
def FCL.STATUS_LOADED : Fld := ⟨0x020000, 0x0, 0x0, 0, 1⟩
def FCL.LOAD_RESULT_REASON : Fld := ⟨0x020004, 0x0, 0x0, 24, 8⟩
def FCL.LOAD_RESULT_ITEM : Fld := ⟨0x020004, 0x0, 0x0, 0, 8⟩
def FCL.EPISODE_SOURCE : Fld := ⟨0x020008, 0x0, 0x0, 24, 8⟩
def FCL.EPISODE_SECONDARY : Fld := ⟨0x020008, 0x0, 0x0, 16, 8⟩
def FCL.EPISODE_SEC_COUNT : Fld := ⟨0x020008, 0x0, 0x0, 8, 8⟩
def FCL.EPISODE_SEVERITY : Fld := ⟨0x020008, 0x0, 0x0, 6, 2⟩
def FCL.EPISODE_UPGRADED : Fld := ⟨0x020008, 0x0, 0x0, 5, 1⟩
def FCL.EPISODE_ENTRY : Fld := ⟨0x020008, 0x0, 0x0, 1, 4⟩
def FCL.EPISODE_OPEN : Fld := ⟨0x020008, 0x0, 0x0, 0, 1⟩
def FCL.EPISODE_CCN_CCN : Fld := ⟨0x02000C, 0x0, 0x0, 0, 32⟩
def FCL.CFG_DEMAND_IDX : Fld := ⟨0x020010, 0x0, 0x0, 0, 7⟩
def FCL.EVENT_COUNT_COUNT : Fld := ⟨0x020014, 0x0, 0x0, 0, 32⟩
def FCL.MERGE_COUNT_COUNT : Fld := ⟨0x020018, 0x0, 0x0, 0, 32⟩
def FCL.INJECT_GO : Fld := ⟨0x02001C, 0x0, 0x0, 31, 1⟩
def FCL.INJECT_TARGET : Fld := ⟨0x02001C, 0x0, 0x0, 8, 3⟩
def FCL.INJECT_SOURCE : Fld := ⟨0x02001C, 0x0, 0x0, 0, 8⟩
def FCL.ACTIVE_SRC : Fld := ⟨0x020040, 0x4, 0x0, 0, 32⟩
def FCL.STICKY_SRC : Fld := ⟨0x020060, 0x4, 0x0, 0, 32⟩
def FCL.LOCK_LOCK : Fld := ⟨0x0200FC, 0x0, 0x0, 0, 1⟩
def FCL.LOG0_SOURCE : Fld := ⟨0x020400, 0x10, 0x0, 24, 8⟩
def FCL.LOG0_SECONDARY : Fld := ⟨0x020400, 0x10, 0x0, 16, 8⟩
def FCL.LOG0_SEC_COUNT : Fld := ⟨0x020400, 0x10, 0x0, 8, 8⟩
def FCL.LOG0_SEVERITY : Fld := ⟨0x020400, 0x10, 0x0, 6, 2⟩
def FCL.LOG0_ESCALATED : Fld := ⟨0x020400, 0x10, 0x0, 5, 1⟩
def FCL.LOG0_UPGRADED : Fld := ⟨0x020400, 0x10, 0x0, 4, 1⟩
def FCL.LOG0_INJECTED : Fld := ⟨0x020400, 0x10, 0x0, 3, 1⟩
def FCL.LOG0_STICKY : Fld := ⟨0x020400, 0x10, 0x0, 2, 1⟩
def FCL.LOG0_CLOSED : Fld := ⟨0x020400, 0x10, 0x0, 1, 1⟩
def FCL.LOG0_VALID : Fld := ⟨0x020400, 0x10, 0x0, 0, 1⟩
def FCL.LOG1_VALUE : Fld := ⟨0x020404, 0x10, 0x0, 0, 32⟩
def FCL.LOG2_VALUE : Fld := ⟨0x020408, 0x10, 0x0, 0, 32⟩
def FCL.LOG3_REACTION : Fld := ⟨0x02040C, 0x10, 0x0, 24, 4⟩
def FCL.LOG3_CYCLE : Fld := ⟨0x02040C, 0x10, 0x0, 0, 19⟩
def FCL.SRC_CFG_SEV : Fld := ⟨0x021000, 0x8, 0x0, 30, 2⟩
def FCL.SRC_CFG_ESC_SEV : Fld := ⟨0x021000, 0x8, 0x0, 28, 2⟩
def FCL.SRC_CFG_COUNT : Fld := ⟨0x021000, 0x8, 0x0, 27, 1⟩
def FCL.SRC_CFG_STOP : Fld := ⟨0x021000, 0x8, 0x0, 25, 2⟩
def FCL.SRC_CFG_ESC_N : Fld := ⟨0x021000, 0x8, 0x0, 21, 4⟩
def FCL.SRC_CFG_ESC_T : Fld := ⟨0x021000, 0x8, 0x0, 8, 13⟩
def FCL.SRC_REC_K : Fld := ⟨0x021004, 0x8, 0x0, 28, 4⟩
def FCL.SRC_REC_W : Fld := ⟨0x021004, 0x8, 0x0, 16, 12⟩
def FCL.SRC_REC_QUIET : Fld := ⟨0x021004, 0x8, 0x0, 0, 16⟩
def FCL.SRC_STATUS_EVENTS : Fld := ⟨0x022000, 0x4, 0x0, 16, 16⟩
def FCL.SRC_STATUS_RECOVERIES : Fld := ⟨0x022000, 0x4, 0x0, 12, 4⟩
def FCL.SRC_STATUS_LAST_SEV : Fld := ⟨0x022000, 0x4, 0x0, 10, 2⟩
def FCL.SRC_STATUS_MERGED : Fld := ⟨0x022000, 0x4, 0x0, 3, 1⟩
def FCL.SRC_STATUS_STICKY : Fld := ⟨0x022000, 0x4, 0x0, 2, 1⟩
def FCL.SRC_STATUS_ACTIVE : Fld := ⟨0x022000, 0x4, 0x0, 1, 1⟩
def FCL.SRC_STATUS_CONDITION : Fld := ⟨0x022000, 0x4, 0x0, 0, 1⟩

/-! ### Block MBX (11_host_interface.md, R405) -/
def MBX.STATUS_FULL : Fld := ⟨0x030000, 0x0, 0x0, 0, 8⟩
def MBX.REJECT_COUNT : Fld := ⟨0x030004, 0x0, 0x0, 0, 32⟩
def MBX.POST_GO : Fld := ⟨0x030040, 0x4, 0x0, 0, 1⟩
def MBX.ACK_GO : Fld := ⟨0x030060, 0x4, 0x0, 0, 1⟩
def MBX.DATA_WORD : Fld := ⟨0x030100, 0x40, 0x4, 0, 32⟩

/-! ### Block SEC (15_boot_lifecycle_security.md, R522) -/
def SEC.STATUS_BOOT_RESULT : Fld := ⟨0x040000, 0x0, 0x0, 28, 4⟩
def SEC.STATUS_CUST_KEY : Fld := ⟨0x040000, 0x0, 0x0, 27, 1⟩
def SEC.STATUS_DELIVERY : Fld := ⟨0x040000, 0x0, 0x0, 26, 1⟩
def SEC.STATUS_KEY0_REVOKED : Fld := ⟨0x040000, 0x0, 0x0, 25, 1⟩
def SEC.STATUS_UPDATE_READY : Fld := ⟨0x040000, 0x0, 0x0, 24, 1⟩
def SEC.STATUS_DBG_LEVEL : Fld := ⟨0x040000, 0x0, 0x0, 22, 2⟩
def SEC.STATUS_DBG_FAILS : Fld := ⟨0x040000, 0x0, 0x0, 20, 2⟩
def SEC.STATUS_DBG_BLOCKED : Fld := ⟨0x040000, 0x0, 0x0, 19, 1⟩
def SEC.STATUS_CFG_LOADED : Fld := ⟨0x040000, 0x0, 0x0, 1, 1⟩
def SEC.STATUS_SLOT : Fld := ⟨0x040000, 0x0, 0x0, 0, 1⟩
def SEC.FW_INFO_ACN : Fld := ⟨0x040004, 0x0, 0x0, 16, 16⟩
def SEC.FW_INFO_FW_SEC : Fld := ⟨0x040004, 0x0, 0x0, 8, 8⟩
def SEC.FW_INFO_CFG_SEC : Fld := ⟨0x040004, 0x0, 0x0, 0, 8⟩
def SEC.CTR_FW : Fld := ⟨0x040008, 0x0, 0x0, 8, 8⟩
def SEC.CTR_CFG : Fld := ⟨0x040008, 0x0, 0x0, 0, 8⟩
def SEC.REJECT_REASON : Fld := ⟨0x04000C, 0x0, 0x0, 24, 8⟩
def SEC.REJECT_KIND : Fld := ⟨0x04000C, 0x0, 0x0, 1, 1⟩
def SEC.REJECT_SLOT : Fld := ⟨0x04000C, 0x0, 0x0, 0, 1⟩
def SEC.VGL_WIN_BASE : Fld := ⟨0x040010, 0x0, 0x0, 18, 14⟩
def SEC.UPDATE_CFG_MOVING : Fld := ⟨0x040014, 0x0, 0x0, 31, 1⟩
def SEC.UPDATE_CFG_SPEED : Fld := ⟨0x040014, 0x0, 0x0, 0, 18⟩
def SEC.DBG_CHAL_CHAL : Fld := ⟨0x040040, 0x4, 0x0, 0, 32⟩
def SEC.LOCK_LOCK : Fld := ⟨0x0400FC, 0x0, 0x0, 0, 1⟩

/-! ### Block LCS (15_boot_lifecycle_security.md, R523) -/
def LCS.STATE_SEALED : Fld := ⟨0x060000, 0x0, 0x0, 7, 1⟩
def LCS.STATE_PARTIAL : Fld := ⟨0x060000, 0x0, 0x0, 6, 1⟩
def LCS.STATE_STATE : Fld := ⟨0x060000, 0x0, 0x0, 0, 3⟩
def LCS.PERMIT_DBG_KEY : Fld := ⟨0x060004, 0x0, 0x0, 8, 2⟩
def LCS.PERMIT_TWIN : Fld := ⟨0x060004, 0x0, 0x0, 7, 1⟩
def LCS.PERMIT_DRIVE : Fld := ⟨0x060004, 0x0, 0x0, 6, 1⟩
def LCS.PERMIT_SELFTEST : Fld := ⟨0x060004, 0x0, 0x0, 5, 1⟩
def LCS.PERMIT_DEV_ONLY : Fld := ⟨0x060004, 0x0, 0x0, 4, 1⟩
def LCS.PERMIT_COMM_FREE : Fld := ⟨0x060004, 0x0, 0x0, 3, 1⟩
def LCS.PERMIT_FAT_OFF : Fld := ⟨0x060004, 0x0, 0x0, 2, 1⟩
def LCS.PERMIT_INJECT : Fld := ⟨0x060004, 0x0, 0x0, 1, 1⟩
def LCS.PERMIT_SCAN : Fld := ⟨0x060004, 0x0, 0x0, 0, 1⟩
def LCS.TRANS_REASON : Fld := ⟨0x060008, 0x0, 0x0, 24, 8⟩
def LCS.TRANS_TARGET : Fld := ⟨0x060008, 0x0, 0x0, 0, 3⟩

/-! ### Block IDB (15_boot_lifecycle_security.md, R524) -/
def IDB.DIE_LANE_WORD : Fld := ⟨0x080000, 0x4, 0x0, 0, 32⟩
def IDB.DIE_DRIVE_WORD : Fld := ⟨0x080010, 0x4, 0x0, 0, 32⟩
def IDB.PKG_SERIAL_LO_WORD : Fld := ⟨0x080020, 0x0, 0x0, 0, 32⟩
def IDB.PKG_SERIAL_HI_WORD : Fld := ⟨0x080024, 0x0, 0x0, 0, 32⟩
def IDB.PKG_INFO_LANE : Fld := ⟨0x080028, 0x0, 0x0, 0, 2⟩
def IDB.PKG_BIND_WORD : Fld := ⟨0x080040, 0x4, 0x0, 0, 32⟩
def IDB.PKG_SIG_WORD : Fld := ⟨0x080080, 0x4, 0x0, 0, 32⟩
def IDB.ID_KEY_WORD : Fld := ⟨0x080100, 0x4, 0x0, 0, 32⟩
def IDB.ID_CERT_WORD : Fld := ⟨0x080180, 0x4, 0x0, 0, 32⟩

/-! ### Block BST (16_test_debug_statistics.md, R542) -/
def BST.STATUS_OCCASION : Fld := ⟨0x090000, 0x0, 0x0, 28, 4⟩
def BST.STATUS_PART : Fld := ⟨0x090000, 0x0, 0x0, 24, 4⟩
def BST.STATUS_RUNNING : Fld := ⟨0x090000, 0x0, 0x0, 23, 1⟩
def BST.STATUS_FAILED : Fld := ⟨0x090000, 0x0, 0x0, 22, 1⟩
def BST.STATUS_ABANDONED : Fld := ⟨0x090000, 0x0, 0x0, 21, 1⟩
def BST.STATUS_PASSED : Fld := ⟨0x090000, 0x0, 0x0, 8, 8⟩
def BST.STATUS_TESTED : Fld := ⟨0x090000, 0x0, 0x0, 0, 8⟩
def BST.CFG_INSVC_EN : Fld := ⟨0x090004, 0x0, 0x0, 31, 1⟩
def BST.CFG_SAVE_BASE : Fld := ⟨0x090004, 0x0, 0x0, 0, 13⟩
def BST.SIG_LO_SIG : Fld := ⟨0x090008, 0x0, 0x0, 0, 32⟩
def BST.SIG_HI_SIG : Fld := ⟨0x09000C, 0x0, 0x0, 0, 32⟩
def BST.EXP_LO_SIG : Fld := ⟨0x090010, 0x0, 0x0, 0, 32⟩
def BST.EXP_HI_SIG : Fld := ⟨0x090014, 0x0, 0x0, 0, 32⟩
def BST.CCN_VALUE : Fld := ⟨0x090018, 0x0, 0x0, 0, 32⟩
def BST.REHEARSE_VALUE : Fld := ⟨0x09001C, 0x0, 0x0, 0, 32⟩
def BST.COUNT_INSVC : Fld := ⟨0x090020, 0x0, 0x0, 16, 16⟩
def BST.COUNT_KEYOFF : Fld := ⟨0x090020, 0x0, 0x0, 0, 16⟩
def BST.LOCK_LOCK : Fld := ⟨0x0900FC, 0x0, 0x0, 0, 1⟩

/-! ### Block DBG (16_test_debug_statistics.md, R543) -/
def DBG.STATUS_ATTACHED : Fld := ⟨0x0A0000, 0x0, 0x0, 31, 1⟩
def DBG.STATUS_HALTED : Fld := ⟨0x0A0000, 0x0, 0x0, 30, 1⟩
def DBG.STATUS_REPLAY : Fld := ⟨0x0A0000, 0x0, 0x0, 24, 5⟩
def DBG.STATUS_REFUSED : Fld := ⟨0x0A0000, 0x0, 0x0, 0, 16⟩
def DBG.TRACE_CFG_ENABLE : Fld := ⟨0x0A0004, 0x0, 0x0, 31, 1⟩
def DBG.TRACE_CFG_FLOW : Fld := ⟨0x0A0004, 0x0, 0x0, 30, 1⟩
def DBG.TRACE_CFG_TRIG : Fld := ⟨0x0A0004, 0x0, 0x0, 28, 2⟩
def DBG.TRACE_CFG_POST : Fld := ⟨0x0A0004, 0x0, 0x0, 20, 8⟩
def DBG.TRACE_CFG_SOURCE : Fld := ⟨0x0A0004, 0x0, 0x0, 0, 8⟩
def DBG.TRACE_CCN_CCN : Fld := ⟨0x0A0008, 0x0, 0x0, 0, 32⟩
def DBG.TRACE_STATUS_TRIGGERED : Fld := ⟨0x0A000C, 0x0, 0x0, 31, 1⟩
def DBG.TRACE_STATUS_WRAPPED : Fld := ⟨0x0A000C, 0x0, 0x0, 30, 1⟩
def DBG.TRACE_STATUS_WRITE_PTR : Fld := ⟨0x0A000C, 0x0, 0x0, 0, 16⟩
def DBG.TRACE_DATA_WORD : Fld := ⟨0x0A0010, 0x0, 0x0, 0, 32⟩

/-! ### Block STA (16_test_debug_statistics.md, R544) -/
def STA.CFG_PERIOD : Fld := ⟨0x0B0000, 0x0, 0x0, 0, 20⟩
def STA.STATUS_SEQ : Fld := ⟨0x0B0004, 0x0, 0x0, 16, 16⟩
def STA.STATUS_PARTIAL : Fld := ⟨0x0B0004, 0x0, 0x0, 0, 1⟩
def STA.BOUNDARY_CCN_VALUE : Fld := ⟨0x0B0008, 0x0, 0x0, 0, 32⟩
def STA.NET_WCN_VALUE : Fld := ⟨0x0B000C, 0x0, 0x0, 0, 32⟩
def STA.NET_FRAMES : Fld := ⟨0x0B0010, 0x4, 0x0, 16, 16⟩
def STA.NET_MISSED : Fld := ⟨0x0B0010, 0x4, 0x0, 8, 8⟩
def STA.NET_LATE : Fld := ⟨0x0B0010, 0x4, 0x0, 0, 8⟩

/-! ### Block PCL (04_percolator.md, R173) -/
def PCL.STATUS_ARC_COUNT : Fld := ⟨0x100000, 0x0, 0x0, 16, 13⟩
def PCL.STATUS_LOADED : Fld := ⟨0x100000, 0x0, 0x0, 14, 1⟩
def PCL.STATUS_ATOMIC : Fld := ⟨0x100000, 0x0, 0x0, 13, 1⟩
def PCL.STATUS_DRAINING : Fld := ⟨0x100000, 0x0, 0x0, 12, 1⟩
def PCL.STATUS_BANK : Fld := ⟨0x100000, 0x0, 0x0, 11, 1⟩
def PCL.STATUS_NODE_COUNT : Fld := ⟨0x100000, 0x0, 0x0, 0, 11⟩
def PCL.LOAD_RESULT_REASON : Fld := ⟨0x100004, 0x0, 0x0, 24, 8⟩
def PCL.LOAD_RESULT_FLOW : Fld := ⟨0x100004, 0x0, 0x0, 20, 4⟩
def PCL.LOAD_RESULT_OUT_INDEX : Fld := ⟨0x100004, 0x0, 0x0, 19, 1⟩
def PCL.LOAD_RESULT_ITEM : Fld := ⟨0x100004, 0x0, 0x0, 0, 12⟩
def PCL.PARAM_BASE_BASE : Fld := ⟨0x100008, 0x0, 0x0, 4, 28⟩
def PCL.SUPERVISE_MARGIN : Fld := ⟨0x10000C, 0x0, 0x0, 0, 8⟩
def PCL.READY_P3 : Fld := ⟨0x100010, 0x0, 0x0, 24, 8⟩
def PCL.READY_P2 : Fld := ⟨0x100010, 0x0, 0x0, 16, 8⟩
def PCL.READY_P1 : Fld := ⟨0x100010, 0x0, 0x0, 8, 8⟩
def PCL.READY_P0 : Fld := ⟨0x100010, 0x0, 0x0, 0, 8⟩
def PCL.RB_STATUS_MAX : Fld := ⟨0x100014, 0x0, 0x0, 16, 10⟩
def PCL.RB_STATUS_USED : Fld := ⟨0x100014, 0x0, 0x0, 0, 10⟩
def PCL.TBL_ERR_ENTRY : Fld := ⟨0x100018, 0x0, 0x0, 16, 13⟩
def PCL.TBL_ERR_TABLE : Fld := ⟨0x100018, 0x0, 0x0, 15, 1⟩
def PCL.TBL_ERR_BANK : Fld := ⟨0x100018, 0x0, 0x0, 14, 1⟩
def PCL.TBL_ERR_UE : Fld := ⟨0x100018, 0x0, 0x0, 0, 1⟩
def PCL.TBL_CE_COUNT_COUNT : Fld := ⟨0x10001C, 0x0, 0x0, 0, 32⟩
def PCL.LOCK_LOCK : Fld := ⟨0x1000FC, 0x0, 0x0, 0, 1⟩
def PCL.FLOW_CFG_ENABLE : Fld := ⟨0x100100, 0x4, 0x0, 31, 1⟩
def PCL.FLOW_CFG_PHASE : Fld := ⟨0x100100, 0x4, 0x0, 16, 10⟩
def PCL.FLOW_CFG_PERIOD : Fld := ⟨0x100100, 0x4, 0x0, 0, 10⟩
def PCL.FLOW_STATUS_LAST_SEQ : Fld := ⟨0x100140, 0x4, 0x0, 16, 16⟩
def PCL.FLOW_STATUS_SKIPS : Fld := ⟨0x100140, 0x4, 0x0, 8, 8⟩
def PCL.FLOW_STATUS_PENDING : Fld := ⟨0x100140, 0x4, 0x0, 1, 1⟩
def PCL.FLOW_STATUS_IN_SERVICE : Fld := ⟨0x100140, 0x4, 0x0, 0, 1⟩
def PCL.FLOW_BOUND_BOUND : Fld := ⟨0x100180, 0x4, 0x0, 0, 32⟩
def PCL.FLOW_MEAS_MAX : Fld := ⟨0x1001C0, 0x4, 0x0, 0, 32⟩
def PCL.CORE_QDEPTH_AVG : Fld := ⟨0x100200, 0x4, 0x0, 16, 16⟩
def PCL.CORE_QDEPTH_MAX : Fld := ⟨0x100200, 0x4, 0x0, 0, 16⟩
def PCL.CORE_LOAD_LOAD : Fld := ⟨0x100210, 0x4, 0x0, 0, 14⟩
def PCL.CTX_STATUS_PREEMPTIONS : Fld := ⟨0x100220, 0x4, 0x0, 16, 16⟩
def PCL.CTX_STATUS_MAX_USED : Fld := ⟨0x100220, 0x4, 0x0, 8, 5⟩
def PCL.CTX_STATUS_USED : Fld := ⟨0x100220, 0x4, 0x0, 0, 5⟩
def PCL.CORE_STATUS_BUSY : Fld := ⟨0x100230, 0x4, 0x0, 31, 1⟩
def PCL.CORE_STATUS_PRIO : Fld := ⟨0x100230, 0x4, 0x0, 26, 2⟩
def PCL.CORE_STATUS_NODE : Fld := ⟨0x100230, 0x4, 0x0, 0, 10⟩
def PCL.CORE_HIST_COUNT : Fld := ⟨0x100300, 0x40, 0x4, 0, 32⟩

/-! ### Block HOP (04_percolator.md, R174) -/
def HOP.STATUS_HWM : Fld := ⟨0x110000, 0x0, 0x0, 16, 14⟩
def HOP.STATUS_USED : Fld := ⟨0x110000, 0x0, 0x0, 0, 14⟩
def HOP.ECC_COUNT_COUNT : Fld := ⟨0x110004, 0x0, 0x0, 0, 32⟩
def HOP.ERR_INFO_SLOT : Fld := ⟨0x110008, 0x0, 0x0, 16, 13⟩
def HOP.ERR_INFO_SYNDROME : Fld := ⟨0x110008, 0x0, 0x0, 8, 8⟩
def HOP.ERR_INFO_UE : Fld := ⟨0x110008, 0x0, 0x0, 0, 1⟩
def HOP.MATCH_COUNT_COUNT : Fld := ⟨0x11000C, 0x0, 0x0, 0, 32⟩
def HOP.LATCH_SEL_ARC : Fld := ⟨0x110010, 0x0, 0x0, 0, 12⟩
def HOP.LATCH_DATA_VALID : Fld := ⟨0x110014, 0x0, 0x0, 18, 1⟩
def HOP.LATCH_DATA_VALUE : Fld := ⟨0x110014, 0x0, 0x0, 0, 18⟩

/-! ### Block CEN (05_control_engine.md, R208) -/
def CEN.STATUS_LOADED : Fld := ⟨0x180000, 0x0, 0x0, 16, 1⟩
def CEN.STATUS_FE_ACTIVE : Fld := ⟨0x180000, 0x0, 0x0, 8, 8⟩
def CEN.STATUS_ENABLED : Fld := ⟨0x180000, 0x0, 0x0, 0, 8⟩
def CEN.LOAD_RESULT_REASON : Fld := ⟨0x180004, 0x0, 0x0, 24, 8⟩
def CEN.LOAD_RESULT_ITEM : Fld := ⟨0x180004, 0x0, 0x0, 0, 4⟩
def CEN.TBL_ERR_UE : Fld := ⟨0x180008, 0x0, 0x0, 31, 1⟩
def CEN.TBL_ERR_SCRUB : Fld := ⟨0x180008, 0x0, 0x0, 30, 1⟩
def CEN.TBL_ERR_UNIT : Fld := ⟨0x180008, 0x0, 0x0, 26, 4⟩
def CEN.TBL_ERR_SYNDROME : Fld := ⟨0x180008, 0x0, 0x0, 18, 6⟩
def CEN.TBL_ERR_WORD : Fld := ⟨0x180008, 0x0, 0x0, 0, 18⟩
def CEN.TBL_CE_COUNT_COUNT : Fld := ⟨0x18000C, 0x0, 0x0, 0, 32⟩
def CEN.TBL_SCRUB_PASSES : Fld := ⟨0x180010, 0x0, 0x0, 16, 16⟩
def CEN.TBL_SCRUB_INTERVAL : Fld := ⟨0x180010, 0x0, 0x0, 0, 16⟩
def CEN.FE_STICKY_SLOT : Fld := ⟨0x180014, 0x0, 0x0, 0, 8⟩
def CEN.TQ_FRACTION_TAU : Fld := ⟨0x180018, 0x0, 0x0, 0, 18⟩
def CEN.TBL_TYPE_U18 : Fld := ⟨0x180080, 0x4, 0x0, 0, 32⟩
def CEN.LOCK_LOCK : Fld := ⟨0x1800FC, 0x0, 0x0, 0, 1⟩
def CEN.SLOT_STATUS_VALID : Fld := ⟨0x180100, 0x10, 0x0, 31, 1⟩
def CEN.SLOT_STATUS_SAT_HI : Fld := ⟨0x180100, 0x10, 0x0, 30, 1⟩
def CEN.SLOT_STATUS_SAT_LO : Fld := ⟨0x180100, 0x10, 0x0, 29, 1⟩
def CEN.SLOT_STATUS_INT_HELD : Fld := ⟨0x180100, 0x10, 0x0, 28, 1⟩
def CEN.SLOT_STATUS_FE_ACTIVE : Fld := ⟨0x180100, 0x10, 0x0, 27, 1⟩
def CEN.SLOT_STATUS_FE_COUNT : Fld := ⟨0x180100, 0x10, 0x0, 0, 14⟩
def CEN.SLOT_OUT_VALUE : Fld := ⟨0x180104, 0x10, 0x0, 0, 18⟩
def CEN.SLOT_ERR_VALUE : Fld := ⟨0x180108, 0x10, 0x0, 0, 18⟩
def CEN.SLOT_INT_VALUE : Fld := ⟨0x18010C, 0x10, 0x0, 0, 18⟩
def CEN.SLOT_CFG_ENABLE : Fld := ⟨0x180400, 0x40, 0x0, 31, 1⟩
def CEN.SLOT_CFG_FLOW : Fld := ⟨0x180400, 0x40, 0x0, 27, 4⟩
def CEN.SLOT_CFG_TQLIM : Fld := ⟨0x180400, 0x40, 0x0, 26, 1⟩
def CEN.SLOT_CFG_FRIC_EN : Fld := ⟨0x180400, 0x40, 0x0, 25, 1⟩
def CEN.SLOT_CFG_COG_EN : Fld := ⟨0x180400, 0x40, 0x0, 24, 1⟩
def CEN.SLOT_CFG_DSHIFT : Fld := ⟨0x180400, 0x40, 0x0, 20, 4⟩
def CEN.SLOT_CFG_FF_GAIN : Fld := ⟨0x180400, 0x40, 0x0, 0, 18⟩
def CEN.SLOT_KP_SHIFT : Fld := ⟨0x180404, 0x40, 0x0, 18, 4⟩
def CEN.SLOT_KP_BASE : Fld := ⟨0x180404, 0x40, 0x0, 0, 18⟩
def CEN.SLOT_KI_SHIFT : Fld := ⟨0x180408, 0x40, 0x0, 18, 4⟩
def CEN.SLOT_KI_BASE : Fld := ⟨0x180408, 0x40, 0x0, 0, 18⟩
def CEN.SLOT_KD_SHIFT : Fld := ⟨0x18040C, 0x40, 0x0, 18, 4⟩
def CEN.SLOT_KD_BASE : Fld := ⟨0x18040C, 0x40, 0x0, 0, 18⟩
def CEN.SLOT_ESCALE_SCALE : Fld := ⟨0x180410, 0x40, 0x0, 0, 24⟩
def CEN.SLOT_OHI_VALUE : Fld := ⟨0x180414, 0x40, 0x0, 0, 18⟩
def CEN.SLOT_OLO_VALUE : Fld := ⟨0x180418, 0x40, 0x0, 0, 18⟩
def CEN.SLOT_FRIC_ORIGIN_VALUE : Fld := ⟨0x18041C, 0x40, 0x0, 0, 18⟩
def CEN.SLOT_COG_OFFSET_VALUE : Fld := ⟨0x180420, 0x40, 0x0, 0, 18⟩
def CEN.SLOT_FRIC_BAND_BAND : Fld := ⟨0x180424, 0x40, 0x0, 0, 18⟩
def CEN.SLOT_FRIC_TBL_BASE : Fld := ⟨0x180428, 0x40, 0x0, 0, 18⟩
def CEN.SLOT_FRIC_SCALE_SCALE : Fld := ⟨0x18042C, 0x40, 0x0, 0, 24⟩
def CEN.SLOT_COG_MULT : Fld := ⟨0x180430, 0x40, 0x0, 18, 8⟩
def CEN.SLOT_COG_BASE : Fld := ⟨0x180430, 0x40, 0x0, 0, 18⟩
def CEN.SLOT_FE_TIME : Fld := ⟨0x180434, 0x40, 0x0, 18, 14⟩
def CEN.SLOT_FE_LIMIT : Fld := ⟨0x180434, 0x40, 0x0, 0, 18⟩

/-! ### Block PGN (05_control_engine.md, R209) -/
def PGN.STATUS_GEN : Fld := ⟨0x190000, 0x0, 0x0, 0, 32⟩
def PGN.RATE_FRACTION_C : Fld := ⟨0x190004, 0x0, 0x0, 0, 18⟩
def PGN.CFG_ENABLE : Fld := ⟨0x190100, 0x20, 0x0, 31, 1⟩
def PGN.CFG_FLOW : Fld := ⟨0x190100, 0x20, 0x0, 27, 4⟩
def PGN.CFG_STEER : Fld := ⟨0x190100, 0x20, 0x0, 26, 1⟩
def PGN.CFG_OUT_SEL : Fld := ⟨0x190100, 0x20, 0x0, 24, 2⟩
def PGN.CFG_OUT_SHIFT : Fld := ⟨0x190100, 0x20, 0x0, 16, 5⟩
def PGN.VMAX_LIMIT : Fld := ⟨0x190104, 0x20, 0x0, 0, 32⟩
def PGN.AMAX_LIMIT : Fld := ⟨0x190108, 0x20, 0x0, 0, 32⟩
def PGN.JMAX_LIMIT : Fld := ⟨0x19010C, 0x20, 0x0, 0, 32⟩
def PGN.POS_TOL_TOL : Fld := ⟨0x190110, 0x20, 0x0, 0, 18⟩
def PGN.VEL_TOL_LIMIT : Fld := ⟨0x190114, 0x20, 0x0, 0, 32⟩
def PGN.POS_LO_POS : Fld := ⟨0x190200, 0x20, 0x0, 0, 32⟩
def PGN.POS_HI_POS : Fld := ⟨0x190204, 0x20, 0x0, 0, 32⟩
def PGN.VEL_LO_VALUE : Fld := ⟨0x190208, 0x20, 0x0, 0, 32⟩
def PGN.VEL_HI_VALUE : Fld := ⟨0x19020C, 0x20, 0x0, 0, 32⟩
def PGN.ACC_LO_VALUE : Fld := ⟨0x190210, 0x20, 0x0, 0, 32⟩
def PGN.ACC_HI_VALUE : Fld := ⟨0x190214, 0x20, 0x0, 0, 32⟩
def PGN.TJ_TJ : Fld := ⟨0x190218, 0x20, 0x0, 0, 16⟩
def PGN.VCAP_VCAP : Fld := ⟨0x19021C, 0x20, 0x0, 0, 32⟩

/-! ### Block CMU (06_commutation_current.md, R241) -/
def CMU.LOAD_RESULT_REASON : Fld := ⟨0x200004, 0x0, 0x0, 24, 8⟩
def CMU.LOAD_RESULT_BRIDGE : Fld := ⟨0x200004, 0x0, 0x0, 0, 1⟩
def CMU.CFG_PWM_DIV : Fld := ⟨0x200100, 0x80, 0x0, 28, 2⟩
def CMU.CFG_MIN_PULSE : Fld := ⟨0x200100, 0x80, 0x0, 20, 8⟩
def CMU.CFG_EXCL_OTHER : Fld := ⟨0x200100, 0x80, 0x0, 18, 1⟩
def CMU.CFG_EXCL_LANES : Fld := ⟨0x200100, 0x80, 0x0, 17, 1⟩
def CMU.CFG_HALL_SRC : Fld := ⟨0x200100, 0x80, 0x0, 16, 1⟩
def CMU.CFG_CHOP : Fld := ⟨0x200100, 0x80, 0x0, 15, 1⟩
def CMU.CFG_SHORT_SIDE : Fld := ⟨0x200100, 0x80, 0x0, 14, 1⟩
def CMU.CFG_DIS_ACT : Fld := ⟨0x200100, 0x80, 0x0, 13, 1⟩
def CMU.CFG_FLOAT_PERSIST : Fld := ⟨0x200100, 0x80, 0x0, 5, 8⟩
def CMU.SECTOR_MAP_H6 : Fld := ⟨0x200104, 0x80, 0x0, 18, 3⟩
def CMU.SECTOR_MAP_H5 : Fld := ⟨0x200104, 0x80, 0x0, 15, 3⟩
def CMU.SECTOR_MAP_H4 : Fld := ⟨0x200104, 0x80, 0x0, 12, 3⟩
def CMU.SECTOR_MAP_H3 : Fld := ⟨0x200104, 0x80, 0x0, 9, 3⟩
def CMU.SECTOR_MAP_H2 : Fld := ⟨0x200104, 0x80, 0x0, 6, 3⟩
def CMU.SECTOR_MAP_H1 : Fld := ⟨0x200104, 0x80, 0x0, 3, 3⟩
def CMU.WIN_CFG_SETTLE : Fld := ⟨0x200108, 0x80, 0x0, 16, 10⟩
def CMU.WIN_CFG_GUARD : Fld := ⟨0x200108, 0x80, 0x0, 8, 6⟩
def CMU.WIN_CFG_PERSIST : Fld := ⟨0x200108, 0x80, 0x0, 4, 4⟩
def CMU.MOD_CEIL_CEIL : Fld := ⟨0x20010C, 0x80, 0x0, 0, 14⟩
def CMU.SYNC_SPEED_VALUE : Fld := ⟨0x200110, 0x80, 0x0, 0, 18⟩
def CMU.REV_SPEED_VALUE : Fld := ⟨0x200114, 0x80, 0x0, 0, 18⟩
def CMU.BEMF_K_VALUE : Fld := ⟨0x200118, 0x80, 0x0, 0, 18⟩
def CMU.BRK_ILIM_VALUE : Fld := ⟨0x20011C, 0x80, 0x0, 0, 18⟩
def CMU.FLOAT_LIMIT_VALUE : Fld := ⟨0x200120, 0x80, 0x0, 0, 18⟩
def CMU.START_CFG_RAMP : Fld := ⟨0x200124, 0x80, 0x0, 16, 14⟩
def CMU.START_CFG_TIMEOUT : Fld := ⟨0x200124, 0x80, 0x0, 0, 16⟩
def CMU.CMD_WORD : Fld := ⟨0x200140, 0x80, 0x0, 0, 18⟩
def CMU.APPLIED_CAPPED : Fld := ⟨0x200144, 0x80, 0x0, 31, 1⟩
def CMU.APPLIED_START : Fld := ⟨0x200144, 0x80, 0x0, 28, 3⟩
def CMU.APPLIED_PRECEDENCE : Fld := ⟨0x200144, 0x80, 0x0, 25, 3⟩
def CMU.APPLIED_SECTOR : Fld := ⟨0x200144, 0x80, 0x0, 22, 3⟩
def CMU.APPLIED_DIR : Fld := ⟨0x200144, 0x80, 0x0, 21, 1⟩
def CMU.APPLIED_ENABLE : Fld := ⟨0x200144, 0x80, 0x0, 20, 1⟩
def CMU.APPLIED_MODE : Fld := ⟨0x200144, 0x80, 0x0, 18, 2⟩
def CMU.APPLIED_DUTY : Fld := ⟨0x200144, 0x80, 0x0, 0, 14⟩
def CMU.WINDOW_DEGRADED : Fld := ⟨0x200148, 0x80, 0x0, 31, 1⟩
def CMU.WINDOW_START : Fld := ⟨0x200148, 0x80, 0x0, 30, 1⟩
def CMU.WINDOW_LEN : Fld := ⟨0x200148, 0x80, 0x0, 16, 11⟩
def CMU.WINDOW_TS : Fld := ⟨0x200148, 0x80, 0x0, 0, 11⟩
def CMU.CAP_COUNT_COUNT : Fld := ⟨0x20014C, 0x80, 0x0, 0, 32⟩
def CMU.EVENT_COUNT_DEGRADED : Fld := ⟨0x200150, 0x80, 0x0, 16, 16⟩
def CMU.EVENT_COUNT_DEFERRED : Fld := ⟨0x200150, 0x80, 0x0, 0, 16⟩
def CMU.START_COUNT_TIMEOUTS : Fld := ⟨0x200154, 0x80, 0x0, 24, 8⟩
def CMU.START_COUNT_REVERSALS : Fld := ⟨0x200154, 0x80, 0x0, 16, 8⟩
def CMU.START_COUNT_SYNCS : Fld := ⟨0x200154, 0x80, 0x0, 8, 8⟩
def CMU.START_COUNT_NORMAL : Fld := ⟨0x200154, 0x80, 0x0, 0, 8⟩

/-! ### Block AFE (06_commutation_current.md, R242) -/
def AFE.STATUS_VALID : Fld := ⟨0x210000, 0x0, 0x0, 16, 6⟩
def AFE.STATUS_CAL_DONE : Fld := ⟨0x210000, 0x0, 0x0, 0, 4⟩
def AFE.CTRL_CAL_LIMIT : Fld := ⟨0x210004, 0x0, 0x0, 8, 8⟩
def AFE.CTRL_AUTOCAL : Fld := ⟨0x210004, 0x0, 0x0, 0, 4⟩
def AFE.OVR_SLOW : Fld := ⟨0x210008, 0x0, 0x0, 6, 8⟩
def AFE.OVR_FAST : Fld := ⟨0x210008, 0x0, 0x0, 0, 6⟩
def AFE.LOCK_LOCK : Fld := ⟨0x2100FC, 0x0, 0x0, 0, 1⟩
def AFE.FAST_CAL_OFFSET : Fld := ⟨0x210100, 0x4, 0x0, 18, 14⟩
def AFE.FAST_CAL_GAIN : Fld := ⟨0x210100, 0x4, 0x0, 0, 18⟩
def AFE.FAST_VALUE_VALUE : Fld := ⟨0x210140, 0x4, 0x0, 0, 18⟩
def AFE.FAST_RAW_CODE : Fld := ⟨0x210160, 0x4, 0x0, 0, 14⟩
def AFE.SLOW_CAL_OFFSET : Fld := ⟨0x210200, 0x4, 0x0, 18, 12⟩
def AFE.SLOW_CAL_GAIN : Fld := ⟨0x210200, 0x4, 0x0, 0, 18⟩
def AFE.SLOW_VALUE_VALUE : Fld := ⟨0x210240, 0x4, 0x0, 0, 18⟩
def AFE.SLOW_RAW_CODE : Fld := ⟨0x210260, 0x4, 0x0, 0, 12⟩

/-! ### Block GDC (08_gate_drive_protection.md, R303) -/
def GDC.STATUS_RELEASED : Fld := ⟨0x220000, 0x0, 0x0, 19, 1⟩
def GDC.STATUS_LINK_UP : Fld := ⟨0x220000, 0x0, 0x0, 18, 1⟩
def GDC.STATUS_SNUFF_AUTO : Fld := ⟨0x220000, 0x0, 0x0, 17, 1⟩
def GDC.STATUS_OV2 : Fld := ⟨0x220000, 0x0, 0x0, 16, 1⟩
def GDC.STATUS_CHOP_FAULTY : Fld := ⟨0x220000, 0x0, 0x0, 15, 1⟩
def GDC.STATUS_UVLO : Fld := ⟨0x220000, 0x0, 0x0, 14, 1⟩
def GDC.STATUS_SNUFF : Fld := ⟨0x220000, 0x0, 0x0, 13, 1⟩
def GDC.STATUS_DUMP : Fld := ⟨0x220000, 0x0, 0x0, 12, 1⟩
def GDC.STATUS_CHOP_ON : Fld := ⟨0x220000, 0x0, 0x0, 11, 1⟩
def GDC.STATUS_CH_PROT : Fld := ⟨0x220000, 0x0, 0x0, 8, 3⟩
def GDC.STATUS_BK_PROT : Fld := ⟨0x220000, 0x0, 0x0, 4, 3⟩
def GDC.STATUS_ST_PROT : Fld := ⟨0x220000, 0x0, 0x0, 0, 3⟩
def GDC.LOAD_RESULT_REASON : Fld := ⟨0x220004, 0x0, 0x0, 24, 8⟩
def GDC.LOAD_RESULT_ITEM : Fld := ⟨0x220004, 0x0, 0x0, 0, 2⟩
def GDC.DRV_ERR_DISCARDED : Fld := ⟨0x220008, 0x0, 0x0, 16, 16⟩
def GDC.DRV_ERR_MISSING : Fld := ⟨0x220008, 0x0, 0x0, 0, 16⟩
def GDC.V_CH_ON_VALUE : Fld := ⟨0x220010, 0x0, 0x0, 0, 18⟩
def GDC.V_CH_OFF_VALUE : Fld := ⟨0x220014, 0x0, 0x0, 0, 18⟩
def GDC.V_OV1_VALUE : Fld := ⟨0x220018, 0x0, 0x0, 0, 18⟩
def GDC.V_OV2_VALUE : Fld := ⟨0x22001C, 0x0, 0x0, 0, 18⟩
def GDC.OV_TIME_T_OV1 : Fld := ⟨0x220020, 0x0, 0x0, 0, 16⟩
def GDC.CHOP_CMD_WORD : Fld := ⟨0x220024, 0x0, 0x0, 0, 18⟩
def GDC.SNUFF_CFG_SN_CH_OFF : Fld := ⟨0x220028, 0x0, 0x0, 24, 8⟩
def GDC.SNUFF_CFG_SN_CH_ON : Fld := ⟨0x220028, 0x0, 0x0, 16, 8⟩
def GDC.SNUFF_CFG_BK_ACT : Fld := ⟨0x220028, 0x0, 0x0, 2, 2⟩
def GDC.SNUFF_CFG_ST_ACT : Fld := ⟨0x220028, 0x0, 0x0, 0, 2⟩
def GDC.RETRY_CFG_WAIT : Fld := ⟨0x22002C, 0x0, 0x0, 0, 10⟩
def GDC.TRY_STATUS_UVLO : Fld := ⟨0x220030, 0x0, 0x0, 6, 2⟩
def GDC.TRY_STATUS_CH : Fld := ⟨0x220030, 0x0, 0x0, 4, 2⟩
def GDC.TRY_STATUS_BK : Fld := ⟨0x220030, 0x0, 0x0, 2, 2⟩
def GDC.TRY_STATUS_ST : Fld := ⟨0x220030, 0x0, 0x0, 0, 2⟩
def GDC.OV_STATUS_CHOPS : Fld := ⟨0x220034, 0x0, 0x0, 16, 16⟩
def GDC.OV_STATUS_TIMER : Fld := ⟨0x220034, 0x0, 0x0, 0, 16⟩
def GDC.EVENTS_SHOOT : Fld := ⟨0x220040, 0x4, 0x0, 24, 8⟩
def GDC.EVENTS_DESAT : Fld := ⟨0x220040, 0x4, 0x0, 16, 8⟩
def GDC.EVENTS_HARD : Fld := ⟨0x220040, 0x4, 0x0, 8, 8⟩
def GDC.EVENTS_DEFERRED : Fld := ⟨0x220040, 0x4, 0x0, 0, 8⟩
def GDC.TRIP_INFO_TWO_LEG : Fld := ⟨0x22004C, 0x0, 0x0, 31, 1⟩
def GDC.TRIP_INFO_SWITCH : Fld := ⟨0x22004C, 0x0, 0x0, 24, 4⟩
def GDC.TRIP_INFO_KIND : Fld := ⟨0x22004C, 0x0, 0x0, 20, 4⟩
def GDC.TRIP_INFO_NEW : Fld := ⟨0x22004C, 0x0, 0x0, 0, 1⟩
def GDC.TRIP_CCN_CCN : Fld := ⟨0x220050, 0x0, 0x0, 0, 32⟩
def GDC.LOCK_LOCK : Fld := ⟨0x2200FC, 0x0, 0x0, 0, 1⟩
def GDC.BR_CFG_DEADTIME : Fld := ⟨0x220100, 0x40, 0x0, 16, 11⟩
def GDC.BR_CFG_DS_THR : Fld := ⟨0x220100, 0x40, 0x0, 8, 5⟩
def GDC.BR_CFG_BLANK : Fld := ⟨0x220100, 0x40, 0x0, 0, 4⟩
def GDC.CH_CFG_DEADTIME : Fld := ⟨0x220180, 0x0, 0x0, 16, 11⟩
def GDC.CH_CFG_DS_THR : Fld := ⟨0x220180, 0x0, 0x0, 8, 5⟩
def GDC.CH_CFG_BLANK : Fld := ⟨0x220180, 0x0, 0x0, 0, 4⟩
def GDC.ADAPT_CFG_TARGET : Fld := ⟨0x220200, 0x0, 0x0, 16, 8⟩
def GDC.ADAPT_CFG_MAX_STEP : Fld := ⟨0x220200, 0x0, 0x0, 12, 4⟩
def GDC.ADAPT_CFG_MIN_STEP : Fld := ⟨0x220200, 0x0, 0x0, 8, 4⟩
def GDC.ADAPT_CFG_START : Fld := ⟨0x220200, 0x0, 0x0, 0, 4⟩
def GDC.ADAPT_STATE_T_OFF : Fld := ⟨0x220210, 0x4, 0x0, 24, 8⟩
def GDC.ADAPT_STATE_T_ON : Fld := ⟨0x220210, 0x4, 0x0, 16, 8⟩
def GDC.ADAPT_STATE_LIMIT : Fld := ⟨0x220210, 0x4, 0x0, 8, 1⟩
def GDC.ADAPT_STATE_SINK : Fld := ⟨0x220210, 0x4, 0x0, 4, 4⟩
def GDC.ADAPT_STATE_SOURCE : Fld := ⟨0x220210, 0x4, 0x0, 0, 4⟩

/-! ### Block PFB (07_position_feedback.md, R275) -/
def PFB.STATUS_SENT : Fld := ⟨0x230000, 0x0, 0x0, 8, 2⟩
def PFB.STATUS_SSI : Fld := ⟨0x230000, 0x0, 0x0, 6, 2⟩
def PFB.STATUS_ENC_SPD : Fld := ⟨0x230000, 0x0, 0x0, 4, 2⟩
def PFB.STATUS_ENC_POS : Fld := ⟨0x230000, 0x0, 0x0, 2, 2⟩
def PFB.STATUS_HALL : Fld := ⟨0x230000, 0x0, 0x0, 0, 2⟩
def PFB.LOAD_RESULT_REASON : Fld := ⟨0x230004, 0x0, 0x0, 24, 8⟩
def PFB.LOAD_RESULT_ITEM : Fld := ⟨0x230004, 0x0, 0x0, 0, 5⟩
def PFB.LATCH_CFG_SRC : Fld := ⟨0x230008, 0x0, 0x0, 11, 2⟩
def PFB.LATCH_CFG_T : Fld := ⟨0x230008, 0x0, 0x0, 0, 11⟩
def PFB.ARM_PROBE : Fld := ⟨0x23000C, 0x0, 0x0, 2, 2⟩
def PFB.ARM_INDEX : Fld := ⟨0x23000C, 0x0, 0x0, 0, 2⟩
def PFB.LINE_STATE_LINE : Fld := ⟨0x230010, 0x0, 0x0, 0, 18⟩
def PFB.CHATTER_LINE : Fld := ⟨0x230014, 0x0, 0x0, 0, 18⟩
def PFB.STUCK_LINE : Fld := ⟨0x230018, 0x0, 0x0, 0, 18⟩
def PFB.CHATTER_CFG_CLEAR_MS : Fld := ⟨0x23001C, 0x0, 0x0, 0, 8⟩
def PFB.LINE_CFG_GLITCH_MAX : Fld := ⟨0x230040, 0x4, 0x0, 24, 8⟩
def PFB.LINE_CFG_EDGE_MIN : Fld := ⟨0x230040, 0x4, 0x0, 12, 12⟩
def PFB.LINE_CFG_INVERT : Fld := ⟨0x230040, 0x4, 0x0, 6, 1⟩
def PFB.LINE_CFG_FILT : Fld := ⟨0x230040, 0x4, 0x0, 0, 6⟩
def PFB.LOCK_LOCK : Fld := ⟨0x2300FC, 0x0, 0x0, 0, 1⟩
def PFB.HALL_CFG_ENABLE : Fld := ⟨0x230100, 0x40, 0x0, 31, 1⟩
def PFB.HALL_CFG_P6 : Fld := ⟨0x230100, 0x40, 0x0, 18, 3⟩
def PFB.HALL_CFG_P5 : Fld := ⟨0x230100, 0x40, 0x0, 15, 3⟩
def PFB.HALL_CFG_P4 : Fld := ⟨0x230100, 0x40, 0x0, 12, 3⟩
def PFB.HALL_CFG_P3 : Fld := ⟨0x230100, 0x40, 0x0, 9, 3⟩
def PFB.HALL_CFG_P2 : Fld := ⟨0x230100, 0x40, 0x0, 6, 3⟩
def PFB.HALL_CFG_P1 : Fld := ⟨0x230100, 0x40, 0x0, 3, 3⟩
def PFB.HALL_SPD_CFG_STILL_MS : Fld := ⟨0x230104, 0x40, 0x0, 22, 10⟩
def PFB.HALL_SPD_CFG_SPAN : Fld := ⟨0x230104, 0x40, 0x0, 0, 22⟩
def PFB.HALL_SPD_K_K : Fld := ⟨0x230108, 0x40, 0x0, 0, 32⟩
def PFB.HALL_GAIN_GAIN : Fld := ⟨0x23010C, 0x40, 0x0, 0, 32⟩
def PFB.HALL_STUCK_CFG_REF : Fld := ⟨0x230110, 0x40, 0x0, 16, 3⟩
def PFB.HALL_STUCK_CFG_EDGES : Fld := ⟨0x230110, 0x40, 0x0, 0, 16⟩
def PFB.HALL_STATUS_STUCK : Fld := ⟨0x230120, 0x40, 0x0, 12, 1⟩
def PFB.HALL_STATUS_CHATTER : Fld := ⟨0x230120, 0x40, 0x0, 11, 1⟩
def PFB.HALL_STATUS_STILL : Fld := ⟨0x230120, 0x40, 0x0, 10, 1⟩
def PFB.HALL_STATUS_DIR : Fld := ⟨0x230120, 0x40, 0x0, 9, 1⟩
def PFB.HALL_STATUS_SEQ_ERR : Fld := ⟨0x230120, 0x40, 0x0, 8, 1⟩
def PFB.HALL_STATUS_IMPOSSIBLE : Fld := ⟨0x230120, 0x40, 0x0, 7, 1⟩
def PFB.HALL_STATUS_VALID : Fld := ⟨0x230120, 0x40, 0x0, 6, 1⟩
def PFB.HALL_STATUS_EPOS : Fld := ⟨0x230120, 0x40, 0x0, 3, 3⟩
def PFB.HALL_STATUS_STATE : Fld := ⟨0x230120, 0x40, 0x0, 0, 3⟩
def PFB.HALL_COUNT_COUNT : Fld := ⟨0x230124, 0x40, 0x0, 0, 32⟩
def PFB.HALL_SPEED_SPEED : Fld := ⟨0x230128, 0x40, 0x0, 0, 18⟩
def PFB.HALL_EVENTS_HI : Fld := ⟨0x23012C, 0x40, 0x0, 16, 16⟩
def PFB.HALL_EVENTS_LO : Fld := ⟨0x23012C, 0x40, 0x0, 0, 16⟩
def PFB.ENC_CFG_ENABLE : Fld := ⟨0x230200, 0x40, 0x0, 31, 1⟩
def PFB.ENC_CFG_DIR_INV : Fld := ⟨0x230200, 0x40, 0x0, 30, 1⟩
def PFB.ENC_CFG_INDEX_MODE : Fld := ⟨0x230200, 0x40, 0x0, 28, 2⟩
def PFB.ENC_CFG_Z_POL : Fld := ⟨0x230200, 0x40, 0x0, 27, 1⟩
def PFB.ENC_CFG_GATE : Fld := ⟨0x230200, 0x40, 0x0, 26, 1⟩
def PFB.ENC_CFG_GATE_AB : Fld := ⟨0x230200, 0x40, 0x0, 24, 2⟩
def PFB.ENC_CFG_MODULUS : Fld := ⟨0x230200, 0x40, 0x0, 0, 24⟩
def PFB.ENC_INDEX_VALUE_VALUE : Fld := ⟨0x230204, 0x40, 0x0, 0, 32⟩
def PFB.ENC_SPD_CFG_STILL_MS : Fld := ⟨0x230208, 0x40, 0x0, 22, 10⟩
def PFB.ENC_SPD_CFG_SPAN : Fld := ⟨0x230208, 0x40, 0x0, 0, 22⟩
def PFB.ENC_SPD_K_K : Fld := ⟨0x23020C, 0x40, 0x0, 0, 32⟩
def PFB.ENC_GAIN_GAIN : Fld := ⟨0x230210, 0x40, 0x0, 0, 32⟩
def PFB.ENC_STUCK_CFG_REF : Fld := ⟨0x230214, 0x40, 0x0, 16, 3⟩
def PFB.ENC_STUCK_CFG_EDGES : Fld := ⟨0x230214, 0x40, 0x0, 0, 16⟩
def PFB.ENC_STATUS_LEVELS : Fld := ⟨0x230220, 0x40, 0x0, 10, 3⟩
def PFB.ENC_STATUS_STUCK : Fld := ⟨0x230220, 0x40, 0x0, 9, 1⟩
def PFB.ENC_STATUS_CHATTER : Fld := ⟨0x230220, 0x40, 0x0, 8, 1⟩
def PFB.ENC_STATUS_STILL : Fld := ⟨0x230220, 0x40, 0x0, 7, 1⟩
def PFB.ENC_STATUS_DIR : Fld := ⟨0x230220, 0x40, 0x0, 6, 1⟩
def PFB.ENC_STATUS_INDEX : Fld := ⟨0x230220, 0x40, 0x0, 5, 1⟩
def PFB.ENC_STATUS_SKIP : Fld := ⟨0x230220, 0x40, 0x0, 4, 1⟩
def PFB.ENC_STATUS_ARMED : Fld := ⟨0x230220, 0x40, 0x0, 3, 1⟩
def PFB.ENC_STATUS_REFERENCED : Fld := ⟨0x230220, 0x40, 0x0, 2, 1⟩
def PFB.ENC_STATUS_SPD_VALID : Fld := ⟨0x230220, 0x40, 0x0, 1, 1⟩
def PFB.ENC_STATUS_POS_VALID : Fld := ⟨0x230220, 0x40, 0x0, 0, 1⟩
def PFB.ENC_COUNT_COUNT : Fld := ⟨0x230224, 0x40, 0x0, 0, 32⟩
def PFB.ENC_SPEED_SPEED : Fld := ⟨0x230228, 0x40, 0x0, 0, 18⟩
def PFB.ENC_INDEX_PREV_COUNT : Fld := ⟨0x23022C, 0x40, 0x0, 0, 32⟩
def PFB.ENC_EVENTS_HI : Fld := ⟨0x230230, 0x40, 0x0, 16, 16⟩
def PFB.ENC_EVENTS_LO : Fld := ⟨0x230230, 0x40, 0x0, 0, 16⟩
def PFB.SSI_CFG_ENABLE : Fld := ⟨0x230300, 0x40, 0x0, 31, 1⟩
def PFB.SSI_CFG_GRAY : Fld := ⟨0x230300, 0x40, 0x0, 30, 1⟩
def PFB.SSI_CFG_PARITY : Fld := ⟨0x230300, 0x40, 0x0, 28, 2⟩
def PFB.SSI_CFG_ERR_BITS : Fld := ⟨0x230300, 0x40, 0x0, 26, 2⟩
def PFB.SSI_CFG_ERR_POL : Fld := ⟨0x230300, 0x40, 0x0, 25, 1⟩
def PFB.SSI_CFG_WRAP : Fld := ⟨0x230300, 0x40, 0x0, 24, 1⟩
def PFB.SSI_CFG_LEN : Fld := ⟨0x230300, 0x40, 0x0, 16, 6⟩
def PFB.SSI_CFG_DIV : Fld := ⟨0x230300, 0x40, 0x0, 0, 12⟩
def PFB.SSI_TIMING_START : Fld := ⟨0x230304, 0x40, 0x0, 19, 13⟩
def PFB.SSI_TIMING_DELAY : Fld := ⟨0x230304, 0x40, 0x0, 11, 8⟩
def PFB.SSI_ORIGIN_VALUE : Fld := ⟨0x230308, 0x40, 0x0, 0, 32⟩
def PFB.SSI_GAIN_VALUE : Fld := ⟨0x23030C, 0x40, 0x0, 0, 32⟩
def PFB.SSI_RAW_RAW : Fld := ⟨0x230310, 0x40, 0x0, 0, 32⟩
def PFB.SSI_STATUS_CHATTER : Fld := ⟨0x230314, 0x40, 0x0, 5, 1⟩
def PFB.SSI_STATUS_IDLE_FAULT : Fld := ⟨0x230314, 0x40, 0x0, 4, 1⟩
def PFB.SSI_STATUS_ERR_BIT : Fld := ⟨0x230314, 0x40, 0x0, 3, 1⟩
def PFB.SSI_STATUS_PARITY_ERR : Fld := ⟨0x230314, 0x40, 0x0, 2, 1⟩
def PFB.SSI_STATUS_NEW : Fld := ⟨0x230314, 0x40, 0x0, 1, 1⟩
def PFB.SSI_STATUS_VALID : Fld := ⟨0x230314, 0x40, 0x0, 0, 1⟩
def PFB.SSI_EVENTS_PARITY : Fld := ⟨0x230318, 0x40, 0x0, 16, 16⟩
def PFB.SSI_EVENTS_IDLE : Fld := ⟨0x230318, 0x40, 0x0, 8, 8⟩
def PFB.SSI_EVENTS_ERRBIT : Fld := ⟨0x230318, 0x40, 0x0, 0, 8⟩
def PFB.SENT_CFG_ENABLE : Fld := ⟨0x230400, 0x80, 0x0, 31, 1⟩
def PFB.SENT_CFG_CRC_LEGACY : Fld := ⟨0x230400, 0x80, 0x0, 30, 1⟩
def PFB.SENT_CFG_PAUSE : Fld := ⟨0x230400, 0x80, 0x0, 29, 1⟩
def PFB.SENT_CFG_NIBBLES : Fld := ⟨0x230400, 0x80, 0x0, 26, 3⟩
def PFB.SENT_CFG_FC1_BITS : Fld := ⟨0x230400, 0x80, 0x0, 21, 5⟩
def PFB.SENT_CFG_FC2_REV : Fld := ⟨0x230400, 0x80, 0x0, 20, 1⟩
def PFB.SENT_CFG_AGE_LIMIT : Fld := ⟨0x230400, 0x80, 0x0, 13, 7⟩
def PFB.SENT_CFG_TICK : Fld := ⟨0x230400, 0x80, 0x0, 0, 13⟩
def PFB.SENT_ORIGIN1_VALUE : Fld := ⟨0x230404, 0x80, 0x0, 0, 32⟩
def PFB.SENT_GAIN1_VALUE : Fld := ⟨0x230408, 0x80, 0x0, 0, 32⟩
def PFB.SENT_ORIGIN2_VALUE : Fld := ⟨0x23040C, 0x80, 0x0, 0, 32⟩
def PFB.SENT_GAIN2_VALUE : Fld := ⟨0x230410, 0x80, 0x0, 0, 32⟩
def PFB.SENT_FAST_STATUS : Fld := ⟨0x230414, 0x80, 0x0, 28, 4⟩
def PFB.SENT_FAST_DATA : Fld := ⟨0x230414, 0x80, 0x0, 0, 24⟩
def PFB.SENT_STATUS_FRAME_ERR : Fld := ⟨0x230418, 0x80, 0x0, 15, 1⟩
def PFB.SENT_STATUS_CHATTER : Fld := ⟨0x230418, 0x80, 0x0, 14, 1⟩
def PFB.SENT_STATUS_AGE : Fld := ⟨0x230418, 0x80, 0x0, 6, 8⟩
def PFB.SENT_STATUS_STATUS : Fld := ⟨0x230418, 0x80, 0x0, 2, 4⟩
def PFB.SENT_STATUS_NEW : Fld := ⟨0x230418, 0x80, 0x0, 1, 1⟩
def PFB.SENT_STATUS_VALID : Fld := ⟨0x230418, 0x80, 0x0, 0, 1⟩
def PFB.SENT_EVENTS_CRC : Fld := ⟨0x23041C, 0x80, 0x0, 24, 8⟩
def PFB.SENT_EVENTS_SYNC : Fld := ⟨0x23041C, 0x80, 0x0, 16, 8⟩
def PFB.SENT_EVENTS_NIBBLE : Fld := ⟨0x23041C, 0x80, 0x0, 8, 8⟩
def PFB.SENT_EVENTS_SLOW_CRC : Fld := ⟨0x23041C, 0x80, 0x0, 0, 8⟩
def PFB.SENT_SLOW_ID : Fld := ⟨0x230500, 0x40, 0x4, 24, 8⟩
def PFB.SENT_SLOW_VALID : Fld := ⟨0x230500, 0x40, 0x4, 23, 1⟩
def PFB.SENT_SLOW_ENHANCED : Fld := ⟨0x230500, 0x40, 0x4, 22, 1⟩
def PFB.SENT_SLOW_DATA : Fld := ⟨0x230500, 0x40, 0x4, 0, 16⟩
def PFB.PRB_CFG_ENABLE : Fld := ⟨0x230600, 0x20, 0x0, 31, 1⟩
def PFB.PRB_CFG_CONTINUOUS : Fld := ⟨0x230600, 0x20, 0x0, 30, 1⟩
def PFB.PRB_CFG_EDGE : Fld := ⟨0x230600, 0x20, 0x0, 28, 2⟩
def PFB.PRB_CFG_SRC : Fld := ⟨0x230600, 0x20, 0x0, 25, 3⟩
def PFB.PRB_POS_VALUE : Fld := ⟨0x230604, 0x20, 0x0, 0, 32⟩
def PFB.PRB_CCN_VALUE : Fld := ⟨0x230608, 0x20, 0x0, 0, 32⟩
def PFB.PRB_TIME_SAMPLE : Fld := ⟨0x23060C, 0x20, 0x0, 0, 16⟩
def PFB.PRB_STATUS_EVENTS : Fld := ⟨0x230610, 0x20, 0x0, 16, 16⟩
def PFB.PRB_STATUS_OVERRUN : Fld := ⟨0x230610, 0x20, 0x0, 4, 1⟩
def PFB.PRB_STATUS_INDEX : Fld := ⟨0x230610, 0x20, 0x0, 3, 1⟩
def PFB.PRB_STATUS_SKIP : Fld := ⟨0x230610, 0x20, 0x0, 2, 1⟩
def PFB.PRB_STATUS_VALID : Fld := ⟨0x230610, 0x20, 0x0, 1, 1⟩
def PFB.PRB_STATUS_NEW : Fld := ⟨0x230610, 0x20, 0x0, 0, 1⟩

/-! ### Block SFU (09_safety_functions.md, R341) -/
def SFU.STATUS_UNCERTIFIED : Fld := ⟨0x240000, 0x0, 0x0, 24, 1⟩
def SFU.STATUS_CONFIRMED : Fld := ⟨0x240000, 0x0, 0x0, 23, 1⟩
def SFU.STATUS_COMM_MODE : Fld := ⟨0x240000, 0x0, 0x0, 22, 1⟩
def SFU.STATUS_SESSION : Fld := ⟨0x240000, 0x0, 0x0, 21, 1⟩
def SFU.STATUS_STOP : Fld := ⟨0x240000, 0x0, 0x0, 20, 1⟩
def SFU.STATUS_LL_SPEED_REQ : Fld := ⟨0x240000, 0x0, 0x0, 19, 1⟩
def SFU.STATUS_SLR_ACTIVE : Fld := ⟨0x240000, 0x0, 0x0, 18, 1⟩
def SFU.STATUS_SLP_ACTIVE : Fld := ⟨0x240000, 0x0, 0x0, 17, 1⟩
def SFU.STATUS_STILL : Fld := ⟨0x240000, 0x0, 0x0, 16, 1⟩
def SFU.STATUS_DEMAND : Fld := ⟨0x240000, 0x0, 0x0, 8, 8⟩
def SFU.STATUS_TEST_PENDING : Fld := ⟨0x240000, 0x0, 0x0, 0, 8⟩
def SFU.INPUT_DISC_LATCHED : Fld := ⟨0x240004, 0x0, 0x0, 24, 8⟩
def SFU.INPUT_OWN_DEMAND : Fld := ⟨0x240004, 0x0, 0x0, 16, 8⟩
def SFU.INPUT_CONTACTS : Fld := ⟨0x240004, 0x0, 0x0, 0, 16⟩
def SFU.SO_STATUS_SO1 : Fld := ⟨0x240008, 0x0, 0x0, 8, 4⟩
def SFU.SO_STATUS_OVERLOAD_0 : Fld := ⟨0x240008, 0x0, 0x0, 3, 1⟩
def SFU.SO_STATUS_STUCK_0 : Fld := ⟨0x240008, 0x0, 0x0, 2, 1⟩
def SFU.SO_STATUS_READBACK_0 : Fld := ⟨0x240008, 0x0, 0x0, 1, 1⟩
def SFU.SO_STATUS_ON_0 : Fld := ⟨0x240008, 0x0, 0x0, 0, 1⟩
def SFU.STOP_STATUS_COMMANDED : Fld := ⟨0x24000C, 0x0, 0x0, 31, 1⟩
def SFU.STOP_STATUS_KIND : Fld := ⟨0x24000C, 0x0, 0x0, 27, 4⟩
def SFU.STOP_STATUS_END : Fld := ⟨0x24000C, 0x0, 0x0, 25, 2⟩
def SFU.STOP_STATUS_ELAPSED : Fld := ⟨0x24000C, 0x0, 0x0, 0, 19⟩
def SFU.LL_TIME_LEFT_MS : Fld := ⟨0x240010, 0x0, 0x0, 0, 19⟩
def SFU.STOP_CCN_CCN : Fld := ⟨0x240014, 0x0, 0x0, 0, 32⟩
def SFU.CONFIRM_STATUS_LAST_RESULT : Fld := ⟨0x240018, 0x0, 0x0, 28, 4⟩
def SFU.CONFIRM_STATUS_REPAIRED : Fld := ⟨0x240018, 0x0, 0x0, 16, 8⟩
def SFU.LOAD_RESULT_REASON : Fld := ⟨0x24001C, 0x0, 0x0, 24, 8⟩
def SFU.LOAD_RESULT_ITEM : Fld := ⟨0x24001C, 0x0, 0x0, 0, 3⟩
def SFU.CHECK_VALUE_VALUE : Fld := ⟨0x240020, 0x0, 0x0, 0, 32⟩
def SFU.CONFIRMED_VALUE_VALUE : Fld := ⟨0x240024, 0x0, 0x0, 0, 32⟩
def SFU.EVENTS_DISC : Fld := ⟨0x24002C, 0x0, 0x0, 24, 8⟩
def SFU.EVENTS_SO : Fld := ⟨0x24002C, 0x0, 0x0, 16, 8⟩
def SFU.EVENTS_STOPS : Fld := ⟨0x24002C, 0x0, 0x0, 8, 8⟩
def SFU.EVENTS_REFUSED : Fld := ⟨0x24002C, 0x0, 0x0, 0, 8⟩
def SFU.CFG_DUPLEX_START : Fld := ⟨0x240100, 0x0, 0x0, 31, 1⟩
def SFU.CFG_IN_IDX : Fld := ⟨0x240100, 0x0, 0x0, 24, 7⟩
def SFU.CFG_SPEED_IDX : Fld := ⟨0x240100, 0x0, 0x0, 17, 7⟩
def SFU.CFG_POS_IDX : Fld := ⟨0x240100, 0x0, 0x0, 10, 7⟩
def SFU.CFG_RATE_IDX : Fld := ⟨0x240100, 0x0, 0x0, 3, 7⟩
def SFU.MASKS_RATE_GENS : Fld := ⟨0x240104, 0x0, 0x0, 16, 4⟩
def SFU.MASKS_TQ_SLOTS : Fld := ⟨0x240104, 0x0, 0x0, 0, 8⟩
def SFU.IN_CFG_ENABLE : Fld := ⟨0x240110, 0x4, 0x0, 31, 1⟩
def SFU.IN_CFG_SINGLE : Fld := ⟨0x240110, 0x4, 0x0, 30, 1⟩
def SFU.IN_CFG_ANTIVALENT : Fld := ⟨0x240110, 0x4, 0x0, 29, 1⟩
def SFU.IN_CFG_IMPLEMENT : Fld := ⟨0x240110, 0x4, 0x0, 28, 1⟩
def SFU.IN_CFG_FUNC : Fld := ⟨0x240110, 0x4, 0x0, 25, 3⟩
def SFU.IN_CFG_DEB : Fld := ⟨0x240110, 0x4, 0x0, 20, 5⟩
def SFU.IN_CFG_DISC : Fld := ⟨0x240110, 0x4, 0x0, 0, 9⟩
def SFU.STOP_CFG_TIMEOUT : Fld := ⟨0x240140, 0x0, 0x0, 16, 16⟩
def SFU.STOP_CFG_DELAY : Fld := ⟨0x240140, 0x0, 0x0, 8, 8⟩
def SFU.STOP_CFG_PERSIST : Fld := ⟨0x240140, 0x0, 0x0, 4, 4⟩
def SFU.STOP_DECEL_VALUE : Fld := ⟨0x240144, 0x0, 0x0, 0, 18⟩
def SFU.STOP_MARGIN_VALUE : Fld := ⟨0x240148, 0x0, 0x0, 0, 18⟩
def SFU.STILL_TIME : Fld := ⟨0x24014C, 0x0, 0x0, 20, 12⟩
def SFU.STILL_SPEED : Fld := ⟨0x24014C, 0x0, 0x0, 0, 18⟩
def SFU.STOP_RATE_VALUE : Fld := ⟨0x240150, 0x0, 0x0, 0, 18⟩
def SFU.LL_CFG_GRACE : Fld := ⟨0x240160, 0x0, 0x0, 9, 7⟩
def SFU.LL_CFG_TIME : Fld := ⟨0x240160, 0x0, 0x0, 0, 9⟩
def SFU.LL_RATE_VALUE : Fld := ⟨0x240164, 0x0, 0x0, 0, 18⟩
def SFU.LL_SPEED_VALUE : Fld := ⟨0x240168, 0x0, 0x0, 0, 18⟩
def SFU.SLP_LO_VALUE : Fld := ⟨0x240170, 0x0, 0x0, 0, 18⟩
def SFU.SLP_HI_VALUE : Fld := ⟨0x240174, 0x0, 0x0, 0, 18⟩
def SFU.SLP_CFG_ALWAYS : Fld := ⟨0x240178, 0x0, 0x0, 31, 1⟩
def SFU.SLP_CFG_REACT : Fld := ⟨0x240178, 0x0, 0x0, 27, 1⟩
def SFU.SLP_CFG_GRACE : Fld := ⟨0x240178, 0x0, 0x0, 8, 16⟩
def SFU.SLP_CFG_PERSIST : Fld := ⟨0x240178, 0x0, 0x0, 0, 8⟩
def SFU.SLR_LIMIT_VALUE : Fld := ⟨0x240180, 0x0, 0x0, 0, 18⟩
def SFU.SLR_FRAC_VALUE : Fld := ⟨0x240184, 0x0, 0x0, 0, 18⟩
def SFU.SLR_CFG_ALWAYS : Fld := ⟨0x240188, 0x0, 0x0, 31, 1⟩
def SFU.SLR_CFG_REACT : Fld := ⟨0x240188, 0x0, 0x0, 27, 1⟩
def SFU.SLR_CFG_GRACE : Fld := ⟨0x240188, 0x0, 0x0, 8, 16⟩
def SFU.SLR_CFG_PERSIST : Fld := ⟨0x240188, 0x0, 0x0, 0, 8⟩
def SFU.SO_CFG_ENABLE : Fld := ⟨0x240190, 0x4, 0x0, 31, 1⟩
def SFU.SO_CFG_SHARED : Fld := ⟨0x240190, 0x4, 0x0, 30, 1⟩
def SFU.SO_CFG_MODE_MASK : Fld := ⟨0x240190, 0x4, 0x0, 24, 5⟩
def SFU.SO_CFG_TEST_INT : Fld := ⟨0x240190, 0x4, 0x0, 16, 8⟩
def SFU.SO_CFG_PULSE : Fld := ⟨0x240190, 0x4, 0x0, 8, 8⟩

/-! ### Block WCK (12_networks.md, R438) -/
def WCK.STATUS_TARGET : Fld := ⟨0x280000, 0x0, 0x0, 24, 2⟩
def WCK.STATUS_SW_PENDING : Fld := ⟨0x280000, 0x0, 0x0, 23, 1⟩
def WCK.STATUS_MODE : Fld := ⟨0x280000, 0x0, 0x0, 21, 2⟩
def WCK.STATUS_TX_EN : Fld := ⟨0x280000, 0x0, 0x0, 20, 1⟩
def WCK.STATUS_VALID_CYCLE : Fld := ⟨0x280000, 0x0, 0x0, 19, 1⟩
def WCK.STATUS_SYNCED : Fld := ⟨0x280000, 0x0, 0x0, 18, 1⟩
def WCK.STATUS_WEST_UP : Fld := ⟨0x280000, 0x0, 0x0, 17, 1⟩
def WCK.STATUS_EAST_UP : Fld := ⟨0x280000, 0x0, 0x0, 16, 1⟩
def WCK.LOAD_RESULT_REASON : Fld := ⟨0x280004, 0x0, 0x0, 24, 8⟩
def WCK.LOAD_RESULT_ITEM : Fld := ⟨0x280004, 0x0, 0x0, 0, 10⟩
def WCK.WCN_VALUE : Fld := ⟨0x280008, 0x0, 0x0, 0, 32⟩
def WCK.SYNC_OFFSET_VALUE : Fld := ⟨0x28000C, 0x0, 0x0, 0, 32⟩
def WCK.BOUNDARY_CCN_VALUE : Fld := ⟨0x280010, 0x0, 0x0, 0, 32⟩
def WCK.BOUNDARY_TICK_TICK : Fld := ⟨0x280014, 0x0, 0x0, 0, 19⟩
def WCK.CTL_WIN_NS10 : Fld := ⟨0x280018, 0x0, 0x0, 0, 20⟩
def WCK.W_MIN_NS10 : Fld := ⟨0x28001C, 0x0, 0x0, 0, 20⟩
def WCK.SW_WCN_VALUE : Fld := ⟨0x280020, 0x0, 0x0, 0, 32⟩
def WCK.SW_ACKS_VALUE : Fld := ⟨0x280024, 0x0, 0x0, 0, 32⟩
def WCK.SW_RESULT_RESULT : Fld := ⟨0x280028, 0x0, 0x0, 28, 4⟩
def WCK.SW_RESULT_TARGET : Fld := ⟨0x280028, 0x0, 0x0, 26, 2⟩
def WCK.SW_RESULT_ANNOUNCER : Fld := ⟨0x280028, 0x0, 0x0, 25, 1⟩
def WCK.SW_RESULT_SWITCHES : Fld := ⟨0x280028, 0x0, 0x0, 0, 16⟩
def WCK.CFG_ENABLE : Fld := ⟨0x280040, 0x0, 0x0, 31, 1⟩
def WCK.CFG_FOLLOW : Fld := ⟨0x280040, 0x0, 0x0, 30, 1⟩
def WCK.CFG_MODE_REQ : Fld := ⟨0x280040, 0x0, 0x0, 28, 2⟩
def WCK.CFG_SW_LEAD : Fld := ⟨0x280040, 0x0, 0x0, 24, 4⟩
def WCK.CFG_NODE : Fld := ⟨0x280040, 0x0, 0x0, 16, 5⟩
def WCK.CFG_RING_NODES : Fld := ⟨0x280040, 0x0, 0x0, 8, 6⟩
def WCK.CFG_PRIO1 : Fld := ⟨0x280040, 0x0, 0x0, 0, 8⟩
def WCK.NODE_MASK_NODES : Fld := ⟨0x280044, 0x0, 0x0, 0, 32⟩
def WCK.CYCLE_LENGTH : Fld := ⟨0x280048, 0x0, 0x0, 0, 20⟩
def WCK.ETH_ETHERTYPE : Fld := ⟨0x28004C, 0x0, 0x0, 16, 16⟩
def WCK.ETH_VLAN : Fld := ⟨0x28004C, 0x0, 0x0, 15, 1⟩
def WCK.ETH_PCP : Fld := ⟨0x28004C, 0x0, 0x0, 12, 3⟩
def WCK.ETH_VID : Fld := ⟨0x28004C, 0x0, 0x0, 0, 12⟩
def WCK.TIMING_LATE : Fld := ⟨0x280050, 0x0, 0x0, 20, 8⟩
def WCK.TIMING_HOP : Fld := ⟨0x280050, 0x0, 0x0, 8, 12⟩
def WCK.TIMING_GUARD : Fld := ⟨0x280050, 0x0, 0x0, 0, 8⟩
def WCK.PTP_SYNC_LIMIT : Fld := ⟨0x280054, 0x0, 0x0, 8, 8⟩
def WCK.PTP_SYNC_EXP : Fld := ⟨0x280054, 0x0, 0x0, 0, 3⟩
def WCK.GROUP_MAC_LO_ADDR : Fld := ⟨0x280058, 0x0, 0x0, 0, 32⟩
def WCK.GROUP_MAC_HI_ADDR : Fld := ⟨0x28005C, 0x0, 0x0, 0, 32⟩
def WCK.MAC_LO_ADDR : Fld := ⟨0x280060, 0x0, 0x0, 0, 32⟩
def WCK.MAC_HI_ADDR : Fld := ⟨0x280064, 0x0, 0x0, 0, 32⟩
def WCK.PORT_CFG_ENABLE : Fld := ⟨0x280070, 0x4, 0x0, 31, 1⟩
def WCK.PORT_CFG_BE_BREAK : Fld := ⟨0x280070, 0x4, 0x0, 30, 1⟩
def WCK.PORT_CFG_IF : Fld := ⟨0x280070, 0x4, 0x0, 28, 2⟩
def WCK.PORT_STATUS_LINK : Fld := ⟨0x280078, 0x4, 0x0, 31, 1⟩
def WCK.PORT_STATUS_DOWNS : Fld := ⟨0x280078, 0x4, 0x0, 0, 16⟩
def WCK.RX_COUNT_HI : Fld := ⟨0x280080, 0x4, 0x0, 16, 16⟩
def WCK.RX_COUNT_LO : Fld := ⟨0x280080, 0x4, 0x0, 0, 16⟩
def WCK.MISSED_HI : Fld := ⟨0x280088, 0x4, 0x0, 16, 16⟩
def WCK.MISSED_LO : Fld := ⟨0x280088, 0x4, 0x0, 0, 16⟩
def WCK.BE_COUNT_HI : Fld := ⟨0x280090, 0x0, 0x0, 16, 16⟩
def WCK.BE_COUNT_LO : Fld := ⟨0x280090, 0x0, 0x0, 0, 16⟩
def WCK.MSG_CFG_ENABLE : Fld := ⟨0x280100, 0x4, 0x0, 31, 1⟩
def WCK.MSG_CFG_LEN : Fld := ⟨0x280100, 0x4, 0x0, 0, 9⟩
def WCK.MSG_STATUS_AGE : Fld := ⟨0x280300, 0x4, 0x0, 24, 8⟩
def WCK.MSG_STATUS_TXAGE : Fld := ⟨0x280300, 0x4, 0x0, 16, 8⟩
def WCK.MSG_STATUS_HOLD : Fld := ⟨0x280300, 0x4, 0x0, 15, 1⟩
def WCK.MSG_STATUS_PRIMARY : Fld := ⟨0x280300, 0x4, 0x0, 14, 1⟩
def WCK.MSG_STATUS_LANE : Fld := ⟨0x280300, 0x4, 0x0, 12, 2⟩
def WCK.RXSIG_ENABLE : Fld := ⟨0x280500, 0x4, 0x0, 31, 1⟩
def WCK.RXSIG_LEN : Fld := ⟨0x280500, 0x4, 0x0, 23, 5⟩
def WCK.RXSIG_MSG : Fld := ⟨0x280500, 0x4, 0x0, 11, 7⟩
def WCK.RXSIG_BITPOS : Fld := ⟨0x280500, 0x4, 0x0, 0, 11⟩
def WCK.TXSIG_ENABLE : Fld := ⟨0x280600, 0x4, 0x0, 31, 1⟩
def WCK.TXSIG_LEN : Fld := ⟨0x280600, 0x4, 0x0, 23, 5⟩
def WCK.TXSIG_MSG : Fld := ⟨0x280600, 0x4, 0x0, 11, 7⟩
def WCK.TXSIG_BITPOS : Fld := ⟨0x280600, 0x4, 0x0, 0, 11⟩
def WCK.SLOT_VALID : Fld := ⟨0x281000, 0x100, 0x4, 31, 1⟩
def WCK.SLOT_OWNER : Fld := ⟨0x281000, 0x100, 0x4, 26, 5⟩
def WCK.SLOT_MSG : Fld := ⟨0x281000, 0x100, 0x4, 19, 7⟩
def WCK.SLOT_OFFSET : Fld := ⟨0x281000, 0x100, 0x4, 0, 19⟩

/-! ### Block CANn (12_networks.md, R439) -/
def CAN.CTRL_ENABLE : Fld := ⟨0x290000, 0x10000, 0x0, 31, 1⟩
def CAN.CTRL_MODE : Fld := ⟨0x290000, 0x10000, 0x0, 29, 2⟩
def CAN.CTRL_AUTO_REC : Fld := ⟨0x290000, 0x10000, 0x0, 28, 1⟩
def CAN.CTRL_ISO : Fld := ⟨0x290000, 0x10000, 0x0, 27, 1⟩
def CAN.CTRL_FD : Fld := ⟨0x290000, 0x10000, 0x0, 26, 1⟩
def CAN.NBT_BRP : Fld := ⟨0x290004, 0x10000, 0x0, 27, 5⟩
def CAN.NBT_TSEG1 : Fld := ⟨0x290004, 0x10000, 0x0, 19, 8⟩
def CAN.NBT_TSEG2 : Fld := ⟨0x290004, 0x10000, 0x0, 12, 7⟩
def CAN.NBT_SJW : Fld := ⟨0x290004, 0x10000, 0x0, 5, 7⟩
def CAN.DBT_BRP : Fld := ⟨0x290008, 0x10000, 0x0, 27, 5⟩
def CAN.DBT_TSEG1 : Fld := ⟨0x290008, 0x10000, 0x0, 22, 5⟩
def CAN.DBT_TSEG2 : Fld := ⟨0x290008, 0x10000, 0x0, 18, 4⟩
def CAN.DBT_SJW : Fld := ⟨0x290008, 0x10000, 0x0, 14, 4⟩
def CAN.DBT_TDC : Fld := ⟨0x290008, 0x10000, 0x0, 13, 1⟩
def CAN.DBT_TDCO : Fld := ⟨0x290008, 0x10000, 0x0, 6, 7⟩
def CAN.STATUS_TEC : Fld := ⟨0x29000C, 0x10000, 0x0, 24, 8⟩
def CAN.STATUS_REC : Fld := ⟨0x29000C, 0x10000, 0x0, 16, 7⟩
def CAN.STATUS_STATE : Fld := ⟨0x29000C, 0x10000, 0x0, 14, 2⟩
def CAN.STATUS_ISO_STATE : Fld := ⟨0x29000C, 0x10000, 0x0, 12, 2⟩
def CAN.STATUS_ADDR : Fld := ⟨0x29000C, 0x10000, 0x0, 0, 8⟩
def CAN.ERR_BUS_OFF : Fld := ⟨0x290010, 0x10000, 0x0, 24, 8⟩
def CAN.ERR_TX_LATE : Fld := ⟨0x290010, 0x10000, 0x0, 16, 8⟩
def CAN.ERR_REMOTE : Fld := ⟨0x290010, 0x10000, 0x0, 8, 8⟩
def CAN.ERR_ADDR_LOST : Fld := ⟨0x290010, 0x10000, 0x0, 0, 8⟩
def CAN.ISO_CFG_PREF_C : Fld := ⟨0x290014, 0x10000, 0x0, 24, 8⟩
def CAN.ISO_CFG_PREF_B : Fld := ⟨0x290014, 0x10000, 0x0, 16, 8⟩
def CAN.ISO_CFG_PREF_A : Fld := ⟨0x290014, 0x10000, 0x0, 8, 8⟩
def CAN.ISO_CFG_ALT_COUNT : Fld := ⟨0x290014, 0x10000, 0x0, 0, 8⟩
def CAN.NAME_LO_NAME : Fld := ⟨0x290018, 0x10000, 0x0, 0, 32⟩
def CAN.NAME_HI_NAME : Fld := ⟨0x29001C, 0x10000, 0x0, 0, 32⟩
def CAN.LOAD_RESULT_REASON : Fld := ⟨0x290020, 0x10000, 0x0, 24, 8⟩
def CAN.LOAD_RESULT_ITEM : Fld := ⟨0x290020, 0x10000, 0x0, 0, 6⟩
def CAN.TXB_CFG_ENABLE : Fld := ⟨0x290100, 0x10000, 0x8, 31, 1⟩
def CAN.TXB_CFG_ROLE : Fld := ⟨0x290100, 0x10000, 0x8, 30, 1⟩
def CAN.TXB_CFG_EVENT : Fld := ⟨0x290100, 0x10000, 0x8, 29, 1⟩
def CAN.TXB_CFG_FDF : Fld := ⟨0x290100, 0x10000, 0x8, 28, 1⟩
def CAN.TXB_CFG_BRS : Fld := ⟨0x290100, 0x10000, 0x8, 27, 1⟩
def CAN.TXB_CFG_SA_INSERT : Fld := ⟨0x290100, 0x10000, 0x8, 26, 1⟩
def CAN.TXB_CFG_AGE_EN : Fld := ⟨0x290100, 0x10000, 0x8, 25, 1⟩
def CAN.TXB_CFG_AGE_POS : Fld := ⟨0x290100, 0x10000, 0x8, 16, 9⟩
def CAN.TXB_CFG_DLC : Fld := ⟨0x290100, 0x10000, 0x8, 12, 4⟩
def CAN.TXB_CFG_PERIOD : Fld := ⟨0x290100, 0x10000, 0x8, 0, 12⟩
def CAN.TXB_ID_IDE : Fld := ⟨0x290104, 0x10000, 0x8, 31, 1⟩
def CAN.TXB_ID_ID : Fld := ⟨0x290104, 0x10000, 0x8, 0, 29⟩
def CAN.RXF_CFG_ENABLE : Fld := ⟨0x290200, 0x10000, 0x10, 31, 1⟩
def CAN.RXF_CFG_IDE : Fld := ⟨0x290200, 0x10000, 0x10, 30, 1⟩
def CAN.RXF_CFG_EXPECT : Fld := ⟨0x290200, 0x10000, 0x10, 0, 12⟩
def CAN.RXF_ID_VALUE : Fld := ⟨0x290204, 0x10000, 0x10, 0, 29⟩
def CAN.RXF_MASK_VALUE : Fld := ⟨0x290208, 0x10000, 0x10, 0, 29⟩
def CAN.RXF_STATUS_AGE : Fld := ⟨0x29020C, 0x10000, 0x10, 24, 8⟩
def CAN.RXF_STATUS_FRAMES : Fld := ⟨0x29020C, 0x10000, 0x10, 0, 16⟩
def CAN.TXSIG_ENABLE : Fld := ⟨0x290400, 0x10000, 0x4, 31, 1⟩
def CAN.TXSIG_LEN : Fld := ⟨0x290400, 0x10000, 0x4, 23, 5⟩
def CAN.TXSIG_REF : Fld := ⟨0x290400, 0x10000, 0x4, 18, 5⟩
def CAN.TXSIG_BITPOS : Fld := ⟨0x290400, 0x10000, 0x4, 0, 9⟩
def CAN.RXSIG_ENABLE : Fld := ⟨0x290440, 0x10000, 0x4, 31, 1⟩
def CAN.RXSIG_LEN : Fld := ⟨0x290440, 0x10000, 0x4, 23, 5⟩
def CAN.RXSIG_REF : Fld := ⟨0x290440, 0x10000, 0x4, 18, 5⟩
def CAN.RXSIG_BITPOS : Fld := ⟨0x290440, 0x10000, 0x4, 0, 9⟩

/-! ### Block STM (13_storage_recorder.md, R461) -/
def STM.STATUS_REPLAYED : Fld := ⟨0x300000, 0x0, 0x0, 7, 1⟩
def STM.STATUS_DIR_COPY : Fld := ⟨0x300000, 0x0, 0x0, 6, 1⟩
def STM.STATUS_ACTIVE_SLOT : Fld := ⟨0x300000, 0x0, 0x0, 5, 1⟩
def STM.STATUS_NAND_MOUNTED : Fld := ⟨0x300000, 0x0, 0x0, 4, 1⟩
def STM.STATUS_NOR_MOUNTED : Fld := ⟨0x300000, 0x0, 0x0, 3, 1⟩
def STM.STATUS_NAND_BUSY : Fld := ⟨0x300000, 0x0, 0x0, 2, 1⟩
def STM.STATUS_NOR_BUSY : Fld := ⟨0x300000, 0x0, 0x0, 1, 1⟩
def STM.NOR_DIR_STATE1 : Fld := ⟨0x300004, 0x0, 0x0, 3, 3⟩
def STM.NOR_DIR_STATE0 : Fld := ⟨0x300004, 0x0, 0x0, 0, 3⟩
def STM.NOR_ERR_BUSY_READS : Fld := ⟨0x300008, 0x0, 0x0, 16, 16⟩
def STM.NOR_ERR_FAILS : Fld := ⟨0x300008, 0x0, 0x0, 0, 16⟩
def STM.NAND_GEOM_BLOCKS : Fld := ⟨0x300010, 0x0, 0x0, 16, 16⟩
def STM.NAND_GEOM_PAGES : Fld := ⟨0x300010, 0x0, 0x0, 8, 8⟩
def STM.NAND_GEOM_PAGE_KIB : Fld := ⟨0x300010, 0x0, 0x0, 0, 8⟩
def STM.NAND_CFG_SPARE_OFFSET : Fld := ⟨0x300014, 0x0, 0x0, 24, 8⟩
def STM.NAND_CFG_SCRUB_THR : Fld := ⟨0x300014, 0x0, 0x0, 19, 5⟩
def STM.NAND_CFG_SCRUB_DAYS : Fld := ⟨0x300014, 0x0, 0x0, 12, 7⟩
def STM.NAND_CFG_WL_DELTA : Fld := ⟨0x300014, 0x0, 0x0, 0, 12⟩
def STM.BBT_SEQ : Fld := ⟨0x300018, 0x0, 0x0, 16, 16⟩
def STM.BBT_BAD : Fld := ⟨0x300018, 0x0, 0x0, 0, 16⟩
def STM.ECC_COUNT_CORRECTED : Fld := ⟨0x30001C, 0x0, 0x0, 8, 24⟩
def STM.ECC_COUNT_UNCORRECTABLE : Fld := ⟨0x30001C, 0x0, 0x0, 0, 8⟩
def STM.WEAR_MAX : Fld := ⟨0x300020, 0x0, 0x0, 16, 16⟩
def STM.WEAR_MIN : Fld := ⟨0x300020, 0x0, 0x0, 0, 16⟩
def STM.SCRUB_MOVES : Fld := ⟨0x300024, 0x0, 0x0, 16, 16⟩
def STM.SCRUB_PASSES : Fld := ⟨0x300024, 0x0, 0x0, 0, 16⟩
def STM.REC_CFG_FLUSH_MS : Fld := ⟨0x300030, 0x0, 0x0, 0, 16⟩
def STM.REC_FIRST_RSN : Fld := ⟨0x300034, 0x0, 0x0, 0, 32⟩
def STM.REC_NEXT_RSN : Fld := ⟨0x300038, 0x0, 0x0, 0, 32⟩
def STM.REC_STATUS_DROPPED : Fld := ⟨0x30003C, 0x0, 0x0, 24, 8⟩
def STM.REC_STATUS_OVERWRITES : Fld := ⟨0x30003C, 0x0, 0x0, 16, 8⟩
def STM.REC_STATUS_HELD : Fld := ⟨0x30003C, 0x0, 0x0, 8, 6⟩
def STM.REC_STATUS_BUFFERED : Fld := ⟨0x30003C, 0x0, 0x0, 0, 6⟩
def STM.JOURNAL_SEQ : Fld := ⟨0x300040, 0x0, 0x0, 0, 32⟩
def STM.LOCK_LOCK : Fld := ⟨0x3000FC, 0x0, 0x0, 0, 1⟩

/-! ### Block XSP (13_storage_recorder.md, R462) -/
def XSP.CS_CFG_PROTO : Fld := ⟨0x310000, 0x4, 0x0, 30, 2⟩
def XSP.CS_CFG_DS_DELAY : Fld := ⟨0x310000, 0x4, 0x0, 16, 8⟩
def XSP.CS_CFG_DUMMY : Fld := ⟨0x310000, 0x4, 0x0, 8, 8⟩
def XSP.CS_CFG_DIV : Fld := ⟨0x310000, 0x4, 0x0, 0, 4⟩
def XSP.STATUS_TIMEOUTS : Fld := ⟨0x310010, 0x0, 0x0, 16, 16⟩
def XSP.STATUS_CS1_UP : Fld := ⟨0x310010, 0x0, 0x0, 1, 1⟩
def XSP.STATUS_CS0_UP : Fld := ⟨0x310010, 0x0, 0x0, 0, 1⟩
def XSP.LOCK_LOCK : Fld := ⟨0x3100FC, 0x0, 0x0, 0, 1⟩

/-! ### Block HIF (11_host_interface.md, R403) -/
def HIF.STATUS_STAGE : Fld := ⟨0x380000, 0x0, 0x0, 8, 3⟩
def HIF.STATUS_SESSION_U : Fld := ⟨0x380000, 0x0, 0x0, 6, 1⟩
def HIF.STATUS_SESSION_P : Fld := ⟨0x380000, 0x0, 0x0, 5, 1⟩
def HIF.STATUS_BME_U : Fld := ⟨0x380000, 0x0, 0x0, 4, 1⟩
def HIF.STATUS_BME_P : Fld := ⟨0x380000, 0x0, 0x0, 3, 1⟩
def HIF.STATUS_SPEED : Fld := ⟨0x380000, 0x0, 0x0, 1, 2⟩
def HIF.STATUS_LINK_UP : Fld := ⟨0x380000, 0x0, 0x0, 0, 1⟩
def HIF.AGREE_CFG_TIMEOUT : Fld := ⟨0x380004, 0x0, 0x0, 0, 16⟩
def HIF.COMMIT_CFG_MAX_LEAD : Fld := ⟨0x380008, 0x0, 0x0, 16, 16⟩
def HIF.COMMIT_CFG_MIN_LEAD : Fld := ⟨0x380008, 0x0, 0x0, 0, 8⟩
def HIF.COMMIT_STATUS_REASON : Fld := ⟨0x38000C, 0x0, 0x0, 24, 8⟩
def HIF.COMMIT_STATUS_TWO_STEP : Fld := ⟨0x38000C, 0x0, 0x0, 16, 1⟩
def HIF.COMMIT_STATUS_APPLIED : Fld := ⟨0x38000C, 0x0, 0x0, 0, 16⟩
def HIF.COMMIT_CCN_VALUE : Fld := ⟨0x380010, 0x0, 0x0, 0, 32⟩
def HIF.STAGE_TAG_VALUE : Fld := ⟨0x380014, 0x0, 0x0, 0, 32⟩
def HIF.CHECK_RESULT_RESULT : Fld := ⟨0x380018, 0x0, 0x0, 0, 32⟩
def HIF.CMD_ERR_AUTH : Fld := ⟨0x38001C, 0x0, 0x0, 24, 8⟩
def HIF.CMD_ERR_SEQ : Fld := ⟨0x38001C, 0x0, 0x0, 16, 8⟩
def HIF.CMD_ERR_AGREE : Fld := ⟨0x38001C, 0x0, 0x0, 8, 8⟩
def HIF.CMD_ERR_FORMAT : Fld := ⟨0x38001C, 0x0, 0x0, 0, 8⟩
def HIF.SESSION_ID_ID : Fld := ⟨0x380020, 0x4, 0x0, 0, 32⟩
def HIF.LOCK_LOCK : Fld := ⟨0x3800FC, 0x0, 0x0, 0, 1⟩

/-! ### Block QDM (11_host_interface.md, R404) -/
def QDM.STATUS_PREEMPT : Fld := ⟨0x390000, 0x0, 0x0, 16, 16⟩
def QDM.STATUS_HALTED : Fld := ⟨0x390000, 0x0, 0x0, 8, 8⟩
def QDM.STATUS_ACTIVE : Fld := ⟨0x390000, 0x0, 0x0, 0, 8⟩
def QDM.QP_CFG_ENABLE : Fld := ⟨0x390100, 0x40, 0x0, 31, 1⟩
def QDM.QP_CFG_FUNC : Fld := ⟨0x390100, 0x40, 0x0, 12, 1⟩
def QDM.QP_CFG_PRIO : Fld := ⟨0x390100, 0x40, 0x0, 10, 2⟩
def QDM.QP_CFG_CQ_LOG : Fld := ⟨0x390100, 0x40, 0x0, 4, 4⟩
def QDM.QP_CFG_SQ_LOG : Fld := ⟨0x390100, 0x40, 0x0, 0, 4⟩
def QDM.SQ_BASE_LO_ADDR : Fld := ⟨0x390104, 0x40, 0x0, 0, 32⟩
def QDM.SQ_BASE_HI_ADDR : Fld := ⟨0x390108, 0x40, 0x0, 0, 32⟩
def QDM.CQ_BASE_LO_ADDR : Fld := ⟨0x39010C, 0x40, 0x0, 0, 32⟩
def QDM.CQ_BASE_HI_ADDR : Fld := ⟨0x390110, 0x40, 0x0, 0, 32⟩
def QDM.SQ_PTR_HEAD : Fld := ⟨0x390114, 0x40, 0x0, 16, 12⟩
def QDM.SQ_PTR_PHASE : Fld := ⟨0x390114, 0x40, 0x0, 15, 1⟩
def QDM.SQ_PTR_TAIL : Fld := ⟨0x390114, 0x40, 0x0, 0, 12⟩
def QDM.CQ_PTR_HEAD : Fld := ⟨0x390118, 0x40, 0x0, 16, 12⟩
def QDM.CQ_PTR_PHASE : Fld := ⟨0x390118, 0x40, 0x0, 15, 1⟩
def QDM.CQ_PTR_TAIL : Fld := ⟨0x390118, 0x40, 0x0, 0, 12⟩
def QDM.QP_STATUS_TOKEN : Fld := ⟨0x39011C, 0x40, 0x0, 0, 32⟩
def QDM.QP_SEQ_SEQ : Fld := ⟨0x390120, 0x40, 0x0, 0, 32⟩

/-! ### Block XTU (11_host_interface.md, R406) -/
def XTU.STATUS_POOL_USED : Fld := ⟨0x3A0000, 0x0, 0x0, 20, 7⟩
def XTU.STATUS_MAPPED : Fld := ⟨0x3A0000, 0x0, 0x0, 0, 20⟩
def XTU.BASE_BASE : Fld := ⟨0x3A0004, 0x0, 0x0, 13, 19⟩
def XTU.POOL_TABLES : Fld := ⟨0x3A0008, 0x0, 0x0, 0, 7⟩
def XTU.FAULT_ADDR_ADDR : Fld := ⟨0x3A000C, 0x0, 0x0, 0, 32⟩
def XTU.FAULT_INFO_QUEUE : Fld := ⟨0x3A0010, 0x0, 0x0, 29, 3⟩
def XTU.FAULT_INFO_KIND : Fld := ⟨0x3A0010, 0x0, 0x0, 24, 4⟩
def XTU.FAULT_INFO_DIR : Fld := ⟨0x3A0010, 0x0, 0x0, 23, 1⟩
def XTU.FAULT_INFO_FUNC : Fld := ⟨0x3A0010, 0x0, 0x0, 22, 1⟩
def XTU.FAULT_INFO_NEW : Fld := ⟨0x3A0010, 0x0, 0x0, 0, 1⟩
def XTU.FAULT_COUNT_COUNT : Fld := ⟨0x3A0014, 0x0, 0x0, 0, 32⟩
def XTU.LOCK_LOCK : Fld := ⟨0x3A00FC, 0x0, 0x0, 0, 1⟩

/-! ### Block PMU (14_power_clocks_reset.md, R493) -/
def PMU.STATUS_RTC_VALID : Fld := ⟨0x400000, 0x0, 0x0, 8, 1⟩
def PMU.STATUS_WAKE : Fld := ⟨0x400000, 0x0, 0x0, 7, 1⟩
def PMU.STATUS_KEY : Fld := ⟨0x400000, 0x0, 0x0, 6, 1⟩
def PMU.STATUS_TARGET : Fld := ⟨0x400000, 0x0, 0x0, 4, 2⟩
def PMU.STATUS_STEP : Fld := ⟨0x400000, 0x0, 0x0, 0, 3⟩
def PMU.CTRL_ENTER : Fld := ⟨0x400004, 0x0, 0x0, 0, 2⟩
def PMU.KEYOFF_DELAY : Fld := ⟨0x400008, 0x0, 0x0, 16, 16⟩
def PMU.KEYOFF_STATE : Fld := ⟨0x400008, 0x0, 0x0, 0, 2⟩
def PMU.WAKE_CFG_KEY_DEB : Fld := ⟨0x40000C, 0x0, 0x0, 24, 8⟩
def PMU.WAKE_CFG_WAKE_FILT : Fld := ⟨0x40000C, 0x0, 0x0, 16, 8⟩
def PMU.WAKE_CFG_WAKE_POL : Fld := ⟨0x40000C, 0x0, 0x0, 8, 1⟩
def PMU.WAKE_CFG_EN : Fld := ⟨0x40000C, 0x0, 0x0, 1, 7⟩
def PMU.WAKE_STATUS_SOURCE : Fld := ⟨0x400010, 0x0, 0x0, 28, 4⟩
def PMU.WAKE_STATUS_FROM : Fld := ⟨0x400010, 0x0, 0x0, 26, 2⟩
def PMU.WAKE_STATUS_COUNT : Fld := ⟨0x400010, 0x0, 0x0, 0, 16⟩
def PMU.ENTRY_RESULT_RESULT : Fld := ⟨0x400014, 0x0, 0x0, 28, 4⟩
def PMU.ENTRY_RESULT_TARGET : Fld := ⟨0x400014, 0x0, 0x0, 26, 2⟩
def PMU.ENTRY_RESULT_POINT : Fld := ⟨0x400014, 0x0, 0x0, 24, 2⟩
def PMU.ENTRY_RESULT_KIND : Fld := ⟨0x400014, 0x0, 0x0, 23, 1⟩
def PMU.ENTRY_RESULT_DOMAIN : Fld := ⟨0x400014, 0x0, 0x0, 20, 3⟩
def PMU.ENTRY_RESULT_NUMBER : Fld := ⟨0x400014, 0x0, 0x0, 16, 4⟩
def PMU.DOM_STATE_STATE : Fld := ⟨0x400018, 0x0, 0x0, 0, 14⟩
def PMU.HOST_VOTE_DOM : Fld := ⟨0x40001C, 0x0, 0x0, 0, 7⟩
def PMU.RTC_S_SECONDS : Fld := ⟨0x400020, 0x0, 0x0, 0, 32⟩
def PMU.RTC_SUB_FRAC : Fld := ⟨0x400024, 0x0, 0x0, 0, 15⟩
def PMU.RTC_SET_SECONDS : Fld := ⟨0x400028, 0x0, 0x0, 0, 32⟩
def PMU.RTC_ALARM_SECONDS : Fld := ⟨0x40002C, 0x0, 0x0, 0, 32⟩
def PMU.TEMP_DRIVE : Fld := ⟨0x400030, 0x0, 0x0, 8, 8⟩
def PMU.TEMP_LANE : Fld := ⟨0x400030, 0x0, 0x0, 0, 8⟩
def PMU.TEMP_CFG_CRIT : Fld := ⟨0x400034, 0x0, 0x0, 8, 8⟩
def PMU.TEMP_CFG_HIGH : Fld := ⟨0x400034, 0x0, 0x0, 0, 8⟩
def PMU.SUPPLY_DIPS : Fld := ⟨0x400038, 0x0, 0x0, 24, 8⟩
def PMU.SUPPLY_GOOD : Fld := ⟨0x400038, 0x0, 0x0, 0, 3⟩
def PMU.LOCK_LOCK : Fld := ⟨0x4000FC, 0x0, 0x0, 0, 1⟩
def PMU.VOTE_VOTERS : Fld := ⟨0x400100, 0x4, 0x0, 0, 16⟩
def PMU.DOM_CFG_KEEP : Fld := ⟨0x400120, 0x4, 0x0, 31, 1⟩
def PMU.DOM_CFG_DROP : Fld := ⟨0x400120, 0x4, 0x0, 30, 1⟩
def PMU.DOM_ACCT_REFUSED : Fld := ⟨0x400140, 0x4, 0x0, 24, 8⟩
def PMU.DOM_ACCT_ABORTED : Fld := ⟨0x400140, 0x4, 0x0, 16, 8⟩
def PMU.DOM_ACCT_POINT : Fld := ⟨0x400140, 0x4, 0x0, 8, 2⟩
def PMU.DOM_ACCT_KIND : Fld := ⟨0x400140, 0x4, 0x0, 4, 1⟩
def PMU.DOM_ACCT_NUMBER : Fld := ⟨0x400140, 0x4, 0x0, 0, 4⟩

/-! ### Block CRU (14_power_clocks_reset.md, R494) -/
def CRU.STATUS_FAT_OFF : Fld := ⟨0x410000, 0x0, 0x0, 3, 1⟩
def CRU.STATUS_SERDES_LOCK : Fld := ⟨0x410000, 0x0, 0x0, 2, 1⟩
def CRU.STATUS_PLL_LOCK : Fld := ⟨0x410000, 0x0, 0x0, 1, 1⟩
def CRU.STATUS_XTAL_OK : Fld := ⟨0x410000, 0x0, 0x0, 0, 1⟩
def CRU.CYCLE_TICKS : Fld := ⟨0x410004, 0x0, 0x0, 0, 19⟩
def CRU.CYCLE_NOW_TICKS : Fld := ⟨0x410008, 0x0, 0x0, 0, 19⟩
def CRU.RESET_CAUSE_LAST : Fld := ⟨0x41000C, 0x0, 0x0, 28, 4⟩
def CRU.RESET_CAUSE_HISTORY : Fld := ⟨0x41000C, 0x0, 0x0, 1, 8⟩
def CRU.RESET_COUNT_SUPPLY : Fld := ⟨0x410010, 0x0, 0x0, 24, 8⟩
def CRU.RESET_COUNT_CLOCK : Fld := ⟨0x410010, 0x0, 0x0, 16, 8⟩
def CRU.RESET_COUNT_FENCE : Fld := ⟨0x410010, 0x0, 0x0, 8, 8⟩
def CRU.RESET_COUNT_UPDATE : Fld := ⟨0x410010, 0x0, 0x0, 0, 8⟩
def CRU.FAT_CFG_DISABLE : Fld := ⟨0x410014, 0x0, 0x0, 31, 1⟩
def CRU.FAT_CFG_CYCLES : Fld := ⟨0x410014, 0x0, 0x0, 0, 17⟩
def CRU.FAT_STATUS_COUNT : Fld := ⟨0x410018, 0x0, 0x0, 16, 16⟩
def CRU.FAT_STATUS_INITIATOR : Fld := ⟨0x410018, 0x0, 0x0, 0, 4⟩
def CRU.FAT_ADDR_ADDR : Fld := ⟨0x41001C, 0x0, 0x0, 0, 32⟩
def CRU.CLK_MON_FAULTS : Fld := ⟨0x410020, 0x0, 0x0, 16, 16⟩
def CRU.CLK_MON_DEV : Fld := ⟨0x410020, 0x0, 0x0, 0, 8⟩
def CRU.RESET_CLEAR_HISTORY : Fld := ⟨0x410024, 0x0, 0x0, 1, 8⟩
def CRU.LOCK_LOCK : Fld := ⟨0x4100FC, 0x0, 0x0, 0, 1⟩

end Sys2Proof.Machine
end

