-- ==== Sys2Proof/Machine/RegTable.lean ====
section
/-!
DEFINITION. The register blocks as R562 and R566 lay them out: per block its rows, each with its view (R21), the write masks of
its access codes (R18) and its reset value (the tables of R89 to R544).
Bits in no mask are RO or reserved.
-/
namespace Sys2Proof.Machine

/-- One register or array of registers: offset of element 0, number of elements, stride, unprivileged view allowed, the
mask of the fields that its chapter marks as configuration, whether bits [31:18] read as the sign extension of bit 17 (R14), the masks of RW, RWL, W1C, W1S, RC and WO
fields, and the reset value. -/
structure RegRow where
  base : Nat
  n    : Nat
  stride : Nat
  unpriv : Bool
  conf : Nat
  sext : Bool
  rw   : Nat
  rwl  : Nat
  w1c  : Nat
  w1s  : Nat
  rc   : Nat
  wo   : Nat
  rst  : Nat
deriving DecidableEq, Repr

/-- Rows of block BCN. -/
def rowsBCN : List RegRow := [
  ⟨0x0, 1, 0x4, true, 0, false, 0, 0, 0, 0, 0, 0, 0⟩,
  ⟨0x4, 1, 0x4, true, 0, false, 0, 0, 0, 0, 0, 0, 0⟩,
  ⟨0x8, 1, 0x4, true, 0, false, 0, 0, 0, 0, 0, 0, 0⟩,
  ⟨0xC, 1, 0x4, true, 0, false, 0, 0, 0, 0, 0, 0, 0⟩,
  ⟨0x10, 1, 0x4, true, 0, false, 0, 0, 0, 0, 0, 0, 0⟩,
  ⟨0x14, 1, 0x4, true, 0, false, 0, 0, 0, 0, 0, 0, 0⟩,
  ⟨0x18, 1, 0x4, true, 0, false, 0, 0, 0, 0, 0, 0, 0⟩,
  ⟨0x1C, 1, 0x4, true, 0, false, 0, 0, 0, 0, 0, 0, 0⟩,
  ⟨0x20, 1, 0x4, true, 0, false, 0, 0, 0, 0, 0, 0, 0⟩,
  ⟨0x24, 1, 0x4, false, 0, false, 0, 0, 0x1, 0, 0, 0, 0⟩,
  ⟨0x40, 1, 0x4, false, 0, false, 0, 0xFFFF, 0, 0, 0, 0, 0x100⟩,
  ⟨0x44, 1, 0x4, false, 0, false, 0, 0, 0, 0, 0xFFFFFFFF, 0, 0⟩,
  ⟨0x48, 1, 0x4, false, 0, false, 0, 0, 0, 0, 0, 0, 0⟩,
  ⟨0x4C, 1, 0x4, false, 0, false, 0, 0, 0x1, 0, 0, 0, 0⟩,
  ⟨0x50, 1, 0x4, false, 0, false, 0, 0, 0, 0, 0, 0, 0⟩,
  ⟨0xFC, 1, 0x4, false, 0, false, 0, 0, 0, 0x1, 0, 0, 0⟩]

/-- Rows of block XLA. -/
def rowsXLA : List RegRow := [
  ⟨0x0, 1, 0x4, true, 0, false, 0, 0, 0, 0, 0, 0, 0xC0000⟩,
  ⟨0x4, 1, 0x4, true, 0, false, 0, 0, 0, 0, 0, 0, 0⟩,
  ⟨0x8, 1, 0x4, true, 0, false, 0, 0, 0, 0, 0, 0, 0⟩,
  ⟨0xC, 1, 0x4, true, 0, false, 0, 0, 0, 0, 0, 0, 0⟩,
  ⟨0x10, 1, 0x4, false, 0x3F, false, 0, 0, 0, 0, 0, 0, 0x24⟩,
  ⟨0x14, 1, 0x4, false, 0x7FFF, false, 0, 0, 0, 0, 0, 0, 0⟩,
  ⟨0x18, 1, 0x4, true, 0, false, 0, 0, 0, 0, 0, 0, 0⟩,
  ⟨0x20, 2, 0x4, true, 0, false, 0, 0, 0, 0, 0, 0, 0⟩,
  ⟨0x28, 2, 0x4, false, 0, false, 0, 0, 0, 0, 0xFFFFFFFF, 0, 0⟩,
  ⟨0x30, 1, 0x4, true, 0, false, 0, 0, 0, 0, 0, 0, 0⟩,
  ⟨0x34, 1, 0x4, true, 0, false, 0, 0, 0, 0, 0, 0, 0⟩,
  ⟨0x38, 1, 0x4, true, 0, false, 0, 0, 0, 0, 0, 0, 0⟩,
  ⟨0x3C, 1, 0x4, true, 0, false, 0, 0, 0, 0, 0, 0, 0xF000⟩,
  ⟨0x40, 1, 0x4, true, 0, false, 0, 0, 0, 0, 0, 0, 0⟩,
  ⟨0x44, 1, 0x4, false, 0, false, 0, 0, 0, 0, 0xFFFFFFFF, 0, 0⟩,
  ⟨0x48, 1, 0x4, false, 0, false, 0, 0, 0, 0, 0xFF000000, 0, 0⟩,
  ⟨0x4C, 1, 0x4, true, 0, false, 0, 0, 0, 0, 0, 0, 0x30000000⟩,
  ⟨0x50, 1, 0x4, true, 0, false, 0, 0, 0, 0, 0, 0, 0⟩,
  ⟨0x54, 1, 0x4, false, 0, false, 0, 0, 0, 0, 0, 0, 0⟩,
  ⟨0x58, 1, 0x4, true, 0, false, 0, 0, 0, 0, 0, 0, 0⟩,
  ⟨0x5C, 1, 0x4, true, 0, false, 0, 0, 0, 0, 0, 0, 0⟩,
  ⟨0x60, 4, 0x4, true, 0, false, 0, 0, 0, 0, 0, 0, 0⟩,
  ⟨0x70, 1, 0x4, true, 0, false, 0, 0, 0, 0, 0, 0, 0⟩,
  ⟨0x100, 128, 0x4, false, 0xFFFFFFEF, false, 0, 0, 0, 0, 0, 0, 0⟩,
  ⟨0x300, 64, 0x4, false, 0x3FFF, false, 0, 0, 0, 0, 0, 0, 0⟩]

/-- Rows of block FCL. -/
def rowsFCL : List RegRow := [
  ⟨0x0, 1, 0x4, true, 0, false, 0, 0, 0, 0, 0, 0, 0⟩,
  ⟨0x4, 1, 0x4, false, 0, false, 0, 0, 0, 0, 0, 0, 0⟩,
  ⟨0x8, 1, 0x4, true, 0, false, 0, 0, 0, 0, 0, 0, 0⟩,
  ⟨0xC, 1, 0x4, true, 0, false, 0, 0, 0, 0, 0, 0, 0⟩,
  ⟨0x10, 1, 0x4, false, 0x7F, false, 0, 0, 0, 0, 0, 0, 0⟩,
  ⟨0x14, 1, 0x4, false, 0, false, 0, 0, 0, 0, 0xFFFFFFFF, 0, 0⟩,
  ⟨0x18, 1, 0x4, false, 0, false, 0, 0, 0, 0, 0xFFFFFFFF, 0, 0⟩,
  ⟨0x1C, 1, 0x4, false, 0, false, 0, 0, 0, 0, 0, 0xFFFFFFFF, 0⟩,
  ⟨0x40, 8, 0x4, true, 0, false, 0, 0, 0, 0, 0, 0, 0⟩,
  ⟨0x60, 8, 0x4, true, 0, false, 0, 0, 0, 0, 0, 0, 0⟩,
  ⟨0xFC, 1, 0x4, false, 0, false, 0, 0, 0, 0x1, 0, 0, 0⟩,
  ⟨0x400, 16, 0x10, true, 0, false, 0, 0, 0, 0, 0, 0, 0⟩,
  ⟨0x404, 16, 0x10, true, 0, false, 0, 0, 0, 0, 0, 0, 0⟩,
  ⟨0x408, 16, 0x10, true, 0, false, 0, 0, 0, 0, 0, 0, 0⟩,
  ⟨0x40C, 16, 0x10, true, 0, false, 0, 0, 0, 0, 0, 0, 0⟩,
  ⟨0x1000, 256, 0x8, false, 0xFFFFFF00, false, 0, 0, 0, 0, 0, 0, 0⟩,
  ⟨0x1004, 256, 0x8, false, 0xFFFFFFFF, false, 0, 0, 0, 0, 0, 0, 0x503C0064⟩,
  ⟨0x2000, 256, 0x4, true, 0, false, 0, 0, 0, 0, 0, 0, 0⟩]

/-- Rows of block MBX. -/
def rowsMBX : List RegRow := [
  ⟨0x0, 1, 0x4, true, 0, false, 0, 0, 0, 0, 0, 0, 0⟩,
  ⟨0x4, 1, 0x4, false, 0, false, 0, 0, 0, 0, 0xFFFFFFFF, 0, 0⟩,
  ⟨0x40, 2, 0x4, false, 0, false, 0, 0, 0, 0, 0, 0xFFFFFFFF, 0⟩,
  ⟨0x48, 6, 0x4, true, 0, false, 0, 0, 0, 0, 0, 0xFFFFFFFF, 0⟩,
  ⟨0x60, 2, 0x4, false, 0, false, 0, 0, 0, 0, 0, 0xFFFFFFFF, 0⟩,
  ⟨0x68, 6, 0x4, true, 0, false, 0, 0, 0, 0, 0, 0xFFFFFFFF, 0⟩,
  ⟨0x100, 32, 0x4, false, 0, false, 0, 0, 0, 0, 0, 0, 0⟩,
  ⟨0x180, 96, 0x4, true, 0, false, 0, 0, 0, 0, 0, 0, 0⟩]

/-- Rows of block SEC. -/
def rowsSEC : List RegRow := [
  ⟨0x0, 1, 0x4, true, 0, false, 0, 0, 0, 0, 0, 0, 0⟩,
  ⟨0x4, 1, 0x4, true, 0, false, 0, 0, 0, 0, 0, 0, 0⟩,
  ⟨0x8, 1, 0x4, true, 0, false, 0, 0, 0, 0, 0, 0, 0⟩,
  ⟨0xC, 1, 0x4, true, 0, false, 0, 0, 0, 0, 0, 0, 0⟩,
  ⟨0x10, 1, 0x4, false, 0, false, 0, 0xFFFC0000, 0, 0, 0, 0, 0x10380000⟩,
  ⟨0x14, 1, 0x4, false, 0, false, 0, 0x8003FFFF, 0, 0, 0, 0, 0⟩,
  ⟨0x40, 8, 0x4, true, 0, false, 0, 0, 0, 0, 0, 0, 0⟩,
  ⟨0xFC, 1, 0x4, false, 0, false, 0, 0, 0, 0x1, 0, 0, 0⟩]

/-- Rows of block LCS. -/
def rowsLCS : List RegRow := [
  ⟨0x0, 1, 0x4, true, 0, false, 0, 0, 0, 0, 0, 0, 0⟩,
  ⟨0x4, 1, 0x4, true, 0, false, 0, 0, 0, 0, 0, 0, 0⟩,
  ⟨0x8, 1, 0x4, true, 0, false, 0, 0, 0, 0, 0, 0, 0⟩]

/-- Rows of block IDB. -/
def rowsIDB : List RegRow := [
  ⟨0x0, 4, 0x4, true, 0, false, 0, 0, 0, 0, 0, 0, 0⟩,
  ⟨0x10, 4, 0x4, true, 0, false, 0, 0, 0, 0, 0, 0, 0⟩,
  ⟨0x20, 1, 0x4, true, 0, false, 0, 0, 0, 0, 0, 0, 0⟩,
  ⟨0x24, 1, 0x4, true, 0, false, 0, 0, 0, 0, 0, 0, 0⟩,
  ⟨0x28, 1, 0x4, true, 0, false, 0, 0, 0, 0, 0, 0, 0⟩,
  ⟨0x40, 12, 0x4, true, 0, false, 0, 0, 0, 0, 0, 0, 0⟩,
  ⟨0x80, 24, 0x4, true, 0, false, 0, 0, 0, 0, 0, 0, 0⟩,
  ⟨0x100, 24, 0x4, true, 0, false, 0, 0, 0, 0, 0, 0, 0⟩,
  ⟨0x180, 24, 0x4, true, 0, false, 0, 0, 0, 0, 0, 0, 0⟩]

/-- Rows of block BST. -/
def rowsBST : List RegRow := [
  ⟨0x0, 1, 0x4, true, 0, false, 0, 0, 0, 0, 0, 0, 0⟩,
  ⟨0x4, 1, 0x4, false, 0, false, 0, 0x80001FFF, 0, 0, 0, 0, 0x209⟩,
  ⟨0x8, 1, 0x4, true, 0, false, 0, 0, 0, 0, 0, 0, 0⟩,
  ⟨0xC, 1, 0x4, true, 0, false, 0, 0, 0, 0, 0, 0, 0⟩,
  ⟨0x10, 1, 0x4, true, 0, false, 0, 0, 0, 0, 0, 0, 0⟩,
  ⟨0x14, 1, 0x4, true, 0, false, 0, 0, 0, 0, 0, 0, 0⟩,
  ⟨0x18, 1, 0x4, true, 0, false, 0, 0, 0, 0, 0, 0, 0⟩,
  ⟨0x1C, 1, 0x4, true, 0, false, 0, 0, 0, 0, 0, 0, 0⟩,
  ⟨0x20, 1, 0x4, true, 0, false, 0, 0, 0, 0, 0, 0, 0⟩,
  ⟨0xFC, 1, 0x4, false, 0, false, 0, 0, 0, 0x1, 0, 0, 0⟩]

/-- Rows of block DBG. -/
def rowsDBG : List RegRow := [
  ⟨0x0, 1, 0x4, true, 0, false, 0, 0, 0, 0, 0, 0, 0⟩,
  ⟨0x4, 1, 0x4, false, 0, false, 0xFFF000FF, 0, 0, 0, 0, 0, 0⟩,
  ⟨0x8, 1, 0x4, false, 0, false, 0xFFFFFFFF, 0, 0, 0, 0, 0, 0⟩,
  ⟨0xC, 1, 0x4, false, 0, false, 0, 0, 0, 0, 0, 0, 0⟩,
  ⟨0x10, 1, 0x4, false, 0, false, 0, 0, 0, 0, 0, 0, 0⟩]

/-- Rows of block STA. -/
def rowsSTA : List RegRow := [
  ⟨0x0, 1, 0x4, false, 0xFFFFF, false, 0, 0, 0, 0, 0, 0, 0x2710⟩,
  ⟨0x4, 1, 0x4, true, 0, false, 0, 0, 0, 0, 0, 0, 0x1⟩,
  ⟨0x8, 1, 0x4, true, 0, false, 0, 0, 0, 0, 0, 0, 0⟩,
  ⟨0xC, 1, 0x4, true, 0, false, 0, 0, 0, 0, 0, 0, 0⟩,
  ⟨0x10, 2, 0x4, true, 0, false, 0, 0, 0, 0, 0, 0, 0⟩]

/-- Rows of block PCL. -/
def rowsPCL : List RegRow := [
  ⟨0x0, 1, 0x4, true, 0, false, 0, 0, 0, 0, 0, 0, 0⟩,
  ⟨0x4, 1, 0x4, false, 0, false, 0, 0, 0, 0, 0, 0, 0⟩,
  ⟨0x8, 1, 0x4, false, 0, false, 0, 0xFFFFFFF0, 0, 0, 0, 0, 0x10500000⟩,
  ⟨0xC, 1, 0x4, false, 0, false, 0, 0xFF, 0, 0, 0, 0, 0x40⟩,
  ⟨0x10, 1, 0x4, true, 0, false, 0, 0, 0, 0, 0, 0, 0⟩,
  ⟨0x14, 1, 0x4, true, 0, false, 0, 0, 0, 0, 0, 0, 0⟩,
  ⟨0x18, 1, 0x4, false, 0, false, 0, 0, 0x1, 0, 0, 0, 0⟩,
  ⟨0x1C, 1, 0x4, false, 0, false, 0, 0, 0, 0, 0xFFFFFFFF, 0, 0⟩,
  ⟨0xFC, 1, 0x4, false, 0, false, 0, 0, 0, 0x1, 0, 0, 0⟩,
  ⟨0x100, 16, 0x4, false, 0x83FF03FF, false, 0, 0, 0, 0, 0, 0, 0⟩,
  ⟨0x140, 16, 0x4, true, 0, false, 0, 0, 0, 0, 0, 0, 0⟩,
  ⟨0x180, 16, 0x4, true, 0, false, 0, 0, 0, 0, 0, 0, 0⟩,
  ⟨0x1C0, 16, 0x4, true, 0, false, 0, 0, 0, 0, 0, 0, 0⟩,
  ⟨0x200, 4, 0x4, true, 0, false, 0, 0, 0, 0, 0, 0, 0⟩,
  ⟨0x210, 4, 0x4, true, 0, false, 0, 0, 0, 0, 0, 0, 0⟩,
  ⟨0x220, 4, 0x4, true, 0, false, 0, 0, 0, 0, 0, 0, 0⟩,
  ⟨0x230, 4, 0x4, true, 0, false, 0, 0, 0, 0, 0, 0, 0⟩,
  ⟨0x300, 64, 0x4, true, 0, false, 0, 0, 0, 0, 0, 0, 0⟩]

/-- Rows of block HOP. -/
def rowsHOP : List RegRow := [
  ⟨0x0, 1, 0x4, true, 0, false, 0, 0, 0, 0, 0, 0, 0⟩,
  ⟨0x4, 1, 0x4, false, 0, false, 0, 0, 0, 0, 0xFFFFFFFF, 0, 0⟩,
  ⟨0x8, 1, 0x4, false, 0, false, 0, 0, 0x1, 0, 0, 0, 0⟩,
  ⟨0xC, 1, 0x4, true, 0, false, 0, 0, 0, 0, 0, 0, 0⟩,
  ⟨0x10, 1, 0x4, false, 0, false, 0xFFF, 0, 0, 0, 0, 0, 0⟩,
  ⟨0x14, 1, 0x4, false, 0, false, 0, 0, 0, 0, 0, 0, 0⟩]

/-- Rows of block CEN. -/
def rowsCEN : List RegRow := [
  ⟨0x0, 1, 0x4, true, 0, false, 0, 0, 0, 0, 0, 0, 0⟩,
  ⟨0x4, 1, 0x4, false, 0, false, 0, 0, 0, 0, 0, 0, 0⟩,
  ⟨0x8, 1, 0x4, false, 0, false, 0, 0, 0x80000000, 0, 0, 0, 0⟩,
  ⟨0xC, 1, 0x4, false, 0, false, 0, 0, 0, 0, 0xFFFFFFFF, 0, 0⟩,
  ⟨0x10, 1, 0x4, false, 0, false, 0, 0xFFFF, 0, 0, 0, 0, 0x40⟩,
  ⟨0x14, 1, 0x4, false, 0, false, 0, 0, 0xFF, 0, 0, 0, 0⟩,
  ⟨0x18, 1, 0x4, true, 0, false, 0, 0, 0, 0, 0, 0, 0x10000⟩,
  ⟨0x80, 8, 0x4, false, 0xFFFFFFFF, false, 0, 0, 0, 0, 0, 0, 0⟩,
  ⟨0xFC, 1, 0x4, false, 0, false, 0, 0, 0, 0x1, 0, 0, 0⟩,
  ⟨0x100, 8, 0x10, true, 0, false, 0, 0, 0, 0, 0, 0, 0⟩,
  ⟨0x104, 8, 0x10, true, 0, true, 0, 0, 0, 0, 0, 0, 0⟩,
  ⟨0x108, 8, 0x10, true, 0, true, 0, 0, 0, 0, 0, 0, 0⟩,
  ⟨0x10C, 8, 0x10, true, 0, true, 0, 0, 0, 0, 0, 0, 0⟩,
  ⟨0x400, 8, 0x40, false, 0xFFF3FFFF, false, 0, 0, 0, 0, 0, 0, 0⟩,
  ⟨0x404, 8, 0x40, false, 0x3FFFFF, false, 0, 0, 0, 0, 0, 0, 0⟩,
  ⟨0x408, 8, 0x40, false, 0x3FFFFF, false, 0, 0, 0, 0, 0, 0, 0⟩,
  ⟨0x40C, 8, 0x40, false, 0x3FFFFF, false, 0, 0, 0, 0, 0, 0, 0⟩,
  ⟨0x410, 8, 0x40, false, 0xFFFFFF, false, 0, 0, 0, 0, 0, 0, 0⟩,
  ⟨0x414, 8, 0x40, false, 0x3FFFF, true, 0, 0, 0, 0, 0, 0, 0⟩,
  ⟨0x418, 8, 0x40, false, 0x3FFFF, true, 0, 0, 0, 0, 0, 0, 0⟩,
  ⟨0x41C, 8, 0x40, false, 0x3FFFF, true, 0, 0, 0, 0, 0, 0, 0⟩,
  ⟨0x420, 8, 0x40, false, 0x3FFFF, true, 0, 0, 0, 0, 0, 0, 0⟩,
  ⟨0x424, 8, 0x40, false, 0x3FFFF, false, 0, 0, 0, 0, 0, 0, 0⟩,
  ⟨0x428, 8, 0x40, false, 0x3FFFF, false, 0, 0, 0, 0, 0, 0, 0⟩,
  ⟨0x42C, 8, 0x40, false, 0xFFFFFF, false, 0, 0, 0, 0, 0, 0, 0⟩,
  ⟨0x430, 8, 0x40, false, 0x3FFFFFF, false, 0, 0, 0, 0, 0, 0, 0⟩,
  ⟨0x434, 8, 0x40, false, 0xFFFFFFFF, false, 0, 0, 0, 0, 0, 0, 0⟩]

/-- Rows of block PGN. -/
def rowsPGN : List RegRow := [
  ⟨0x0, 1, 0x4, true, 0, false, 0, 0, 0, 0, 0, 0, 0⟩,
  ⟨0x4, 1, 0x4, true, 0, false, 0, 0, 0, 0, 0, 0, 0x10000⟩,
  ⟨0x100, 4, 0x20, false, 0xFF1F0000, false, 0, 0, 0, 0, 0, 0, 0⟩,
  ⟨0x104, 4, 0x20, false, 0xFFFFFFFF, false, 0, 0, 0, 0, 0, 0, 0⟩,
  ⟨0x108, 4, 0x20, false, 0xFFFFFFFF, false, 0, 0, 0, 0, 0, 0, 0⟩,
  ⟨0x10C, 4, 0x20, false, 0xFFFFFFFF, false, 0, 0, 0, 0, 0, 0, 0⟩,
  ⟨0x110, 4, 0x20, false, 0x3FFFF, false, 0, 0, 0, 0, 0, 0, 0⟩,
  ⟨0x114, 4, 0x20, false, 0xFFFFFFFF, false, 0, 0, 0, 0, 0, 0, 0⟩,
  ⟨0x200, 4, 0x20, true, 0, false, 0, 0, 0, 0, 0, 0, 0⟩,
  ⟨0x204, 4, 0x20, true, 0, false, 0, 0, 0, 0, 0, 0, 0⟩,
  ⟨0x208, 4, 0x20, true, 0, false, 0, 0, 0, 0, 0, 0, 0⟩,
  ⟨0x20C, 4, 0x20, true, 0, false, 0, 0, 0, 0, 0, 0, 0⟩,
  ⟨0x210, 4, 0x20, true, 0, false, 0, 0, 0, 0, 0, 0, 0⟩,
  ⟨0x214, 4, 0x20, true, 0, false, 0, 0, 0, 0, 0, 0, 0⟩,
  ⟨0x218, 4, 0x20, true, 0, false, 0, 0, 0, 0, 0, 0, 0⟩,
  ⟨0x21C, 4, 0x20, true, 0, false, 0, 0, 0, 0, 0, 0, 0⟩]

/-- Rows of block CMU. -/
def rowsCMU : List RegRow := [
  ⟨0x4, 1, 0x4, false, 0, false, 0, 0, 0, 0, 0, 0, 0⟩,
  ⟨0x100, 2, 0x80, false, 0x3FF7FFE0, false, 0, 0, 0, 0, 0, 0, 0⟩,
  ⟨0x104, 2, 0x80, false, 0x1FFFF8, false, 0, 0, 0, 0, 0, 0, 0⟩,
  ⟨0x108, 2, 0x80, false, 0x3FF3FF0, false, 0, 0, 0, 0, 0, 0, 0x2580000⟩,
  ⟨0x10C, 2, 0x80, false, 0x3FFF, false, 0, 0, 0, 0, 0, 0, 0x3AE1⟩,
  ⟨0x110, 2, 0x80, false, 0x3FFFF, false, 0, 0, 0, 0, 0, 0, 0⟩,
  ⟨0x114, 2, 0x80, false, 0x3FFFF, false, 0, 0, 0, 0, 0, 0, 0⟩,
  ⟨0x118, 2, 0x80, false, 0x3FFFF, false, 0, 0, 0, 0, 0, 0, 0⟩,
  ⟨0x11C, 2, 0x80, false, 0x3FFFF, false, 0, 0, 0, 0, 0, 0, 0⟩,
  ⟨0x120, 2, 0x80, false, 0x3FFFF, false, 0, 0, 0, 0, 0, 0, 0⟩,
  ⟨0x124, 2, 0x80, false, 0x3FFFFFFF, false, 0, 0, 0, 0, 0, 0, 0⟩,
  ⟨0x140, 2, 0x80, true, 0, false, 0, 0, 0, 0, 0, 0, 0⟩,
  ⟨0x144, 2, 0x80, true, 0, false, 0, 0, 0, 0, 0, 0, 0⟩,
  ⟨0x148, 2, 0x80, true, 0, false, 0, 0, 0, 0, 0, 0, 0⟩,
  ⟨0x14C, 2, 0x80, false, 0, false, 0, 0, 0, 0, 0xFFFFFFFF, 0, 0⟩,
  ⟨0x150, 2, 0x80, false, 0, false, 0, 0, 0, 0, 0xFFFFFFFF, 0, 0⟩,
  ⟨0x154, 2, 0x80, true, 0, false, 0, 0, 0, 0, 0, 0, 0⟩]

/-- Rows of block AFE. -/
def rowsAFE : List RegRow := [
  ⟨0x0, 1, 0x4, true, 0, false, 0, 0, 0, 0, 0, 0, 0⟩,
  ⟨0x4, 1, 0x4, false, 0, false, 0, 0xFF0F, 0, 0, 0, 0, 0x400F⟩,
  ⟨0x8, 1, 0x4, false, 0, false, 0, 0, 0x3FFF, 0, 0, 0, 0⟩,
  ⟨0xFC, 1, 0x4, false, 0, false, 0, 0, 0, 0x1, 0, 0, 0⟩,
  ⟨0x100, 6, 0x4, false, 0, false, 0, 0xFFFFFFFF, 0, 0, 0, 0, 0x80010000⟩,
  ⟨0x140, 6, 0x4, true, 0, true, 0, 0, 0, 0, 0, 0, 0⟩,
  ⟨0x160, 6, 0x4, true, 0, false, 0, 0, 0, 0, 0, 0, 0⟩,
  ⟨0x200, 8, 0x4, false, 0, false, 0, 0x3FFFFFFF, 0, 0, 0, 0, 0x10000⟩,
  ⟨0x240, 8, 0x4, true, 0, true, 0, 0, 0, 0, 0, 0, 0⟩,
  ⟨0x260, 8, 0x4, true, 0, false, 0, 0, 0, 0, 0, 0, 0⟩]

/-- Rows of block GDC. -/
def rowsGDC : List RegRow := [
  ⟨0x0, 1, 0x4, true, 0, false, 0, 0, 0, 0, 0, 0, 0x2000⟩,
  ⟨0x4, 1, 0x4, false, 0, false, 0, 0, 0, 0, 0, 0, 0⟩,
  ⟨0x8, 1, 0x4, false, 0, false, 0, 0, 0, 0, 0xFFFFFFFF, 0, 0⟩,
  ⟨0x10, 1, 0x4, false, 0x3FFFF, false, 0, 0, 0, 0, 0, 0, 0⟩,
  ⟨0x14, 1, 0x4, false, 0x3FFFF, false, 0, 0, 0, 0, 0, 0, 0⟩,
  ⟨0x18, 1, 0x4, false, 0x3FFFF, false, 0, 0, 0, 0, 0, 0, 0⟩,
  ⟨0x1C, 1, 0x4, false, 0x3FFFF, false, 0, 0, 0, 0, 0, 0, 0⟩,
  ⟨0x20, 1, 0x4, false, 0xFFFF, false, 0, 0, 0, 0, 0, 0, 0⟩,
  ⟨0x24, 1, 0x4, true, 0, false, 0, 0, 0, 0, 0, 0, 0⟩,
  ⟨0x28, 1, 0x4, false, 0, false, 0, 0xFFFF000F, 0, 0, 0, 0, 0xD0D80001⟩,
  ⟨0x2C, 1, 0x4, false, 0x3FF, false, 0, 0, 0, 0, 0, 0, 0xA⟩,
  ⟨0x30, 1, 0x4, true, 0, false, 0, 0, 0, 0, 0, 0, 0⟩,
  ⟨0x34, 1, 0x4, true, 0, false, 0, 0, 0, 0, 0, 0, 0⟩,
  ⟨0x40, 3, 0x4, false, 0, false, 0, 0, 0, 0, 0xFFFFFFFF, 0, 0⟩,
  ⟨0x4C, 1, 0x4, false, 0, false, 0, 0, 0x1, 0, 0, 0, 0⟩,
  ⟨0x50, 1, 0x4, false, 0, false, 0, 0, 0, 0, 0, 0, 0⟩,
  ⟨0xFC, 1, 0x4, false, 0, false, 0, 0, 0, 0x1, 0, 0, 0⟩,
  ⟨0x100, 2, 0x40, false, 0x7FF1F0F, false, 0, 0, 0, 0, 0, 0, 0⟩,
  ⟨0x180, 1, 0x4, false, 0x7FF1F0F, false, 0, 0, 0, 0, 0, 0, 0⟩,
  ⟨0x200, 1, 0x4, false, 0xFFFF0F, false, 0, 0, 0, 0, 0, 0, 0⟩,
  ⟨0x210, 3, 0x4, true, 0, false, 0, 0, 0, 0, 0, 0, 0⟩]

/-- Rows of block PFB. -/
def rowsPFB : List RegRow := [
  ⟨0x0, 1, 0x4, true, 0, false, 0, 0, 0, 0, 0, 0, 0⟩,
  ⟨0x4, 1, 0x4, false, 0, false, 0, 0, 0, 0, 0, 0, 0⟩,
  ⟨0x8, 1, 0x4, false, 0x1FFF, false, 0, 0, 0, 0, 0, 0, 0⟩,
  ⟨0xC, 1, 0x4, false, 0, false, 0, 0, 0, 0xF, 0, 0, 0x3⟩,
  ⟨0x10, 1, 0x4, true, 0, false, 0, 0, 0, 0, 0, 0, 0⟩,
  ⟨0x14, 1, 0x4, true, 0, false, 0, 0, 0, 0, 0, 0, 0⟩,
  ⟨0x18, 1, 0x4, true, 0, false, 0, 0, 0, 0, 0, 0, 0⟩,
  ⟨0x1C, 1, 0x4, false, 0xFF, false, 0, 0, 0, 0, 0, 0, 0xA⟩,
  ⟨0x40, 18, 0x4, false, 0xFFFFF07F, false, 0, 0, 0, 0, 0, 0, 0xF000⟩,
  ⟨0xFC, 1, 0x4, false, 0, false, 0, 0, 0, 0x1, 0, 0, 0⟩,
  ⟨0x100, 2, 0x40, false, 0x801FFFF8, false, 0, 0, 0, 0, 0, 0, 0⟩,
  ⟨0x104, 2, 0x40, false, 0xFFFFFFFF, false, 0, 0, 0, 0, 0, 0, 0⟩,
  ⟨0x108, 2, 0x40, false, 0xFFFFFFFF, false, 0, 0, 0, 0, 0, 0, 0⟩,
  ⟨0x10C, 2, 0x40, false, 0xFFFFFFFF, false, 0, 0, 0, 0, 0, 0, 0⟩,
  ⟨0x110, 2, 0x40, false, 0x7FFFF, false, 0, 0, 0, 0, 0, 0, 0⟩,
  ⟨0x120, 2, 0x40, true, 0, false, 0, 0, 0, 0, 0, 0, 0x400⟩,
  ⟨0x124, 2, 0x40, true, 0, false, 0, 0, 0, 0, 0, 0, 0⟩,
  ⟨0x128, 2, 0x40, true, 0, true, 0, 0, 0, 0, 0, 0, 0⟩,
  ⟨0x12C, 2, 0x40, false, 0, false, 0, 0, 0, 0, 0xFFFFFFFF, 0, 0⟩,
  ⟨0x200, 2, 0x40, false, 0xFFFFFFFF, false, 0, 0, 0, 0, 0, 0, 0⟩,
  ⟨0x204, 2, 0x40, false, 0xFFFFFFFF, false, 0, 0, 0, 0, 0, 0, 0⟩,
  ⟨0x208, 2, 0x40, false, 0xFFFFFFFF, false, 0, 0, 0, 0, 0, 0, 0⟩,
  ⟨0x20C, 2, 0x40, false, 0xFFFFFFFF, false, 0, 0, 0, 0, 0, 0, 0⟩,
  ⟨0x210, 2, 0x40, false, 0xFFFFFFFF, false, 0, 0, 0, 0, 0, 0, 0⟩,
  ⟨0x214, 2, 0x40, false, 0x7FFFF, false, 0, 0, 0, 0, 0, 0, 0⟩,
  ⟨0x220, 2, 0x40, true, 0, false, 0, 0, 0, 0, 0, 0, 0x88⟩,
  ⟨0x224, 2, 0x40, true, 0, false, 0, 0, 0, 0, 0, 0, 0⟩,
  ⟨0x228, 2, 0x40, true, 0, true, 0, 0, 0, 0, 0, 0, 0⟩,
  ⟨0x22C, 2, 0x40, true, 0, false, 0, 0, 0, 0, 0, 0, 0⟩,
  ⟨0x230, 2, 0x40, false, 0, false, 0, 0, 0, 0, 0xFFFFFFFF, 0, 0⟩,
  ⟨0x300, 2, 0x40, false, 0xFF3F0FFF, false, 0, 0, 0, 0, 0, 0, 0⟩,
  ⟨0x304, 2, 0x40, false, 0xFFFFF800, false, 0, 0, 0, 0, 0, 0, 0⟩,
  ⟨0x308, 2, 0x40, false, 0xFFFFFFFF, false, 0, 0, 0, 0, 0, 0, 0⟩,
  ⟨0x30C, 2, 0x40, false, 0xFFFFFFFF, false, 0, 0, 0, 0, 0, 0, 0⟩,
  ⟨0x310, 2, 0x40, true, 0, false, 0, 0, 0, 0, 0, 0, 0⟩,
  ⟨0x314, 2, 0x40, true, 0, false, 0, 0, 0, 0, 0, 0, 0⟩,
  ⟨0x318, 2, 0x40, false, 0, false, 0, 0, 0, 0, 0xFFFFFFFF, 0, 0⟩,
  ⟨0x400, 2, 0x80, false, 0xFFFFFFFF, false, 0, 0, 0, 0, 0, 0, 0⟩,
  ⟨0x404, 2, 0x80, false, 0xFFFFFFFF, false, 0, 0, 0, 0, 0, 0, 0⟩,
  ⟨0x408, 2, 0x80, false, 0xFFFFFFFF, false, 0, 0, 0, 0, 0, 0, 0⟩,
  ⟨0x40C, 2, 0x80, false, 0xFFFFFFFF, false, 0, 0, 0, 0, 0, 0, 0⟩,
  ⟨0x410, 2, 0x80, false, 0xFFFFFFFF, false, 0, 0, 0, 0, 0, 0, 0⟩,
  ⟨0x414, 2, 0x80, true, 0, false, 0, 0, 0, 0, 0, 0, 0⟩,
  ⟨0x418, 2, 0x80, true, 0, false, 0, 0, 0, 0, 0, 0, 0x3FC0⟩,
  ⟨0x41C, 2, 0x80, false, 0, false, 0, 0, 0, 0, 0xFFFFFFFF, 0, 0⟩,
  ⟨0x500, 32, 0x4, true, 0, false, 0, 0, 0, 0, 0, 0, 0⟩,
  ⟨0x600, 2, 0x20, false, 0xFE000000, false, 0, 0, 0, 0, 0, 0, 0⟩,
  ⟨0x604, 2, 0x20, true, 0, false, 0, 0, 0, 0, 0, 0, 0⟩,
  ⟨0x608, 2, 0x20, true, 0, false, 0, 0, 0, 0, 0, 0, 0⟩,
  ⟨0x60C, 2, 0x20, true, 0, false, 0, 0, 0, 0, 0, 0, 0⟩,
  ⟨0x610, 2, 0x20, true, 0, false, 0, 0, 0, 0, 0, 0, 0⟩]

/-- Rows of block SFU. -/
def rowsSFU : List RegRow := [
  ⟨0x0, 1, 0x4, true, 0, false, 0, 0, 0, 0, 0, 0, 0x1400000⟩,
  ⟨0x4, 1, 0x4, true, 0, false, 0, 0, 0, 0, 0, 0, 0⟩,
  ⟨0x8, 1, 0x4, true, 0, false, 0, 0, 0, 0, 0, 0, 0⟩,
  ⟨0xC, 1, 0x4, true, 0, false, 0, 0, 0, 0, 0, 0, 0⟩,
  ⟨0x10, 1, 0x4, true, 0, false, 0, 0, 0, 0, 0, 0, 0⟩,
  ⟨0x14, 1, 0x4, true, 0, false, 0, 0, 0, 0, 0, 0, 0⟩,
  ⟨0x18, 1, 0x4, true, 0, false, 0, 0, 0, 0, 0, 0, 0⟩,
  ⟨0x1C, 1, 0x4, false, 0, false, 0, 0, 0, 0, 0, 0, 0⟩,
  ⟨0x20, 1, 0x4, true, 0, false, 0, 0, 0, 0, 0, 0, 0⟩,
  ⟨0x24, 1, 0x4, true, 0, false, 0, 0, 0, 0, 0, 0, 0⟩,
  ⟨0x2C, 1, 0x4, false, 0, false, 0, 0, 0, 0, 0xFFFFFFFF, 0, 0⟩,
  ⟨0x100, 1, 0x4, false, 0xFFFFFFF8, false, 0, 0, 0, 0, 0, 0, 0⟩,
  ⟨0x104, 1, 0x4, false, 0xF00FF, false, 0, 0, 0, 0, 0, 0, 0⟩,
  ⟨0x110, 8, 0x4, false, 0xFFF001FF, false, 0, 0, 0, 0, 0, 0, 0⟩,
  ⟨0x140, 1, 0x4, false, 0xFFFFFFF0, false, 0, 0, 0, 0, 0, 0, 0⟩,
  ⟨0x144, 1, 0x4, false, 0x3FFFF, false, 0, 0, 0, 0, 0, 0, 0⟩,
  ⟨0x148, 1, 0x4, false, 0x3FFFF, false, 0, 0, 0, 0, 0, 0, 0⟩,
  ⟨0x14C, 1, 0x4, false, 0xFFF3FFFF, false, 0, 0, 0, 0, 0, 0, 0⟩,
  ⟨0x150, 1, 0x4, false, 0x3FFFF, false, 0, 0, 0, 0, 0, 0, 0⟩,
  ⟨0x160, 1, 0x4, false, 0xFFFF, false, 0, 0, 0, 0, 0, 0, 0x3C⟩,
  ⟨0x164, 1, 0x4, false, 0x3FFFF, false, 0, 0, 0, 0, 0, 0, 0⟩,
  ⟨0x168, 1, 0x4, false, 0x3FFFF, false, 0, 0, 0, 0, 0, 0, 0⟩,
  ⟨0x170, 1, 0x4, false, 0x3FFFF, true, 0, 0, 0, 0, 0, 0, 0⟩,
  ⟨0x174, 1, 0x4, false, 0x3FFFF, true, 0, 0, 0, 0, 0, 0, 0⟩,
  ⟨0x178, 1, 0x4, false, 0x88FFFFFF, false, 0, 0, 0, 0, 0, 0, 0⟩,
  ⟨0x180, 1, 0x4, false, 0x3FFFF, false, 0, 0, 0, 0, 0, 0, 0⟩,
  ⟨0x184, 1, 0x4, false, 0x3FFFF, false, 0, 0, 0, 0, 0, 0, 0⟩,
  ⟨0x188, 1, 0x4, false, 0x88FFFFFF, false, 0, 0, 0, 0, 0, 0, 0⟩,
  ⟨0x190, 2, 0x4, false, 0xDFFFFF00, false, 0, 0, 0, 0, 0, 0, 0⟩]

/-- Rows of block WCK. -/
def rowsWCK : List RegRow := [
  ⟨0x0, 1, 0x4, true, 0, false, 0, 0, 0, 0, 0, 0, 0⟩,
  ⟨0x4, 1, 0x4, false, 0, false, 0, 0, 0, 0, 0, 0, 0⟩,
  ⟨0x8, 1, 0x4, true, 0, false, 0, 0, 0, 0, 0, 0, 0⟩,
  ⟨0xC, 1, 0x4, true, 0, false, 0, 0, 0, 0, 0, 0, 0⟩,
  ⟨0x10, 1, 0x4, true, 0, false, 0, 0, 0, 0, 0, 0, 0⟩,
  ⟨0x14, 1, 0x4, true, 0, false, 0, 0, 0, 0, 0, 0, 0⟩,
  ⟨0x18, 1, 0x4, true, 0, false, 0, 0, 0, 0, 0, 0, 0⟩,
  ⟨0x1C, 1, 0x4, true, 0, false, 0, 0, 0, 0, 0, 0, 0⟩,
  ⟨0x20, 1, 0x4, true, 0, false, 0, 0, 0, 0, 0, 0, 0⟩,
  ⟨0x24, 1, 0x4, true, 0, false, 0, 0, 0, 0, 0, 0, 0⟩,
  ⟨0x28, 1, 0x4, true, 0, false, 0, 0, 0, 0, 0, 0, 0⟩,
  ⟨0x40, 1, 0x4, false, 0xFF1F3FFF, false, 0, 0, 0, 0, 0, 0, 0x40000FF⟩,
  ⟨0x44, 1, 0x4, false, 0xFFFFFFFF, false, 0, 0, 0, 0, 0, 0, 0⟩,
  ⟨0x48, 1, 0x4, false, 0xFFFFF, false, 0, 0, 0, 0, 0, 0, 0x61A8⟩,
  ⟨0x4C, 1, 0x4, false, 0xFFFFFFFF, false, 0, 0, 0, 0, 0, 0, 0x88B50000⟩,
  ⟨0x50, 1, 0x4, false, 0xFFFFFFF, false, 0, 0, 0, 0, 0, 0, 0⟩,
  ⟨0x54, 1, 0x4, false, 0xFF07, false, 0, 0, 0, 0, 0, 0, 0x6405⟩,
  ⟨0x58, 1, 0x4, false, 0xFFFFFFFF, false, 0, 0, 0, 0, 0, 0, 0⟩,
  ⟨0x5C, 1, 0x4, false, 0xFFFF, false, 0, 0, 0, 0, 0, 0, 0⟩,
  ⟨0x60, 1, 0x4, true, 0, false, 0, 0, 0, 0, 0, 0, 0⟩,
  ⟨0x64, 1, 0x4, true, 0, false, 0, 0, 0, 0, 0, 0, 0⟩,
  ⟨0x70, 2, 0x4, false, 0xF0000000, false, 0, 0, 0, 0, 0, 0, 0⟩,
  ⟨0x78, 2, 0x4, true, 0, false, 0, 0, 0, 0, 0, 0, 0⟩,
  ⟨0x80, 2, 0x4, false, 0, false, 0, 0, 0, 0, 0xFFFFFFFF, 0, 0⟩,
  ⟨0x88, 2, 0x4, false, 0, false, 0, 0, 0, 0, 0xFFFFFFFF, 0, 0⟩,
  ⟨0x90, 1, 0x4, false, 0, false, 0, 0, 0, 0, 0xFFFFFFFF, 0, 0⟩,
  ⟨0x100, 128, 0x4, false, 0x800001FF, false, 0, 0, 0, 0, 0, 0, 0⟩,
  ⟨0x300, 128, 0x4, true, 0, false, 0, 0, 0, 0, 0, 0, 0xFF000000⟩,
  ⟨0x500, 64, 0x4, false, 0x8F83FFFF, false, 0, 0, 0, 0, 0, 0, 0⟩,
  ⟨0x600, 64, 0x4, false, 0x8F83FFFF, false, 0, 0, 0, 0, 0, 0, 0⟩,
  ⟨0x1000, 512, 0x4, false, 0xFFFFFFFF, false, 0, 0, 0, 0, 0, 0, 0⟩]

/-- Rows of block CANn. -/
def rowsCAN : List RegRow := [
  ⟨0x0, 1, 0x4, false, 0xFC000000, false, 0, 0, 0, 0, 0, 0, 0x10000000⟩,
  ⟨0x4, 1, 0x4, false, 0xFFFFFFE0, false, 0, 0, 0, 0, 0, 0, 0⟩,
  ⟨0x8, 1, 0x4, false, 0xFFFFFFC0, false, 0, 0, 0, 0, 0, 0, 0⟩,
  ⟨0xC, 1, 0x4, true, 0, false, 0, 0, 0, 0, 0, 0, 0xFF⟩,
  ⟨0x10, 1, 0x4, false, 0, false, 0, 0, 0, 0, 0xFFFFFFFF, 0, 0⟩,
  ⟨0x14, 1, 0x4, false, 0xFFFFFFFF, false, 0, 0, 0, 0, 0, 0, 0xFEFEFE00⟩,
  ⟨0x18, 1, 0x4, false, 0xFFFFFFFF, false, 0, 0, 0, 0, 0, 0, 0⟩,
  ⟨0x1C, 1, 0x4, false, 0xFFFFFFFF, false, 0, 0, 0, 0, 0, 0, 0⟩,
  ⟨0x20, 1, 0x4, false, 0, false, 0, 0, 0, 0, 0, 0, 0⟩,
  ⟨0x100, 32, 0x8, false, 0xFFFFFFFF, false, 0, 0, 0, 0, 0, 0, 0⟩,
  ⟨0x104, 32, 0x8, false, 0x9FFFFFFF, false, 0, 0, 0, 0, 0, 0, 0⟩,
  ⟨0x200, 32, 0x10, false, 0xC0000FFF, false, 0, 0, 0, 0, 0, 0, 0⟩,
  ⟨0x204, 32, 0x10, false, 0x1FFFFFFF, false, 0, 0, 0, 0, 0, 0, 0⟩,
  ⟨0x208, 32, 0x10, false, 0x1FFFFFFF, false, 0, 0, 0, 0, 0, 0, 0⟩,
  ⟨0x20C, 32, 0x10, true, 0, false, 0, 0, 0, 0, 0, 0, 0xFF000000⟩,
  ⟨0x400, 16, 0x4, false, 0x8FFC01FF, false, 0, 0, 0, 0, 0, 0, 0⟩,
  ⟨0x440, 16, 0x4, false, 0x8FFC01FF, false, 0, 0, 0, 0, 0, 0, 0⟩]

/-- Rows of block STM. -/
def rowsSTM : List RegRow := [
  ⟨0x0, 1, 0x4, true, 0, false, 0, 0, 0, 0, 0, 0, 0⟩,
  ⟨0x4, 1, 0x4, true, 0, false, 0, 0, 0, 0, 0, 0, 0⟩,
  ⟨0x8, 1, 0x4, false, 0, false, 0, 0, 0, 0, 0xFFFFFFFF, 0, 0⟩,
  ⟨0x10, 1, 0x4, true, 0, false, 0, 0, 0, 0, 0, 0, 0⟩,
  ⟨0x14, 1, 0x4, false, 0, false, 0, 0xFFFFFFFF, 0, 0, 0, 0, 0x841E100⟩,
  ⟨0x18, 1, 0x4, true, 0, false, 0, 0, 0, 0, 0, 0, 0⟩,
  ⟨0x1C, 1, 0x4, false, 0, false, 0, 0, 0, 0, 0xFFFFFFFF, 0, 0⟩,
  ⟨0x20, 1, 0x4, true, 0, false, 0, 0, 0, 0, 0, 0, 0⟩,
  ⟨0x24, 1, 0x4, true, 0, false, 0, 0, 0, 0, 0, 0, 0⟩,
  ⟨0x30, 1, 0x4, false, 0, false, 0, 0xFFFF, 0, 0, 0, 0, 0x64⟩,
  ⟨0x34, 1, 0x4, true, 0, false, 0, 0, 0, 0, 0, 0, 0⟩,
  ⟨0x38, 1, 0x4, true, 0, false, 0, 0, 0, 0, 0, 0, 0⟩,
  ⟨0x3C, 1, 0x4, false, 0, false, 0, 0, 0, 0, 0xFFFF0000, 0, 0⟩,
  ⟨0x40, 1, 0x4, false, 0, false, 0, 0, 0, 0, 0, 0, 0⟩,
  ⟨0xFC, 1, 0x4, false, 0, false, 0, 0, 0, 0x1, 0, 0, 0⟩]

/-- Rows of block XSP. -/
def rowsXSP : List RegRow := [
  ⟨0x0, 2, 0x4, false, 0, false, 0, 0xC0FF000F, 0, 0, 0, 0, 0x100002⟩,
  ⟨0x10, 1, 0x4, false, 0, false, 0, 0, 0, 0, 0xFFFF0000, 0, 0⟩,
  ⟨0xFC, 1, 0x4, false, 0, false, 0, 0, 0, 0x1, 0, 0, 0⟩]

/-- Rows of block HIF. -/
def rowsHIF : List RegRow := [
  ⟨0x0, 1, 0x4, true, 0, false, 0, 0, 0, 0, 0, 0, 0⟩,
  ⟨0x4, 1, 0x4, false, 0, false, 0, 0xFFFF, 0, 0, 0, 0, 0xA⟩,
  ⟨0x8, 1, 0x4, false, 0, false, 0, 0xFFFF00FF, 0, 0, 0, 0, 0xC3500008⟩,
  ⟨0xC, 1, 0x4, true, 0, false, 0, 0, 0, 0, 0, 0, 0⟩,
  ⟨0x10, 1, 0x4, true, 0, false, 0, 0, 0, 0, 0, 0, 0⟩,
  ⟨0x14, 1, 0x4, true, 0, false, 0, 0, 0, 0, 0, 0, 0⟩,
  ⟨0x18, 1, 0x4, false, 0, false, 0, 0, 0, 0, 0, 0, 0⟩,
  ⟨0x1C, 1, 0x4, false, 0, false, 0, 0, 0, 0, 0xFFFFFFFF, 0, 0⟩,
  ⟨0x20, 2, 0x4, true, 0, false, 0, 0, 0, 0, 0, 0, 0⟩,
  ⟨0xFC, 1, 0x4, false, 0, false, 0, 0, 0, 0x1, 0, 0, 0⟩]

/-- Rows of block QDM. -/
def rowsQDM : List RegRow := [
  ⟨0x0, 1, 0x4, false, 0, false, 0, 0, 0, 0, 0xFFFF0000, 0, 0⟩,
  ⟨0x100, 8, 0x40, false, 0, false, 0x80001CFF, 0, 0, 0, 0, 0, 0xC44⟩,
  ⟨0x104, 8, 0x40, false, 0, false, 0xFFFFF000, 0, 0, 0, 0, 0, 0⟩,
  ⟨0x108, 8, 0x40, false, 0, false, 0xFFFFFFFF, 0, 0, 0, 0, 0, 0⟩,
  ⟨0x10C, 8, 0x40, false, 0, false, 0xFFFFF000, 0, 0, 0, 0, 0, 0⟩,
  ⟨0x110, 8, 0x40, false, 0, false, 0xFFFFFFFF, 0, 0, 0, 0, 0, 0⟩,
  ⟨0x114, 8, 0x40, true, 0, false, 0, 0, 0, 0, 0, 0, 0⟩,
  ⟨0x118, 8, 0x40, true, 0, false, 0, 0, 0, 0, 0, 0, 0x8000⟩,
  ⟨0x11C, 8, 0x40, true, 0, false, 0, 0, 0, 0, 0, 0, 0⟩,
  ⟨0x120, 8, 0x40, true, 0, false, 0, 0, 0, 0, 0, 0, 0⟩]

/-- Rows of block XTU. -/
def rowsXTU : List RegRow := [
  ⟨0x0, 1, 0x4, false, 0, false, 0, 0, 0, 0, 0, 0, 0⟩,
  ⟨0x4, 1, 0x4, false, 0, false, 0, 0xFFFFE000, 0, 0, 0, 0, 0x103C0000⟩,
  ⟨0x8, 1, 0x4, false, 0, false, 0, 0x7F, 0, 0, 0, 0, 0x20⟩,
  ⟨0xC, 1, 0x4, false, 0, false, 0, 0, 0, 0, 0, 0, 0⟩,
  ⟨0x10, 1, 0x4, false, 0, false, 0, 0, 0x1, 0, 0, 0, 0⟩,
  ⟨0x14, 1, 0x4, false, 0, false, 0, 0, 0, 0, 0xFFFFFFFF, 0, 0⟩,
  ⟨0xFC, 1, 0x4, false, 0, false, 0, 0, 0, 0x1, 0, 0, 0⟩]

/-- Rows of block PMU. -/
def rowsPMU : List RegRow := [
  ⟨0x0, 1, 0x4, true, 0, false, 0, 0, 0, 0, 0, 0, 0⟩,
  ⟨0x4, 1, 0x4, false, 0, false, 0, 0, 0, 0, 0, 0xFFFFFFFF, 0⟩,
  ⟨0x8, 1, 0x4, false, 0, false, 0, 0xFFFF0003, 0, 0, 0, 0, 0x3E80003⟩,
  ⟨0xC, 1, 0x4, false, 0, false, 0, 0xFFFF01FE, 0, 0, 0, 0, 0x20A01FE⟩,
  ⟨0x10, 1, 0x4, true, 0, false, 0, 0, 0, 0, 0, 0, 0⟩,
  ⟨0x14, 1, 0x4, true, 0, false, 0, 0, 0, 0, 0, 0, 0⟩,
  ⟨0x18, 1, 0x4, true, 0, false, 0, 0, 0, 0, 0, 0, 0⟩,
  ⟨0x1C, 1, 0x4, false, 0, false, 0x7F, 0, 0, 0, 0, 0, 0⟩,
  ⟨0x20, 1, 0x4, true, 0, false, 0, 0, 0, 0, 0, 0, 0⟩,
  ⟨0x24, 1, 0x4, true, 0, false, 0, 0, 0, 0, 0, 0, 0⟩,
  ⟨0x28, 1, 0x4, false, 0, false, 0, 0, 0, 0, 0, 0xFFFFFFFF, 0⟩,
  ⟨0x2C, 1, 0x4, false, 0, false, 0xFFFFFFFF, 0, 0, 0, 0, 0, 0⟩,
  ⟨0x30, 1, 0x4, true, 0, false, 0, 0, 0, 0, 0, 0, 0⟩,
  ⟨0x34, 1, 0x4, false, 0, false, 0, 0xFFFF, 0, 0, 0, 0, 0x8C78⟩,
  ⟨0x38, 1, 0x4, false, 0, false, 0, 0, 0, 0, 0xFF000000, 0, 0⟩,
  ⟨0xFC, 1, 0x4, false, 0, false, 0, 0, 0, 0x1, 0, 0, 0⟩,
  ⟨0x100, 7, 0x4, true, 0, false, 0, 0, 0, 0, 0, 0, 0x1⟩,
  ⟨0x120, 7, 0x4, false, 0, false, 0, 0xC0000000, 0, 0, 0, 0, 0x80000000⟩,
  ⟨0x140, 7, 0x4, true, 0, false, 0, 0, 0, 0, 0, 0, 0⟩]

/-- Rows of block CRU. -/
def rowsCRU : List RegRow := [
  ⟨0x0, 1, 0x4, true, 0, false, 0, 0, 0, 0, 0, 0, 0⟩,
  ⟨0x4, 1, 0x4, true, 0x7FFFF, false, 0, 0, 0, 0, 0, 0, 0x2EE0⟩,
  ⟨0x8, 1, 0x4, true, 0, false, 0, 0, 0, 0, 0, 0, 0x2EE0⟩,
  ⟨0xC, 1, 0x4, true, 0, false, 0, 0, 0, 0, 0, 0, 0x10000002⟩,
  ⟨0x10, 1, 0x4, true, 0, false, 0, 0, 0, 0, 0, 0, 0⟩,
  ⟨0x14, 1, 0x4, false, 0, false, 0, 0x8001FFFF, 0, 0, 0, 0, 0x1000⟩,
  ⟨0x18, 1, 0x4, false, 0, false, 0, 0, 0, 0, 0xFFFF0000, 0, 0⟩,
  ⟨0x1C, 1, 0x4, false, 0, false, 0, 0, 0, 0, 0, 0, 0⟩,
  ⟨0x20, 1, 0x4, true, 0, false, 0, 0, 0, 0, 0, 0, 0⟩,
  ⟨0x24, 1, 0x4, false, 0, false, 0, 0, 0x1FE, 0, 0, 0, 0x2⟩,
  ⟨0xFC, 1, 0x4, false, 0, false, 0, 0, 0, 0x1, 0, 0, 0⟩]

/-- The rows of block number i (R562); none for a block number the table does not list. CRY and OTP hold no register of the
part's interface (R563). -/
def blockRows (i : Nat) : Option (List RegRow) :=
  match i with
  | 0x00 => some rowsBCN
  | 0x01 => some rowsXLA
  | 0x02 => some rowsFCL
  | 0x03 => some rowsMBX
  | 0x04 => some rowsSEC
  | 0x05 => some []
  | 0x06 => some rowsLCS
  | 0x07 => some []
  | 0x08 => some rowsIDB
  | 0x09 => some rowsBST
  | 0x0A => some rowsDBG
  | 0x0B => some rowsSTA
  | 0x10 => some rowsPCL
  | 0x11 => some rowsHOP
  | 0x18 => some rowsCEN
  | 0x19 => some rowsPGN
  | 0x20 => some rowsCMU
  | 0x21 => some rowsAFE
  | 0x22 => some rowsGDC
  | 0x23 => some rowsPFB
  | 0x24 => some rowsSFU
  | 0x28 => some rowsWCK
  | 0x29 | 0x2A | 0x2B | 0x2C | 0x2D | 0x2E => some rowsCAN
  | 0x30 => some rowsSTM
  | 0x31 => some rowsXSP
  | 0x38 => some rowsHIF
  | 0x39 => some rowsQDM
  | 0x3A => some rowsXTU
  | 0x40 => some rowsPMU
  | 0x41 => some rowsCRU
  | _ => none

/-- Whether offset o of a block is an element of the row. -/
def RegRow.holds (r : RegRow) (o : Nat) : Bool :=
  r.base ≤ o && (o - r.base) % r.stride == 0 && (o - r.base) / r.stride < r.n

/-- The row that holds offset o. -/
def findRow : List RegRow → Nat → Option RegRow
  | [], _ => none
  | r :: rs, o => if r.holds o then some r else findRow rs o

/-- The row of the register with key k, where the key is the offset from 0x4000_0000. -/
def rowOf (k : Nat) : Option RegRow :=
  match blockRows (k / 0x10000) with
  | some rs => findRow rs (k % 0x10000)
  | none => none

/-- The reset value of the register with key k. FCL.SRC_CFG[n] resets to the default severity and stop of R342 (R358). -/
def resetWord (k : Nat) : BitVec 32 :=
  if 0x021000 ≤ k ∧ k < 0x021800 ∧ k % 8 = 0 then srcCfgReset ((k - 0x021000) / 8)
  else match rowOf k with
    | some r => BitVec.ofNat 32 r.rst
    | none => 0

end Sys2Proof.Machine
end

