-- ==== Sys2Proof/Machine/State.lean ====
section
/-!
DEFINITION. The state of the part: three lanes, each with its registers, memories and the state that its units hold beside
their registers, and the queue of waiting commands.
A register's value stands in the map regs, at its reset value when unlisted; what a register only shows of state held elsewhere
is computed when it is read (Machine/View.lean).
-/
namespace Sys2Proof.Machine

open Sys2Proof

/-- What a lane sends: over its links (R95, R99, R100, R102), to its drive die (R28), and outward. -/
inductive Emit where
  | marker
  | pulse
  | agree (f : AgreeFrame)
  | output (f : OutFrame)
  | control (h : CtlHdr) (m : CtlMsg)
  | serviceRequired
  | snuff
  | release
  | heartbeat
  | pwmUpdate (bridge : Nat)
  | probe (ok : Bool)
  | wick (port : Nat) (f : WickFrame)
  | bestEffort (port : Nat) (bytes : Nat)
  | can (n : Nat) (f : CanFrame)
  | addressClaimed (n : Nat) (addr : Nat)
  | completion (q : Nat) (addr : BitVec 64) (words : List Word)
  | hostRead (addr : BitVec 64) (bytes : Nat)
  | msix (fn vector : Nat)
  | hostWrite (addr : BitVec 64) (data : List Nat)
  | uart (text : Nat)
  | uartRecord (r : Rec)
  | chip (data : List Nat)
  | tdo (word : Word)
deriving DecidableEq, Repr

/-- One lane: its letter, registers by key (offset from 0x4000_0000), memories, units, the selected TAP instruction, whether the statistics period in
progress began
at lane reset or at the end of RESYNC, the result of the last access, a counter
that numbers the free values drawn (the model's own), and what it has sent, newest first. -/
structure Lane where
  id    : LaneId
  regs  : Sparse Word := []
  mem   : Memory := {}
  clk   : Clk := {}
  bcn   : Bcn := {}
  xla   : Xla := {}
  pcl   : Pcl := {}
  cen   : Cen := {}
  fcl   : Fcl := {}
  cmu   : Cmu := {}
  afe   : Afe := {}
  pfb   : Pfb := {}
  gdc   : Gdc := {}
  drive : Drive := {}
  sfu   : Sfu := {}
  wck   : Wck := {}
  can   : Can := {}
  hif   : Hif := {}
  mbx   : Mbx := {}
  stage : Stage := {}
  inMap : Sparse Word := []
  hostKeys : List Nat := []
  norCap : Nat := 0
  stm   : Stm := {}
  nor   : Nor := {}
  nand  : Nand := {}
  pmu   : Pmu := {}
  otp   : Otp := {}
  boot  : Boot := {}
  sec   : Sec := {}
  trc   : Trace := {}
  tap   : Tap := .idcode
  staPartial : Bool := true
  bus   : BusRes := .none
  free  : Nat := 0
  out   : List Emit := []
deriving DecidableEq, Repr

/-- Faults: none is raised by any command, since every access or command that fails has an effect the spec gives. -/
inductive Fault where
  /-- Raised by no command; safe. -/
  | noCommandFaults
deriving DecidableEq, Repr

/-- Refusals. -/
inductive Refusal where
  /-- Raised by exec for a command that has no meaning in the model; safe: the model stops where the part goes on. -/
  | notModelled (mnemonic : String)
deriving DecidableEq, Repr

/-- The part: its three lanes and the commands that wait, first in, first out. -/
structure State where
  laneA : Lane
  laneB : Lane
  laneC : Lane
  pending : List Instr
deriving DecidableEq, Repr

/-- The 4-word record of a die (R515). -/
def dieRecord (lot wafer x y type version : Nat) : List Word :=
  let ws := [BitVec.ofNat 32 lot, BitVec.ofNat 32 (wafer * 2 ^ 24 + x * 2 ^ 16 + y * 2 ^ 8 + type * 2 ^ 4), BitVec.ofNat 32 version]
  ws ++ [crc32c (ws.flatMap wordBytes)]

/-- The identity of the part that the model starts from (DESIGN CHOICE, log entry 80): lot 0, wafer 1, each die at X = its lane's code and Y = 0,
serial 0, PKG_BIND the SHA-384 that R516 names over these records, signatures and keys 0. -/
def Otp.reset (id : LaneId) : Otp :=
  { dieLane := dieRecord 0 1 id.code 0 1 0, dieDrive := dieRecord 0 1 id.code 0 2 0
    pkgBind := 0x4FDFB710BB03C24FB4F17E7FD224D38AA58B64EF05568ACB15760A3AB8AA8B3B316ECFD6704C3271F83DDCD1C9C74821 }

/-- A lane after power-on reset: every unit at its reset values, nothing listed, lane state BOOT (R118). -/
def Lane.reset (id : LaneId) : Lane := { id := id, otp := Otp.reset id, xla := { lst := (Tri.all LaneState.off).set id .boot } }

/-- The part right after reset of its three lanes, with no command waiting. -/
def State.reset : State :=
  { laneA := Lane.reset .a, laneB := Lane.reset .b, laneC := Lane.reset .c, pending := [] }

/-- The lane named. -/
def State.lane (s : State) (l : LaneId) : Lane :=
  match l with
  | .a => s.laneA | .b => s.laneB | .c => s.laneC

/-- The state with the lane named replaced; the lane's letter is fixed by its die's position (R141). -/
def State.setLane (s : State) (l : LaneId) (v : Lane) : State :=
  match l with
  | .a => { s with laneA := { v with id := .a } }
  | .b => { s with laneB := { v with id := .b } }
  | .c => { s with laneC := { v with id := .c } }

end Sys2Proof.Machine
end

