-- ==== Sys2Proof/Machine/Ops.lean ====
section
/-!
DEFINITION. The named operations over a lane: register words and fields, time, memories, what the lane sends, the Snuff action,
fences and resets.
-/
namespace Sys2Proof.Machine

open Sys2Proof

/-! ### Registers -/

/-- The key of element (i, j) of a field's register. -/
def Fld.at_ (f : Fld) (i j : Nat) : Nat := f.key + f.s1 * i + f.s2 * j

/-- The word of the register with key k in a register map; an unlisted register stands at its reset value. -/
def regWord (m : Sparse Word) (k : Nat) : Word := Sparse.get (resetWord k) m k

/-- The map after register k takes w. -/
def setRegWord (m : Sparse Word) (k : Nat) (w : Word) : Sparse Word := Sparse.set (resetWord k) m k w

/-- Bits [lo + n - 1 : lo] of a word. -/
def bitsOf (w : Word) (lo n : Nat) : Nat := w.toNat / 2 ^ lo % 2 ^ n

/-- The word with bits [lo + n - 1 : lo] set to v modulo 2^n. -/
def setBits (w : Word) (lo n v : Nat) : Word :=
  BitVec.ofNat 32 (w.toNat - w.toNat / 2 ^ lo % 2 ^ n * 2 ^ lo + v % 2 ^ n * 2 ^ lo)

/-- A field of a register map. -/
def cfgRd (m : Sparse Word) (f : Fld) (i : Nat := 0) (j : Nat := 0) : Nat := bitsOf (regWord m (f.at_ i j)) f.lo f.w

/-- An n-bit number read as two's complement. -/
def signedOf (n v : Nat) : Int := if v < 2 ^ (n - 1) then v else (v : Int) - 2 ^ n

/-- A field of a register map, read as two's complement. -/
def cfgRdS (m : Sparse Word) (f : Fld) (i : Nat := 0) (j : Nat := 0) : Int := signedOf f.w (cfgRd m f i j)

/-- The word of a register of the lane. -/
def Lane.word (l : Lane) (k : Nat) : Word := regWord l.regs k

/-- The lane after register k takes w. -/
def Lane.setWord (l : Lane) (k : Nat) (w : Word) : Lane := { l with regs := setRegWord l.regs k w }

/-- A field of the lane's registers. -/
def Lane.rd (l : Lane) (f : Fld) (i : Nat := 0) (j : Nat := 0) : Nat := cfgRd l.regs f i j

/-- A field of the lane's registers, read as two's complement. -/
def Lane.rdS (l : Lane) (f : Fld) (i : Nat := 0) (j : Nat := 0) : Int := cfgRdS l.regs f i j

/-- Whether a one-bit field is set. -/
def Lane.on (l : Lane) (f : Fld) (i : Nat := 0) (j : Nat := 0) : Bool := l.rd f i j ≠ 0

/-- The lane after a field takes v, the other bits kept. -/
def Lane.wr (l : Lane) (f : Fld) (v : Nat) (i : Nat := 0) (j : Nat := 0) : Lane :=
  l.setWord (f.at_ i j) (setBits (l.word (f.at_ i j)) f.lo f.w v)

/-- The lane after a field takes a signed value in two's complement. -/
def Lane.wrS (l : Lane) (f : Fld) (v : Int) (i : Nat := 0) (j : Nat := 0) : Lane :=
  l.wr f (v.emod (2 ^ f.w)).toNat i j

/-- The lane after a flag field takes b. -/
def Lane.flag (l : Lane) (f : Fld) (b : Bool) (i : Nat := 0) (j : Nat := 0) : Lane := l.wr f b.toNat i j

/-- The lane after a counter field rises by n and saturates. -/
def Lane.bump (l : Lane) (f : Fld) (i : Nat := 0) (j : Nat := 0) (n : Nat := 1) : Lane :=
  l.wr f (satN f.w (l.rd f i j + n)) i j

/-- The lane after a counter field rises by one and wraps. -/
def Lane.wrapInc (l : Lane) (f : Fld) (i : Nat := 0) (j : Nat := 0) : Lane := l.wr f (l.rd f i j + 1) i j

/-! ### Time, sending, free values -/

/-- The lane at tick t of its current control cycle. -/
def Lane.atTick (l : Lane) (t : Nat) : Lane := { l with clk := { l.clk with now := l.clk.base + t } }

/-- The tick of the current control cycle. -/
def Lane.tick (l : Lane) : Nat := l.clk.now - l.clk.base

/-- The lane after sending e. -/
def Lane.emit (l : Lane) (e : Emit) : Lane := { l with out := e :: l.out }

/-- The lane after sending a control message to a lane, 3 for both peers (R102): header, payload and CRC. -/
def Lane.sendCtl (l : Lane) (dest : Nat) (m : CtlMsg) : Lane :=
  l.emit (.control (({ type := 3, src := l.id.code, dest := dest, ccn := l.word XLA.CCN_CCN.key, payload := m.payload } : CtlHdr).withCrc m.code) m)

/-- The lane after one free value has been drawn. -/
def Lane.drew (l : Lane) : Lane := { l with free := l.free + 1 }

/-- The configured length of the control cycle in ticks (R33). -/
def Lane.cycleLen (l : Lane) : Nat := l.rd CRU.CYCLE_TICKS

/-- A time in milliseconds as control cycles (R349). -/
def Lane.msCycles (l : Lane) (ms : Nat) : Nat := ceilDiv (ms * 600000) l.cycleLen

/-- The current control-cycle number. -/
def Lane.ccn (l : Lane) : Word := l.word XLA.CCN_CCN.key

/-- Whether cycle number m lies 1 to 2^31 - 1 cycles ahead of c (R12). -/
def ahead (c m : Word) : Bool := 1 ≤ (m - c).toNat && (m - c).toNat < 0x80000000

/-- Those of a list of ticks that lie less than w ticks before now. -/
def within (now w : Nat) (ts : List Nat) : List Nat := ts.filter fun t => decide (now < t + w)

/-- Ten minutes and ten seconds of the lane's timebase in ticks. -/
def tenMinutes : Nat := 360000000000
def tenSeconds : Nat := 6000000000

/-! ### Power domains -/

/-- Whether switched domain d is ON (R466, R469); 7 stands for the AON domain, which always is (R565). -/
def Lane.domOn (l : Lane) (d : Nat) : Bool :=
  decide (7 ≤ d) || (decide (bitsOf (l.word PMU.DOM_STATE_STATE.key) (2 * d) 2 = 0) &&
    (match l.pmu.power with | .run | .doze => true | _ => false))

/-- The access waits for its domain's clock, and the fabric access timer runs (R488). -/
def Lane.stall (l : Lane) (ini : Nat) (addr : Word) (w : Option Word) (wide : Option (BitVec 64 × BitVec 8) := none) : Lane :=
  { l with pmu := { l.pmu with stalled := l.pmu.stalled ++ [⟨ini, addr, w, wide, l.clk.now⟩] } }

/-- What a unit of domain d makes of the lane: nothing while its domain is not ON (R30, R466). -/
def Lane.gated (l : Lane) (d : Nat) (m : Lane) : Lane := if l.domOn d then m else l

/-! ### Lane states -/

/-- The lane's own state. -/
def Lane.own (l : Lane) : LaneState := l.xla.lst.get l.id

/-- Whether a lane state is healthy (R43). -/
def LaneState.healthy : LaneState → Bool
  | .standby | .authority => true
  | _ => false

/-- Whether a lane with a session completes each command with LANE_UNAVAILABLE (R380). -/
def LaneState.outside : LaneState → Bool
  | .resync | .fenced | .sync => true
  | _ => false

/-- The safe outputs switched off. -/
def outsOff (m : Sparse SafeOut) : Sparse SafeOut :=
  [0, 1].foldl (fun m o => Sparse.set {} m o { Sparse.get {} m o with on := false, pulse := false, request := false }) m

/-- The lane in a new state of its own; in a state other than STANDBY and AUTHORITY it holds both its safe outputs off (R313). -/
def Lane.setOwn (l : Lane) (st : LaneState) : Lane :=
  { l with xla := { l.xla with lst := l.xla.lst.set l.id st }
           sfu := { l.sfu with outs := if st.healthy then l.sfu.outs else outsOff l.sfu.outs } }

/-- Whether a fence applies in a lane state (R118, R347). -/
def LaneState.fenceable : LaneState → Bool
  | .standby | .authority | .resync => true
  | _ => false

/-- The healthy lanes as this lane holds them. -/
def Lane.healthySet (l : Lane) : Tri Bool := l.xla.lst.map LaneState.healthy

/-- Whether a lane is in twin mode as this lane knows. -/
def Lane.isTwin (l : Lane) (x : LaneId) : Bool := if x = l.id then l.on BCN.MODE_TWIN else l.xla.twins.get x

/-- Whether a lane is an authority candidate (R127). -/
def Lane.candidate (l : Lane) (x : LaneId) : Bool := (l.xla.lst.get x).healthy && !l.isTwin x

/-- The authority order (R126). -/
def Lane.authOrder (l : Lane) : List LaneId :=
  [l.rd XLA.AUTH_ORDER_FIRST, l.rd XLA.AUTH_ORDER_SECOND, l.rd XLA.AUTH_ORDER_THIRD].filterMap LaneId.ofCode

/-- The link that leads to a peer: 0 to the next lane in letter order, 1 to the previous. -/
def Lane.linkTo (l : Lane) (x : LaneId) : Nat := if x = l.id.next then 0 else 1

/-- The peer at the other end of a link. -/
def Lane.peerOf (l : Lane) (link : Nat) : LaneId := if link = 0 then l.id.next else l.id.prev

/-- The two other lanes. -/
def Lane.peers (l : Lane) : List LaneId := [LaneId.a, LaneId.b, LaneId.c].filter fun x => decide (x ≠ l.id)

/-! ### Unit fences -/

/-- The unit of a source (R342). -/
def unitOf (n : Nat) : FUnit := ((srcInfo n).map SrcInfo.unit).getD .none

/-- Whether some source holds a fence on a unit (R345). -/
def Lane.fenced (l : Lane) (u : FUnit) : Bool := l.fcl.src.any fun e => e.2.fence && decide (unitOf e.1 = u)

/-! ### Drive die: latches and the Snuff action -/

/-- Protection state of unit u (0 ST, 1 BK, 2 chopper). -/
def Lane.prot (l : Lane) (u : Nat) : Prot := Sparse.get .normal l.drive.prot u

/-- The lane with unit u in protection state p. -/
def Lane.setProt (l : Lane) (u : Nat) (p : Prot) : Lane :=
  { l with drive := { l.drive with prot := Sparse.set .normal l.drive.prot u p } }

/-- Whether a unit is latched off (R286, R287). -/
def Prot.latched : Prot → Bool
  | .retryLimit | .twoLeg => true
  | _ => false

/-- The pair's inputs pass the delay registers of 2 stages to the checker core (R52): those that have passed leave. -/
def Lane.feedChecker (l : Lane) (i : BeaconIn) : Lane :=
  if l.on BCN.MODE_LOCKSTEP then
    { l with bcn := { l.bcn with delay := (l.bcn.delay.filter fun e => decide (l.clk.now < e.2 + 2)) ++ [(i, l.clk.now)] } }
  else l

/-- Whether any latch of R296 is set: two-leg short, retry limit, VGD lockout limit or a faulty chopper. -/
def Lane.driveLatched (l : Lane) : Bool :=
  (l.prot 0).latched || (l.prot 1).latched || (l.prot 2).latched || l.drive.uvLatch || l.drive.chopFaulty

/-- Whether the lane stays FENCED until its next power-on reset (R60, R125, R296). -/
def Lane.heldFenced (l : Lane) : Bool := l.on XLA.FENCE_STATUS_PERMANENT || l.on BCN.LS_STATUS_PERMANENT || l.driveLatched

end Sys2Proof.Machine
end

