-- ==== Sys2Proof/Machine/Outputs.lean ====
section
/-!
DEFINITION. The gate outputs of a lane (R213 to R218, R282, R288, R292, R297 to R299): PWM periods, what each switch is commanded to do and
since when, the deadtime, and the Snuff action as the lane die commands it (R298).
-/
namespace Sys2Proof.Machine

open Sys2Proof

/-! ### PWM periods (R37 to R39, R218) -/

/-- The PWM period of bridge b in ticks (R218). -/
def Lane.pwmPeriod (l : Lane) (b : Nat) : Nat := l.cycleLen / (l.rd CMU.CFG_PWM_DIV b + 1)

/-- Whether the bridges run PWM: not under a control cycle longer than 250 µs (R38). -/
def Lane.runsPwm (l : Lane) : Bool := decide (l.cycleLen ≤ 150000)

/-- The carrier offset of a lane in ticks (R39). -/
def carrierOffset (x : LaneId) (p : Nat) : Nat := x.code * (p / 3)

/-- The on-time h of R218 with its two corrections. -/
def onTime (duty p minPulse : Nat) : Nat :=
  let h := duty * p / 16384
  let h1 := if h < minPulse then 0 else h
  if p - h1 < minPulse then p else h1

/-- The offset a of R218. -/
def onOffset (h p : Nat) : Nat := (p - h) / 2

/-- Whether tick x of a control cycle is a period boundary of bridge b (R39): the carriers of the lanes lie a third of a period apart,
counted from the cycle start, and the cycle's last period takes up the trim. -/
def Lane.isBoundary (l : Lane) (b x : Nat) : Bool :=
  (List.range (l.rd CMU.CFG_PWM_DIV b + 1)).any fun k => decide (x = carrierOffset l.id (l.pwmPeriod b) + k * l.pwmPeriod b)

/-- ENABLE, DIR, MODE and DUTY of a bridge command word (R210). -/
def cmdEnable (w : Val) : Bool := w.getLsbD 17
def cmdDir (w : Val) : Nat := (w.getLsbD 16).toNat
def cmdMode (w : Val) : Nat := w.toNat / 16384 % 4
def cmdDuty (w : Val) : Nat := w.toNat % 16384

/-! ### Bridges -/

/-- What the commutation unit keeps of bridge b. -/
def Lane.bridge (l : Lane) (b : Nat) : BridgeSt := Sparse.get {} l.cmu.br b

/-- The lane with what the commutation unit keeps of bridge b replaced. -/
def Lane.setBridge (l : Lane) (b : Nat) (s : BridgeSt) : Lane := { l with cmu := { l.cmu with br := Sparse.set {} l.cmu.br b s } }

/-- Whether a bridge carries commands (R239): an output index in use has its class. -/
def carriesCmd (m : Sparse Word) (b : Nat) : Bool :=
  (List.range (cfgRd m XLA.VEC_CFG_OUT_COUNT)).any fun j => decide (cfgRd m XLA.OUT_CFG_CLASS j = b + 1)

/-- The chopping, low-side and floating phase of a sector (R216); 0 U, 1 V, 2 W. -/
def sectorPhases (s : Nat) : Nat × Nat × Nat :=
  match s with
  | 0 => (0, 1, 2) | 1 => (0, 2, 1) | 2 => (1, 2, 0) | 3 => (1, 0, 2) | 4 => (2, 0, 1) | _ => (2, 1, 0)

/-- The sector whose pattern applies, after DIR (R216). -/
def dirSector (s dir : Nat) : Nat := if dir = 1 then (s + 3) % 6 else s

/-- The absolute tick at which the sample window of bridge b ends, t_s + 200 ns: of this cycle's sample before the commit, of the next
one's after it (R217). -/
def Lane.windowEnd (l : Lane) (b : Nat) : Nat :=
  l.clk.base + (if l.clk.phase = .background then l.clk.len else 0) + (l.bridge b).ts + 120

/-- Whether tick x lies in [t_s - SETTLE, t_s + 200 ns] of bridge b's sample. -/
def Lane.windowHas (l : Lane) (b x : Nat) : Bool :=
  decide (l.windowEnd b ≤ x + 120 + l.rd CMU.WIN_CFG_SETTLE b) && decide (x ≤ l.windowEnd b)

/-- Whether the present instant lies in the sample window of bridge b. -/
def Lane.inWindow (l : Lane) (b : Nat) : Bool := l.windowHas b l.clk.now

/-! ### What a switch is commanded to do (R213, R216, R218, R282, R288) -/

/-- The Snuff action of bridge b (R294, R297): 0 all off, 1 low-side short, 2 high-side short. -/
def Lane.snuffAct (l : Lane) (b : Nat) : Nat :=
  if l.drive.ovHold then 1 + l.drive.ovSide / 2 ^ b % 2
  else if b = 0 then bitsOf l.drive.snuffCfg 0 2 else bitsOf l.drive.snuffCfg 2 2

/-- The wait between turning off and the Snuff action in ticks, as it was copied to the drive die; 500 ns before (R299). -/
def Lane.snuffWait (l : Lane) (b : Nat) : Nat :=
  match l.drive.dead with | some (d0, d1) => if b = 0 then d0 else d1 | none => 300

/-- Whether the switch of the given side is on in a short (1 low side, 2 high side). -/
def shortSwitch (act : Nat) (high : Bool) : Bool := (act == 1 && !high) || (act == 2 && high)

/-- The end of an on-time that only a further change ends. -/
def endless : Nat := 0x10000000000000000

/-- The on-times of a switch of bridge b that its pattern asks for, in ticks from the period boundary, before any deadtime. -/
def Lane.patternOn (l : Lane) (b leg : Nat) (high : Bool) : List (Nat × Nat) :=
  let s := l.bridge b
  let side := shortSwitch (1 + l.rd CMU.CFG_SHORT_SIDE b) high
  match s.pat with
  | .off => []
  | .short => if side then [(0, endless)] else []
  | .pulsed => if side && !s.opened then [(0, s.h)] else []
  | .drive =>
    let (chop, low, _) := sectorPhases (l.rd CMU.APPLIED_SECTOR b)
    let full := decide (s.h = l.pwmPeriod b)
    if leg = low then (if high then [] else [(0, endless)])
    else if leg = chop then
      if high then (if full then [(0, endless)] else [(s.a, s.a + s.h)])
      else if !l.on CMU.CFG_CHOP b || full then [] else if s.h = 0 then [(0, endless)] else [(0, s.a), (s.a + s.h, endless)]
    else []

/-- The unit of a switch: 0 ST, 1 BK, 2 chopper. -/
def switchUnit (sw : Nat) : Nat := if sw < 12 then sw / 6 else 2

/-- Whether the drive die holds a unit off: no VGD, a latch, or a wait (R288 entries 1 to 3). -/
def Lane.heldOff (l : Lane) (u : Nat) : Bool :=
  !l.drive.vgdRisen || l.drive.uvlo || l.drive.uvLatch || (l.prot u).latched || decide (l.prot u = .waiting)

/-- The on-times of a bridge switch in absolute ticks by the first entry of R288 that applies, before any deadtime. -/
def Lane.onTimes (l : Lane) (sw : Nat) : List (Nat × Nat) :=
  let b := sw / 6
  let leg := sw % 6 / 2
  let high := decide (sw % 2 = 0)
  if l.heldOff b || l.drive.legsOff.testBit (3 * b + leg) then []
  else if l.drive.snuff then (if shortSwitch (l.snuffAct b) high then [(l.drive.snuffAt + l.snuffWait b, endless)] else [])
  else if l.drive.ovHold then (if shortSwitch (1 + l.drive.ovSide / 2 ^ b % 2) high then [(0, endless)] else [])
  else (l.patternOn b leg high).map fun e => ((l.bridge b).from_ + e.1, if e.2 = endless then endless else (l.bridge b).from_ + e.2)

/-- What the model keeps of a switch from before the last change of its unit. -/
def Lane.switch (l : Lane) (sw : Nat) : SwitchSt := Sparse.get {} l.drive.sws sw

/-- The tick of the last change of unit u. -/
def Lane.changedAt (l : Lane) (u : Nat) : Nat := Sparse.get 0 l.drive.chg u

/-- The on-time of a bridge switch that holds tick now. -/
def Lane.onTime? (l : Lane) (now sw : Nat) : Option (Nat × Nat) :=
  (l.onTimes sw).find? fun e => decide (e.1 ≤ now) && decide (now < e.2)

/-- The tick at which a bridge switch was last turned off by its command; none when it never was. -/
def Lane.lastOff (l : Lane) (now sw : Nat) : Option Nat :=
  match (((l.onTimes sw).map fun e => e.2).filter fun e => decide (e ≤ now) && decide (l.changedAt (sw / 6) < e)).getLast? with
  | some e => some e
  | none => (l.switch sw).offAt

/-- The earliest tick at which the deadtime lets a bridge switch turn on: DEADTIME after the other switch of its leg turned off (R282); in the Snuff
action, whose short may change too, the wait that the drive die holds (R299). -/
def Lane.deadUntil (l : Lane) (now sw : Nat) : Nat :=
  match l.lastOff now (sw ^^^ 1) with
  | some e => e + (if l.drive.snuff then l.snuffWait (sw / 6) else l.rd GDC.BR_CFG_DEADTIME (sw / 6))
  | none => 0

/-- The part of the dump pulse in the period of ST, in absolute ticks (R293). -/
def Lane.dumpOn (l : Lane) : Nat × Nat :=
  let h := onTime (l.gdc.dump.toNat % 16384) (l.pwmPeriod 0) (l.rd CMU.CFG_MIN_PULSE 0)
  let a := (l.bridge 0).from_ + onOffset h (l.pwmPeriod 0)
  (a, a + h)

/-- Whether the chopper conducts (R288, R292, R293): requested by the gate-drive control, by the drive die, or within a dump
pulse, and neither held off, latched nor waiting. -/
def Lane.chopperOn (l : Lane) (now : Nat) : Bool :=
  !l.heldOff 2 && !l.drive.ovHold &&
    (l.gdc.chopReq || l.drive.vbusReq || (l.gdc.dump.getLsbD 17 && !l.fenced .chopper && decide (l.dumpOn.1 ≤ now) && decide (now < l.dumpOn.2)))

/-- Gate output sw of the drive die at tick now: 0 to 5 ST UH, UL, VH, VL, WH, WL, 6 to 11 BK in the same order, 12 the chopper.
The first entry of R288 that applies governs; a switch waits for its deadtime, and while the other gate of its leg is on the drive
die refuses to turn it on (R282). -/
def Lane.gate (l : Lane) (now sw : Nat) : Bool :=
  if sw = 12 then l.chopperOn now
  else (l.onTime? now sw).isSome && (l.onTime? now (sw ^^^ 1)).isNone && decide (l.deadUntil now sw ≤ now)

/-- The tick of the turn-on command of a switch that is on (R284). -/
def Lane.onSince (l : Lane) (now sw : Nat) : Nat :=
  let chg := l.changedAt (switchUnit sw)
  match (l.switch sw).onFrom with
  | some t => if sw = 12 then t else (match l.onTime? now sw with | some e => if e.1 ≤ chg then t else max e.1 (l.deadUntil now sw) | none => t)
  | none =>
    if sw = 12 then (if l.gdc.chopReq || l.drive.vbusReq then chg else max chg l.dumpOn.1)
    else (match l.onTime? now sw with | some e => max (max e.1 chg) (l.deadUntil now sw) | none => now)

/-- What a gate output drives: high, low, or, below 3.0 V of VGD, nothing (R277). -/
inductive GateOut where
  | low | high | floating
deriving DecidableEq, Repr

/-- A gate output as the ball shows it (R277): a lockout, or the time before the first rise, may lie below 3.0 V, which no command tells:
a free value. -/
def Lane.output (l : Lane) (now sw : Nat) : GateOut :=
  if (!l.drive.vgdRisen || l.drive.uvlo) && Config.vgdUnder3 l.free then .floating else if l.gate now sw then .high else .low

/-- Whether all six switches of a bridge are off. -/
def Lane.allOff (l : Lane) (b : Nat) : Bool := (List.range 6).all fun i => !l.gate l.clk.now (6 * b + i)

/-- What the model keeps of a switch as its unit changes. -/
def Lane.noteSwitch (l : Lane) (sw : Nat) : SwitchSt :=
  if l.gate l.clk.now sw then { offAt := some l.clk.now, onFrom := some (l.onSince l.clk.now sw) }
  else { offAt := if sw = 12 then none else l.lastOff l.clk.now sw, onFrom := none }

/-- The switches of unit u are noted before a change of what they are commanded to do. -/
def Lane.note (l : Lane) (u : Nat) : Lane :=
  let sws := if u = 2 then [12] else (List.range 6).map fun i => 6 * u + i
  { l with drive := { l.drive with
    sws := sws.foldl (fun m sw => Sparse.set {} m sw (l.noteSwitch sw)) l.drive.sws
    chg := Sparse.set 0 l.drive.chg u l.clk.now } }

/-- Every unit is noted. -/
def Lane.noteAll (l : Lane) : Lane := ((l.note 0).note 1).note 2

/-! ### The Snuff action -/

/-- The start sequence of bridge b ends at once (R233). -/
def Lane.endStart (l : Lane) (b : Nat) : Lane := (l.setBridge b { l.bridge b with startAt := none }).wr CMU.APPLIED_START 0 b

/-- The start sequences of both bridges end at once (R233). -/
def Lane.endStarts (l : Lane) : Lane := (l.endStart 0).endStart 1

/-- The lane die commands the Snuff action (R298). -/
def Lane.snuffDrive (l : Lane) : Lane :=
  let l1 := (if l.drive.snuff then l else l.noteAll).endStarts
  ({ l1 with drive := { l1.drive with snuff := true, release := false
                                      snuffAt := if l.drive.snuff then l.drive.snuffAt else l.clk.now }
             gdc := { l1.gdc with released := false } }).emit .snuff

end Sys2Proof.Machine
end

