-- ==== Sys2Proof/Machine/Records.lean ====
section
/-!
DEFINITION. The event recorder as the lane's units use it (R454 to R458): forming a record, and programming the open page.
-/
namespace Sys2Proof.Machine

open Sys2Proof

/-- The real-time clock in units of 1/32,768 s at the tick in hand (R486). -/
def Lane.rtcNow (l : Lane) : Nat := l.pmu.rtc + (l.clk.now - l.pmu.rtcAt) * 32768 / 600000000

/-- The AUTHORITY field: 3 for none (R99). -/
def Xla.authCode (x : Xla) : Nat := (x.auth.map LaneId.code).getD 3

/-- A record of the lane at this instant, with the RSN that the next record takes (R454). -/
def Lane.mkRec (l : Lane) (type : Nat) (body : List Nat) : Rec :=
  { rsn := l.nand.nextRsn, ccn := l.ccn, rtcS := l.rtcNow / 32768 % 2 ^ 32, rtcSub := l.rtcNow % 32768,
    smode := l.xla.mode.code, auth := l.xla.authCode, lstate := l.own.code, type := type, body := body }

/-- The lane after an RSN is taken. -/
def Lane.tookRsn (l : Lane) : Lane := { l with nand := { l.nand with nextRsn := (l.nand.nextRsn + 1) % 2 ^ 32 } }

/-- Whether a function's bus mastering is enabled. -/
def Lane.busMaster (l : Lane) (fn : Nat) : Bool := l.on (if fn = 0 then HIF.STATUS_BME_P else HIF.STATUS_BME_U)

/-- Whether a function may master the bus: link up, bus mastering enabled, not in D3hot (R363). -/
def Lane.fnRuns (l : Lane) (fn : Nat) : Bool := l.on HIF.STATUS_LINK_UP && l.busMaster fn && !l.hif.d3.testBit fn

/-- An MSI-X vector of a function that may master the bus is signalled (R362). -/
def Lane.msix (l : Lane) (fn vec : Nat) : Lane := if l.fnRuns fn then l.emit (.msix fn vec) else l

/-- Vector 9 of both functions: a lane event, which a change of the lane's state, the system mode or the AUTHORITY is (R362). -/
def Lane.laneEvent (l : Lane) : Lane := (l.msix 0 9).msix 1 9

/-- XLA.FENCE_STATUS as it reads (R125, R141): the stored fields and WINDOW_COUNT, the fences of the last ten minutes, saturating at 3. -/
def Lane.fenceWord (l : Lane) : Word :=
  setBits (l.word XLA.FENCE_STATUS_TOTAL.key) XLA.FENCE_STATUS_WINDOW_COUNT.lo XLA.FENCE_STATUS_WINDOW_COUNT.w
    (min 3 (within l.clk.now tenMinutes l.xla.fences).length)

/-- Records per NAND page (R456): 31 on a 2 KiB page, 63 on a 4 KiB page. -/
def Lane.recsPerPage (l : Lane) : Nat := if l.rd STM.NAND_GEOM_PAGE_KIB = 4 then 63 else 31

/-- The lane after one journal entry (R453): a checkpoint of the map follows every 256 entries. -/
def Lane.journal (l : Lane) (e : JEntry) : Lane :=
  let n := (l.nand.journal + 1) % 2 ^ 32
  { l with nand := { l.nand with journal := n, checkpoint := if n % 256 = 0 then n else l.nand.checkpoint
                                 entries := if n % 256 = 0 then [] else e :: l.nand.entries } }

/-- A NAND program or erase is in progress (R461). -/
def Lane.nandBusy (l : Lane) : Lane := l.flag STM.STATUS_NAND_BUSY true

/-- The good blocks outside the system area that hold nothing (R450, R451). -/
def Lane.freeBlocks (l : Lane) : List Nat :=
  (List.range (l.rd STM.NAND_GEOM_BLOCKS)).filter fun b =>
    decide (8 ≤ b) && !l.nand.bad.contains b && !l.nand.used.contains b

/-- The erase count of a block. -/
def Nand.wear (n : Nand) (b : Nat) : Nat := Sparse.get 0 n.erases b

/-- The block of a list with the lowest erase count, the first of several. -/
def Nand.lowest (n : Nand) : List Nat → Option Nat
  | [] => none
  | b :: bs => match n.lowest bs with
    | none => some b
    | some c => if n.wear c < n.wear b then some c else some b

/-- The lane after block b is erased and leaves the map: its pages go and its erase count rises (R451, R453). -/
def Lane.eraseBlock (l : Lane) (b : Nat) : Lane :=
  let l := l.nandBusy.journal (.erased b)
  { l with nand := { l.nand with
      used := l.nand.used.filter fun x => decide (x ≠ b)
      pages := l.nand.pages.filter fun p => decide (p.1 ≠ b)
      erases := Sparse.set 0 l.nand.erases b (l.nand.wear b + 1)
      reads := Sparse.set 0 l.nand.reads b 0 } }

/-- STM.REC_FIRST after pages have gone: the RSN of the oldest retained record (R458). -/
def Lane.recFirst (l : Lane) : Lane :=
  match (l.nand.pages.flatMap fun p => p.2) ++ l.stm.page with
  | r :: _ => l.wr STM.REC_FIRST_RSN r.rsn
  | [] => l.wr STM.REC_FIRST_RSN l.nand.nextRsn

/-- The lane with a block for the next recorder page, and whether the oldest block was erased for it (R451, R458): the block in
use while it has a free page; otherwise the free block with the lowest erase count; without a free block beyond the reserve of
2 % of the device's blocks, the block of the oldest records is erased first. -/
def Lane.recBlock (l : Lane) : Lane × Bool :=
  let inUse := (l.nand.pages.filter fun p => decide (p.1 = l.stm.block)).length
  if l.nand.used.contains l.stm.block && decide (inUse < l.rd STM.NAND_GEOM_PAGES) then (l, false)
  else
    let full := decide (l.freeBlocks.length ≤ ceilDiv (2 * l.rd STM.NAND_GEOM_BLOCKS) 100)
    let l1 := match full, l.nand.pages with
      | true, p :: _ => ((l.eraseBlock p.1).recFirst).bump STM.REC_STATUS_OVERWRITES
      | _, _ => l
    match l1.nand.lowest l1.freeBlocks with
    | some b =>
      let l2 := l1.journal (.taken b)
      ({ l2 with nand := { l2.nand with used := l2.nand.used ++ [b] }, stm := { l2.stm with block := b } }, full && !l.nand.pages.isEmpty)
    | none => (l1, full && !l.nand.pages.isEmpty)

/-- Whether a record is a system record (R455). -/
def Rec.system (r : Rec) : Bool := [0x02, 0x04, 0x05, 0x06, 0x07, 0x08].contains r.type

/-- The latest CCN of the system records of a page, none of which is left unprogrammed (R457); none when there is none. -/
def lastSystem (rs left : List Rec) : Option Word :=
  ((rs.filter fun r => r.system && !left.any fun x => x.system && decide (x.ccn = r.ccn)).getLast?).map Rec.ccn

/-- The open page is programmed, padded with pad records (R456), and whether the recorder overwrote its oldest block (R458).
Nothing happens without a mounted NAND or with an empty page. -/
def Lane.programPage (l : Lane) : Lane × Bool :=
  if l.on STM.STATUS_NAND_MOUNTED && !l.stm.page.isEmpty then
    let (l0, overs) := l.recBlock
    let l1 := l0.nandBusy.journal .page
    ({ l1 with nand := { l1.nand with pages := l1.nand.pages ++ [(l1.stm.block, l1.stm.page.take l1.recsPerPage)]
                                      reads := Sparse.set 0 l1.nand.reads l1.stm.block 0 }
               stm := { l1.stm with page := l1.stm.page.drop l1.recsPerPage, pageAt := l1.clk.now
                                    covered := (lastSystem (l1.stm.page.take l1.recsPerPage) (l1.stm.page.drop l1.recsPerPage)).orElse fun _ => l1.stm.covered } }, overs)
  else (l, false)

/-- The open page is programmed where no event can be raised; an overwrite is raised later. -/
def Lane.savePage (l : Lane) : Lane :=
  let (l1, overs) := l.programPage
  { l1 with stm := { l1.stm with overs := l1.stm.overs || overs } }

/-- The line of a record that the recorder writes, on the service UART, in every lifecycle state but MAKER (R559). -/
def Lane.recordLine (l : Lane) (r : Rec) : Lane := if l.otp.lifecycle = 1 then l else l.emit (.uartRecord r)

/-- A record joins the open page. The buffer holds one page (R456): a full page is programmed first, and without a mounted NAND the record is
lost (DESIGN CHOICE, log entry 91). -/
def Lane.buffer (l : Lane) (r : Rec) : Lane :=
  let join := fun (n : Lane) => ({ n with stm := { n.stm with
    page := n.stm.page ++ [r], pageAt := if n.stm.page = [] then l.clk.now else n.stm.pageAt } } : Lane).recordLine r
  if l.stm.page.length < l.recsPerPage then join l
  else if l.on STM.STATUS_NAND_MOUNTED then join l.savePage
  else l

/-- The lane after an own record joins the open page (R455, R456). -/
def Lane.record (l : Lane) (type : Nat) (body : List Nat) : Lane := l.tookRsn.buffer (l.mkRec type body)

/-- The lane after a system record (R455, R457): the AUTHORITY puts it into its open page; another lane of the voting set holds
it, dropping and counting the oldest held record when it holds 32; a lane outside the voting set forms none. -/
def Lane.sysRecord (l : Lane) (type : Nat) (body : List Nat) : Lane :=
  if l.own = .authority then l.record type body
  else if l.xla.vset.get l.id then
    let l1 := l.tookRsn
    if l.stm.held.length < 32 then { l1 with stm := { l.stm with held := l.stm.held ++ [l.mkRec type body] } }
    else
      let l2 := l1.bump STM.REC_STATUS_DROPPED
      { l2 with stm := { l.stm with held := l.stm.held.drop 1 ++ [l.mkRec type body] } }
  else l

/-- The lane after its own state changes, with the own record of R455 type 0x03 and the lane event. -/
def Lane.goState (l : Lane) (st : LaneState) : Lane :=
  if l.own = st then l
  else ((l.setOwn st).record 0x03 [l.own.code, st.code, l.fenceWord.toNat]).laneEvent

end Sys2Proof.Machine
end

