-- ==== Sys2Proof/Machine/Reset.lean ====
section
/-!
DEFINITION. Resets: what a reset of each power domain clears (R466, R491), and the lane resets by source.
-/
namespace Sys2Proof.Machine

open Sys2Proof

/-- The power domain of a register block (R30, R466): 0 CPU, 1 PCL, 2 CEN, 3 NET, 4 STO, 5 HSI, 6 DRV; 7 for AON. -/
def blockDomain (b : Nat) : Nat :=
  if b < 0x10 then 0 else if b < 0x18 then 1 else if b < 0x20 then 2 else if b < 0x28 then 6
  else if b < 0x30 then 3 else if b < 0x38 then 4 else if b < 0x40 then 5 else 7

/-- The registers that a reset of the CPU domain leaves: the BCN registers at 0x0000 to 0x0024 held in the AON domain (R89),
XLA.FENCE_STATUS and XLA.FENCE_CCN (R141), and the LCS registers (R523). -/
def aonKept (k : Nat) : Bool :=
  k ≤ 0x000024 || k == 0x010034 || k == 0x010038 || (0x060000 ≤ k && k < 0x070000)

/-- The wake-cell registers of the PMU, of PMU.STATUS the field RTC_VALID, which alone is stored, and the reset records of the CRU: they reset
only at source 0x1 (R493, R494). -/
def wakeCell (k : Nat) : Bool :=
  k == 0x400000 || k == 0x400008 || k == 0x40000C || k == 0x400010 || k == 0x400020 || k == 0x400024 || k == 0x400028 || k == 0x40002C ||
  k == 0x41000C || k == 0x410010 || k == 0x410024

/-- Whether a reset of domain d leaves register k. -/
def keptIn (d k : Nat) : Bool := decide (blockDomain (k / 0x10000) ≠ d) || (d == 0 && aonKept k)

/-- The units of domain d at their reset values. What R89 and R125 hold in the AON domain stays: the ticks of mismatches, the
fence history and the bar on JOIN. -/
def Lane.resetUnits (l : Lane) (d : Nat) : Lane :=
  match d with
  | 0 => { l with
      bcn := { mismatches := l.bcn.mismatches, coreStart := l.clk.now, commsAt := l.clk.now }
      xla := { lst := (Tri.all LaneState.off).set l.id l.own, fences := l.xla.fences, noJoin := l.xla.noJoin }
      fcl := {}
      mbx := {}
      stage := {}
      trc := {}
      staPartial := true
      hif := { l.hif with commit := none, known := [], taken := [] }
      inMap := []
      hostKeys := [] }
  | 1 => { l with pcl := { statSince := l.clk.now } }
  | 2 => { l with cen := {} }
  | 3 => { l with wck := {}, can := {} }
  | 4 => { l with stm := {} }
  | 5 => { l with hif := { gen := l.hif.gen, sess0 := l.hif.sess0, sess1 := l.hif.sess1
                           key0 := l.hif.key0, key1 := l.hif.key1, delivery := l.hif.delivery, updated := l.hif.updated } }
  | 6 => { l with
      drive := { l.drive with tries := [] }
      cmu := {}
      afe := {}
      pfb := { fromCycle := l.clk.cycles, resetAt := l.clk.now }
      gdc := {}
      sfu := { ins := l.sfu.ins.filterMap fun e => if e.2.tested then some (e.1, { tested := true }) else none } }
  | _ => l

/-- A reset of domain d: its registers and units. -/
def Lane.resetDom (l : Lane) (d : Nat) : Lane :=
  ({ l with regs := Sparse.keep (keptIn d) l.regs } : Lane).resetUnits d

/-- The record of a reset in the CRU (R494): the last code, its history flag and its count. -/
def Lane.resetRecord (l : Lane) (code : Nat) : Lane :=
  let l1 := (l.wr CRU.RESET_CAUSE_LAST code).wr CRU.RESET_CLEAR_HISTORY
    (l.rd CRU.RESET_CLEAR_HISTORY ||| 2 ^ (code - 1))
  match code with
  | 2 | 3 => l1.wrapInc CRU.RESET_COUNT_SUPPLY
  | 5 => l1.wrapInc CRU.RESET_COUNT_CLOCK
  | 6 => l1.wrapInc CRU.RESET_COUNT_FENCE
  | 7 | 8 => l1.wrapInc CRU.RESET_COUNT_UPDATE
  | _ => l1

/-- A lane reset of the AON domain: at source 0x1 all of it; at sources 0x2 to 0x4 what lies outside the wake cell (R491). The
registers held in it for the CPU domain, the fence and mismatch histories and the drive die's latches reset as well. -/
def Lane.resetAon (l : Lane) (code : Nat) : Lane :=
  { l with
    regs := Sparse.keep (fun k => !aonKept k &&
      (decide (blockDomain (k / 0x10000) ≠ 7) || (decide (code ≠ 1) && wakeCell k))) l.regs
    bcn := { l.bcn with mismatches := [] }
    xla := { l.xla with fences := [], noJoin := false }
    pmu := if code = 1 then { rtcAt := l.clk.now, keyOffAt := some l.clk.now }
      else { rtc := l.pmu.rtc, rtcAt := l.pmu.rtcAt, key := l.pmu.key, wakePin := l.pmu.wakePin, keyOffAt := l.pmu.keyOffAt }
    drive := {}
    hif := {}
    sec := {}
    sfu := { l.sfu with ins := [] } }

/-- The domains that a reset source resets (R491): codes 0x6 CPU, PCL and CEN; every other code all switched domains. -/
def resetDoms (code : Nat) : List Nat := if code = 6 then [0, 1, 2] else [0, 1, 2, 3, 4, 5, 6]

/-- A delivery session ends at the lane's next reset once a customer key is enrolled (R505). -/
def Lane.endDelivery (l : Lane) : Lane :=
  if l.hif.delivery && l.otp.custKey.isSome then { l with hif := { l.hif with sess0 := none, key0 := 0, delivery := false } } else l

/-- The lane state that a lane reset of the given code leads to (R118): BOOT; a lane that is held stays FENCED but at a power-on reset (R60, R125,
R296). A lane that votes or rejoins passes FENCED; a power-on reset finds the lane powered down. DESIGN CHOICE: R118 lists no reset from SYNC, BOOT or
UPDATE but the reload, and the model goes to BOOT (log entry 83). After a failed key-off or in-service test the lane stays as it is until a power-on
reset (R532). -/
def Lane.resetState (l : Lane) (code : Nat) : Lane :=
  if code ≤ 4 then l.setOwn .boot
  else if l.sec.silent || l.sec.stuck then l
  else (if l.own.fenceable then l.goState .fenced else l).goState (if l.heldFenced then .fenced else .boot)

/-- A lane reset of the given code (R491), with the domains that it resets: those domains, the AON domain for codes 0x1 to 0x4, the record of the
cause, and the lane state: the drive die takes the Snuff action (R298), the current channels calibrate anew (R238). Sessions and the debug grant end at
the codes 0x1 to 0x4 (R377, R514). -/
def Lane.laneReset (l : Lane) (code : Nat) (doms : List Nat := resetDoms code) : Lane :=
  let l0 := (l.resetState code).snuffDrive.wr AFE.STATUS_CAL_DONE 0
  let l1 := doms.foldl Lane.resetDom l0
  let l2 := if code ≤ 4 then l1.resetAon code else l1
  let l3 := if code = 1 then l2 else l2.resetRecord code
  ({ l3 with
    clk := { l3.clk with phase := .background }
    afe := { l3.afe with calTried := [], calN := [], calSum := [] }
    boot := { released := l.clk.now } } : Lane).endDelivery

end Sys2Proof.Machine
end

