-- ==== Sys2Proof/Machine/Flags.lean ====
section
/-!
DEFINITION. The fault collector (chapter 10): severity and reaction of an event, episodes and merging, fault state and recovery,
unit fences and demands, and the fence of the lane (R123 to R125).
-/
namespace Sys2Proof.Machine

open Sys2Proof

/-! ### Sources -/

/-- What the FCL keeps of source n. -/
def Lane.src (l : Lane) (n : Nat) : Src := Sparse.get {} l.fcl.src n

/-- The lane with what the FCL keeps of source n replaced. -/
def Lane.setSrc (l : Lane) (n : Nat) (s : Src) : Lane := { l with fcl := { l.fcl with src := Sparse.set {} l.fcl.src n s } }

/-- Whether a demand is held: 1 an SS1 demand, 2 an STO demand (R346). -/
def Lane.fclDemand (l : Lane) (d : Nat) : Bool := l.fcl.src.any fun e => e.2.demand == d

/-- Whether a source of a severity is in the fault state (R346). -/
def Lane.fclSev (l : Lane) (s : Severity) : Bool := l.fcl.src.any fun e => e.2.active && decide (e.2.sev = s)

/-- FCL_DEMAND as this lane forms it (R346). -/
def Lane.fclDemandWord (l : Lane) : Nat :=
  (l.fclDemand 1).toNat + 2 * (l.fclDemand 2).toNat + 4 * (l.fclSev .major).toNat + 8 * (l.fclSev .minor).toNat
    + 16 * (l.fcl.src.any fun e => e.2.sticky).toNat

/-- The order of R350: NOTE, MINOR, MAJOR with no stop, MAJOR SS1, MAJOR STO, LANE. -/
def evRank (s : Severity) (stop : Nat) : Nat :=
  match s with
  | .note => 0 | .minor => 1 | .lane => 5
  | .major => if stop = 0 then 2 else if stop = 1 then 3 else 4

/-- The severity of an event of source n and whether counting gave it (R344, R348). Fixed sources take their listed severity; an
input disagreement that names lane code 3 takes MAJOR in place of LANE (R347). -/
def Lane.severityOf (l : Lane) (n : Nat) (info : Word) (hist : List Nat) : Severity × Bool :=
  match srcInfo n with
  | none => (.note, false)
  | some i =>
    if i.fixed then (i.sev, false)
    else
      let esc := l.on FCL.SRC_CFG_COUNT n && decide (l.rd FCL.SRC_CFG_ESC_N n ≤ hist.length)
      let s := Severity.ofCode (if esc then l.rd FCL.SRC_CFG_ESC_SEV n else l.rd FCL.SRC_CFG_SEV n)
      (if n = 0x17 ∧ s = .lane ∧ bitsOf info 0 2 = 3 then .major else s, esc)

/-! ### Fence of the lane -/

/-- The closing of the open episode's log entry and its record (R352, R355). Nothing happens with no episode open. -/
def Lane.endEpisode (l : Lane) : Lane :=
  if l.on FCL.EPISODE_OPEN then
    let e := l.rd FCL.EPISODE_ENTRY
    let l1 := (l.flag FCL.EPISODE_OPEN false).flag FCL.LOG0_CLOSED true e
    l1.record 0x01 [(l1.word (FCL.LOG0_VALID.at_ e 0)).toNat, (l1.word (FCL.LOG1_VALUE.at_ e 0)).toNat,
      (l1.word (FCL.LOG2_VALUE.at_ e 0)).toNat, (l1.word (FCL.LOG3_CYCLE.at_ e 0)).toNat, l1.ccn.toNat]
  else l

/-- Whether a fence cause counts toward the fence limit (R123). -/
def causeCounted (cause : Nat) : Bool := 1 ≤ cause && cause ≤ 9

/-- The lane reset after a fence (R59, R124): the open episode closes, the open recorder page is programmed, and the CPU, PCL and
CEN domains reset. -/
def Lane.fenceReset (l : Lane) : Lane := (l.endEpisode.savePage).laneReset 6

/-- The lane leaves its voting set with the given cause (R123): FENCE is sent unless the lane is the subject of a declaration by
others, the drive die takes the Snuff action, and the cause and the fence history are recorded (R125). The state becomes
FENCED. -/
def Lane.leaveVset (l : Lane) (cause : Nat) (announce : Bool) : Lane :=
  let l1 := (if announce then l.sendCtl 3 (.fence cause) else l).snuffDrive
  let hist := if causeCounted cause then l.clk.now :: within l.clk.now tenMinutes l.xla.fences else l.xla.fences
  let l2 := ((l1.bump XLA.FENCE_STATUS_TOTAL).wr XLA.FENCE_STATUS_LAST_CAUSE cause).wr XLA.FENCE_CCN_CCN l.ccn.toNat
  let l3 := if causeCounted cause && decide (3 ≤ hist.length) then l2.flag XLA.FENCE_STATUS_PERMANENT true else l2
  ({ l3 with xla := { l3.xla with vset := l3.xla.vset.set l.id false, fences := hist } }).goState .fenced

/-- A fence of the lane (R118, R123, R124, R296): it applies in STANDBY, AUTHORITY and RESYNC. After a counted fence the lane
resets its CPU, PCL and CEN domains in the same step unless it is held. -/
def Lane.fence (l : Lane) (cause : Nat) (announce : Bool := true) : Lane :=
  if l.own.fenceable then
    let l1 := l.leaveVset cause announce
    if causeCounted cause && !l1.heldFenced then l1.fenceReset else l1
  else l

/-! ### Events and reactions -/

/-- The bits of FCL.LOG[e][3].REACTION set by a reaction (R358): the unit fence or core reset, SS1, STO, the lane fence. -/
def Lane.logReaction (l : Lane) (bits : Nat) : Lane :=
  l.wr FCL.LOG3_REACTION (l.rd FCL.LOG3_REACTION (l.rd FCL.EPISODE_ENTRY) ||| bits) (l.rd FCL.EPISODE_ENTRY)

/-- Whether a unit takes a fence that its source holds (R345). -/
def FUnit.holds : FUnit → Bool
  | .bridge _ | .channel _ | .port _ | .chopper => true
  | _ => false

/-- The reaction of R344 to an event of source n, with the rules of R345 and R347. A LANE reaction fences the lane with cause
0x8, save for an input disagreement that names another lane; the lane of a source with an own cause is fenced by its home block, with that
cause (homeFenced): the event alone fences nothing. The unit reaction of an unresponsive comms core is its reset; "core memory uncorrectable"
does not say in its number which core failed, and its home block resets that core. -/
def Lane.react (l : Lane) (n : Nat) (s : Severity) (stop : Nat) (info : Word) : Lane :=
  let u := unitOf n
  let l := { l with fcl := { l.fcl with reactAt := l.clk.cycles } }
  match s with
  | .note => l
  | .lane =>
    let mine := match u with
      | .own _ => false
      | .laneNamed => decide (n ≠ 0x17) || decide (bitsOf info 0 2 = l.id.code)
      | _ => true
    if mine && l.own.fenceable then
      let l1 := (l.setSrc n { l.src n with reacted := true, fencedLane := true }).logReaction 8
      ({ l1 with fcl := { l1.fcl with epFenced := true } } : Lane).fence 0x8
    else l.setSrc n { l.src n with reacted := true }
  | _ =>
    let d := if s = .major then stop else 0
    let unitBit := if u.holds ∨ u = .core then 1 else 0
    let l : Lane := if n = 0x06 then { l with bcn := { l.bcn with commsAt := l.clk.now } } else l
    (l.setSrc n { l.src n with reacted := true, fence := (l.src n).fence || u.holds, lift := false
                               demand := max (l.src n).demand d }).logReaction
      (unitBit + (if d = 1 then 2 else 0) + (if d = 2 then 4 else 0))

/-- The home block of source n fences the lane with the source's own cause (R347): the source leaves the fault state, and the episode in
which it took its reaction closes, at the reset of the lane's CPU domain only (R352, R353). -/
def Lane.homeFenced (l : Lane) (n : Nat) : Lane :=
  let s := l.src n
  let l1 := l.setSrc n { s with fencedLane := true }
  if s.reacted && l1.on FCL.EPISODE_OPEN then ({ l1 with fcl := { l1.fcl with epFenced := true } } : Lane).logReaction 8 else l1

/-- An episode opens with an event of source n (R350, R355), and whether a valid log entry was overwritten. -/
def Lane.openEpisode (l : Lane) (n : Nat) (s : Severity) (rank : Nat) (info : Word) (esc inj : Bool) : Lane × Bool :=
  let e := l.rd FCL.STATUS_LOG_NEXT
  let overs := l.on FCL.LOG0_VALID e
  let l1 := (l.setWord FCL.EPISODE_OPEN.key 0).setWord (FCL.LOG0_VALID.at_ e 0) 0
  let l2 := ((((l1.wr FCL.EPISODE_SOURCE n).wr FCL.EPISODE_SEVERITY s.code).wr FCL.EPISODE_ENTRY e).flag FCL.EPISODE_OPEN true).wr
    FCL.EPISODE_CCN_CCN l.ccn.toNat
  let l3 := ((((l2.wr FCL.LOG0_SOURCE n e).wr FCL.LOG0_SEVERITY s.code e).flag FCL.LOG0_ESCALATED esc e).flag
    FCL.LOG0_INJECTED inj e).flag FCL.LOG0_VALID true e
  let l4 := ((l3.setWord (FCL.LOG1_VALUE.at_ e 0) l.ccn).setWord (FCL.LOG2_VALUE.at_ e 0) info).setWord
    (FCL.LOG3_CYCLE.at_ e 0) 0
  let l5 := (l4.wr FCL.LOG3_CYCLE l.tick e).wr FCL.STATUS_LOG_NEXT (e + 1)
  ({ l5 with fcl := { l5.fcl with rank := rank, openedAt := l.clk.cycles, reactAt := l.clk.cycles, epFenced := false } }, overs)

/-- An event of source n merges into the open episode (R350 item 1 and 2). -/
def Lane.mergeEvent (l : Lane) (n : Nat) : Lane :=
  let e := l.rd FCL.EPISODE_ENTRY
  let l1 := ((l.wr FCL.EPISODE_SECONDARY n).bump FCL.EPISODE_SEC_COUNT).bump FCL.MERGE_COUNT_COUNT
  (l1.wr FCL.LOG0_SECONDARY n e).wr FCL.LOG0_SEC_COUNT (l1.rd FCL.EPISODE_SEC_COUNT) e

/-- The episode is raised to a merged event's rank (R350 item 3); its entry shows whether counting gave the severity in force. -/
def Lane.upgradeEpisode (l : Lane) (s : Severity) (rank : Nat) (esc : Bool) : Lane :=
  let e := l.rd FCL.EPISODE_ENTRY
  let l1 := ((l.wr FCL.EPISODE_SEVERITY s.code).flag FCL.EPISODE_UPGRADED true)
  let l2 := ((l1.wr FCL.LOG0_SEVERITY s.code e).flag FCL.LOG0_UPGRADED true e).flag FCL.LOG0_ESCALATED esc e
  { l2 with fcl := { l2.fcl with rank := rank } }

/-- The higher of two severities. -/
def Severity.max (a b : Severity) : Severity := if a.code < b.code then b else a

/-- An event of severity MINOR or higher of source n opens an episode or merges into the open one and takes its reaction (R344,
R350); whether a valid log entry was overwritten. -/
def Lane.handle (l : Lane) (n : Nat) (s : Severity) (info : Word) (esc inj : Bool) : Lane × Bool :=
  let stop := l.rd FCL.SRC_CFG_STOP n
  let rank := evRank s stop
  if l.on FCL.EPISODE_OPEN then
    let l1 := (l.setSrc n { l.src n with merged := true, mergedEp := true }).mergeEvent n
    if l.fcl.rank < rank then (((l1.upgradeEpisode s rank esc).react n s stop info), false) else (l1, false)
  else
    let (l1, overs) := (l.setSrc n { l.src n with merged := false, reacted := false }).openEpisode n s rank info esc inj
    (l1.react n s stop info, overs)

/-- One event of source n (R343, R344, R348, R351, R353), and whether a valid log entry was overwritten. A number that R342 does
not list is never raised. -/
def Lane.raiseCore (l : Lane) (n : Nat) (info : Word) (inj : Bool) : Lane × Bool :=
  if (srcInfo n).isNone then (l, false)
  else
    let s0 := l.src n
    let hist := (l.clk.cycles :: within l.clk.cycles (l.msCycles (l.rd FCL.SRC_CFG_ESC_T n)) s0.hist).take 15
    let (sev, esc) := l.severityOf n info hist
    let s1 := { s0 with events := satN 16 (s0.events + 1), hist := hist, lastSev := sev, info := info }
    let l1 := l.bump FCL.EVENT_COUNT_COUNT
    if sev = .note then (l1.setSrc n { s1 with merged := false }, false)
    else
      let sevIn := if s0.active then Severity.max s0.sev sev else sev
      (l1.setSrc n { s1 with active := true, sev := sevIn, esc := if sevIn = sev then esc else s0.esc, quietFrom := l.clk.cycles }).handle n sev info esc inj

/-- The trigger of the trace (R538): recording goes on for POST records. -/
def Lane.trigger (l : Lane) : Lane :=
  if l.on DBG.TRACE_CFG_ENABLE && !l.on DBG.TRACE_STATUS_TRIGGERED then
    { l.flag DBG.TRACE_STATUS_TRIGGERED true with trc := { l.trc with left := some (l.rd DBG.TRACE_CFG_POST) } }
  else l

/-- The trigger on an event of the named source. -/
def Lane.triggerSource (l : Lane) (n : Nat) : Lane :=
  if l.rd DBG.TRACE_CFG_TRIG = 2 ∧ l.rd DBG.TRACE_CFG_SOURCE = n then l.trigger else l

/-- A fault event of source n with its INFO word. Writing a log entry over a valid one raises source 0xF0 (R355). -/
def Lane.fault (l : Lane) (n : Nat) (info : Word := 0) (inj : Bool := false) : Lane :=
  let (l1, overs) := (l.triggerSource n).raiseCore n info inj
  if overs && l1.on FCL.EPISODE_OPEN then (l1.raiseCore 0xF0 0 false).1 else l1

/-- The condition level of source n (R343); the quiet time of R353 runs from its end. -/
def Lane.setLevel (l : Lane) (n : Nat) (b : Bool) : Lane :=
  let s := l.src n
  l.setSrc n { s with level := b, quietFrom := if s.level && !b then l.clk.cycles else s.quietFrom }

/-- A condition appears: its level is set and its event is raised. -/
def Lane.faultLevel (l : Lane) (n : Nat) (info : Word := 0) : Lane := (l.setLevel n true).fault n info

/-! ### Closing an episode, recovery -/

/-- Whether an open episode may close (R352). -/
def Lane.mayClose (l : Lane) : Bool := l.on FCL.EPISODE_OPEN && !l.fcl.epFenced

/-- The merged sources to be raised anew at a close (R352), in ascending number. -/
def Lane.raiseAnewList (l : Lane) : List Nat :=
  (l.fcl.src.filter fun e => e.2.mergedEp && !e.2.reacted && !e.2.fence && e.2.demand == 0 && e.2.active &&
    decide (e.1 ≠ l.rd FCL.EPISODE_SOURCE)).map fun e => e.1

/-- Every source with its marks of the closed episode cleared. -/
def Lane.clearMarks (l : Lane) : Lane :=
  { l with fcl := { l.fcl with src := l.fcl.src.filterMap fun e =>
      let s := { e.2 with mergedEp := false, reacted := false }
      if s = {} then none else some (e.1, s) } }

/-- Source n is raised anew at its held severity (R352). -/
def Lane.raiseAnew (l : Lane) (n : Nat) : Lane :=
  let (l1, overs) := l.handle n (l.src n).sev (l.src n).info (l.src n).esc false
  if overs && l1.on FCL.EPISODE_OPEN then (l1.raiseCore 0xF0 0 false).1 else l1

/-- The open episode closes (R352): its entry is completed and recorded, and merged sources that took no reaction are raised
anew. -/
def Lane.closeEpisode (l : Lane) : Lane :=
  if l.mayClose then
    let again := l.raiseAnewList
    again.foldl Lane.raiseAnew l.endEpisode.clearMarks
  else l

/-- The close at a commit (R352): of a cycle that started after the last reaction, with no migration in progress. -/
def Lane.closeAtCommit (l : Lane) : Lane :=
  if decide (l.fcl.reactAt < l.clk.cycles) && !l.xla.migration then l.closeEpisode else l

/-- The close at the eighth cycle start after the episode opened (R352). -/
def Lane.closeAtStart (l : Lane) : Lane := if l.fcl.openedAt + 8 ≤ l.clk.cycles then l.closeEpisode else l

/-- Whether source n may leave the fault state (R353): its level is clear, QUIET has passed, and it did not fence the lane. -/
def Lane.mayRecover (l : Lane) (n : Nat) : Bool :=
  let s := l.src n
  s.active && !s.sticky && !s.level && !s.fencedLane &&
    decide (s.quietFrom + l.msCycles (l.rd FCL.SRC_REC_QUIET n) ≤ l.clk.cycles)

/-- Source n recovers or becomes sticky (R353, R354). Its unit fence lifts at the next cycle start (R345). -/
def Lane.recover (l : Lane) (n : Nat) : Lane :=
  if l.mayRecover n then
    let s := l.src n
    let recent := within l.clk.cycles (l.msCycles (1000 * l.rd FCL.SRC_REC_W n)) s.recov
    let k := l.rd FCL.SRC_REC_K n
    if k ≠ 0 ∧ k ≤ recent.length + 1 then
      let l1 := l.setSrc n { s with sticky := true }
      if l.on FCL.EPISODE_OPEN && decide (l.rd FCL.EPISODE_SOURCE = n) then l1.flag FCL.LOG0_STICKY true (l.rd FCL.EPISODE_ENTRY)
      else l1
    else l.setSrc n { s with active := false, demand := 0, lift := s.fence, recov := l.clk.cycles :: recent }
  else l

/-- The unit fences whose sources have recovered lift at a cycle start (R345). -/
def Lane.liftFences (l : Lane) : Lane :=
  { l with fcl := { l.fcl with src := l.fcl.src.filterMap fun e =>
      let s := if e.2.lift then { e.2 with fence := false, lift := false } else e.2
      if s = {} then none else some (e.1, s) } }

end Sys2Proof.Machine
end

