-- ==== Sys2Proof/Machine/Gates.lean ====
section
/-!
DEFINITION. Protection events of the drive die: trips, tries, waits and what ends at a period boundary (R283 to R287, R303).
-/
namespace Sys2Proof.Machine

open Sys2Proof

/-! ### Protection events (R283 to R287, R303) -/

/-- GDC.TRIP_INFO and GDC.TRIP_CCN take an event. -/
def Lane.tripInfo (l : Lane) (kind sw : Nat) (twoLeg : Bool := false) : Lane :=
  ((((l.flag GDC.TRIP_INFO_TWO_LEG twoLeg).wr GDC.TRIP_INFO_SWITCH sw).wr GDC.TRIP_INFO_KIND kind).flag GDC.TRIP_INFO_NEW true).wr
    GDC.TRIP_CCN_CCN l.ccn.toNat

/-- The INFO word of sources 0x78 to 0x86 (R343): bits [27:20] of GDC.TRIP_INFO. -/
def Lane.tripWord (l : Lane) : Word := BitVec.ofNat 32 (16 * l.rd GDC.TRIP_INFO_SWITCH + l.rd GDC.TRIP_INFO_KIND)

/-- A drive event of source n, with its INFO word. -/
def Lane.driveFault (l : Lane) (n : Nat) : Lane := l.fault n l.tripWord

/-- The tries of counter u (0 ST, 1 BK, 2 chopper, 3 VGD lockout) in the last 10 s. -/
def Lane.tries (l : Lane) (u : Nat) : List Nat := within l.clk.now tenSeconds (Sparse.get [] l.drive.tries u)

/-- One more try of counter u. -/
def Lane.addTry (l : Lane) (u : Nat) : Lane :=
  { l with drive := { l.drive with tries := Sparse.set [] l.drive.tries u (l.clk.now :: l.tries u) } }

/-- The unit has made 3 tries within the preceding 10 s and meets a further event: it latches off (R287). -/
def Lane.retryLimit (l : Lane) (u : Nat) : Lane := (l.setProt u .retryLimit).driveFault (0x81 + u)

/-- Whether a unit is off already, so that an event is counted and does nothing else (R287). -/
def Lane.unitOff (l : Lane) (u : Nat) : Bool := (l.prot u).latched || decide (l.prot u = .waiting)

/-- A single trip of unit u (R285, R287): it waits, or latches at the retry limit. -/
def Lane.singleTrip (l : Lane) (u : Nat) : Lane :=
  if 3 ≤ (l.tries u).length then l.retryLimit u
  else ({ l with drive := { l.drive with waitAt := Sparse.set 0 l.drive.waitAt u l.clk.now } } : Lane).setProt u .waiting

/-- A unit resumes as a try (R287). -/
def Lane.resumeUnit (l : Lane) (u : Nat) : Lane :=
  ({ l with drive := { l.drive with resume := Sparse.set false l.drive.resume u false } } : Lane).setProt u .normal |>.addTry u

/-- The legs and the wait that end at bridge b's PWM boundary (R283, R287). -/
def Lane.boundaryResume (l : Lane) (b : Nat) : Lane :=
  let l1 := { l with drive := { l.drive with legsOff := l.drive.legsOff - l.drive.legsOff / 2 ^ (3 * b) % 8 * 2 ^ (3 * b) } }
  if l.prot b = .legOff then l1.resumeUnit b
  else if l.prot b = .waiting ∧ Sparse.get false l.drive.resume b then l1.resumeUnit b
  else l1

end Sys2Proof.Machine
end

