-- ==== Sys2Proof/Machine/Chopper.lean ====
section
/-!
DEFINITION. The chopper and DC-link overvoltage (R292 to R295).
-/
namespace Sys2Proof.Machine

open Sys2Proof

/-- The last DC-link conversion of channel c (0 ST, 1 BK) as a number above every threshold at the maximum code. -/
def Lane.vdc (l : Lane) (c : Nat) : Option Nat := Sparse.get none l.gdc.vdc c

/-- The larger of the two DC-link conversions; none until both channels have converted. -/
def Lane.vdcMax (l : Lane) : Option Nat :=
  match l.vdc 0, l.vdc 1 with | some a, some b => some (max a b) | _, _ => none

/-- The chopper command changes (R292). -/
def Lane.chopSet (l : Lane) (on : Bool) : Lane :=
  let l0 := l.note 2
  let l1 := { l0 with gdc := { l0.gdc with chopReq := on, chopAt := l.clk.now, deferred := none } }
  if on then l1.wrapInc GDC.OV_STATUS_CHOPS else l1

/-- The chopper is declared faulty (R294): the fault, CHOP_FAULTY, and OV hold in the drive die. -/
def Lane.chopFault (l : Lane) : Lane :=
  if l.drive.chopFaulty then l
  else
    let l1 := l.noteAll.endStarts.tripInfo 6 12
    let side := l1.rd CMU.CFG_SHORT_SIDE 0 + 2 * l1.rd CMU.CFG_SHORT_SIDE 1
    ({ l1 with drive := { l1.drive with chopFaulty := true, ovHold := true, ovSide := side } } : Lane).driveFault 0x85

/-- Level 2 (R295): the chopper is faulty, the drive die holds the short as its Snuff action, and the lane is fenced by the
source's LANE severity. -/
def Lane.overvoltage2 (l : Lane) : Lane :=
  let l1 := l.chopFault.tripInfo 7 12
  ({ l1 with gdc := { l1.gdc with ov2 := true } } : Lane).driveFault 0x86

/-- What a conversion asks of the chopper; none between the thresholds (R292). -/
def Lane.chopWant (l : Lane) (v : Nat) : Option Bool :=
  if l.rd GDC.V_CH_ON_VALUE ≤ v then some true else if v ≤ l.rd GDC.V_CH_OFF_VALUE then some false else none

/-- The tick to which a change that falls in a sample window is deferred: the window's end, or the other bridge's if that holds it. -/
def Lane.deferTo (l : Lane) : Nat :=
  let e := if l.inWindow 0 then l.windowEnd 0 else l.windowEnd 1
  let o := if l.inWindow 0 then 1 else 0
  if l.windowHas o e then max e (l.windowEnd o) else e

/-- The chopper decision of one fast conversion (R292): on, off or unchanged; held for 1 µs (600 ticks); deferred out of the
sample windows unless the conversion is at or above V_OV1. -/
def Lane.chopControl (l : Lane) (v : Nat) : Lane :=
  match l.chopWant v with
  | none => l
  | some want =>
    if want = l.gdc.chopReq then { l with gdc := { l.gdc with deferred := none } }
    else if l.clk.now < l.gdc.chopAt + 600 then l
    else if (l.inWindow 0 || l.inWindow 1) && decide (v < l.rd GDC.V_OV1_VALUE) then
      if l.gdc.deferred.isSome then l
      else ({ l with gdc := { l.gdc with deferred := some (want, l.deferTo) } } : Lane).bump GDC.EVENTS_DEFERRED 2
    else l.chopSet want

/-- The overvoltage timer of one fast conversion (R294). -/
def Lane.ovTimer (l : Lane) (v : Nat) : Lane :=
  if l.rd GDC.V_OV1_VALUE ≤ v ∧ l.gdc.chopReq then
    { l with gdc := { l.gdc with ovSince := some (l.gdc.ovSince.getD l.clk.now) } }
  else { l with gdc := { l.gdc with ovSince := none } }

/-- The count of conversions at or above V_OV2 (R295). -/
def Lane.ovLevel2 (l : Lane) (v : Nat) : Lane :=
  if l.rd GDC.V_OV2_VALUE ≤ v then
    let n := l.gdc.ov2n + 1
    let l1 := { l with gdc := { l.gdc with ov2n := n } }
    if n = 5 ∧ ¬ l.gdc.ov2 then l1.overvoltage2 else l1
  else { l with gdc := { l.gdc with ov2n := 0 } }

/-- The gate-drive control after a conversion of a DC-link channel (R292 to R295). A chopper switch that waits for its try resumes
(R287). -/
def Lane.gdcConversion (l : Lane) : Lane :=
  let l0 := if l.prot 2 = .waiting ∧ Sparse.get false l.drive.resume 2 then (l.note 2).resumeUnit 2 else l
  match l0.vdcMax with
  | some v => ((l0.chopControl v).ovTimer v).ovLevel2 v
  | none => l0

/-- CHOPPER_DEFERRED_CHANGE (R292): the change deferred to t_s + 200 ns is made. -/
def execChopperDeferredChange (l : LaneId) (t : Nat) (s : State) : Host.Outcome State Fault Refusal :=
  let n := (s.lane l).atTick t
  .next (s.setLane l (n.gated 6 (match n.gdc.deferred with | some (on, at_) => if n.clk.now = at_ then n.chopSet on else n | none => n)))

/-- OVERVOLTAGE_TIMER_EXPIRY (R294): the timer has run for T_OV1 microseconds. -/
def execOvervoltageTimerExpiry (l : LaneId) (t : Nat) (s : State) : Host.Outcome State Fault Refusal :=
  let n := (s.lane l).atTick t
  .next (s.setLane l (n.gated 6
    (match n.gdc.ovSince with
    | some t0 => if t0 + 600 * n.rd GDC.OV_TIME_T_OV1 ≤ n.clk.now then n.chopFault else n
    | none => n)))

/-- DRIVE_DIE_VBUS_COMPARATOR (R292): above SN_CH_ON the drive die requests the chopper, below SN_CH_OFF it releases it. -/
def execDriveDieVbusComparator (l : LaneId) (t : Nat) (above : Bool) (s : State) : Host.Outcome State Fault Refusal :=
  let n := ((s.lane l).atTick t).note 2
  .next (s.setLane l { n with drive := { n.drive with vbusReq := above } })

end Sys2Proof.Machine
end

