-- ==== Sys2Proof/Machine/Afe.lean ====
section
/-!
DEFINITION. The analog front end (R235 to R238).
-/
namespace Sys2Proof.Machine

open Sys2Proof

/-- The fast conversion result of R237 in units of 2^-16: (code - OFFSET) × GAIN × 2^-13. -/
def Lane.fastValue (l : Lane) (c code : Nat) : Val :=
  toS18 (roundDiv (((code : Int) - l.rd AFE.FAST_CAL_OFFSET c) * l.rdS AFE.FAST_CAL_GAIN c) 8192)

/-- The slow conversion result of R237: (code - OFFSET) × GAIN × 2^-11. -/
def Lane.slowValue (l : Lane) (k code : Nat) : Val :=
  toS18 (roundDiv (((code : Int) - l.rd AFE.SLOW_CAL_OFFSET k) * l.rdS AFE.SLOW_CAL_GAIN k) 2048)

/-- Whether channel c (fast 0 to 5, slow 6 to 13) has converted since DRV-domain reset and was not over-range in its last
conversion. -/
def Lane.chanOk (l : Lane) (c : Nat) : Bool := Sparse.get false l.afe.seen c && !Sparse.get false l.afe.overs c

/-- Whether current channel c waits for its calibration (R238). -/
def Lane.calPending (l : Lane) (c : Nat) : Bool :=
  (l.rd AFE.CTRL_AUTOCAL).testBit c && !(l.rd AFE.STATUS_CAL_DONE).testBit c

/-- Whether the sources of fast channel c are valid, apart from a lost window (R227, R238, R345). -/
def Lane.fastOk (l : Lane) (c : Nat) : Bool :=
  l.chanOk c && !l.calPending c && !l.fenced (.channel c)

/-- A conversion with its over-range mark (R237): code 0 or the maximum code. -/
def Lane.markRange (l : Lane) (c : Nat) (bad : Bool) : Lane :=
  let l1 := { l with afe := { l.afe with seen := Sparse.set false l.afe.seen c true, overs := Sparse.set false l.afe.overs c bad } }
  if bad then
    let l2 := if c < 6 then l1.wr AFE.OVR_FAST (l1.rd AFE.OVR_FAST ||| 2 ^ c) else l1.wr AFE.OVR_SLOW (l1.rd AFE.OVR_SLOW ||| 2 ^ (c - 6))
    l2.faultLevel (0x46 + c)
  else l1.setLevel (0x46 + c) false

/-- Whether current channel c may average for its calibration (R238): its bridge has all six switches off or its drive die holds
the Snuff action, with the hall speed 0. -/
def Lane.calAllowed (l : Lane) (c : Nat) (still : Bool) : Bool :=
  still && !Sparse.get false l.afe.calTried c && l.calPending c && (l.drive.snuff || l.allOff (c / 2))

/-- One calibration conversion; the 1,024 conversions are consecutive. -/
def Lane.calStep (l : Lane) (c code : Nat) (still : Bool) : Lane :=
  let n := Sparse.get 0 l.afe.calN c
  if l.calAllowed c still then
    if n < 1024 then
      { l with afe := { l.afe with calN := Sparse.set 0 l.afe.calN c (n + 1)
                                   calSum := Sparse.set 0 l.afe.calSum c (Sparse.get 0 l.afe.calSum c + code) } }
    else l
  else { l with afe := { l.afe with calN := Sparse.set 0 l.afe.calN c 0, calSum := Sparse.set 0 l.afe.calSum c 0 } }

/-- The magnitude of bridge b's measured and derived phase currents at their last conversions exceeds CMU.BRK_ILIM (R213). DESIGN CHOICE: an over-range
current counts by its value, and nothing is tested before both channels have converted (log entry 87). -/
def Lane.overLimit (l : Lane) (b : Nat) : Bool :=
  let u := s18 (l.fastValue (2 * b) (l.rd AFE.FAST_RAW_CODE (2 * b)))
  let w := s18 (l.fastValue (2 * b + 1) (l.rd AFE.FAST_RAW_CODE (2 * b + 1)))
  let lim : Int := l.rd CMU.BRK_ILIM_VALUE b
  Sparse.get false l.afe.seen (2 * b) && Sparse.get false l.afe.seen (2 * b + 1) &&
    (decide (lim < iabs u) || decide (lim < iabs w) || decide (lim < iabs (s18 (toS18 (-(u + w))))))

/-- A pulsed short opens on its current limit (R213). -/
def Lane.pulsedLimit (l : Lane) (b : Nat) : Lane :=
  if (l.bridge b).pat = .pulsed ∧ !(l.bridge b).opened ∧ l.overLimit b then (l.note b).setBridge b { l.bridge b with opened := true } else l

/-- One fast channel's conversion: the raw code, the over-range mark, calibration, and the DC-link code of channels 4 and 5
(R235, R237). A maximum code counts as above every threshold (R292). -/
def Lane.fastOne (l : Lane) (still : Nat → Bool) (c code : Nat) : Lane :=
  if c < 6 then
    let l1 := (l.wr AFE.FAST_RAW_CODE code c).markRange c (decide (code = 0) || decide (code = 16383))
    if c < 4 then l1.calStep c code (still (c / 2))
    else
      let v := if code = 16383 then 0x40000 else (s18 (l.fastValue c code)).toNat
      { l1 with gdc := { l1.gdc with vdc := Sparse.set none l1.gdc.vdc (c - 4) (some v) } }
  else l

/-- Fast conversions that complete at one instant: every channel's own effect, then the pulsed-short limits and the gate-drive
control, once each. -/
def Lane.fastConv (l : Lane) (still : Nat → Bool) (conv : List (Nat × Nat)) : Lane :=
  let l1 := conv.foldl (fun n e => n.fastOne still e.1 (e.2 % 16384)) l
  let l2 := (l1.pulsedLimit 0).pulsedLimit 1
  if conv.any fun e => decide (e.1 = 4) || decide (e.1 = 5) then l2.gdcConversion else l2

/-- One slow conversion (R235, R237) of the next channel in turn. -/
def Lane.slowConv (l : Lane) (code : Nat) : Lane :=
  let k := l.afe.slowNext % 8
  let c := code % 4096
  let l1 := (l.wr AFE.SLOW_RAW_CODE c k).markRange (6 + k) (decide (c = 0) || decide (c = 4095))
  { l1 with afe := { l1.afe with slowNext := (k + 1) % 8 } }

/-- The end of a calibration (R238): the rounded mean of 1,024 codes becomes OFFSET when it lies within CAL_LIMIT of 8,192. -/
def Lane.calComplete (l : Lane) (c : Nat) : Lane :=
  if Sparse.get 0 l.afe.calN c = 1024 ∧ c < 4 then
    let sum : Nat := Sparse.get 0 l.afe.calSum c
    let mean := (roundDiv sum 1024).toNat
    let l1 := { l with afe := { l.afe with calN := Sparse.set 0 l.afe.calN c 0, calSum := Sparse.set 0 l.afe.calSum c 0
                                           calTried := Sparse.set false l.afe.calTried c true } }
    if iabs ((mean : Int) - 8192) ≤ l.rd AFE.CTRL_CAL_LIMIT then
      (l1.wr AFE.FAST_CAL_OFFSET mean c).wr AFE.STATUS_CAL_DONE (l1.rd AFE.STATUS_CAL_DONE ||| 2 ^ c)
    else l1.fault (0x42 + c)
  else l

/-- SLOW_CONVERSION. -/
def execSlowConversion (l : LaneId) (t code : Nat) (s : State) : Host.Outcome State Fault Refusal :=
  .next (s.setLane l (((s.lane l).atTick t).gated 6 (((s.lane l).atTick t).slowConv code)))

/-- OFFSET_CALIBRATION_COMPLETE of a current channel. -/
def execOffsetCalibrationComplete (l : LaneId) (t ch : Nat) (s : State) : Host.Outcome State Fault Refusal :=
  .next (s.setLane l (((s.lane l).atTick t).gated 6 (((s.lane l).atTick t).calComplete ch)))

end Sys2Proof.Machine
end

