-- ==== Sys2Proof/Machine/Speed.lean ====
section
/-!
DEFINITION. Feedback groups of the position feedback unit (R243 to R260): their lines, validity and speed. Groups are numbered
as R273 numbers them: hall sets 0 and 1, encoders 2 and 3, SSI ports 4 and 5, SENT receivers 6 and 7, probes 8 and 9.
-/
namespace Sys2Proof.Machine

open Sys2Proof

/-- The group of a line (R243). -/
def groupOf (i : Nat) : Nat := if i < 12 then i / 3 else 4 + (i - 12)

/-- The lines of a group. -/
def groupLines (g : Nat) : List Nat := if g < 4 then [3 * g, 3 * g + 1, 3 * g + 2] else [12 + (g - 4)]

/-- The lines that a stuck monitor watches (R248): the three of a hall set, A and B of an encoder. -/
def monitored (g : Nat) : List Nat :=
  if g < 2 then groupLines g else if g < 4 then [3 * g, 3 * g + 1] else []

/-- A line. -/
def Lane.line (l : Lane) (i : Nat) : LineSt := Sparse.get {} l.pfb.lines i

/-- The lane with a line replaced. -/
def Lane.setLine (l : Lane) (i : Nat) (s : LineSt) : Lane := { l with pfb := { l.pfb with lines := Sparse.set {} l.pfb.lines i s } }

/-- A hall set (0, 1) or encoder (2, 3). -/
def Lane.cnt (l : Lane) (g : Nat) : CntSt := Sparse.get {} l.pfb.cnt g

/-- The lane with a hall set or encoder replaced. -/
def Lane.setCnt (l : Lane) (g : Nat) (s : CntSt) : Lane := { l with pfb := { l.pfb with cnt := Sparse.set {} l.pfb.cnt g s } }

/-- Whether a line of a group chatters (R247). -/
def Lane.groupChatter (l : Lane) (g : Nat) : Bool := (groupLines g).any fun i => (l.line i).chatter.isSome

/-- Whether a monitored line of a group is stuck (R248). -/
def Lane.groupStuck (l : Lane) (g : Nat) : Bool := (monitored g).any fun i => (l.line i).stuck

/-- Whether a group is enabled. -/
def Lane.groupOn (l : Lane) (g : Nat) : Bool :=
  match g with
  | 0 | 1 => l.on PFB.HALL_CFG_ENABLE g
  | 2 | 3 => l.on PFB.ENC_CFG_ENABLE (g - 2)
  | 4 | 5 => l.on PFB.SSI_CFG_ENABLE (g - 4)
  | 6 | 7 => l.on PFB.SENT_CFG_ENABLE (g - 6)
  | 8 | 9 => l.on PFB.PRB_CFG_ENABLE (g - 8)
  | _ => false

/-- A setting that hall sets and encoders share. -/
def Lane.cntCfg (l : Lane) (hall enc : Fld) (g : Nat) : Nat := if g < 2 then l.rd hall g else l.rd enc (g - 2)

/-- Whether hall set h is valid (R247, R248, R251, R253). -/
def Lane.hallValid (l : Lane) (h : Nat) : Bool :=
  l.groupOn h && (l.cnt h).has && !(l.cnt h).impossible && !l.groupChatter h && !l.groupStuck h

/-- Whether the position of encoder e is valid (R259). -/
def Lane.encValid (l : Lane) (e : Nat) : Bool :=
  l.groupOn (2 + e) && !(l.cnt (2 + e)).skip && !l.groupChatter (2 + e) && !l.groupStuck (2 + e) &&
    (decide (l.rd PFB.ENC_CFG_INDEX_MODE e = 0) || (l.cnt (2 + e)).referenced)

/-- Whether the position of a hall set or encoder is valid. -/
def Lane.posValid (l : Lane) (g : Nat) : Bool := if g < 2 then l.hallValid g else l.encValid (g - 2)

/-- Whether the speed of a hall set or encoder is valid (R247, R248, R253, R255). -/
def Lane.spdValid (l : Lane) (g : Nat) : Bool :=
  if g < 2 then l.hallValid g
  else l.groupOn g && !l.groupChatter g && !l.groupStuck g && !(l.cnt g).spdBad

/-- The speed rule of R260 on the edge dates, newest first: none at standstill; otherwise the exact quotient's numerator and
denominator, in units of 2^-16. -/
def speedRule (hist : List Nat) (sense : Int) (k span stillMs t : Nat) : Option (Int × Int) :=
  match hist with
  | [] => none
  | e :: rest =>
    if e + stillMs * 75000 ≤ t then none
    else
      let inSpan := (rest.takeWhile fun f => decide (e ≤ f + span)).length
      let n := if inSpan = 0 ∧ rest ≠ [] then 1 else inSpan
      if n = 0 then some (0, 1)
      else
        let per : Int := (e : Int) - (hist.getD n e : Nat)
        if per < ((t : Int) - e) * n then some (sense * k * 256, (t : Int) - e)
        else some (sense * n * k * 256, per)

/-- The speed of group g at this instant, and whether it is at standstill (R260). A period of no samples, which edges of lines
with different filters can give, leaves the speed open. -/
def Lane.speedNow (l : Lane) (g : Nat) : Val × Bool :=
  match speedRule (l.cnt g).hist (l.cnt g).sense (l.cntCfg PFB.HALL_SPD_K_K PFB.ENC_SPD_K_K g)
      (l.cntCfg PFB.HALL_SPD_CFG_SPAN PFB.ENC_SPD_CFG_SPAN g)
      (l.cntCfg PFB.HALL_SPD_CFG_STILL_MS PFB.ENC_SPD_CFG_STILL_MS g) (l.clk.now / 8) with
  | none => (0, true)
  | some (num, den) => if den ≤ 0 then (toS18 (Config.openValue l.free), false) else (toS18 (roundDiv num den), false)

/-- A speed evaluation (R260): standstill clears the history. -/
def Lane.evalSpeed (l : Lane) (g : Nat) : Lane × Val :=
  let (v, still) := l.speedNow g
  let c := l.cnt g
  ((l.setCnt g { c with still := still, hist := if still then [] else c.hist }).drew, v)

/-- The speed that the commutation unit takes for bridge b (R229, R261): none when the hall set's speed is invalid. -/
def Lane.omega (l : Lane) (b : Nat) : Option Int :=
  let h := l.rd CMU.CFG_HALL_SRC b
  if l.spdValid h then some (s18 (l.speedNow h).1) else none

end Sys2Proof.Machine
end

