-- ==== Sys2Proof/Machine/Commutation.lean ====
section
/-!
DEFINITION. The commutation unit (R210 to R234): period boundaries, starts, sectors, current samples and the window search.
-/
namespace Sys2Proof.Machine

open Sys2Proof

/-! ### Window search (R219 to R223) -/

/-- A list of closed intervals without the open interval (x, y). -/
def cutOpen (x y : Int) (adm : List (Int × Int)) : List (Int × Int) :=
  adm.flatMap fun iv =>
    (if iv.1 ≤ imin iv.2 x then [(iv.1, imin iv.2 x)] else []) ++ (if imax iv.1 y ≤ iv.2 ∧ x < y then [(imax iv.1 y, iv.2)] else [])

/-- The admissible sample starts given the edges (R221). -/
def admissible (settle guard : Nat) (edges : List Int) : List (Int × Int) :=
  (edges.filter fun e => decide (-(settle : Int) ≤ e) && decide (e ≤ 1200 + guard)).foldl
    (fun adm e => cutOpen (e - 120 - guard) (e + settle) adm) [(0, 1080)]

/-- The longest interval of a list, the earliest on a tie. -/
def longest : List (Int × Int) → Option (Int × Int)
  | [] => none
  | iv :: rest => match longest rest with
    | none => some iv
    | some jv => if jv.2 - jv.1 > iv.2 - iv.1 ∨ (jv.2 - jv.1 = iv.2 - iv.1 ∧ jv.1 < iv.1) then some jv else some iv

/-- The model edges of a command word in a period of p ticks from tick b (R218, R220). -/
def modelEdges (w : Val) (p minPulse : Nat) (b : Int) : List Int :=
  let h := onTime (cmdDuty w) p minPulse
  if !cmdEnable w then []
  else match cmdMode w with
    | 0 => if h = 0 ∨ h = p then [] else [b + onOffset h p, b + onOffset h p + h]
    | 2 => if h = 0 then [] else if h = p then [b] else [b, b + h]
    | _ => []

/-- The model word of bridge b of lane x (R220). -/
def Cmu.modelOf (c : Cmu) (x : LaneId) (b : Nat) : Val := Sparse.get 0 c.model (2 * x.code + b)
/-- The model word before the last commit. -/
def Cmu.prevOf (c : Cmu) (x : LaneId) (b : Nat) : Val := Sparse.get 0 c.prev (2 * x.code + b)

/-- The edges of bridge b of lane x around the start of the next cycle, each from the period that contains it: a period that
started before the commit of this cycle has the word before it (R221). -/
def Lane.bridgeEdges (l : Lane) (x : LaneId) (b : Nat) : List Int :=
  let p := l.pwmPeriod b
  let off : Int := carrierOffset x p
  let starts : List Int := [off - p, off]
  starts.flatMap fun (s : Int) =>
    modelEdges (if s + (l.cycleLen : Int) < 3300 then l.cmu.prevOf x b else l.cmu.modelOf x b) p (l.rd CMU.CFG_MIN_PULSE b) s

/-- The bridges of the exclusion set of bridge b that contribute edges: those of a lane outside the VSET do not (R219). -/
def Lane.exclusion (l : Lane) (b : Nat) : List (LaneId × Nat) :=
  (if l.xla.vset.get l.id then [(l.id, b)] else []) ++ (if l.on CMU.CFG_EXCL_LANES b then (l.peers.filter fun x => l.xla.vset.get x).map fun x => (x, b) else [])
    ++ (if l.on CMU.CFG_EXCL_OTHER b && l.xla.vset.get l.id then [(l.id, 1 - b)] else [])

/-- The admissible sample starts of bridge b. -/
def Lane.admOf (l : Lane) (b : Nat) : List (Int × Int) :=
  if l.runsPwm then
    admissible (l.rd CMU.WIN_CFG_SETTLE b) (l.rd CMU.WIN_CFG_GUARD b) ((l.exclusion b).flatMap fun e => l.bridgeEdges e.1 e.2)
  else [(0, 1080)]

/-- The cap of R222 on one bridge of the exclusion set: its model duty above MOD_CEIL becomes MOD_CEIL if it first takes effect after the search, which is
every duty of a commit, and in a hold cycle one that differs from the duty already applied; an own bridge raises modulation cap and counts it. -/
def Lane.capOne (l : Lane) (x : LaneId) (b : Nat) : Lane :=
  let w := l.cmu.modelOf x b
  let ceil := l.rd CMU.MOD_CEIL_CEIL b
  if ceil < cmdDuty w ∧ (l.xla.committed ∨ w ≠ l.cmu.prevOf x b) then
    let l1 := { l with cmu := { l.cmu with
      model := Sparse.set 0 l.cmu.model (2 * x.code + b) (BitVec.ofNat 18 (w.toNat / 16384 * 16384 + ceil)) } }
    if x = l.id then
      ((l1.setBridge b { l1.bridge b with cap := some ceil }).bump CMU.CAP_COUNT_COUNT b).fault (0x38 + b)
    else l1
  else l

/-- The window search of bridge b (R221). -/
def Lane.searchBridge (l : Lane) (b : Nat) : Lane :=
  let l1 := if (l.admOf b).isEmpty then (l.exclusion b).foldl (fun n e => n.capOne e.1 e.2) l else l
  match longest (l1.admOf b) with
  | some iv => l1.setBridge b { l1.bridge b with ts := (Int.fdiv (iv.1 + iv.2) 2).toNat, len := (iv.2 - iv.1).toNat, deg := false }
  | none => l1.setBridge b { l1.bridge b with ts := 1080, len := 0, deg := true }

/-- The window search of both bridges at a commit or in a hold cycle (R221). DESIGN CHOICE: the rule gives no order of the two bridges; ST comes first, and
is not searched again when BK's search caps a duty of its exclusion set (log entry 87). -/
def Lane.windowSearch (l : Lane) : Lane := (l.searchBridge 0).searchBridge 1

/-- The model words in force after a commit: the new words of every bridge, none of them capped yet. -/
def Lane.newModel (l : Lane) (words : Sparse Val) : Lane :=
  let l1 := { l with cmu := { l.cmu with prev := l.cmu.model, model := words, words := words } }
  (l1.setBridge 0 { l1.bridge 0 with cap := none }).setBridge 1 { l1.bridge 1 with cap := none }

/-- The model words after a hold cycle: the committed words again, which a cap of the past cycle has held down (R222). -/
def Lane.holdModel (l : Lane) : Lane := l.newModel l.cmu.words

/-! ### The latched sources (R227) -/

/-- A source is latched for the input vector. -/
def Lane.latchSource (l : Lane) (b pos : Nat) (x : Bool × Val) : Lane :=
  { l with cmu := { l.cmu with src := Sparse.set (false, 0) l.cmu.src (16 * b + pos) x } }

/-- The STATUS source of a bridge (R227). -/
def Lane.bridgeStatus (l : Lane) (b : Nat) : Val :=
  BitVec.ofNat 18 (l.rd CMU.APPLIED_CAPPED b + 2 * (l.bridge b).deg.toNat + 4 * (decide (l.rd CMU.APPLIED_START b ≠ 0)).toNat
    + 8 * (l.bridge b).deferred.isSome.toNat + 16 * l.rd CMU.APPLIED_SECTOR b + 128 * l.rd CMU.APPLIED_DIR b
    + 256 * l.rd CMU.APPLIED_MODE b + 1024 * l.rd CMU.APPLIED_ENABLE b)

/-- STATUS follows a bridge from its sample to t_s + 200 ns, at which it is latched (R227). -/
def Lane.followStatus (l : Lane) (b : Nat) : Lane :=
  if (Sparse.get (false, 0) l.cmu.src (16 * b + 5)).1 && decide (l.windowEnd b ≤ l.clk.now + 120) && decide (l.clk.now < l.windowEnd b) then
    l.latchSource b 5 (true, l.bridgeStatus b)
  else l

/-! ### Sectors (R215 to R217) -/

/-- The sector of a hall state (R215). -/
def Lane.sectorOf (l : Lane) (b state : Nat) : Nat :=
  match state with
  | 1 => l.rd CMU.SECTOR_MAP_H1 b | 2 => l.rd CMU.SECTOR_MAP_H2 b | 3 => l.rd CMU.SECTOR_MAP_H3 b
  | 4 => l.rd CMU.SECTOR_MAP_H4 b | 5 => l.rd CMU.SECTOR_MAP_H5 b | 6 => l.rd CMU.SECTOR_MAP_H6 b | _ => 0

/-- A sector takes effect. -/
def Lane.applySector (l : Lane) (b sec : Nat) : Lane :=
  let s := l.bridge b
  let d := l.rd CMU.APPLIED_DIR b
  ((l.note b).setBridge b { s with sector := sec, deferred := none, lastSec := if s.pat = .drive then dirSector sec d else s.lastSec }).wr
    CMU.APPLIED_SECTOR (dirSector sec d) b

/-- The hall set of bridge b gives a new state (R217): the sector changes at once, or is deferred out of the sample window. -/
def Lane.hallToBridge (l : Lane) (b state : Nat) : Lane :=
  let sec := l.sectorOf b state
  if l.inWindow b then ((l.setBridge b { l.bridge b with deferred := some (sec, l.windowEnd b) }).bump CMU.EVENT_COUNT_DEFERRED b).followStatus b
  else l.applySector b sec

/-- The bridges whose hall set is h take its new state. -/
def Lane.hallToCmu (l : Lane) (h state : Nat) : Lane :=
  [0, 1].foldl (fun n b => if n.rd CMU.CFG_HALL_SRC b = h then n.hallToBridge b state else n) l

/-- A change of the map or of the hall set maps the filtered hall state anew (R215). -/
def Lane.remapSector (l : Lane) (b : Nat) : Lane :=
  let c := l.cnt (l.rd CMU.CFG_HALL_SRC b)
  let goal := match (l.bridge b).deferred with | some (sec, _) => sec | none => (l.bridge b).sector
  if c.has && decide (l.sectorOf b c.held ≠ goal) then l.hallToBridge b c.held else l

/-- DEFERRED_SECTOR_CHANGE (R217), at t_s + 200 ns. -/
def execDeferredSectorChange (l : LaneId) (t b : Nat) (s : State) : Host.Outcome State Fault Refusal :=
  let n := (s.lane l).atTick t
  .next (s.setLane l (n.gated 6
    (match (n.bridge b).deferred with
    | some (sec, at_) => if n.clk.now = at_ then n.applySector b sec else n
    | none => n)))

/-! ### Period boundaries and starts (R214, R229 to R233) -/

/-- The pattern of the disable action (R213). -/
def Lane.disablePat (l : Lane) (b : Nat) : Pat := if l.on CMU.CFG_DIS_ACT b then .short else .off

/-- The pattern of a MODE (R213). -/
def modePat (mode : Nat) : Pat :=
  match mode with | 0 => .drive | 1 => .short | 2 => .pulsed | _ => .off

/-- The entry among 1 to 3 of R214 that applies; 0 for none. -/
def Lane.topEntry (l : Lane) (b : Nat) : Nat :=
  if l.drive.snuff then 1 else if l.drive.chopFaulty then 2
  else if !cmdEnable (BitVec.ofNat 18 (l.rd CMU.CMD_WORD b)) || l.fenced (.bridge b) then 3 else 0

/-- The last VDC value of bridge b with its validity. -/
def Lane.vdcSource (l : Lane) (b : Nat) : Bool × Val := Sparse.get (false, 0) l.cmu.src (16 * b + 4)

/-- The case of R230 for a direction. -/
def Lane.startCase (l : Lane) (b dir : Nat) : Nat :=
  match l.omega b with
  | none => 1
  | some w =>
    let along := if dir = 0 then w else -w
    if !(l.vdcSource b).1 || decide (s18 (l.vdcSource b).2 < 1024) then 1
    else if along < 0 ∧ (l.rd CMU.REV_SPEED_VALUE b : Int) ≤ iabs w then 2
    else if 0 < along ∧ (l.rd CMU.SYNC_SPEED_VALUE b : Int) ≤ iabs w then 3
    else 4

/-- The first duty of a synchronised start (R231). -/
def Lane.syncDuty (l : Lane) (b : Nat) : Nat :=
  match l.omega b with
  | some w => min (roundDiv (iabs w * l.rd CMU.BEMF_K_VALUE b) (4 * s18 (l.vdcSource b).2)).toNat 16383
  | none => 0

/-- What a boundary decides for a bridge: the start state of CMU.APPLIED, the entry of R214, the pattern and the duty. -/
structure Decision where
  start : Nat
  entry : Nat
  pat   : Pat
  duty  : Nat
deriving DecidableEq, Repr

/-- The command word applies: entry 5 of R214. -/
def commandDecision (w : Val) : Decision := ⟨0, 5, modePat (cmdMode w), cmdDuty w⟩

/-- A synchronised start applies duty d: it goes on until what the cap leaves of d is the commanded duty (R231, R233). -/
def syncDecision (w : Val) (lim : Nat → Nat) (d : Nat) : Decision :=
  if lim d = cmdDuty w then commandDecision w else ⟨2, 4, .drive, d⟩

/-- The decision of R230 for a command word; lim is what the cap leaves of a duty. -/
def Lane.startDecision (l : Lane) (b : Nat) (w : Val) (lim : Nat → Nat) : Decision :=
  match l.startCase b (cmdDir w) with
  | 1 => ⟨1, 4, l.disablePat b, 0⟩
  | 2 => ⟨3, 4, .pulsed, 16383⟩
  | 3 => syncDecision w lim (l.syncDuty b)
  | _ => commandDecision w

/-- The counter of the start case taken (R241). -/
def Lane.countStart (l : Lane) (b : Nat) (c : Nat) : Lane :=
  match c with
  | 2 => l.wrapInc CMU.START_COUNT_REVERSALS b
  | 3 => l.wrapInc CMU.START_COUNT_SYNCS b
  | 4 => l.wrapInc CMU.START_COUNT_NORMAL b
  | _ => l

/-- A duty moved toward another by at most a step (R231). -/
def stepToward (now goal step : Nat) : Nat :=
  if now < goal then min goal (now + step) else max goal (now - step)

/-- The bridge at a period boundary with no entry 1 to 3 in force: its decision, and the case of R230 when one was taken. -/
def Lane.decide45 (l : Lane) (b : Nat) (w : Val) (lim : Nat → Nat) : Decision × Nat :=
  let s := l.bridge b
  let st := l.rd CMU.APPLIED_START b
  let dir := cmdDir w
  if (s.idle && decide (cmdMode w = 0)) || (decide (st ≠ 0) && (decide (dir ≠ s.startDir) || decide (st = 1))) then
    (l.startDecision b w lim, l.startCase b dir)
  else match st with
    | 2 => (syncDecision w lim (stepToward (l.rd CMU.APPLIED_DUTY b) (cmdDuty w) (l.rd CMU.START_CFG_RAMP b)), 0)
    | 3 =>
      match l.omega b with
      | some v => if iabs v < l.rd CMU.REV_SPEED_VALUE b then (commandDecision w, 4) else (⟨3, 4, .pulsed, 16383⟩, 0)
      | none => (⟨3, 4, .pulsed, 16383⟩, 0)
    | _ => (if s.timedOut ∧ cmdMode w = 0 then ⟨0, 4, l.disablePat b, 0⟩ else commandDecision w, 0)

/-- The pattern of a bridge under entries 1 to 3 of R214. -/
def Lane.topPat (l : Lane) (b entry : Nat) : Pat :=
  match entry with | 1 => .off | 2 => .short | _ => l.disablePat b

/-- CMU.APPLIED after a boundary, the sector apart. -/
def Lane.showApplied (l : Lane) (b : Nat) (w : Val) (d : Decision) (capped : Bool) : Lane :=
  (((((((l.flag CMU.APPLIED_CAPPED capped b).wr CMU.APPLIED_START d.start b).wr CMU.APPLIED_PRECEDENCE d.entry b).wr
    CMU.APPLIED_DIR (cmdDir w) b).flag CMU.APPLIED_ENABLE (decide (4 ≤ d.entry)) b).wr CMU.APPLIED_MODE (cmdMode w) b).wr
    CMU.APPLIED_DUTY d.duty b).wr CMU.APPLIED_SECTOR (dirSector (l.bridge b).sector (cmdDir w)) b

/-- Whether a boundary of bridge b needs the speed: at a start event and while a start runs (R229 to R232, R261). -/
def Lane.needsOmega (l : Lane) (b : Nat) (w : Val) : Bool :=
  decide (l.topEntry b = 0) && (((l.bridge b).idle && decide (cmdMode w = 0)) || decide (l.rd CMU.APPLIED_START b ≠ 0))

/-- A PWM period boundary of bridge b (R211, R214, R218, R222): what waits for a boundary resumes, the shadow command is applied
under R214, the period's on-time is placed, and the lane die sends its PWM update (R28). -/
def Lane.boundary (l : Lane) (b : Nat) : Lane :=
  let l0 := (if b = 0 then (l.note 0).note 2 else l.note b).boundaryResume b
  let w : Val := BitVec.ofNat 18 (l0.rd CMU.CMD_WORD b)
  let s := l0.bridge b
  let lim := fun (d : Nat) => match s.cap with | some c => min d c | none => d
  let top := l0.topEntry b
  let (d, case) := if top ≠ 0 then ((⟨0, top, l0.topPat b top, 0⟩ : Decision), 0) else l0.decide45 b w lim
  let applied := if d.start = 3 then d.duty else lim d.duty
  let p := l0.pwmPeriod b
  let h := if d.start = 3 then p else onTime applied p (l0.rd CMU.CFG_MIN_PULSE b)
  let event := decide (top = 0) && s.idle && decide (cmdMode w = 0)
  let s1 : BridgeSt := { s with
    idle := decide (top ≠ 0) || decide (cmdMode w ≠ 0)
    startAt := if d.start = 0 then none else if event then some l0.clk.now else s.startAt
    startDir := cmdDir w
    timedOut := s.timedOut && decide (top = 0) && decide (cmdMode w = 0) && !event
    pat := d.pat, from_ := l0.clk.now, h := h, a := onOffset h p, opened := false
    lastSec := if d.pat = .drive then dirSector s.sector (cmdDir w) else s.lastSec
    lastDir := if d.pat = .drive then cmdDir w else s.lastDir }
  let l0s := if l0.needsOmega b w then (l0.evalSpeed (l0.rd CMU.CFG_HALL_SRC b)).1 else l0
  let l1 := (((l0s.setBridge b s1).showApplied b w { d with duty := if d.pat = .drive ∨ d.pat = .pulsed then applied else 0 }
    s.cap.isSome).countStart b case).emit (.pwmUpdate b)
  let l2 := if l1.gdc.linkUp && decide (l1.drive.lastUpd < s.from_) then l1.bump GDC.DRV_ERR_MISSING else l1
  let l2 := l2.followStatus b
  if b = 0 then
    let c : Val := BitVec.ofNat 18 (l2.rd GDC.CHOP_CMD_WORD)
    { l2 with gdc := { l2.gdc with dump := if l2.fenced .chopper then 0 else c } }
  else l2

/-- PWM_PERIOD_BOUNDARY, at a boundary of the lane's carrier (R39). A configuration with a control cycle longer than 250 µs runs no PWM
(R38). -/
def execPwmPeriodBoundary (l : LaneId) (t b : Nat) (s : State) : Host.Outcome State Fault Refusal :=
  let n := (s.lane l).atTick t
  .next (s.setLane l (n.gated 6 (if n.runsPwm && decide (b < 2) && n.isBoundary b t then n.boundary b else n)))

/-- The start timer of bridge b ends a start sequence (R233), unless an entry 1 to 3 of R214 has ended it. -/
def Lane.startTimeout (l : Lane) (b : Nat) : Lane :=
  match (l.bridge b).startAt with
  | some t0 =>
    if t0 + 600000 * l.rd CMU.START_CFG_TIMEOUT b ≤ l.clk.now ∧ l.rd CMU.APPLIED_START b ≠ 0 ∧ l.topEntry b = 0 then
      let l1 := (l.note b).setBridge b { l.bridge b with startAt := none, timedOut := true, pat := l.disablePat b }
      ((((l1.wr CMU.APPLIED_START 0 b).wr CMU.APPLIED_DUTY 0 b).wrapInc CMU.START_COUNT_TIMEOUTS b).followStatus b).fault (0x40 + b)
    else l
  | none => l

/-- START_TIMEOUT. -/
def execStartTimeout (l : LaneId) (t b : Nat) (s : State) : Host.Outcome State Fault Refusal :=
  let n := (s.lane l).atTick t
  .next (s.setLane l (n.gated 6 (if b < 2 then n.startTimeout b else n)))

/-! ### Current samples (R223, R225 to R228) -/

/-- A phase current of bridge b from the last conversions: 0 U, 1 V, 2 W, with its validity. -/
def Lane.phaseCurrent (l : Lane) (b phase : Nat) (lost : Bool) : Bool × Val :=
  let u := l.fastValue (2 * b) (l.rd AFE.FAST_RAW_CODE (2 * b))
  let w := l.fastValue (2 * b + 1) (l.rd AFE.FAST_RAW_CODE (2 * b + 1))
  let okU := l.fastOk (2 * b) && !lost
  let okW := l.fastOk (2 * b + 1) && !lost
  match phase with
  | 0 => (okU, u)
  | 2 => (okW, w)
  | _ => (okU && okW, toS18 (-(s18 u + s18 w)))

/-- The negation of a source's value. -/
def negSource (x : Bool × Val) : Bool × Val := (x.1, toS18 (-(s18 x.2)))

/-- The conducting current (R226). DESIGN CHOICE (log entry 76): a period that the rule does not name, a pulsed short of any origin or entries 1 and
2 of R214, takes the pattern of the last DRIVE period as a SHORT does. -/
def Lane.conducting (l : Lane) (b : Nat) (lost : Bool) : Bool × Val :=
  let s := l.bridge b
  let drive := decide (s.pat = .drive)
  let sec := if drive then l.rd CMU.APPLIED_SECTOR b else s.lastSec
  let dir := if drive then l.rd CMU.APPLIED_DIR b else s.lastDir
  let i := l.phaseCurrent b (sectorPhases sec).1 lost
  let both := (l.phaseCurrent b 1 lost).1
  if dir = 1 then (both, (negSource i).2) else (both, i.2)

/-- A degraded sample is counted and raised (R223); the first clean one ends the count. -/
def Lane.degraded (l : Lane) (b : Nat) : Lane :=
  let s := l.bridge b
  if s.deg then
    let l1 := ((l.setBridge b { s with degRun := s.degRun + 1 }).bump CMU.EVENT_COUNT_DEGRADED b).fault (0x3A + b)
    if l1.rd CMU.WIN_CFG_PERSIST b ≠ 0 ∧ s.degRun + 1 = l1.rd CMU.WIN_CFG_PERSIST b then l1.faultLevel (0x3C + b) else l1
  else (l.setBridge b { s with degRun := 0 }).setLevel (0x3C + b) false

/-- The floating-phase check of a sample in DRIVE (R228). DESIGN CHOICE: the rule does not say what an invalid current makes of the run of consecutive
samples; it ends the run (log entry 87). -/
def Lane.floatCheck (l : Lane) (b : Nat) : Lane :=
  let s := l.bridge b
  let i := l.phaseCurrent b (sectorPhases (l.rd CMU.APPLIED_SECTOR b)).2.2 false
  let n := l.rd CMU.CFG_FLOAT_PERSIST b
  if s.pat = .drive ∧ n ≠ 0 ∧ i.1 ∧ (l.rd CMU.FLOAT_LIMIT_VALUE b : Int) < iabs (s18 i.2) then
    let l1 := l.setBridge b { s with floatRun := min (s.floatRun + 1) n }
    if s.floatRun + 1 = n then l1.faultLevel (0x3E + b) else l1
  else (l.setBridge b { s with floatRun := 0 }).setLevel (0x3E + b) false

/-- AFE.STATUS.VALID of a fast channel. -/
def Lane.showValid (l : Lane) (c : Nat) (ok : Bool) : Lane :=
  let v := l.rd AFE.STATUS_VALID
  l.wr AFE.STATUS_VALID (if ok then v ||| 2 ^ c else v - v / 2 ^ c % 2 * 2 ^ c)

/-- The sample of bridge b at t_s (R225 to R228), with the codes of its two current channels and its DC-link channel. -/
def Lane.sample (l : Lane) (b cu cw cv : Nat) : Lane :=
  let still := fun x => decide (l.omega x = some 0)
  let l1 := l.fastConv still [(2 * b, cu), (2 * b + 1, cw), (4 + b, cv)]
  let l2 := (l1.degraded b).floatCheck b
  let s := l2.bridge b
  let lost := decide (l2.rd CMU.WIN_CFG_PERSIST b ≠ 0) && decide (l2.rd CMU.WIN_CFG_PERSIST b < s.degRun)
  let vdc := (l2.fastOk (4 + b), l2.fastValue (4 + b) (l2.rd AFE.FAST_RAW_CODE (4 + b)))
  let l3 := (((((l2.latchSource b 0 (l2.phaseCurrent b 0 lost)).latchSource b 1 (l2.phaseCurrent b 2 lost)).latchSource b 2
    (l2.phaseCurrent b 1 lost)).latchSource b 3 (l2.conducting b lost)).latchSource b 4 vdc).latchSource b 5
    (true, l2.bridgeStatus b)
  let l4 := ((l3.showValid (2 * b) (l2.phaseCurrent b 0 lost).1).showValid (2 * b + 1) (l2.phaseCurrent b 2 lost).1).showValid
    (4 + b) vdc.1
  (((l4.flag CMU.WINDOW_DEGRADED s.deg b).flag CMU.WINDOW_START (decide (l2.rd CMU.APPLIED_START b ≠ 0)) b).wr CMU.WINDOW_LEN
    s.len b).wr CMU.WINDOW_TS s.ts b

/-- CURRENT_SAMPLE of a bridge, at its t_s. -/
def execCurrentSample (l : LaneId) (b cu cw cv : Nat) (s : State) : Host.Outcome State Fault Refusal :=
  let n := (s.lane l).atTick (((s.lane l).bridge b).ts)
  .next (s.setLane l (n.gated 6 (if b < 2 then n.sample b cu cw cv else n)))

/-- FAST_CONVERSION: the channels that complete at this instant, with their codes. -/
def execFastConversion (l : LaneId) (t : Nat) (conv : List (Nat × Nat)) (s : State) : Host.Outcome State Fault Refusal :=
  let n := (s.lane l).atTick t
  .next (s.setLane l (n.gated 6 (n.fastConv (fun x => decide (n.omega x = some 0)) conv)))

end Sys2Proof.Machine
end

