-- ==== Sys2Proof/Machine/Feedback.lean ====
section
/-!
DEFINITION. The position feedback unit (chapter 07): lines, hall sets, encoders, probes, SSI, SENT and the vector latch.
-/
namespace Sys2Proof.Machine

open Sys2Proof

/-! ### Counts -/

/-- The number of the present 75 MHz sample (R244). -/
def Lane.sampleNo (l : Lane) : Nat := l.clk.now / 8

/-- The edge time of a line's accepted edge (R245). -/
def Lane.edgeDate (l : Lane) (i : Nat) : Nat := l.sampleNo - l.rd PFB.LINE_CFG_FILT i

/-- A count as a signed number. -/
def cntInt (n : Nat) : Int := signedOf 32 n

/-- A count moved by one edge: modulo 2^32, or within 0 to MODULUS - 1 (R254). -/
def cntStep (modulus n : Nat) (up : Bool) : Nat :=
  if modulus = 0 then (if up then n + 1 else n + 2 ^ 32 - 1) % 2 ^ 32
  else if up then (if n + 1 = modulus then 0 else n + 1) else (if n = 0 then modulus - 1 else n - 1)

/-- The history after an accepted count edge (R260): a reversal's edge is the first entry of a new one. -/
def CntSt.addEdge (c : CntSt) (date : Nat) (sense : Int) : CntSt :=
  let hist := if sense = -c.sense ∧ c.sense ≠ 0 then [date] else date :: c.hist.take 31
  { c with hist := hist, sense := sense, spdBad := c.spdBad && decide (hist.length < 2) }

/-- The group that a probe's SRC names (R275). -/
def probeGroup (src : Nat) : Nat := match src with | 0 => 2 | 1 => 3 | 2 => 0 | _ => 1

/-- A count event of group g is kept for probes, and a probe that latched at or after its date takes it in (R258, R262). -/
def Lane.countEvent (l : Lane) (g : Nat) (e : CntEvt) : Lane :=
  let c := l.cnt g
  let l1 := l.setCnt g { c with recent := e :: c.recent.filter fun x => decide (l.sampleNo ≤ x.date + 64) }
  [0, 1].foldl (fun n p =>
    match (Sparse.get {} n.pfb.probes p).date with
    | some d =>
      if probeGroup (n.rd PFB.PRB_CFG_SRC p) = g ∧ e.date ≤ d then
        let n1 := n.wr PFB.PRB_POS_VALUE (if e.date = d then e.edge else e.post) p
        if e.date = d then (n1.flag PFB.PRB_STATUS_INDEX e.index p).flag PFB.PRB_STATUS_SKIP e.skip p else n1
      else n
    | none => n) l1

/-! ### Hall sets (R250 to R253) -/

/-- The hall state of three established levels (R250). -/
def Lane.hallState (l : Lane) (h : Nat) : Option Nat :=
  match (l.line (3 * h)).level, (l.line (3 * h + 1)).level, (l.line (3 * h + 2)).level with
  | some a, some b, some c => some (a.toNat + 2 * b.toNat + 4 * c.toNat)
  | _, _, _ => none

/-- The electrical position of a valid state (R250). -/
def Lane.hallPos (l : Lane) (h state : Nat) : Nat :=
  match state with
  | 1 => l.rd PFB.HALL_CFG_P1 h | 2 => l.rd PFB.HALL_CFG_P2 h | 3 => l.rd PFB.HALL_CFG_P3 h
  | 4 => l.rd PFB.HALL_CFG_P4 h | 5 => l.rd PFB.HALL_CFG_P5 h | 6 => l.rd PFB.HALL_CFG_P6 h | _ => 0

/-- One hall edge is counted. -/
def Lane.hallCount (l : Lane) (h date : Nat) (up : Bool) : Lane :=
  let c := l.cnt h
  let n := cntStep 0 c.count up
  (l.setCnt h { c.addEdge date (if up then 1 else -1) with count := n }).countEvent h
    { date := date, pre := c.count, edge := n, post := n, skip := false, index := false }

/-- A transition of a hall set to a filtered state (R250 to R252). -/
def Lane.hallTo (l : Lane) (h date state : Nat) : Lane :=
  let c := l.cnt h
  if state = 0 ∨ state = 7 then
    if c.impossible || !c.has then l
    else ((l.setCnt h { c with impossible := true }).bump PFB.HALL_EVENTS_LO h).faultLevel (0x58 + h)
  else if !c.has then (l.setCnt h { c with has := true, held := state }).hallToCmu h state
  else
    let l1 := (l.setCnt h { c with impossible := false, held := state }).setLevel (0x58 + h) false
    let step := (l.hallPos h state + 6 - l.hallPos h c.held) % 6
    if state = c.held then l1
    else if step = 1 then (l1.hallCount h date true).hallToCmu h state
    else if step = 5 then (l1.hallCount h date false).hallToCmu h state
    else
      let l2 := l1.setCnt h { l1.cnt h with hist := [], seqErr := true }
      ((l2.bump PFB.HALL_EVENTS_HI h).hallToCmu h state).fault (0x5A + h)

/-- A hall set after its lines have changed: nothing while it chatters (R247). -/
def Lane.hallUpdate (l : Lane) (h date : Nat) : Lane :=
  if l.groupOn h && !l.groupChatter h then
    match l.hallState h with | some st => l.hallTo h date st | none => l
  else l

/-! ### Encoders (R254 to R258) -/

/-- The index condition of an encoder (R256): Z at its active level, and with GATE the pair (B, A) at GATE_AB. -/
def Lane.indexCond (l : Lane) (e : Nat) : Bool :=
  decide ((l.line (8 + 3 * e)).level = some (l.on PFB.ENC_CFG_Z_POL e)) &&
    (!l.on PFB.ENC_CFG_GATE e || (match (l.line (6 + 3 * e)).level, (l.line (7 + 3 * e)).level with
      | some a, some b => decide (a.toNat + 2 * b.toNat = l.rd PFB.ENC_CFG_GATE_AB e)
      | _, _ => false))

/-- The index conditions of the encoders as they stand: an event is the first sample of a condition that was not there before (R256), so what a new
configuration finds there is none. -/
def Lane.noteIndex (l : Lane) : Lane :=
  [0, 1].foldl (fun (n : Lane) e => n.setCnt (2 + e) { n.cnt (2 + e) with zGate := n.indexCond e }) l

/-- Whether an index event of encoder e is applied (R256, R257). -/
def Lane.indexApplies (l : Lane) (e : Nat) : Bool :=
  match l.rd PFB.ENC_CFG_INDEX_MODE e with
  | 1 => true
  | 2 => (l.rd PFB.ARM_INDEX).testBit e
  | _ => false

/-- The index of encoder e armed or disarmed. -/
def Lane.armIndex (l : Lane) (e : Nat) (on : Bool) : Lane :=
  let v := l.rd PFB.ARM_INDEX
  l.wr PFB.ARM_INDEX (if on then v ||| 2 ^ e else v - v / 2 ^ e % 2 * 2 ^ e)

/-- A skip error of encoder e (R255). -/
def Lane.encSkip (l : Lane) (e date : Nat) : Lane :=
  let c := l.cnt (2 + e)
  let l1 := (l.setCnt (2 + e) { c with skip := true, hist := [], spdBad := true }).countEvent (2 + e)
    { date := date, pre := c.count, edge := c.count, post := c.count, skip := true, index := false }
  let l2 := if l.rd PFB.ENC_CFG_INDEX_MODE e = 2 then l1.armIndex e true else l1
  (l2.bump PFB.ENC_EVENTS_LO e).faultLevel (0x5C + e)

/-- A count edge of encoder e, or none, with an applied index event, or none (R254, R256, R258). -/
def Lane.encCount (l : Lane) (e date : Nat) (edge : Option Bool) (index : Bool) : Lane :=
  let c := l.cnt (2 + e)
  let n := match edge with | some up => cntStep (l.rd PFB.ENC_CFG_MODULUS e) c.count up | none => c.count
  let c1 := match edge with | some up => c.addEdge date (if up then 1 else -1) | none => c
  let post := if index then l.rd PFB.ENC_INDEX_VALUE_VALUE e else n
  let l1 := l.setCnt (2 + e) { c1 with count := post, index := c.index || index, referenced := c.referenced || index
                                       skip := c.skip && !index }
  let l2 := if index then
      let l3 := (l1.wr PFB.ENC_INDEX_PREV_COUNT n e).bump PFB.ENC_EVENTS_HI e
      (if l.rd PFB.ENC_CFG_INDEX_MODE e = 2 then l3.armIndex e false else l3).setLevel (0x5C + e) false
    else l1
  if edge.isSome || index then
    l2.countEvent (2 + e) { date := date, pre := c.count, edge := n, post := post, skip := false, index := index }
  else l2

/-- The count edge that an edge of A or B makes: up or down; none before both levels are established (R245, R254). -/
def Lane.quadEdge (l : Lane) (e : Nat) (edgeA edgeB : Bool) : Option Bool :=
  match (l.line (6 + 3 * e)).level, (l.line (7 + 3 * e)).level with
  | some a, some b =>
    let inv := l.on PFB.ENC_CFG_DIR_INV e
    if edgeA then some ((a != b) != inv) else if edgeB then some ((a == b) != inv) else none
  | _, _ => none

/-- Encoder e in a sample in which filtered levels of its lines change, those of A and B by an accepted edge or by being established
(R254 to R256, R258). -/
def Lane.encUpdate (l : Lane) (e : Nat) (edgeA edgeB touched : Bool) : Lane :=
  let cond := l.indexCond e
  let event := cond && !(l.cnt (2 + e)).zGate
  let l1 := l.setCnt (2 + e) { l.cnt (2 + e) with zGate := cond }
  if !touched then l
  else if l.groupOn (2 + e) then
    let ia := 6 + 3 * e
    let date := if edgeA then l.edgeDate ia else if edgeB then l.edgeDate (ia + 1) else l.edgeDate (ia + 2)
    if edgeA && edgeB then l1.encSkip e date else l1.encCount e date (l1.quadEdge e edgeA edgeB) (event && l.indexApplies e)
  else l1

/-! ### Chatter and stuck lines (R247, R248) -/

/-- A chatter event of a line (R247). -/
def Lane.chatterEvent (l : Lane) (i : Nat) : Lane :=
  let l1 := l.setLine i { l.line i with chatter := some l.clk.now }
  if l.groupChatter (groupOf i) then l1 else l1.faultLevel (0x5E + groupOf i)

/-- A stuck line clears (R248): when its group has none left, the condition ends; the speed history restarts (R260). -/
def Lane.unstick (l : Lane) (i : Nat) : Lane :=
  if (l.line i).stuck then
    let g := groupOf i
    let l1 := l.setLine i { l.line i with stuck := false }
    let l2 := l1.setCnt g { l1.cnt g with hist := [] }
    if l2.groupStuck g then l2 else l2.setLevel (0x68 + g) false
  else l

/-- One more reference edge for a monitored line; it is stuck at EDGES (R248). -/
def Lane.refEdge (l : Lane) (g edges i : Nat) : Lane :=
  let s := l.line i
  if s.stuck then l
  else
    let l1 := l.setLine i { s with refRun := s.refRun + 1 }
    if edges = s.refRun + 1 then (l1.setLine i { l1.line i with stuck := true }).faultLevel (0x68 + g) else l1

/-- An accepted edge of reference group g counts for every group that names it, on the lines with no edge of their own in this
sample. -/
def Lane.refEdges (l : Lane) (g : Nat) (edges : List Nat) : Lane :=
  if l.posValid g && !(l.cnt g).still then
    [0, 1, 2, 3].foldl (fun n m =>
      if n.groupOn m && decide (n.cntCfg PFB.HALL_STUCK_CFG_REF PFB.ENC_STUCK_CFG_REF m = g + 1) then
        ((monitored m).filter fun i => !edges.contains i).foldl
          (fun k i => k.refEdge m (k.cntCfg PFB.HALL_STUCK_CFG_EDGES PFB.ENC_STUCK_CFG_EDGES m) i) n
      else n) l
  else l

/-! ### Probes (R262, R263) -/

/-- Whether probe p latches an edge to the given level. -/
def Lane.probeLatches (l : Lane) (p : Nat) (lv : Bool) : Bool :=
  l.groupOn (8 + p) && !l.groupChatter (8 + p) && (l.rd PFB.PRB_CFG_EDGE p).testBit (if lv then 0 else 1) &&
    (l.on PFB.PRB_CFG_CONTINUOUS p || (l.rd PFB.ARM_PROBE).testBit p)

/-- The count of a source at a date, with the marks of an event in that sample (R258). -/
def countAt (c : CntSt) (d : Nat) : Nat × Bool × Bool :=
  match c.recent.find? fun e => decide (e.date ≤ d) with
  | some e => if e.date = d then (e.edge, e.index, e.skip) else (e.post, false, false)
  | none => ((c.recent.getLast?.map CntEvt.pre).getD c.count, false, false)

/-- Whether the position of a source was valid at a date, from the recent changes of its validity and the present one (R262). -/
def validAt (c : CntSt) (valid : Bool) (d : Nat) : Bool :=
  match c.valids.find? fun e => decide (e.1 ≤ d) with
  | some e => e.2
  | none => match c.valids.getLast? with | some e => !e.2 | none => valid

/-- The validity of group g's position has become another at a date: it is kept for probes, and a probe that latched at or after the date
takes it in. -/
def Lane.validChange (l : Lane) (g date : Nat) (was : Bool) : Lane :=
  let c := l.cnt g
  let v := l.posValid g
  if v = was then l
  else
    [0, 1].foldl (fun (n : Lane) p =>
      match (Sparse.get {} n.pfb.probes p).date with
      | some d => if probeGroup (n.rd PFB.PRB_CFG_SRC p) = g ∧ date ≤ d then n.flag PFB.PRB_STATUS_VALID v p else n
      | none => n) (l.setCnt g { c with valids := (date, v) :: c.valids.filter fun e => decide (l.sampleNo ≤ e.1 + 64) })

/-- What a change from lane l made of the validity of the positions, each at its date. -/
def Lane.keepValid (l n : Lane) (date : Nat → Nat) : Lane :=
  [0, 1, 2, 3].foldl (fun (m : Lane) g => m.validChange g (date g) (l.posValid g)) n

/-- A probe latch (R262). -/
def Lane.probeLatch (l : Lane) (p : Nat) : Lane :=
  let d := l.edgeDate (16 + p)
  let g := probeGroup (l.rd PFB.PRB_CFG_SRC p)
  let (n, index, skip) := countAt (l.cnt g) d
  let ok := validAt (l.cnt g) (l.posValid g) d
  let prev := decide (8 * d < l.clk.base)
  let cyc := if prev then l.ccn - 1 else l.ccn
  let at_ := if prev then d - l.clk.last / 8 else d - l.clk.base / 8
  let again := l.on PFB.PRB_STATUS_NEW p
  let l1 := ((l.wr PFB.PRB_POS_VALUE n p).wr PFB.PRB_CCN_VALUE cyc.toNat p).wr PFB.PRB_TIME_SAMPLE at_ p
  let l2 := (((l1.flag PFB.PRB_STATUS_INDEX index p).flag PFB.PRB_STATUS_SKIP skip p).flag PFB.PRB_STATUS_VALID ok p).flag
    PFB.PRB_STATUS_NEW true p |>.wrapInc PFB.PRB_STATUS_EVENTS p
  let v := l2.rd PFB.ARM_PROBE
  let l3 := l2.wr PFB.ARM_PROBE (v - v / 2 ^ p % 2 * 2 ^ p)
  let l4 := { l3 with pfb := { l3.pfb with probes := Sparse.set {} l3.pfb.probes p { date := some d } } }
  if again then (l4.flag PFB.PRB_STATUS_OVERRUN true p).fault (0x72 + p) else l4

/-! ### Accepted edges (R245) -/

/-- One line's filtered level: established, or an accepted edge with its chatter check. -/
def Lane.lineLevel (l : Lane) (i : Nat) (lv : Bool) : Lane :=
  let s := l.line i
  match s.level with
  | none => l.setLine i { s with level := some lv }
  | some _ =>
    let d := l.edgeDate i
    let l1 := (l.unstick i).setLine i { (l.unstick i).line i with level := some lv, lastEdge := some d, refRun := 0 }
    match s.lastEdge with
    | some d0 => if d < d0 + l.rd PFB.LINE_CFG_EDGE_MIN i then l1.chatterEvent i else l1
    | none => l1

/-- The filtered levels that change in this sample: the lines named, and those of them that have an accepted edge. -/
def Lane.edges (l : Lane) (lines levels : Nat) : List Nat × List Nat :=
  let changed := (List.range 18).filter fun i => lines.testBit i && decide ((l.line i).level ≠ some (levels.testBit i))
  (changed, changed.filter fun i => (l.line i).level.isSome)

/-- A sample in which filtered levels change (R245 to R262). -/
def Lane.lineSample (l : Lane) (lines levels : Nat) : Lane :=
  let (changed, edges) := l.edges lines levels
  let date := fun (g : Nat) => ((groupLines g).filter fun i => changed.contains i).foldl (fun d i => min d (l.edgeDate i)) l.sampleNo
  let l1 := changed.foldl (fun n i => n.lineLevel i (levels.testBit i)) l
  let l2 := [0, 1].foldl (fun n h =>
    match ((groupLines h).filter fun i => changed.contains i).getLast? with
    | some i => n.hallUpdate h (n.edgeDate i)
    | none => n) l1
  let l3 := [0, 1].foldl (fun n e => n.encUpdate e (edges.contains (6 + 3 * e)) (edges.contains (7 + 3 * e))
    ((groupLines (2 + e)).any fun i => changed.contains i)) l2
  let l4 := [0, 1, 2, 3].foldl (fun n g =>
    ((monitored g).filter fun i => edges.contains i).foldl (fun k _ => k.refEdges g edges) n) l3
  [0, 1].foldl (fun n p => if edges.contains (16 + p) && n.probeLatches p (levels.testBit (16 + p)) then n.probeLatch p else n) (l.keepValid l4 date)

/-- The levels of the lines after the inversion that LINE_CFG.INVERT asks for before filtering. -/
def Lane.inverted (l : Lane) (levels : Nat) : Nat :=
  (List.range 18).foldl (fun n i => if l.on PFB.LINE_CFG_INVERT i then n ^^^ 2 ^ i else n) levels

/-- LINE_EDGE_ACCEPTED: the lines whose filtered level changes in this sample, and the levels that their balls take. -/
def execLineEdgeAccepted (l : LaneId) (t lines levels : Nat) (s : State) : Host.Outcome State Fault Refusal :=
  let n := (s.lane l).atTick t
  .next (s.setLane l (n.gated 6 (n.lineSample lines (n.inverted levels))))

/-- LINE_GLITCH_REJECTED (R245). -/
def execLineGlitchRejected (l : LaneId) (t line : Nat) (s : State) : Host.Outcome State Fault Refusal :=
  let n := (s.lane l).atTick t
  .next (s.setLane l (n.gated 6
    (if decide (line < 18) && (n.line line).level.isSome then
    n.setLine line { n.line line with glitches := (n.line line).glitches + 1 } else n)))

/-- The end of a glitch window for one line (R247). -/
def Lane.glitchEnd (l : Lane) (i : Nat) : Lane :=
  let s := l.line i
  let lim := l.rd PFB.LINE_CFG_GLITCH_MAX i
  let l1 := l.setLine i { s with glitches := 0 }
  if lim ≠ 0 ∧ lim < s.glitches then l1.chatterEvent i else l1

/-- Whether a glitch window ends: windows of 75,000 samples run from DRV-domain reset (R247). -/
def Lane.windowEnds (l : Lane) : Bool :=
  let n := l.sampleNo - l.pfb.resetAt / 8
  decide (n % 75000 = 0) && decide (n ≠ 0)

/-- GLITCH_WINDOW_END. -/
def execGlitchWindowEnd (l : LaneId) (t : Nat) (s : State) : Host.Outcome State Fault Refusal :=
  let n := (s.lane l).atTick t
  .next (s.setLane l (n.gated 6 (if n.windowEnds then n.keepValid ((List.range 18).foldl Lane.glitchEnd n) fun _ => n.sampleNo else n)))

/-- The chatter of a line ends (R247): when no line of its group chatters any more, the group is evaluated again. -/
def Lane.chatterEnd (l : Lane) (i : Nat) : Lane :=
  let g := groupOf i
  let l1 := l.setLine i { l.line i with chatter := none, quietAt := some l.clk.now }
  if l1.groupChatter g then l1
  else
    let l2 := l1.setLevel (0x5E + g) false
    let l3 := if g < 4 then l2.setCnt g { l2.cnt g with hist := [] } else l2
    if g < 2 then l3.hallUpdate g l3.sampleNo else l3

/-- CHATTER_CLEAR of a line: CLEAR_MS have passed since its last chatter event. -/
def execChatterClear (l : LaneId) (t line : Nat) (s : State) : Host.Outcome State Fault Refusal :=
  let n := (s.lane l).atTick t
  .next (s.setLane l (n.gated 6
    (match (n.line line).chatter with
    | some c => if c + 600000 * n.rd PFB.CHATTER_CFG_CLEAR_MS ≤ n.clk.now then n.keepValid (n.chatterEnd line) fun _ => n.sampleNo else n
    | none => n)))

/-! ### SSI (R264 to R266) -/

/-- Gray code to binary: every bit is the exclusive OR of the code's bits from it upward. -/
def grayToBin (n : Nat) : Nat := (List.range 32).foldl (fun acc i => acc ^^^ n / 2 ^ i) 0

/-- Whether a number has an odd number of ones among its low 64 bits. -/
def oddOnes (n : Nat) : Bool := (List.range 64).foldl (fun b i => b != n.testBit i) false

/-- The number of bits of a transaction of port p (R265). -/
def Lane.ssiBits (l : Lane) (p : Nat) : Nat :=
  l.rd PFB.SSI_CFG_LEN p + l.rd PFB.SSI_CFG_ERR_BITS p + (decide (l.rd PFB.SSI_CFG_PARITY p ≠ 0)).toNat

/-- Whether tick x of a cycle is the start of port p's transaction: START ticks after the cycle start, or before the next one when it is
negative; and no frame is made in the first cycle after DRV-domain reset (R265, R266). -/
def Lane.ssiStarts (l : Lane) (p x : Nat) : Bool :=
  let st := l.rdS PFB.SSI_TIMING_START p
  if st < 0 then decide ((x : Int) = l.clk.len + st) && decide (l.pfb.fromCycle < l.clk.cycles)
  else decide ((x : Int) = st) && decide (l.pfb.fromCycle + 1 < l.clk.cycles)

/-- SSI_TRANSACTION_START of a port: the data line must be high. -/
def execSsiTransactionStart (l : LaneId) (t port : Nat) (high : Bool) (s : State) : Host.Outcome State Fault Refusal :=
  let n := (s.lane l).atTick t
  .next (s.setLane l (n.gated 6
    (if decide (port < 2) && n.groupOn (4 + port) && n.ssiStarts port t then
    { n with pfb := { n.pfb with ssi := Sparse.set {} n.pfb.ssi port { running := true, idleBad := !high, startAt := n.clk.now } } } else n)))

/-- The tick at which bit k of port p's running transaction is sampled, k from 1: DELAY after the rising edge of clock period k + 1; each
period of 2 × DIV ticks begins with a falling edge (R264, R265). -/
def Lane.ssiSampleAt (l : Lane) (p k : Nat) : Nat :=
  (Sparse.get {} l.pfb.ssi p).startAt + 2 * l.rd PFB.SSI_CFG_DIV p * k + l.rd PFB.SSI_CFG_DIV p + l.rd PFB.SSI_TIMING_DELAY p

/-- The level of PFB_SSIs_CLK (R265). -/
def Lane.ssiClk (l : Lane) (p : Nat) : Bool :=
  let s := Sparse.get {} l.pfb.ssi p
  let d := l.rd PFB.SSI_CFG_DIV p
  !s.running || decide (d ≤ (l.clk.now - s.startAt) % (2 * d)) || decide (s.startAt + 2 * d * (l.ssiBits p + 1) ≤ l.clk.now)

/-- Whether line i has not chattered since tick x. -/
def Lane.calmSince (l : Lane) (i x : Nat) : Bool :=
  (l.line i).chatter.isNone && (match (l.line i).quietAt with | some q => decide (q ≤ x) | none => true)

/-- An SSI frame of the port's N bits ends (R266), the first received in the highest place. -/
def Lane.ssiFrame (l : Lane) (p raw : Nat) : Lane :=
  let par := l.rd PFB.SSI_CFG_PARITY p
  let nErr := l.rd PFB.SSI_CFG_ERR_BITS p
  let len := l.rd PFB.SSI_CFG_LEN p
  let body := raw / (if par = 0 then 1 else 2) % 2 ^ (len + nErr)
  let data := body / 2 ^ nErr
  let errs := body % 2 ^ nErr
  let errBad := decide (0 < nErr) && (if l.on PFB.SSI_CFG_ERR_POL p then decide (errs ≠ 0) else decide (errs ≠ 2 ^ nErr - 1))
  let parBad := match par with
    | 1 => oddOnes body != raw.testBit 0
    | 2 => oddOnes body == raw.testBit 0
    | _ => false
  let idle := (Sparse.get {} l.pfb.ssi p).idleBad
  let ok := !idle && !parBad && !errBad && l.calmSince (12 + p) (Sparse.get {} l.pfb.ssi p).startAt
  let l1 := { l with pfb := { l.pfb with ssi := Sparse.set {} l.pfb.ssi p {} } }
  let l2 := ((((l1.flag PFB.SSI_STATUS_IDLE_FAULT idle p).flag PFB.SSI_STATUS_ERR_BIT errBad p).flag PFB.SSI_STATUS_PARITY_ERR
    parBad p).flag PFB.SSI_STATUS_VALID ok p).flag PFB.SSI_STATUS_NEW ok p
  let l3 := if idle then l2.bump PFB.SSI_EVENTS_IDLE p else l2
  let l4 := if parBad then l3.bump PFB.SSI_EVENTS_PARITY p else l3
  let l5 := if errBad then l4.bump PFB.SSI_EVENTS_ERRBIT p else l4
  if ok then (l5.wr PFB.SSI_RAW_RAW (if l.on PFB.SSI_CFG_GRAY p then grayToBin data else data) p).setLevel (0x6C + p) false
  else l5.faultLevel (0x6C + p)

/-- SSI_FRAME_COMPLETE of a port whose transaction runs, once its last bit has been sampled. -/
def execSsiFrameComplete (l : LaneId) (t port raw : Nat) (s : State) : Host.Outcome State Fault Refusal :=
  let n := (s.lane l).atTick t
  .next (s.setLane l (n.gated 6
    (if decide (port < 2) && (Sparse.get {} n.pfb.ssi port).running &&
    decide (n.ssiSampleAt port (n.ssiBits port) ≤ n.clk.now) then n.ssiFrame port raw else n)))

/-! ### SENT (R267 to R270) -/

/-- The CRC-4 step of SAE J2716: polynomial x⁴ + x³ + x² + 1 over one nibble. -/
def crc4Step (c : Nat) : Nat := [0, 13, 7, 10, 14, 3, 9, 4, 1, 12, 6, 11, 15, 2, 8, 5].getD c 0

/-- The CRC-4 of SAE J2716 over nibbles: seed 5; the recommended form appends a zero nibble. -/
def crc4 (legacy : Bool) (nibbles : List Nat) : Nat :=
  let c := nibbles.foldl (fun c n => crc4Step c ^^^ n) 5
  if legacy then c else crc4Step c

/-- The CRC-6 of SAE J2716: polynomial x⁶ + x⁴ + x³ + 1, seed 21, over bits with six zeros appended. -/
def crc6 (bits : List Bool) : Nat :=
  (bits ++ [false, false, false, false, false, false]).foldl
    (fun c b => (if c < 32 then 2 * c + b.toNat else (2 * c + b.toNat - 64) ^^^ 0x19)) 21

/-- A list of bits, the highest first, as a number. -/
def bitsNum (bs : List Bool) : Nat := bs.foldl (fun n b => 2 * n + b.toNat) 0

/-- A serial message of the frames received, oldest first, each with status bits 3 and 2 (R270): identifier, whether it is
enhanced, data, and whether its CRC passes. -/
def serialMessage (fs : List (Bool × Bool)) : Option (Nat × Bool × Nat × Bool) :=
  let b3 := fs.map Prod.fst
  let b2 := fs.map Prod.snd
  if fs.length = 18 ∧ b3.take 7 = [true, true, true, true, true, true, false] ∧ b3.getD 12 true = false ∧ b3.getD 17 true = false then
    let ok := decide (crc6 ((List.range 12).flatMap fun i => [b2.getD (6 + i) false, b3.getD (6 + i) false]) = bitsNum (b2.take 6))
    let d12 := bitsNum (b2.drop 6)
    let hi := bitsNum ((b3.drop 8).take 4)
    let lo := bitsNum ((b3.drop 13).take 4)
    if b3.getD 7 false then some (hi, true, 4096 * lo + d12, ok) else some (16 * hi + lo, true, d12, ok)
  else
    let f16 := fs.drop (fs.length - 16)
    let s2 := f16.map Prod.snd
    if f16.length = 16 ∧ f16.map Prod.fst = true :: List.replicate 15 false then
      let id := bitsNum (s2.take 4)
      let d := bitsNum ((s2.drop 4).take 8)
      some (id, false, d, decide (crc4 false [id, d / 16, d % 16] = bitsNum (s2.drop 12)))
    else none

/-- What the lane keeps of a SENT receiver. -/
def Lane.sent (l : Lane) (p : Nat) : SentSt := Sparse.get {} l.pfb.sent p
/-- The lane with a SENT receiver replaced. -/
def Lane.setSent (l : Lane) (p : Nat) (s : SentSt) : Lane := { l with pfb := { l.pfb with sent := Sparse.set {} l.pfb.sent p s } }

/-- A frame of receiver p is discarded (R268). -/
def Lane.sentDiscard (l : Lane) (p : Nat) (counter : Fld) : Lane :=
  (((l.setSent p { l.sent p with serial := [] }).bump counter p).flag PFB.SENT_STATUS_FRAME_ERR true p).fault (0x6E + p)

/-- The status bits of a valid frame join the serial message (R270). -/
def Lane.sentSlow (l : Lane) (p status : Nat) : Lane :=
  let s := l.sent p
  let fs := (s.serial ++ [(status.testBit 3, status.testBit 2)])
  let fs := fs.drop (fs.length - 18)
  match serialMessage fs with
  | some (id, enh, data, ok) =>
    let l1 := l.setSent p { s with serial := [] }
    if ok then
      (((l1.wr PFB.SENT_SLOW_ID id p (id % 16)).flag PFB.SENT_SLOW_VALID true p (id % 16)).flag PFB.SENT_SLOW_ENHANCED enh p
        (id % 16)).wr PFB.SENT_SLOW_DATA data p (id % 16)
    else l1.bump PFB.SENT_EVENTS_SLOW_CRC p
  | none => l.setSent p { s with serial := fs }

/-- A SENT frame: its sync pulse and its intervals, status nibble first, CRC nibble last and with PAUSE a pause pulse after it, in samples
(R267 to R270). A frame during which the line chattered is discarded (R247), which FRAME_ERR shows (R275). -/
def Lane.sentFrame (l : Lane) (p sync : Nat) (ivs : List Nat) : Lane :=
  let s := l.sent p
  let nom := 56 * l.rd PFB.SENT_CFG_TICK p
  let near := match s.sync with
    | some q => decide (64 * sync ≤ 65 * q) && decide (63 * q ≤ 64 * sync)
    | none => true
  let vals := ivs.map fun iv => min ((roundDiv (56 * iv) sync).toNat - 12) 15
  let n := l.rd PFB.SENT_CFG_NIBBLES p
  let data := (vals.drop 1).take n
  let pause := l.rd PFB.SENT_CFG_PAUSE p
  if !l.calmSince (14 + p) (l.clk.now - 8 * (sync + ivs.sum)) then (l.setSent p { s with serial := [] }).flag PFB.SENT_STATUS_FRAME_ERR true p
  else if !(decide (4 * nom ≤ 5 * sync) && decide (5 * sync ≤ 6 * nom) && near) then l.sentDiscard p PFB.SENT_EVENTS_SYNC
  else
    let l1 := l.setSent p { s with sync := some sync }
    if ivs.length ≠ n + 2 + pause ∨ (ivs.take (n + 2)).any (fun iv => decide (112 * iv < 23 * sync) || decide (55 * sync < 112 * iv)) then
      l1.sentDiscard p PFB.SENT_EVENTS_NIBBLE
    else if crc4 (l.on PFB.SENT_CFG_CRC_LEGACY p) data ≠ vals.getD (n + 1) 0 then l1.sentDiscard p PFB.SENT_EVENTS_CRC
    else
      let word := data.foldl (fun a d => 16 * a + d) 0 * 16 ^ (6 - n)
      let l2 := (l1.wr PFB.SENT_FAST_STATUS (vals.getD 0 0) p).wr PFB.SENT_FAST_DATA word p
      let l3 := (((l2.wr PFB.SENT_STATUS_STATUS (vals.getD 0 0) p).flag PFB.SENT_STATUS_NEW true p).flag PFB.SENT_STATUS_VALID true
        p).wr PFB.SENT_STATUS_AGE 0 p
      ((l3.setSent p { l3.sent p with fresh := true, timedOut := false }).setLevel (0x70 + p) false).sentSlow p (vals.getD 0 0)

/-- SENT_FRAME_RECEIVED of a receiver. -/
def execSentFrameReceived (l : LaneId) (t recv sync : Nat) (ivs : List Nat) (s : State) : Host.Outcome State Fault Refusal :=
  let n := (s.lane l).atTick t
  .next (s.setLane l (n.gated 6 (if decide (recv < 2) && n.groupOn (6 + recv) then n.sentFrame recv sync ivs else n)))

/-- The fast channels of receiver p (R269): FC1 and FC2. -/
def Lane.sentChannels (l : Lane) (p : Nat) : Nat × Nat :=
  let n := l.rd PFB.SENT_CFG_NIBBLES p
  let k := l.rd PFB.SENT_CFG_FC1_BITS p
  let word := l.rd PFB.SENT_FAST_DATA p / 16 ^ (6 - n)
  let rest := word % 2 ^ (4 * n - k)
  let nibs := (List.range ((4 * n - k + 3) / 4)).map fun i => rest / 16 ^ i % 16
  (word / 2 ^ (4 * n - k), if l.on PFB.SENT_CFG_FC2_REV p then nibs.foldl (fun a d => 16 * a + d) 0 else rest)

/-! ### The vector latch (R271) -/

/-- A raw number scaled by a 32-bit GAIN in units of 2^-32 (R271). -/
def gained (x gain : Int) : Val := toS18 (roundDiv (x * gain) 65536)

/-- The value of a position source of group g. -/
def Lane.cntPos (l : Lane) (g n : Nat) : Val :=
  gained (cntInt n) (if g < 2 then l.rdS PFB.HALL_GAIN_GAIN g else l.rdS PFB.ENC_GAIN_GAIN (g - 2))

/-- The value of an SSI port (R271). -/
def Lane.ssiPos (l : Lane) (p : Nat) : Val :=
  let d : Int := (l.rd PFB.SSI_RAW_RAW p : Int) - l.rd PFB.SSI_ORIGIN_VALUE p
  let m : Int := 2 ^ l.rd PFB.SSI_CFG_LEN p
  gained (if l.on PFB.SSI_CFG_WRAP p then (d + m / 2).emod m - m / 2 else d) (l.rdS PFB.SSI_GAIN_VALUE p)

/-- HALL_STATUS of set h. -/
def Lane.hallStatus (l : Lane) (h : Nat) : Nat :=
  let c := l.cnt h
  (l.hallState h).getD 0 + 8 * l.hallPos h c.held + 64 * (l.hallValid h && !l.fenced (.port (.hall h))).toNat
    + 128 * (match l.hallState h with | some st => decide (st = 0 ∨ st = 7) | none => false).toNat + 256 * c.seqErr.toNat
    + 512 * (decide (c.sense < 0)).toNat + 1024 * c.still.toNat + 2048 * (l.groupChatter h).toNat + 4096 * (l.groupStuck h).toNat

/-- ENC_STATUS of encoder e. -/
def Lane.encStatus (l : Lane) (e : Nat) : Nat :=
  let c := l.cnt (2 + e)
  let ok := !l.fenced (.port (.enc e))
  let lv := fun i => ((l.line (6 + 3 * e + i)).level.getD false).toNat
  (l.encValid e && ok).toNat + 2 * (l.spdValid (2 + e) && ok).toNat + 4 * c.referenced.toNat + 8 * ((l.rd PFB.ARM_INDEX).testBit e).toNat
    + 16 * c.skip.toNat + 32 * c.index.toNat + 64 * (decide (c.sense < 0)).toNat + 128 * c.still.toNat
    + 256 * (l.groupChatter (2 + e)).toNat + 512 * (l.groupStuck (2 + e)).toNat + 1024 * (lv 0 + 2 * lv 1 + 4 * lv 2)

/-- SSI_STATUS of port p. -/
def Lane.ssiStatus (l : Lane) (p : Nat) : Nat :=
  let w := (l.word (PFB.SSI_STATUS_VALID.at_ p 0)).toNat
  (if l.fenced (.port (.ssi p)) || l.groupChatter (4 + p) then w - w % 2 else w) + 32 * (l.groupChatter (4 + p)).toNat

/-- SENT_STATUS of receiver p. -/
def Lane.sentStatus (l : Lane) (p : Nat) : Nat :=
  let w := (l.word (PFB.SENT_STATUS_VALID.at_ p 0)).toNat
  (if l.fenced (.port (.sent p)) || l.groupChatter (6 + p) then w - w % 2 else w) + 16384 * (l.groupChatter (6 + p)).toNat

/-- The status word of probe p as the input vector takes it. -/
def Lane.prbStatus (l : Lane) (p : Nat) : Nat :=
  let w := (l.word (PFB.PRB_STATUS_NEW.at_ p 0)).toNat
  if l.fenced (.port (.probe p)) then w - w / 2 % 2 * 2 else w

/-- Source (pos, inst) takes a value. -/
def Lane.pfbTake (l : Lane) (pos inst : Nat) (v : Val) : Lane :=
  { l with pfb := { l.pfb with src := Sparse.set 0 l.pfb.src (16 * pos + inst) v } }

/-- A source that is invalid at the latch keeps its last valid value (R271). -/
def Lane.pfbLatch (l : Lane) (pos inst : Nat) (ok : Bool) (v : Val) : Lane := if ok then l.pfbTake pos inst v else l

/-- A hall set or encoder at the vector latch: speed and position. A hall set that has no state yet takes a valid one (R253). -/
def Lane.latchCnt (l : Lane) (g : Nat) : Lane :=
  let (l1, v) := (if g < 2 ∧ ¬ (l.cnt g).has then l.hallUpdate g l.sampleNo else l).evalSpeed g
  let pos := if g < 2 then 0 else 1
  let inst := g % 2
  let l2 := l1.wr (if g < 2 then PFB.HALL_SPEED_SPEED else PFB.ENC_SPEED_SPEED) v.toNat inst
  (l2.pfbLatch pos inst (l2.posValid g) (l2.cntPos g (l2.cnt g).count)).pfbLatch (5 + pos) inst (l2.spdValid g) v

/-- A SENT receiver at the vector latch (R269): its age, the time-out, and its channels. -/
def Lane.latchSent (l : Lane) (p : Nat) : Lane :=
  if l.groupOn (6 + p) then
    let s := l.sent p
    let age := if s.fresh then 0 else satN 8 (l.rd PFB.SENT_STATUS_AGE p + 1)
    let l1 := (l.setSent p { s with fresh := false }).wr PFB.SENT_STATUS_AGE age p
    let l2 := if l.rd PFB.SENT_CFG_AGE_LIMIT p < age then
        let l3 := (l1.flag PFB.SENT_STATUS_VALID false p).setSent p { l1.sent p with timedOut := true }
        if s.timedOut then l3 else l3.faultLevel (0x70 + p)
      else l1
    let (f1, f2) := l2.sentChannels p
    let ok := l2.on PFB.SENT_STATUS_VALID p && !l2.groupChatter (6 + p)
    (l2.pfbLatch 3 p ok (gained ((f1 : Int) - l.rd PFB.SENT_ORIGIN1_VALUE p) (l.rdS PFB.SENT_GAIN1_VALUE p))).pfbLatch 4 p ok
      (gained ((f2 : Int) - l.rd PFB.SENT_ORIGIN2_VALUE p) (l.rdS PFB.SENT_GAIN2_VALUE p))
  else l

/-- A probe at the vector latch: its value. -/
def Lane.latchProbe (l : Lane) (p : Nat) : Lane :=
  l.pfbLatch 7 p (l.on PFB.PRB_STATUS_VALID p) (l.cntPos (probeGroup (l.rd PFB.PRB_CFG_SRC p)) (l.rd PFB.PRB_POS_VALUE p))

/-- The status words at the vector latch. -/
def Lane.latchStatus (l : Lane) (i : Nat) : Lane :=
  ((((l.pfbTake 8 i (BitVec.ofNat 18 (l.hallStatus i))).pfbTake 9 i (BitVec.ofNat 18 (l.encStatus i))).pfbTake 10 i
    (BitVec.ofNat 18 (l.ssiStatus i))).pfbTake 11 i (BitVec.ofNat 18 (l.sentStatus i))).pfbTake 12 i
    (BitVec.ofNat 18 (l.prbStatus i))

/-- The marks that say "since the previous latch" end with it. -/
def Lane.clearMarksAfterLatch (l : Lane) (i : Nat) : Lane :=
  let l1 := l.setCnt i { l.cnt i with seqErr := false }
  let l2 := l1.setCnt (2 + i) { l1.cnt (2 + i) with index := false }
  (((l2.flag PFB.SENT_STATUS_NEW false i).flag PFB.SENT_STATUS_FRAME_ERR false i).flag PFB.PRB_STATUS_NEW false i).flag
    PFB.PRB_STATUS_OVERRUN false i

/-- The latch instant of the present cycle in ticks (R271). -/
def Lane.latchTick (l : Lane) : Nat :=
  match l.rd PFB.LATCH_CFG_SRC with
  | 1 => (l.bridge 0).ts
  | 2 => (l.bridge 1).ts
  | _ => l.rd PFB.LATCH_CFG_T

/-- The vector latch: speeds, positions and status words (R271). -/
def Lane.vectorLatch (l : Lane) : Lane :=
  let l1 := l.keepValid ([0, 1, 2, 3].foldl Lane.latchCnt l) fun _ => l.sampleNo
  let l2 := [0, 1].foldl (fun n p => (n.pfbLatch 2 p (n.on PFB.SSI_STATUS_VALID p && !n.groupChatter (4 + p)) (n.ssiPos p)).latchSent p) l1
  let l3 := [0, 1].foldl (fun n p => (n.latchProbe p).latchStatus p) l2
  [0, 1].foldl Lane.clearMarksAfterLatch l3

/-- PFB_VECTOR_LATCH, at the latch instant. -/
def execPfbVectorLatch (l : LaneId) (s : State) : Host.Outcome State Fault Refusal :=
  .next (s.setLane l (((s.lane l).atTick (s.lane l).latchTick).gated 6 (((s.lane l).atTick (s.lane l).latchTick).vectorLatch)))

end Sys2Proof.Machine
end

