-- ==== Sys2Proof/Machine/DriveDie.lean ====
section
/-!
DEFINITION. The drive die (chapter 08): interlocks and trips, retries, the VGD lockout, adaptive drivers, and the Snuff path.
-/
namespace Sys2Proof.Machine

open Sys2Proof

/-! ### Interlocks and trips (R283 to R287) -/

/-- Both switches of a leg are found commanded on (R283). -/
def Lane.shootThrough (l : Lane) (leg : Nat) (byDie : Bool) : Lane :=
  let u := leg / 3
  let l1 := (l.note u).bump GDC.EVENTS_SHOOT u
  if l.unitOff u then l1
  else
    let l2 := (l1.tripInfo (if byDie then 2 else 1) (2 * leg)).driveFault (0x78 + u)
    if 3 ≤ (l2.tries u).length then l2.retryLimit u
    else ({ l2 with drive := { l2.drive with legsOff := l2.drive.legsOff ||| 2 ^ leg } } : Lane).setProt u .legOff

/-- SHOOT_THROUGH_COMMAND on a leg (0 to 2 ST, 3 to 5 BK), found by the lane die's or the drive die's interlock. -/
def execShootThroughCommand (l : LaneId) (t leg : Nat) (byDie : Bool) (s : State) : Host.Outcome State Fault Refusal :=
  let n := (s.lane l).atTick t
  .next (s.setLane l (n.gated 6 (if leg < 6 then n.shootThrough leg byDie else n)))

/-- Whether a trip of switch sw makes a two-leg short (R286): a trip of another leg lies at most 2 µs (1,200 ticks) back. -/
def Lane.secondLeg (l : Lane) (sw : Nat) : Bool :=
  decide (sw < 12) && match l.drive.lastTrip with
    | some (leg, at_) => decide (leg ≠ sw / 2) && decide (l.clk.now ≤ at_ + 1200)
    | none => false

/-- Whether a comparator watches switch sw (R284): it is commanded on, or the trip that turned it off lies at most 80 ns (48 ticks) back,
which is the time a comparator takes. -/
def Lane.watched (l : Lane) (sw : Nat) : Bool :=
  l.gate l.clk.now sw || (l.unitOff (switchUnit sw) && (l.switch sw).onFrom.isSome && decide (l.clk.now ≤ l.changedAt (switchUnit sw) + 48))

/-- The tick of the turn-on command of a watched switch. -/
def Lane.watchedSince (l : Lane) (sw : Nat) : Nat :=
  if l.gate l.clk.now sw then l.onSince l.clk.now sw else (l.switch sw).onFrom.getD l.clk.now

/-- The desaturation threshold of the unit of a switch in millivolts, and its blanking time in ticks (R284). -/
def Lane.desatMv (l : Lane) (sw : Nat) : Nat := 200 + 100 * (if sw < 12 then l.rd GDC.BR_CFG_DS_THR (sw / 6) else l.rd GDC.CH_CFG_DS_THR)
def Lane.blankTicks (l : Lane) (sw : Nat) : Nat := 150 * ((if sw < 12 then l.rd GDC.BR_CFG_BLANK (sw / 6) else l.rd GDC.CH_CFG_BLANK) + 1)

/-- Whether a comparator of the given threshold and delay trips switch sw at a drain-source voltage of mv millivolts (R284). -/
def Lane.compTrips (l : Lane) (sw mv thr delay : Nat) : Bool :=
  decide (sw < 13) && l.watched sw && decide (thr < mv) && decide (l.watchedSince sw + delay ≤ l.clk.now)

/-- A two-leg short (R286): both bridges latch off until power-on reset. -/
def Lane.twoLegShort (l : Lane) (kind sw : Nat) : Lane :=
  (((((l.note 0).note 1).setProt 0 .twoLeg).setProt 1 .twoLeg).tripInfo kind sw true).driveFault 0x80

/-- A trip of a switch by a comparator: 3 desaturation, 4 hard short (R285 to R287). A second leg within 2 µs makes a two-leg short even
where the first trip met the retry limit. -/
def Lane.trip (l : Lane) (kind sw : Nat) : Lane :=
  let u := switchUnit sw
  let two := l.secondLeg sw
  let l1 := (if l.unitOff u then l else l.note u).bump (if kind = 3 then GDC.EVENTS_DESAT else GDC.EVENTS_HARD) u
  let l2 := if sw < 12 then { l1 with drive := { l1.drive with lastTrip := some (sw / 2, l.clk.now) } } else l1
  let show_ := fun (n : Lane) => (n.tripInfo kind sw).driveFault ((if kind = 3 then 0x7A else 0x7D) + u)
  if two then (if l.prot u = .twoLeg then l2 else (show_ l2).twoLegShort kind sw)
  else if l.unitOff u then l2
  else (show_ l2).singleTrip u

/-- DESATURATION_TRIP of a switch, from BLANK after its turn-on command. -/
def execDesaturationTrip (l : LaneId) (t : Nat) (x : Sensed) (s : State) : Host.Outcome State Fault Refusal :=
  let n := (s.lane l).atTick t
  .next (s.setLane l (if n.compTrips x.sw x.mv (n.desatMv x.sw) (n.blankTicks x.sw) then n.trip 3 x.sw else n))

/-- HARD_SHORT_TRIP of a switch: above 4.5 V from 100 ns (60 ticks) after the turn-on command. -/
def execHardShortTrip (l : LaneId) (t : Nat) (x : Sensed) (s : State) : Host.Outcome State Fault Refusal :=
  let n := (s.lane l).atTick t
  .next (s.setLane l (if n.compTrips x.sw x.mv 4500 60 then n.trip 4 x.sw else n))

/-- Whether WAIT has run since tick t0 by the drive die's oscillator, which is within 2 % (R280, R287). -/
def Lane.waitOver (l : Lane) (t0 : Nat) : Bool := decide (100 * (l.rd GDC.RETRY_CFG_WAIT * 600000) ≤ 102 * (l.clk.now - t0))

/-- RETRY_WAIT_EXPIRY of a unit (R287), timed by the drive die's own oscillator: a bridge resumes at its next period boundary, the
chopper at the next fast conversion. -/
def execRetryWaitExpiry (l : LaneId) (t unit : Nat) (s : State) : Host.Outcome State Fault Refusal :=
  let n := (s.lane l).atTick t
  .next (s.setLane l (n.gated 6
    (if n.prot unit = .waiting ∧ n.waitOver (Sparse.get 0 n.drive.waitAt unit) then
    { n with drive := { n.drive with resume := Sparse.set false n.drive.resume unit true } } else n)))

/-! ### VGD (R290) -/

/-- VGD falls below 8.0 V (R290): a lockout once the supply has risen; the fourth within 10 s of three clearings latches. Before
LINK_UP the lane die takes no action. A lockout that begins under a shutdown notice is not reported (R471). -/
def Lane.vgdFall (l : Lane) : Lane :=
  if !l.drive.vgdRisen then l
  else
    let l0 := if l.drive.uvlo then l else l.noteAll
    let l1 := { l0 with drive := { l0.drive with uvlo := true, uvAt := l.clk.now
                                                 uvLatch := l.drive.uvLatch || (!l.drive.uvlo && decide (3 ≤ (l.tries 3).length)) } }
    if !l.drive.uvlo && l.gdc.linkUp && !l.drive.notice then ((l1.tripInfo 5 0).setLevel 0x84 true).driveFault 0x84 else l1

/-- VGD_UNDERVOLTAGE. -/
def execVgdUndervoltage (l : LaneId) (t : Nat) (s : State) : Host.Outcome State Fault Refusal :=
  .next (s.setLane l (((s.lane l).atTick t).vgdFall))

/-- VGD_LOCKOUT_CLEAR (R290): VGD has stayed above 8.6 V for WAIT; the lockout clears as a try of the lane-wide counter, unless it has
latched. -/
def execVgdLockoutClear (l : LaneId) (t : Nat) (s : State) : Host.Outcome State Fault Refusal :=
  let n := (s.lane l).atTick t
  .next (s.setLane l (if n.drive.uvlo && !n.drive.uvLatch && n.waitOver n.drive.uvAt then
    let n1 := n.noteAll
    (({ n1 with drive := { n1.drive with uvlo := false } } : Lane).addTry 3).setLevel 0x84 false else n))

/-- VGD_FIRST_RISE (R290): the gate outputs are released. -/
def execVgdFirstRise (l : LaneId) (t : Nat) (s : State) : Host.Outcome State Fault Refusal :=
  let n := ((s.lane l).atTick t).noteAll
  .next (s.setLane l { n with drive := { n.drive with vgdRisen := true } })

/-! ### Adaptive drivers (R281) -/

/-- The field of the step that a direction uses. -/
def stepFld (on : Bool) : Fld := if on then GDC.ADAPT_STATE_SOURCE else GDC.ADAPT_STATE_SINK

/-- A measured switching edge of ST high side k, in units of 2.5 ns (R281): slower than TARGET by more than 10 % raises the step,
faster lowers it. At MAX_STEP the limit is raised once, until the step has left it. -/
def Lane.adaptive (l : Lane) (k : Nat) (on : Bool) (time : Nat) : Lane :=
  let target := l.rd GDC.ADAPT_CFG_TARGET
  let step := l.rd (stepFld on) k
  let maxS := l.rd GDC.ADAPT_CFG_MAX_STEP
  let l1 := l.wr (if on then GDC.ADAPT_STATE_T_ON else GDC.ADAPT_STATE_T_OFF) (satN 8 time) k
  let bit := 2 * k + on.toNat
  let show_ := fun (n : Lane) => n.flag GDC.ADAPT_STATE_LIMIT (decide (n.gdc.adaptLim / 4 ^ k % 4 ≠ 0)) k
  let clear := fun (n : Lane) => { n with gdc := { n.gdc with adaptLim := n.gdc.adaptLim - n.gdc.adaptLim / 2 ^ bit % 2 * 2 ^ bit } }
  if !carriesCmd l.regs 0 then l1
  else if 11 * target < 25 * time then
    if step < maxS then show_ (clear (l1.wr (stepFld on) (step + 1) k))
    else if l1.gdc.adaptLim.testBit bit then l1
    else (show_ { l1 with gdc := { l1.gdc with adaptLim := l1.gdc.adaptLim ||| 2 ^ bit } }).fault (0x88 + k)
  else if 25 * time < 9 * target then
    if l.rd GDC.ADAPT_CFG_MIN_STEP < step then show_ (clear (l1.wr (stepFld on) (step - 1) k)) else l1
  else l1

/-- ADAPTIVE_EDGE_MEASURED. -/
def execAdaptiveEdgeMeasured (l : LaneId) (t k : Nat) (on : Bool) (time : Nat) (s : State) : Host.Outcome State Fault Refusal :=
  let n := (s.lane l).atTick t
  .next (s.setLane l (n.gated 6 (if k < 3 then n.adaptive k on time else n)))

/-- The adaptive drivers' steps are START. -/
def Lane.adaptReset (l : Lane) : Lane :=
  [0, 1, 2].foldl (fun n k => (n.wr GDC.ADAPT_STATE_SOURCE (n.rd GDC.ADAPT_CFG_START) k).wr GDC.ADAPT_STATE_SINK
    (n.rd GDC.ADAPT_CFG_START) k) l

/-- The adaptive steps start at START, once after each DRV-domain reset (R281). -/
def Lane.adaptStart (l : Lane) : Lane :=
  if l.gdc.adaptInit then l else ({ l with gdc := { l.gdc with adaptInit := true } } : Lane).adaptReset

/-- On a bridge ST that carries no commands, the adaptive drivers keep both steps at START (R301). -/
def Lane.adaptCommitted (l : Lane) : Lane := if carriesCmd l.regs 0 then l else l.adaptReset

/-! ### Updates and the Snuff path (R28, R29, R297 to R300) -/

/-- DRIVE_DIE_UPDATE: a PWM update or heartbeat arrives at the drive die; one that fails its CRC-8 is discarded and counted
(R298). -/
def execDriveDieUpdate (l : LaneId) (t : Nat) (heartbeat crcOk : Bool) (s : State) : Host.Outcome State Fault Refusal :=
  let n := (s.lane l).atTick t
  .next (s.setLane l (n.gated 6
    (if crcOk then
      { n with drive := if heartbeat then { n.drive with lastBeat := n.clk.now } else { n.drive with lastUpd := n.clk.now } }
    else (n.bump GDC.DRV_ERR_DISCARDED).fault 0x8B)))

/-- Whether the lane die commands the Snuff action (R298): in SNUFFED, in every lane state outside STANDBY and AUTHORITY, and
while a debugger halts it. -/
def Lane.snuffDue (l : Lane) : Bool := decide (l.xla.mode = .snuffed) || !l.own.healthy || l.bcn.halted

/-- SNUFF_COMMAND (R298). -/
def execSnuffCommand (l : LaneId) (t : Nat) (s : State) : Host.Outcome State Fault Refusal :=
  let n := (s.lane l).atTick t
  .next (s.setLane l (if n.snuffDue then n.snuffDrive else n))

/-- The lane die commands the release (R300). -/
def Lane.releaseDrive (l : Lane) : Lane :=
  ({ l with drive := { l.drive with release := true, relAt := l.clk.now } } : Lane).emit .release

/-- Whether the drive die leaves the Snuff action (R300): at a period boundary, for a release command followed by a valid PWM update; after
an autonomous Snuff only once the die-to-die interface has been initialised again. -/
def Lane.releaseDue (l : Lane) (x : Nat) : Bool :=
  l.drive.release && !l.snuffDue && !l.drive.auto_ && decide (l.drive.relAt < l.drive.lastUpd) && (l.isBoundary 0 x || l.isBoundary 1 x)

/-- SNUFF_RELEASE (R300). -/
def execSnuffRelease (l : LaneId) (t : Nat) (s : State) : Host.Outcome State Fault Refusal :=
  let n := (s.lane l).atTick t
  .next (s.setLane l (if n.releaseDue t then
    let n1 := n.noteAll
    { n1 with drive := { n1.drive with snuff := false, release := false }, gdc := { n1.gdc with released := true } } else n))

/-- Whether updates or heartbeats have been missing beyond the limit of R298, by an oscillator within 2 % (R280). DESIGN CHOICE (log entry 72):
one time of the last update serves both bridges, with the smaller P. -/
def Lane.updatesMissing (l : Lane) : Bool :=
  let p := min (l.pwmPeriod 0) (l.pwmPeriod 1)
  (l.runsPwm && decide (100 * (3 * p + 300) < 102 * (l.clk.now - l.drive.lastUpd))) ||
    decide (100 * (3 * l.cycleLen + 300) < 102 * (l.clk.now - l.drive.lastBeat))

/-- AUTONOMOUS_SNUFF (R29, R298, R300): the drive die takes the Snuff action by itself, also while it is commanded; under a shutdown notice
it does not report the missing updates (R471). -/
def execAutonomousSnuff (l : LaneId) (t : Nat) (s : State) : Host.Outcome State Fault Refusal :=
  let n := (s.lane l).atTick t
  .next (s.setLane l (if n.drive.linkUp && !n.drive.auto_ && n.updatesMissing then
    let n1 := (if n.drive.snuff then n else n.noteAll).endStarts
    { n1 with drive := { n1.drive with snuff := true, auto_ := true, autoSeen := !n.drive.notice, release := false
                                       snuffAt := if n.drive.snuff then n.drive.snuffAt else n.clk.now }
              gdc := { n1.gdc with released := false } } else n))

/-- The die-to-die interface is initialised at a lane reset (R300): the drive die reports an autonomous entry, which the GDC
raises. -/
def Lane.initDriveLink (l : Lane) : Lane :=
  let l1 := { l with drive := { l.drive with linkUp := true, auto_ := false, autoSeen := false, notice := false
                                             lastUpd := l.clk.now, lastBeat := l.clk.now }
                     gdc := { l.gdc with linkUp := true } }
  if l.drive.autoSeen then (l1.flag GDC.STATUS_SNUFF_AUTO true).fault 0x87 else l1

/-- The wait of bridge b on entering the Snuff action (R299): its DEADTIME, or 500 ns for a bridge that carries no commands and whose
DEADTIME lies outside 12 to 1,200 ticks. -/
def Lane.waitOf (l : Lane) (b : Nat) : Nat :=
  let d := l.rd GDC.BR_CFG_DEADTIME b
  if carriesCmd l.regs b || (decide (12 ≤ d) && decide (d ≤ 1200)) then d else 300

/-- The DEADTIMEs are copied to the drive die (R299). -/
def Lane.copyDead (l : Lane) : Lane := { l with drive := { l.drive with dead := some (l.waitOf 0, l.waitOf 1) } }

/-- GDC.SNUFF_CFG and the DEADTIMEs are copied to the drive die (R297, R299). -/
def Lane.copySnuffCfg (l : Lane) : Lane :=
  let l1 := l.noteAll
  ({ l1 with drive := { l1.drive with snuffCfg := l.word GDC.SNUFF_CFG_ST_ACT.key } } : Lane).copyDead

/-- GDC.STATUS.x_PROT of unit u: from the drive die's reports, so that before LINK_UP only a latch shows (R296, R303). -/
def Lane.protShown (l : Lane) (u : Nat) : Nat := if l.gdc.linkUp || (l.prot u).latched then (l.prot u).code else 0

/-- The reading of GDC.STATUS (R303). Before LINK_UP the lockout is not shown (R290). -/
def Lane.gdcStatus (l : Lane) : Nat :=
  l.gdc.released.toNat * 2 ^ 19 + l.gdc.linkUp.toNat * 2 ^ 18 + l.rd GDC.STATUS_SNUFF_AUTO * 2 ^ 17 + l.gdc.ov2.toNat * 2 ^ 16
    + l.drive.chopFaulty.toNat * 2 ^ 15 + (l.gdc.linkUp && (l.drive.uvlo || l.drive.uvLatch)).toNat * 2 ^ 14
    + l.drive.snuff.toNat * 2 ^ 13 + (l.gdc.dump.getLsbD 17).toNat * 2 ^ 12 + (l.chopperOn l.clk.now).toNat * 2 ^ 11
    + l.protShown 2 * 2 ^ 8 + l.protShown 1 * 2 ^ 4 + l.protShown 0

/-- The reading of GDC.TRY_STATUS (R303). -/
def Lane.tryStatus (l : Lane) : Nat :=
  (l.tries 0).length % 4 + 4 * ((l.tries 1).length % 4) + 16 * ((l.tries 2).length % 4) + 64 * ((l.tries 3).length % 4)

/-- The reading of the overvoltage timer in microseconds (R303). -/
def Lane.ovTimerNow (l : Lane) : Nat :=
  match l.gdc.ovSince with | some t0 => satN 16 ((l.clk.now - t0) / 600) | none => 0

end Sys2Proof.Machine
end

