-- ==== Sys2Proof/Machine/Sram.lean ====
section
/-!
DEFINITION. Lane SRAM (R75 to R81): bytes, 64-bit words with SECDED, corrections, uncorrectable errors and injected errors.
-/
namespace Sys2Proof.Machine

open Sys2Proof

/-! ### Bytes -/

/-- The canonical form of a lane's memories: keys strictly rising, and no entry equal to what an unlisted address reads as. -/
def Memory.wf (m : Memory) : Bool :=
  Sparse.wf (fun _ => (0 : Byte)) m.sram && Sparse.wf (fun _ => 0) m.sramErr && Sparse.wf (fun _ => (0 : Val)) m.table
    && Sparse.wf (fun _ => 0) m.tableErr

/-- The byte of lane SRAM at fabric address a; an unlisted byte reads 0 (R81). -/
def Memory.byte (m : Memory) (a : Nat) : Byte := Sparse.get 0 m.sram a

/-- Memory after byte b is written at address a. -/
def Memory.setByte (m : Memory) (a : Nat) (b : Byte) : Memory := { m with sram := Sparse.set 0 m.sram a b }

/-- The stored error of the 64-bit word at address wa: 0 none, 1 correctable, 2 uncorrectable. -/
def Memory.err (m : Memory) (wa : Nat) : Nat := Sparse.get 0 m.sramErr wa

/-- Memory after the stored error of the word at wa becomes e. -/
def Memory.setErr (m : Memory) (wa e : Nat) : Memory := { m with sramErr := Sparse.set 0 m.sramErr wa e }

/-- The n bytes from address a as a little-endian number. -/
def Memory.read (m : Memory) (a : Nat) : Nat → Nat
  | 0 => 0
  | n + 1 => (m.byte a).toNat + 256 * m.read (a + 1) n

/-- Memory after the n low bytes of v are written from address a, little-endian, where the strobe bit of each byte is set. -/
def Memory.write (m : Memory) (a v strobe : Nat) : Nat → Memory
  | 0 => m
  | n + 1 =>
    (if strobe % 2 = 1 then m.setByte a (BitVec.ofNat 8 v) else m).write (a + 1) (v / 256) (strobe / 2) n

/-- The 32-bit word of lane SRAM at address a. -/
def Memory.word (m : Memory) (a : Nat) : Word := BitVec.ofNat 32 (m.read a 4)

/-- Memory after a 32-bit word is written at address a. -/
def Memory.setWord (m : Memory) (a : Nat) (w : Word) : Memory := m.write a w.toNat 0xF 4

/-- Lane SRAM lies at 0x1000_0000 to 0x105F_FFFF (R48). -/
def inSram (a : Nat) : Bool := 0x10000000 ≤ a && a < 0x10600000

/-- The address of the 64-bit word that holds byte a. -/
def word64 (a : Nat) : Nat := a / 8 * 8

/-! ### Failed accesses -/

/-- The INFO word of an access violation, an unmapped access or a time-out (R343). -/
def accessInfo (addr : Word) (ini : Nat) : Word := BitVec.ofNat 32 (addr.toNat / 16 * 16 + ini % 16)

/-- The lane after an access ends with a bus error. -/
def Lane.busError (l : Lane) : Lane := { l with bus := .error }

/-- The lane after an access of the host that its register BAR does not accept (R361). -/
def Lane.unsupported (l : Lane) : Lane := { l with bus := .unsupported }

/-- The lane after an access ends with data. -/
def Lane.busDone (l : Lane) (d : BitVec 64) : Lane := { l with bus := .done d }

/-- The lane after a read by an initiator ends with data; data for the Beacon pair also enters the delay registers of the checker core (R52). -/
def Lane.readDone (l : Lane) (ini : Nat) (d : BitVec 64) : Lane := (if ini = 0x0 then l.feedChecker (.readData d) else l).busDone d

/-- An access that a check of R83 or R18 refuses: a bus error and source 0x07. -/
def Lane.violation (l : Lane) (ini : Nat) (addr : Word) : Lane := (l.fault 0x07 (accessInfo addr ini)).busError

/-- An access to an address or offset that holds nothing (R20, R49): a bus error and source 0x08. -/
def Lane.unmapped (l : Lane) (ini : Nat) (addr : Word) : Lane := (l.fault 0x08 (accessInfo addr ini)).busError

/-- An access that Vigil's fabric port does not accept (R517): a bus error and source 0xE3. -/
def Lane.vigilViolation (l : Lane) : Lane := (l.fault 0xE3).busError

/-- The debug port's level (R509, R513): in MAKER nothing is locked. -/
def Lane.dbgLevel (l : Lane) : Nat := if l.otp.lifecycle = 1 then 2 else l.sec.level

/-- Whether an initiator may access lane SRAM at address a (R83, R517); w: for a write. Initiator 0x10 is the Beacon checker in twin mode,
whose accesses carry code 0x0 (R84). -/
def Lane.sramRight (l : Lane) (ini a : Nat) (w : Bool) : Bool :=
  match ini with
  | 0x6 => let b := l.rd SEC.VGL_WIN_BASE * 0x40000; b ≤ a && a < b + 0x40000
  | 0x8 | 0xA | 0xE => false
  | 0xD => decide (if w then 2 ≤ l.dbgLevel else 1 ≤ l.dbgLevel)
  | 0x10 => l.on BCN.MODE_TWIN
  | _ => decide (ini < 0x10)

/-! ### SECDED -/

/-- A corrected single-bit error in lane SRAM or a core local memory (R74, R76). -/
def Lane.corrected (l : Lane) : Lane := (l.bump BCN.SRAM_CE_COUNT_COUNT).fault 0x04

/-- A 64-bit word has been written: its check bits are valid again, unless an armed injection places an error (R356). -/
def Lane.wordWritten (l : Lane) (wa : Nat) : Lane :=
  let e := if l.fcl.armed = 2 then 1 else if l.fcl.armed = 3 then 2 else 0
  { l with mem := l.mem.setErr wa e
           fcl := if e = 0 then l.fcl else { l.fcl with armed := 0 } }

/-- The record of an uncorrectable error (R77, R89). -/
def Lane.recordUe (l : Lane) (ini memory data : Nat) (addr : Nat) (syn : BitVec 8) : Lane :=
  (((((l.wr BCN.SRAM_ERR_ADDR_ADDR addr).wr BCN.SRAM_ERR_INFO_INITIATOR ini).wr BCN.SRAM_ERR_INFO_MEMORY memory).wr
    BCN.SRAM_ERR_INFO_DATA data).wr BCN.SRAM_ERR_INFO_SYNDROME syn.toNat).wr BCN.SRAM_ERR_INFO_UE 1

/-- An uncorrectable error in the word at wa: recorded, the word left as it is, and source 0x03 raised (R77). -/
def Lane.sramUe (l : Lane) (ini wa : Nat) (syn : BitVec 8) : Lane :=
  (({ l with mem := l.mem.setErr wa 2 } : Lane).recordUe ini 0 0 wa syn).fault 0x03 (BitVec.ofNat 32 wa)

/-- A read of the word at wa checks its SECDED code: the upset found with it adds to its stored error. A single-bit error is
corrected and, but for the read of a partial write, which writes the word itself, written back; false means uncorrectable (R76, R77). -/
def Lane.sramCheck (l : Lane) (ini wa : Nat) (up : Upset) (back : Bool := true) : Lane × Bool :=
  match up, l.mem.err wa with
  | .misplaced syn, _ => ((l.recordUe ini 0 0 wa syn).fault 0x03 (BitVec.ofNat 32 wa), false)
  | .double syn, _ => (l.sramUe ini wa syn, false)
  | .none, 0 => (l, true)
  | .none, 1 => ((if back then l.wordWritten wa else l).corrected, true)
  | .single, 0 => ((if back then l.wordWritten wa else l).corrected, true)
  | _, _ => (l.drew.sramUe ini wa (Config.syndrome l.free), false)

/-- A read of the 64-bit word that holds address a. -/
def Lane.sramRead (l : Lane) (ini a : Nat) (up : Upset) : Lane :=
  let (l1, ok) := l.sramCheck ini (word64 a) up
  if ok then l1.readDone ini (BitVec.ofNat 64 (l.mem.read (word64 a) 8)) else l1.busError

/-- The strobed bytes of the 64-bit word at wa are stored (R78): a store of fewer than 64 bits reads first, and is not performed on an
uncorrectable error, which false reports. -/
def Lane.store64 (l : Lane) (ini wa data strobe : Nat) (up : Upset := .none) : Lane × Bool :=
  let (l1, ok) := if strobe = 0xFF then (l, true) else l.sramCheck ini wa up false
  if ok then (({ l1 with mem := l1.mem.write wa data strobe 8 } : Lane).wordWritten wa, true) else (l1, false)

/-- A write of the strobed bytes of the 64-bit word that holds address a. -/
def Lane.sramWrite (l : Lane) (ini a : Nat) (data : BitVec 64) (strobe : BitVec 8) (up : Upset) : Lane :=
  let r := l.store64 ini (word64 a) data.toNat strobe.toNat up
  if r.2 then r.1.busDone 0 else r.1.busError

/-! ### Units of the lane (R76 to R78, R83): a core, the Percolator, the agreement unit, the translation unit -/

/-- The 64-bit words that hold n bytes from address a. -/
def wordsOver (a n : Nat) : List Nat := (List.range ((a + n + 7) / 8 - a / 8)).map fun i => 8 * (a / 8 + i)

/-- A unit reads n bytes from address a: every word is checked as it stands; false when one is uncorrectable. -/
def Lane.sramLoad (l : Lane) (ini a n : Nat) : Lane × Bool :=
  (wordsOver a n).foldl (fun (s : Lane × Bool) w => let r := s.1.sramCheck ini w .none
                                                    (r.1, s.2 && r.2)) (l, true)

/-- A unit stores 32-bit words from address a: two that fill a 64-bit word in one store, any other as a part of its word. -/
def Lane.storeWords (l : Lane) (ini a : Nat) : List Word → Lane
  | [] => l
  | [w] => (if a % 8 = 0 then l.store64 ini a w.toNat 0x0F else l.store64 ini (a - 4) (w.toNat * 2 ^ 32) 0xF0).1
  | w :: v :: ws =>
    if a % 8 = 0 then (l.store64 ini a (w.toNat + v.toNat * 2 ^ 32) 0xFF).1.storeWords ini (a + 8) ws
    else (l.store64 ini (a - 4) (w.toNat * 2 ^ 32) 0xF0).1.storeWords ini (a + 4) (v :: ws)

/-- n words of lane SRAM from an address. -/
def Memory.words (m : Memory) (a : Nat) : Nat → List Word
  | 0 => []
  | n + 1 => m.word a :: m.words (a + 4) n

/-- A unit copies n words of lane SRAM from src to dst; nothing is stored when one of them is uncorrectable. -/
def Lane.moveWords (l : Lane) (ini src dst n : Nat) : Lane :=
  let r := l.sramLoad ini src (4 * n)
  if r.2 then r.1.storeWords ini dst (l.mem.words src n) else r.1

/-- Lane SRAM bytes of a range, cleared. -/
def Memory.zero (m : Memory) (a n : Nat) : Memory :=
  { m with sram := Sparse.keep (fun k => !(decide (a ≤ k) && decide (k < a + n))) m.sram
           sramErr := Sparse.keep (fun k => !(decide (a ≤ k) && decide (k < a + n))) m.sramErr }

/-- A unit stores zero in the whole 64-bit words of an area. -/
def Lane.zeroArea (l : Lane) (a n : Nat) : Lane := ({ l with mem := l.mem.zero a n } : Lane).wordWritten a

/-! ### Commands -/

/-- A read of lane SRAM by an initiator: its right, then the clock of the CPU domain, in which lane SRAM lies (R488). -/
def Lane.sramGet (l : Lane) (ini : Nat) (addr : Word) (up : Upset) : Lane :=
  if !l.sramRight ini addr.toNat false then (if ini = 0x6 then l.vigilViolation else l.violation ini addr)
  else if l.domOn 0 then l.sramRead ini addr.toNat up
  else l.stall ini addr none

/-- LANE_SRAM_READ: an address outside lane SRAM is unmapped, an initiator without the right is refused (R83, R517). -/
def execLaneSramRead (l : LaneId) (t ini : Nat) (addr : Word) (up : Upset) (s : State) : Host.Outcome State Fault Refusal :=
  let n := (s.lane l).atTick t
  .next (s.setLane l (if !inSram addr.toNat then n.unmapped ini addr else n.sramGet ini addr up))

/-- A write of lane SRAM by an initiator: its right, then the clock of the CPU domain, in which lane SRAM lies (R488). -/
def Lane.sramPut (l : Lane) (ini : Nat) (addr : Word) (data : BitVec 64) (strobe : BitVec 8) (up : Upset) : Lane :=
  if !l.sramRight ini addr.toNat true then (if ini = 0x6 then l.vigilViolation else l.violation ini addr)
  else if l.domOn 0 then l.sramWrite ini addr.toNat data strobe up
  else l.stall ini addr none (some (data, strobe))

/-- LANE_SRAM_WRITE: as LANE_SRAM_READ, and R78. -/
def execLaneSramWrite (l : LaneId) (t ini : Nat) (addr : Word) (data : BitVec 64) (strobe : BitVec 8) (up : Upset) (s : State) :
    Host.Outcome State Fault Refusal :=
  let n := (s.lane l).atTick t
  .next (s.setLane l (if !inSram addr.toNat then n.unmapped ini addr else n.sramPut ini addr data strobe up))

/-- Whether the scrubber's interval has passed since its last read: SCRUB_INTERVAL fabric cycles of two ticks each (R79). -/
def Lane.scrubDue (l : Lane) : Bool :=
  match l.bcn.scrubTick with
  | some a => decide (a + 2 * l.rd BCN.SRAM_CTRL_SCRUB_INTERVAL ≤ l.clk.now)
  | none => true

/-- The scrubber reads its next word without a bus error; a completed pass is counted (R79, R89). -/
def Lane.scrubNext (l : Lane) (up : Upset) : Lane :=
  let at_ := l.bcn.scrubAt
  let l1 := { l with bcn := { l.bcn with scrubAt := (at_ + 1) % 786432, scrubTick := some l.clk.now } }
  let l2 := if at_ + 1 = 786432 then l1.wrapInc BCN.SCRUB_PASS_COUNT else l1
  (l2.sramCheck 0xF (0x10000000 + 8 * at_) up).1

/-- SRAM_SCRUB. -/
def execSramScrub (l : LaneId) (t : Nat) (up : Upset) (s : State) : Host.Outcome State Fault Refusal :=
  let n := (s.lane l).atTick t
  .next (s.setLane l (n.gated 0 (if n.scrubDue then n.scrubNext up else n)))

end Sys2Proof.Machine
end

