-- ==== Sys2Proof/Machine/Beacon.lean ====
section
/-!
DEFINITION. The Beacon pair: lockstep comparison and its reaction (R54 to R66), and debug actions on the pair (R85 to R88).
-/
namespace Sys2Proof.Machine

open Sys2Proof

/-! ### Lockstep -/

/-- Whether the comparators compare core data: lockstep active and the pair running (R66, R68). -/
def Lane.comparing (l : Lane) : Bool := l.on BCN.MODE_LOCKSTEP && !l.bcn.stopped

/-- The core-cycle count of R55. -/
def Lane.coreCount (l : Lane) : Nat := l.clk.now - l.bcn.coreStart

/-- The record of a mismatch or rehearsal failure (R89) and the limit of R60: a second one within 10 minutes sets PERMANENT. -/
def Lane.lsRecord (l : Lane) (cause : Nat) (sigMain sigChk : BitVec 64) : Lane :=
  let again := !(within l.clk.now tenMinutes l.bcn.mismatches).isEmpty
  let l1 := (((l.bump BCN.LS_STATUS_COUNT).wr BCN.LS_STATUS_LAST_CAUSE cause).flag BCN.LS_CLEAR_MISMATCH true).wr
    BCN.LS_CCN_CCN l.ccn.toNat
  let l2 := (((l1.wr BCN.LS_CORE_CYCLE_CYCLE l.tick).wr BCN.LS_SIG_MAIN_LO_SIG sigMain.toNat).wr BCN.LS_SIG_MAIN_HI_SIG
    (sigMain.toNat / 2 ^ 32))
  let l3 := (l2.wr BCN.LS_SIG_CHK_LO_SIG sigChk.toNat).wr BCN.LS_SIG_CHK_HI_SIG (sigChk.toNat / 2 ^ 32)
  let l4 := if again then l3.flag BCN.LS_STATUS_PERMANENT true else l3
  { l4 with bcn := { l4.bcn with mismatches := l.clk.now :: within l.clk.now tenMinutes l.bcn.mismatches } }

/-- The reaction to a mismatch or rehearsal failure (R58 to R60): the source is recorded, the pair stops, the drive die takes the
Snuff action and the fence is announced; the lane then resets its CPU, PCL and CEN domains unless it is held. Outside STANDBY,
AUTHORITY and RESYNC there is no voting set to leave, and the pair's reset follows alone; a lane that is held becomes FENCED (R60). DESIGN CHOICE: R118
lists no such moves from SYNC, BOOT and UPDATE (log entry 83). -/
def Lane.lockstepFail (l : Lane) (src cause : Nat) (sigMain sigChk : BitVec 64) : Lane :=
  let l1 := (l.lsRecord cause sigMain sigChk).fault src
  let l2 := { l1 with bcn := { l1.bcn with stopped := true } }
  if l2.own.fenceable then (l2.homeFenced src).fence 0x1
  else if l2.heldFenced then l2.snuffDrive.goState .fenced else l2.snuffDrive.fenceReset

/-- A failure found elsewhere than at a capture of signatures: the registers show what the cores hold. -/
def Lane.lockstepOpen (l : Lane) (src cause : Nat) : Lane := l.lockstepFail src cause l.bcn.sigMain l.bcn.sigChk

/-- A signature register after the writebacks of a core (R54). -/
def foldBacks (sig : BitVec 64) (wb : List (BitVec 64)) : BitVec 64 := wb.foldl Config.foldWriteback sig

/-- LOCKSTEP_WINDOW_COMPARE: three cycles after the end of a 128-cycle window of the main core, both comparator copies compare
the captured signatures, into which the writebacks since the last bus write have been folded; the signatures restart (R54, R55, R64). An
armed injection flips one bit of the main signature; the spec does not say which (R356). bad0 and bad1 say that a copy reports the
opposite of what it sees. -/
def Lane.windowCompare (l : Lane) (wbMain wbChk : List (BitVec 64)) (bad0 bad1 : Bool) : Lane :=
  if l.comparing && decide (128 ≤ l.coreCount) && decide (l.coreCount % 128 = 2) then
    let m0 := foldBacks l.bcn.sigMain wbMain
    let c := foldBacks l.bcn.sigChk wbChk
    let m := if l.bcn.flip then m0 ^^^ (BitVec.ofNat 64 (2 ^ ((Config.fresh l.free).toNat % 64))) else m0
    let l1 := if l.bcn.flip then { l.drew with bcn := { l.bcn with flip := false } } else l
    let f0 := decide (m ≠ c) != bad0
    let f1 := decide (m ≠ c) != bad1
    if f0 || f1 then l1.lockstepFail 0x01 (if f0 = f1 then 0x1 else 0x4) m c
    else { l1 with bcn := { l1.bcn with sigMain := Config.sigStart, sigChk := Config.sigStart } }
  else l

/-- The command of R55. -/
def execLockstepWindowCompare (l : LaneId) (t : Nat) (wbMain wbChk : List (BitVec 64)) (bad0 bad1 : Bool) (s : State) :
    Host.Outcome State Fault Refusal :=
  .next (s.setLane l (((s.lane l).atTick t).gated 0 (((s.lane l).atTick t).windowCompare wbMain wbChk bad0 bad1)))

/-- A rehearsal at a nonzero multiple of 600,000 core cycles (R65, R66): it passes when both copies flag the spare slot. -/
def Lane.rehearse (l : Lane) (flag0 flag1 : Bool) : Lane :=
  if l.comparing && decide (0 < l.coreCount) && decide (l.coreCount % 600000 = 0) then
    let l1 := l.wr BCN.RH_STATUS_BIT_POS ((l.rd BCN.RH_STATUS_BIT_POS + 1) % 64)
    if flag0 && flag1 then l1.wrapInc BCN.RH_STATUS_PASS_COUNT
    else
      let l2 := if flag0 then l1 else l1.flag BCN.RH_STATUS_FAIL_0 true
      let l3 := if flag1 then l2 else l2.flag BCN.RH_STATUS_FAIL_1 true
      l3.lockstepOpen 0x02 (if flag1 then 0x5 else if flag0 then 0x6 else 0x7)
  else l

/-- COMPARATOR_REHEARSAL: flag0 and flag1 say which copies flag the spare slot. -/
def execComparatorRehearsal (l : LaneId) (t : Nat) (flag0 flag1 : Bool) (s : State) : Host.Outcome State Fault Refusal :=
  .next (s.setLane l (((s.lane l).atTick t).gated 0 (((s.lane l).atTick t).rehearse flag0 flag1)))

/-! ### Debug (R85 to R88) -/

/-- A request beyond the granted debug level (R537): an error response and source 0x07, with the address of the request (R343). -/
def Lane.dbgRefused (l : Lane) (addr : Word) : Lane := (l.fault 0x07 (accessInfo addr 0xD)).emit (.probe false)

/-- The pair halts (R87): the departure is announced, the lane enters FENCED with the uncounted cause 0xA, and its drive die
takes the Snuff action. DESIGN CHOICE: a lane outside STANDBY, AUTHORITY and RESYNC is not part of the voting set, and halts in its state (log
entry 84). -/
def Lane.halt (l : Lane) : Lane :=
  let l1 := { l with bcn := { l.bcn with halted := true } }
  if l.own.fenceable then l1.leaveVset 0xA true else l1.snuffDrive

/-- The pair resumes (R87, R118): a lane fenced by the halt enters SYNC. -/
def Lane.resume (l : Lane) : Lane :=
  let l1 := { l with bcn := { l.bcn with halted := false, core := [] } }
  if decide (l.own = .fenced) && decide (l.rd XLA.FENCE_STATUS_LAST_CAUSE = 0xA) && !l.heldFenced then l1.goState .sync else l1

/-- The breakpoint (0 to 7) or watchpoint (8 to 11) that a debugger write names; how the part numbers them is its own (log entry 73). -/
def breakNo (target : Nat) : Option Nat := if 0x1000000 ≤ target ∧ target < 0x100000C then some (target - 0x1000000) else none

/-- The effect of a debug action on the main core. A write is kept until the pair runs on; one that names a breakpoint or watchpoint
sets it at an address, or clears it with 0. -/
def Lane.dbgEffect (l : Lane) (a : DbgAct) : Lane :=
  match a with
  | .halt | .hit _ _ => l.halt
  | .resume => l.resume
  | .step => { l with bcn := { l.bcn with core := [] } }
  | .write target val =>
    match breakNo target with
    | some k => { l with bcn := { l.bcn with breaks := Sparse.set none l.bcn.breaks k (if val = 0 then none else some val) } }
    | none => { l with bcn := { l.bcn with core := Sparse.set none l.bcn.core target (some val) } }

/-- The effect of a replayed action on the checker core (R85). -/
def Lane.chkEffect (l : Lane) (a : DbgAct) : Lane :=
  match a with
  | .halt | .hit _ _ => { l with bcn := { l.bcn with chkHalted := true } }
  | .resume => { l with bcn := { l.bcn with chkHalted := false, chkCore := [] } }
  | .step => { l with bcn := { l.bcn with chkCore := [] } }
  | .write target val => { l with bcn := { l.bcn with chkCore := Sparse.set none l.bcn.chkCore target (some val) } }

/-- A debug action is captured in the replay queue at tick at_ and acts on the main core. -/
def Lane.dbgTake (l : Lane) (a : DbgAct) (at_ : Nat) : Lane :=
  (({ l with bcn := { l.bcn with replay := l.bcn.replay ++ [(a, at_)] } } : Lane).feedChecker (.debug a)).dbgEffect a

/-- The oldest entry of the replay queue, 2 core cycles after the main core took it, is applied to the checker core, and at that tick the oldest
action of a stalled probe takes its place (R85). -/
def Lane.drainOne (l : Lane) : Lane :=
  match l.bcn.replay with
  | (a, at_) :: rest =>
    if at_ + 2 ≤ l.clk.now then
      let l1 := ({ l with bcn := { l.bcn with replay := rest, stalled := l.bcn.stalled.drop 1 } } : Lane).chkEffect a
      match l.bcn.stalled with | b :: _ => l1.dbgTake b (at_ + 2) | [] => l1
    else l
  | [] => l

/-- Every entry whose 2 core cycles have passed has reached the checker core, each exactly 2 core cycles after the main core. -/
def Lane.drainReplay (l : Lane) : Lane :=
  (List.range (l.bcn.replay.length + l.bcn.stalled.length)).foldl (fun (n : Lane) _ => n.drainOne) l

/-- A debug action on the pair (R85): captured in the replay queue for the checker core; with 16 entries in the queue the probe
stalls with its actions until an entry drains. In twin mode there is no checker to replay on. -/
def Lane.dbgAct (l : Lane) (a : DbgAct) : Lane :=
  if l.on BCN.MODE_LOCKSTEP then
    let l1 := l.drainReplay
    if l1.bcn.replay.length < 16 then l1.dbgTake a l1.clk.now
    else { l1 with bcn := { l1.bcn with stalled := l1.bcn.stalled ++ [a] } }
  else l.dbgEffect a

/-- The result of a halt request (R88, with the row that R509 names for the lifecycle state). -/
def Lane.haltAccepted (l : Lane) : Bool :=
  let strict := decide (l.otp.lifecycle = 3) || (decide (l.otp.lifecycle = 2) && l.otp.sealed)
  if l.otp.lifecycle = 0 then false
  else if strict then
    match l.own with
    | .authority => false
    | .standby => decide (l.xla.mode = .triplex)
    | _ => true
  else true

/-- DEBUG_HALT_REQUEST: needs level 2 (R513, R537). In BLANK every halt is refused (R88). R88 leaves SNUFFED out of the rows for
a STANDBY lane in FIELD: a halt is refused there. A refused halt is counted and reported to the probe. -/
def execDebugHaltRequest (l : LaneId) (t : Nat) (s : State) : Host.Outcome State Fault Refusal :=
  let n := (s.lane l).atTick t
  .next (s.setLane l
    (if n.haltAccepted && decide (n.dbgLevel < 2) then n.dbgRefused 0
     else if n.haltAccepted then (n.dbgAct .halt).emit (.probe true)
     else ((n.wrapInc DBG.STATUS_REFUSED).fault 0xEA).emit (.probe false)))

/-- DEBUG_RESUME: needs level 2 and a halted pair. -/
def execDebugResume (l : LaneId) (t : Nat) (s : State) : Host.Outcome State Fault Refusal :=
  let n := (s.lane l).atTick t
  .next (s.setLane l (if n.dbgLevel < 2 then n.dbgRefused 0 else if n.bcn.halted then n.dbgAct .resume else n))

/-- DEBUG_SINGLE_STEP: needs level 2 and a halted pair. -/
def execDebugSingleStep (l : LaneId) (t : Nat) (s : State) : Host.Outcome State Fault Refusal :=
  let n := (s.lane l).atTick t
  .next (s.setLane l (if n.dbgLevel < 2 then n.dbgRefused 0 else if n.bcn.halted then n.dbgAct .step else n))

/-- DEBUG_CORE_WRITE: a register or local-memory write, numbered by target; needs level 2. -/
def execDebugCoreWrite (l : LaneId) (t target : Nat) (val : Word) (s : State) : Host.Outcome State Fault Refusal :=
  let n := (s.lane l).atTick t
  .next (s.setLane l (if n.dbgLevel < 2 then n.dbgRefused 0 else n.dbgAct (.write target val)))

/-- BREAKPOINT_HIT: one of 8 breakpoints or 4 watchpoints that is set (R86). -/
def execBreakpointHit (l : LaneId) (t : Nat) (watch : Bool) (idx : Nat) (s : State) : Host.Outcome State Fault Refusal :=
  let n := (s.lane l).atTick t
  .next (s.setLane l (n.gated 0
    (if decide (idx < if watch then 4 else 8) && (Sparse.get none n.bcn.breaks (if watch then 8 + idx else idx)).isSome && !n.bcn.halted then
       n.dbgAct (.hit watch idx) else n)))

/-- REPLAY_QUEUE_DRAIN (R85): the entries whose 2 core cycles have passed by this tick have been applied to the checker core. -/
def execReplayQueueDrain (l : LaneId) (t : Nat) (s : State) : Host.Outcome State Fault Refusal :=
  let n := (s.lane l).atTick t
  .next (s.setLane l (n.gated 0 n.drainReplay))

end Sys2Proof.Machine
end

