-- ==== Sys2Proof/Machine/Operands.lean ====
section
/-!
DEFINITION. What the catalogue operators read and deliver: parameter words in the form of R14, input tokens, state words, tables
in table memory with the interpolation of R180 and R181, and their outputs (R169, R567).
-/
namespace Sys2Proof.Machine

open Sys2Proof

/-- An output: VALID and VALUE. -/
abbrev Out := Bool × Val

/-- What an operator delivers: output 0, output 1, its state words, and the table words it read. -/
structure OpRes where
  o0 : Out
  o1 : Out := (false, 0)
  st : List Word := []
  reads : List Nat := []
deriving DecidableEq, Repr

/-- Parameter i as an unsigned integer in bits [17:0]. -/
def pU (p : List Word) (i : Nat) : Nat := (p.getD i 0).toNat % 262144

/-- Parameter i as S18, in units of 2^-16. -/
def pS (p : List Word) (i : Nat) : Int := signedOf 18 (pU p i)

/-- The value on port i. -/
def argV (a : List Tok) (i : Nat) : Val := match a[i]? with | some t => t.value | none => 0

/-- VALID on port i. -/
def argOk (a : List Tok) (i : Nat) : Bool := match a[i]? with | some t => t.valid | none => false

/-- The value on port i as S18, as U18, and its bit b. -/
def argS (a : List Tok) (i : Nat) : Int := s18 (argV a i)
def argU (a : List Tok) (i : Nat) : Int := u18 (argV a i)
def argBit (a : List Tok) (i b : Nat) : Bool := (argV a i).getLsbD b

/-- Whether every input is valid. -/
def allOk (a : List Tok) : Bool := a.all fun t => t.valid

/-- A flag or discrete output with its meaning in bit 0 (R568). -/
def flagVal (b : Bool) : Val := if b then 1 else 0

/-- State word i. -/
def stW (st : List Word) (i : Nat) : Word := st.getD i 0

/-- A signed 40-bit quantity in two state words, its high 8 bits in bits [7:0] of the second. -/
def a40Of (lo hi : Word) : Int := signedOf 40 (lo.toNat + hi.toNat % 256 * 2 ^ 32)

/-- The low word and the high 8 bits of a signed 40-bit quantity. -/
def a40Lo (x : Int) : Word := BitVec.ofInt 32 x
def a40Hi (x : Int) : Nat := (x.emod (2 ^ 40)).toNat / 2 ^ 32

/-- Bit 31 of a state word marks a state that has started. -/
def startedBit : Nat := 0x80000000

/-- A word from a number. -/
def mkW (n : Nat) : Word := BitVec.ofNat 32 n

/-! ### Tables -/

/-- Table word w as a value. -/
def Memory.tbl (m : Memory) (w : Nat) : Val := Sparse.get 0 m.table w

/-- Table word w read as U18 or as S18. -/
def Memory.tblNum (m : Memory) (unsigned : Bool) (w : Nat) : Int := if unsigned then u18 (m.tbl w) else s18 (m.tbl w)

/-- The interpolation of R180 between two entries at fraction f in units of 2^-16. -/
def interp (y0 y1 f : Int) : Int := y0 + roundDiv ((y1 - y0) * f) 65536

/-- The entry index and fraction that a position gives in a table of n entries (R180): a negative position reads entry 0, a
position at or beyond the last entry reads that entry. -/
def tablePos (n : Nat) (p : Int) : Nat × Int :=
  if p < 0 then (0, 0)
  else if (n : Int) - 1 ≤ p / 65536 then (n - 1, 0) else ((p / 65536).toNat, p.emod 65536)

/-- The position along an axis of n entries (R181), in units of 2^-16, for a span above zero. -/
def axisPos (x origin span : Int) (n : Nat) : Int := Int.fdiv ((x - origin) * ((n : Int) - 1) * 65536) span

/-- One table of n entries from word base, interpolated at a position (R180). -/
def Memory.interp1 (m : Memory) (unsigned : Bool) (base n : Nat) (p : Int) : Int :=
  let (i, f) := tablePos n p
  if f = 0 then m.tblNum unsigned (base + i) else interp (m.tblNum unsigned (base + i)) (m.tblNum unsigned (base + i + 1)) f

/-- The table words that interp1 reads: the entries that the formula of R180 names for the position. DEDUCED: the formula names t[i + 1]
at a fraction of 0 too, so that word is read, with its errors (log entry 75). -/
def interpReads (base n : Nat) (p : Int) : List Nat :=
  let i := (tablePos n p).1
  if p < 0 ∨ n ≤ i + 1 then [base + i] else [base + i, base + i + 1]

/-- A table of r × c entries interpolated along the columns of two rows and then between them (R180). -/
def Memory.interp2 (m : Memory) (unsigned : Bool) (base r c : Nat) (pr pc : Int) : Int :=
  let (i, f) := tablePos r pr
  let y0 := m.interp1 unsigned (base + c * i) c pc
  if f = 0 then y0 else interp y0 (m.interp1 unsigned (base + c * (i + 1)) c pc) f

/-- The table words that interp2 reads. -/
def interp2Reads (base r c : Nat) (pr pc : Int) : List Nat :=
  let i := (tablePos r pr).1
  interpReads (base + c * i) c pc ++ (if pr < 0 ∨ r ≤ i + 1 then [] else interpReads (base + c * (i + 1)) c pc)

end Sys2Proof.Machine
end

