-- ==== Sys2Proof/Machine/Operators.lean ====
section
/-!
DEFINITION. The catalogue operators as functions of their parameters, state words, input tokens and table memory (R169, R567 to
R570).
An invalid input makes every output of an operator invalid; a stateful operator then keeps its state and delivers its last output
values (R567).
State words are laid out by the model, and words of zero are the state as after reset.
-/
namespace Sys2Proof.Machine

open Sys2Proof

/-- A stateless operator with one output of the given value. -/
def one (a : List Tok) (v : Val) : OpRes := { o0 := (allOk a, v) }

def opPass (_p : List Word) (_st : List Word) (a : List Tok) (_m : Memory) : OpRes := one a (argV a 0)

/-- CONST is always valid. -/
def opConst (p : List Word) (_st : List Word) (_a : List Tok) (_m : Memory) : OpRes := { o0 := (true, toS18 (pS p 0)) }

def opAdd (_p : List Word) (_st : List Word) (a : List Tok) (_m : Memory) : OpRes := one a (toS18 (argS a 0 + argS a 1))

def opSub (_p : List Word) (_st : List Word) (a : List Tok) (_m : Memory) : OpRes := one a (toS18 (argS a 0 - argS a 1))

def opMul (_p : List Word) (_st : List Word) (a : List Tok) (_m : Memory) : OpRes :=
  one a (toS18 (roundDiv (argS a 0 * argS a 1) 65536))

def opMac (_p : List Word) (_st : List Word) (a : List Tok) (_m : Memory) : OpRes :=
  one a (toS18 (roundDiv (argS a 0 * argS a 1 + argS a 2 * 65536) 65536))

/-- DIV is invalid for a divisor of 0, where the spec states no value. -/
def opDiv (_p : List Word) (_st : List Word) (a : List Tok) (_m : Memory) : OpRes :=
  if argS a 1 = 0 then { o0 := (false, Config.divByZero (argV a 0)) }
  else one a (toS18 (roundQuot (argS a 0 * 65536) (argS a 1)))

def opAbs (_p : List Word) (_st : List Word) (a : List Tok) (_m : Memory) : OpRes := one a (toS18 (iabs (argS a 0)))

def opNeg (_p : List Word) (_st : List Word) (a : List Tok) (_m : Memory) : OpRes := one a (toS18 (-(argS a 0)))

def opScale (p : List Word) (_st : List Word) (a : List Tok) (_m : Memory) : OpRes :=
  one a (toS18 (roundDiv (argS a 0 * pS p 0 + pS p 1 * 65536) 65536))

def opMin (_p : List Word) (_st : List Word) (a : List Tok) (_m : Memory) : OpRes := one a (toS18 (imin (argS a 0) (argS a 1)))

def opMax (_p : List Word) (_st : List Word) (a : List Tok) (_m : Memory) : OpRes := one a (toS18 (imax (argS a 0) (argS a 1)))

def opLimit (p : List Word) (_st : List Word) (a : List Tok) (_m : Memory) : OpRes :=
  { o0 := (allOk a, toS18 (clampInt (pS p 0) (pS p 1) (argS a 0)))
    o1 := (allOk a, flagVal (decide (argS a 0 < pS p 0) || decide (pS p 1 < argS a 0))) }

def opSqrt (_p : List Word) (_st : List Word) (a : List Tok) (_m : Memory) : OpRes :=
  one a (toU18 (roundSqrt ((argV a 0).toNat * 65536)))

/-- ATAN2 is invalid at the origin, where the spec states no value. -/
def opAtan2 (_p : List Word) (_st : List Word) (a : List Tok) (_m : Memory) : OpRes :=
  if argS a 0 = 0 ∧ argS a 1 = 0 then { o0 := (false, Config.atanOrigin) }
  else one a (toS18 (atan2Code (argS a 0) (argS a 1)))

def opSincos (_p : List Word) (_st : List Word) (a : List Tok) (_m : Memory) : OpRes :=
  { o0 := (allOk a, toS18 (sinCode (argS a 0))), o1 := (allOk a, toS18 (cosCode (argS a 0))) }

/-- CMP keeps its bit in bit 0 of its state word. -/
def opCmp (p : List Word) (st : List Word) (a : List Tok) (_m : Memory) : OpRes :=
  let b := bitsOf (stW st 0) 0 1
  if allOk a then
    let h : Int := pU p 0
    let n := if argS a 0 > argS a 1 + h then 1 else if argS a 0 < argS a 1 - h then 0 else b
    { o0 := (true, BitVec.ofNat 18 n), st := [mkW n] }
  else { o0 := (false, BitVec.ofNat 18 b), st := st }

/-- SELECT takes the validity of s and of the chosen input. -/
def opSelect (_p : List Word) (_st : List Word) (a : List Tok) (_m : Memory) : OpRes :=
  let i := if argBit a 0 0 then 1 else 2
  { o0 := (argOk a 0 && argOk a i, argV a i) }

def opBits (p : List Word) (_st : List Word) (a : List Tok) (_m : Memory) : OpRes :=
  one a ((argV a 0 >>> (pU p 1)) &&& BitVec.ofNat 18 (pU p 0))

def opLogic (p : List Word) (_st : List Word) (a : List Tok) (_m : Memory) : OpRes :=
  one a (match pU p 0 with
    | 0 => argV a 0 &&& argV a 1 | 1 => argV a 0 ||| argV a 1 | _ => argV a 0 ^^^ argV a 1)

/-- EDGE keeps the previous level in bit 0 of its state word and its last output in bit 1. -/
def opEdge (p : List Word) (st : List Word) (a : List Tok) (_m : Memory) : OpRes :=
  let w := (stW st 0).toNat
  if allOk a then
    let now := argBit a 0 (pU p 1)
    let prev := if startedBit ≤ w then w.testBit 0 else now
    let sel := pU p 0
    let pulse := (!prev && now && (sel == 1 || sel == 3)) || (prev && !now && (sel == 2 || sel == 3))
    { o0 := (true, flagVal pulse), st := [mkW (startedBit + now.toNat + 2 * pulse.toNat)] }
  else { o0 := (false, flagVal (w.testBit 1)), st := st }

/-- DEBOUNCE keeps its count in bits [13:0] of its state word and its level in bit 14. -/
def opDebounce (p : List Word) (st : List Word) (a : List Tok) (_m : Memory) : OpRes :=
  let w := (stW st 0).toNat
  let level := w.testBit 14
  if allOk a then
    let bit := argBit a 0 0
    let cnt := if bit == level then 0 else w % 16384 + 1
    let flip := bit != level && decide ((if bit then pU p 0 else pU p 1) ≤ cnt)
    let level' := if flip then bit else level
    { o0 := (true, flagVal level'), st := [mkW ((if flip then 0 else cnt) + 16384 * level'.toNat)] }
  else { o0 := (false, flagVal level), st := st }

def opCounter (p : List Word) (st : List Word) (a : List Tok) (_m : Memory) : OpRes :=
  let c := (stW st 0).toNat % 262144
  if allOk a then
    let n := if argBit a 1 0 then 0 else if argBit a 0 0 then min (c + 1) (pU p 0) else c
    { o0 := (true, BitVec.ofNat 18 n), st := [mkW n] }
  else { o0 := (false, BitVec.ofNat 18 c), st := st }

def opTimer (p : List Word) (st : List Word) (a : List Tok) (_m : Memory) : OpRes :=
  let c := (stW st 0).toNat % 262144
  let n := if allOk a then (if argBit a 0 0 then min (c + 1) (pU p 0) else 0) else c
  { o0 := (allOk a, BitVec.ofNat 18 n), o1 := (allOk a, flagVal (decide (n = pU p 0))), st := if allOk a then [mkW n] else st }

/-- LPF1 keeps y as A40 in its two state words. -/
def opLpf1 (p : List Word) (st : List Word) (a : List Tok) (_m : Memory) : OpRes :=
  let started := decide (startedBit ≤ (stW st 1).toNat)
  let y0 := if started then a40Of (stW st 0) (stW st 1) else argS a 0 * 65536
  if allOk a then
    let y := satA40 (y0 + roundDiv (pU p 0 * (argS a 0 * 65536 - y0)) 65536)
    { o0 := (true, round18 y), st := [a40Lo y, mkW (startedBit + a40Hi y)] }
  else { o0 := (false, if started then round18 y0 else Config.beforeFirst 0x18), st := st }

/-- BIQUAD keeps s1 in state words 0 and 1, s2 in words 2 and 1 (its high bits in [15:8]), and its last output in word 3. -/
def opBiquad (p : List Word) (st : List Word) (a : List Tok) (_m : Memory) : OpRes :=
  let s1 := a40Of (stW st 0) (stW st 1)
  let s2 := a40Of (stW st 2) (mkW ((stW st 1).toNat / 256))
  if allOk a then
    let x := argS a 0
    let y := satA40 (pS p 0 * x + s1)
    let s1' := satA40 (roundDiv (pS p 1 * x * 65536 - pS p 3 * y + s2 * 65536) 65536)
    let s2' := satA40 (roundDiv (pS p 2 * x * 65536 - pS p 4 * y) 65536)
    { o0 := (true, round18 y)
      st := [a40Lo s1', mkW (a40Hi s1' + 256 * a40Hi s2'), a40Lo s2', mkW (startedBit + (round18 y).toNat)] }
  else
    { o0 := (false, if startedBit ≤ (stW st 3).toNat then BitVec.ofNat 18 (stW st 3).toNat else Config.beforeFirst 0x19)
      st := st }

/-- RATELIM keeps out in bits [17:0] of its state word. -/
def opRatelim (p : List Word) (st : List Word) (a : List Tok) (_m : Memory) : OpRes :=
  let w := (stW st 0).toNat
  let started := decide (startedBit ≤ w)
  if allOk a then
    let out := if started then signedOf 18 (w % 262144) else argS a 0
    let o := toS18 (out + clampInt (-(pU p 1 : Int)) (pU p 0) (argS a 0 - out))
    { o0 := (true, o), st := [mkW (startedBit + o.toNat)] }
  else { o0 := (false, if started then BitVec.ofNat 18 w else Config.beforeFirst 0x1A), st := st }

/-- DEADBAND removes the band: a value inside it gives 0, a value outside is moved towards 0 by the half-width. -/
def opDeadband (p : List Word) (_st : List Word) (a : List Tok) (_m : Memory) : OpRes :=
  let h : Int := pU p 0
  let x := argS a 0
  one a (toS18 (if x > h then x - h else if x < -h then x + h else 0))

/-- The values held in a window of the given length, newest first, from state words 2 onward. -/
def windowOf (st : List Word) (n : Nat) : List Int := ((st.drop 2).take n).map fun w => signedOf 18 (w.toNat % 262144)

/-- The rounded mean of a window. -/
def meanOf (l : List Int) : Val := toS18 (roundQuot l.sum l.length)

/-- MOVAVG keeps the number of values held in state word 0 and the values, newest first, from word 2 onward. -/
def opMovavg (p : List Word) (st : List Word) (a : List Tok) (_m : Memory) : OpRes :=
  let n := pU p 0
  let held := (stW st 0).toNat
  if allOk a then
    let win := (argS a 0 :: windowOf st held).take n
    { o0 := (decide (win.length = n), meanOf win)
      st := mkW win.length :: 0 :: (win.map fun x => BitVec.ofInt 32 (x.emod 262144)) ++ List.replicate (32 - win.length) 0 }
  else { o0 := (false, if held = 0 then Config.beforeFirst 0x1C else meanOf (windowOf st held)), st := st }

/-- INTEG keeps acc as A40 in its two state words. -/
def opInteg (p : List Word) (st : List Word) (a : List Tok) (_m : Memory) : OpRes :=
  let lo := pS p 1 * 65536
  let hi := pS p 2 * 65536
  let acc0 := if startedBit ≤ (stW st 1).toNat then a40Of (stW st 0) (stW st 1) else clampInt lo hi 0
  if allOk a then
    let acc := if argBit a 1 0 then clampInt lo hi 0 else clampInt lo hi (acc0 + pS p 0 * argS a 0)
    { o0 := (true, round18 acc), st := [a40Lo acc, mkW (startedBit + a40Hi acc)] }
  else { o0 := (false, round18 acc0), st := st }

/-- DERIV keeps prev in bits [17:0] of state word 0 and f, in units of 2^-16, in word 1. -/
def opDeriv (p : List Word) (st : List Word) (a : List Tok) (_m : Memory) : OpRes :=
  let w := (stW st 0).toNat
  let f0 := signedOf 32 (stW st 1).toNat
  if allOk a then
    let prev := if startedBit ≤ w then signedOf 18 (w % 262144) else argS a 0
    let f := f0 + roundDiv (pU p 1 * ((argS a 0 - prev) - f0)) 65536
    { o0 := (true, round18 (pS p 0 * f)), st := [mkW (startedBit + (argV a 0).toNat), BitVec.ofInt 32 f] }
  else { o0 := (false, round18 (pS p 0 * f0)), st := st }

/-- DELAY keeps its 16 entries newest first, VALUE in bits [17:0] and VALID in bit 18. -/
def opDelay (p : List Word) (st : List Word) (a : List Tok) (_m : Memory) : OpRes :=
  let w := (stW st (pU p 0 - 1)).toNat
  { o0 := (w.testBit 18, BitVec.ofNat 18 w)
    st := (mkW ((argV a 0).toNat + 262144 * (argOk a 0).toNat) :: st).take 16 }

/-- LUT1 is invalid for a span of zero or less, where the spec states no value. -/
def opLut1 (p : List Word) (_st : List Word) (a : List Tok) (m : Memory) : OpRes :=
  if pS p 3 ≤ 0 then { o0 := (false, Config.lutNoSpan (argV a 0) 0) }
  else
    let pos := axisPos (argS a 0) (pS p 2) (pS p 3) (pU p 1)
    { o0 := (allOk a, toS18 (m.interp1 false (pU p 0) (pU p 1) pos)), reads := interpReads (pU p 0) (pU p 1) pos }

def opLut2 (p : List Word) (_st : List Word) (a : List Tok) (m : Memory) : OpRes :=
  if pS p 5 ≤ 0 ∨ pS p 6 ≤ 0 then { o0 := (false, Config.lutNoSpan (argV a 0) (argV a 1)) }
  else
    let pr := axisPos (argS a 0) (pS p 3) (pS p 5) (pU p 1)
    let pc := axisPos (argS a 1) (pS p 4) (pS p 6) (pU p 2)
    { o0 := (allOk a, toS18 (m.interp2 false (pU p 0) (pU p 1) (pU p 2) pr pc))
      reads := interp2Reads (pU p 0) (pU p 1) (pU p 2) pr pc }

/-- STEERMAP multiplies the angle by the interpolated U18 ratio (R569). -/
def opSteermap (p : List Word) (_st : List Word) (a : List Tok) (m : Memory) : OpRes :=
  if pS p 5 ≤ 0 ∨ pS p 6 ≤ 0 then { o0 := (false, Config.lutNoSpan (argV a 0) (argV a 1)) }
  else
    let pr := axisPos (argS a 0) (pS p 3) (pS p 5) (pU p 1)
    let pc := axisPos (argS a 1) (pS p 4) (pS p 6) (pU p 2)
    { o0 := (allOk a, toS18 (roundDiv (argS a 0 * m.interp2 true (pU p 0) (pU p 1) (pU p 2) pr pc) 65536))
      reads := interp2Reads (pU p 0) (pU p 1) (pU p 2) pr pc }

/-- The count of RANGECHK, XCHK, PLAUS and STUCK after an activation, saturating at p. -/
def checkCount (p cnt : Nat) (bad : Bool) : Nat := if bad then min (cnt + 1) p else 0

/-- Their flag: 0 while the check is disabled. -/
def checkFlag (p cnt : Nat) : Bool := decide (p ≠ 0) && decide (p ≤ cnt)

/-- A state word with a count in [12:0], a value in [30:13] and the started bit. -/
def checkWord (cnt : Nat) (v : Val) : Word := mkW (startedBit + cnt + 8192 * v.toNat)

/-- The value that such a state word holds. -/
def checkVal (w : Nat) : Val := BitVec.ofNat 18 (w / 8192)

def opRangechk (p : List Word) (st : List Word) (a : List Tok) (_m : Memory) : OpRes :=
  let w := (stW st 0).toNat
  if allOk a then
    let c := checkCount (pU p 2) (w % 8192) (decide (argS a 0 < pS p 0) || decide (pS p 1 < argS a 0))
    { o0 := (true, argV a 0), o1 := (true, flagVal (checkFlag (pU p 2) c)), st := [checkWord c (argV a 0)] }
  else
    { o0 := (false, if startedBit ≤ w then checkVal w else Config.beforeFirst 0x23)
      o1 := (false, flagVal (checkFlag (pU p 2) (w % 8192))), st := st }

def opXchk (p : List Word) (st : List Word) (a : List Tok) (_m : Memory) : OpRes :=
  let w := (stW st 0).toNat
  if allOk a then
    let c := checkCount (pU p 1) (w % 8192) (decide ((pU p 0 : Int) < iabs (argS a 0 - argS a 1)))
    let mean := toS18 (roundDiv (argS a 0 + argS a 1) 2)
    { o0 := (true, mean), o1 := (true, flagVal (checkFlag (pU p 1) c)), st := [checkWord c mean] }
  else
    { o0 := (false, if startedBit ≤ w then checkVal w else Config.beforeFirst 0x24)
      o1 := (false, flagVal (checkFlag (pU p 1) (w % 8192))), st := st }

def opPlaus (p : List Word) (st : List Word) (a : List Tok) (_m : Memory) : OpRes :=
  let w := (stW st 0).toNat
  if allOk a then
    let prev := if startedBit ≤ w then s18 (checkVal w) else argS a 0
    let c := checkCount (pU p 1) (w % 8192) (decide (iabs (argS a 1) + pU p 0 < iabs (argS a 0 - prev)))
    { o0 := (true, flagVal (checkFlag (pU p 1) c)), st := [checkWord c (argV a 0)] }
  else { o0 := (false, flagVal (checkFlag (pU p 1) (w % 8192))), st := st }

/-- VALIDOR states its own validity. -/
def opValidor (_p : List Word) (_st : List Word) (a : List Tok) (_m : Memory) : OpRes :=
  { o0 := if argOk a 0 then (true, argV a 0) else if argOk a 1 then (true, argV a 1) else (false, argV a 0) }

/-- STUCK keeps its count in state word 0 and ref in word 1. -/
def opStuck (p : List Word) (st : List Word) (a : List Tok) (_m : Memory) : OpRes :=
  let w := (stW st 0).toNat
  if allOk a then
    let ref := if startedBit ≤ w then stW st 1 else mkW (argV a 0).toNat
    let still := argBit a 1 0 && decide (iabs (argS a 0 - signedOf 18 (ref.toNat % 262144)) < pU p 1)
    let c := checkCount (pU p 0) (w % 8192) still
    { o0 := (true, flagVal (checkFlag (pU p 0) c)), st := [mkW (startedBit + c), if still then ref else mkW (argV a 0).toNat] }
  else { o0 := (false, flagVal (checkFlag (pU p 0) (w % 8192))), st := st }

/-- BRIDGECMD (R212): always valid; ENABLE is cleared when an input is invalid. -/
def opBridgecmd (p : List Word) (_st : List Word) (a : List Tok) (_m : Memory) : OpRes :=
  let en := argBit a 1 2 && argOk a 0 && argOk a 1
  let dir := decide (argS a 0 < 0)
  let d := imin (imin (roundDiv (iabs (argS a 0)) 4) (roundDiv (pU p 0) 4)) 16383
  { o0 := (true, BitVec.ofNat 18 (en.toNat * 131072 + dir.toNat * 65536 + (argV a 1).toNat % 4 * 16384 + d.toNat)) }

/-- SAFEOUT (R312): every bit of the mask is set when an input is invalid. -/
def opSafeout (p : List Word) (_st : List Word) (a : List Tok) (_m : Memory) : OpRes :=
  one a (argV a 0 ||| argV a 1 ||| (if allOk a then 0 else BitVec.ofNat 18 (pU p 0)))

/-- SIGENC (R570). -/
def opSigenc (p : List Word) (_st : List Word) (a : List Tok) (_m : Memory) : OpRes :=
  let len := pU p 0
  let q := roundQuot (argS a 0 - pS p 3) (pS p 2)
  let q' := if pU p 1 = 1 then clampInt (-(2 ^ (len - 1))) (2 ^ (len - 1) - 1) q else clampInt 0 (2 ^ len - 1) q
  one a (BitVec.ofInt 18 (q'.emod (2 ^ len)))

/-- SIGDEC (R570): invalid when the field equals the invalid code. -/
def opSigdec (p : List Word) (_st : List Word) (a : List Tok) (_m : Memory) : OpRes :=
  let len := pU p 1
  let f := (argV a 0).toNat / 2 ^ pU p 0 % 2 ^ len
  let v : Int := if pU p 2 = 1 then signedOf len f else f
  { o0 := (allOk a && decide (f ≠ pU p 5), toS18 (v * pS p 3 + pS p 4)) }

/-- AGECHK: invalid when the age exceeds the limit. -/
def opAgechk (p : List Word) (_st : List Word) (a : List Tok) (_m : Memory) : OpRes :=
  { o0 := (allOk a && decide ((argV a 1).toNat ≤ pU p 0), argV a 0) }

def opMux4 (_p : List Word) (_st : List Word) (a : List Tok) (_m : Memory) : OpRes :=
  one a (match (argV a 0).toNat % 4 with | 1 => argV a 2 | 2 => argV a 3 | _ => argV a 1)

/-- The lowest-numbered present event below n. -/
def firstEvent (ev n : Nat) : Option Nat := (List.range n).find? fun e => ev.testBit e

/-- STATEMACH (R570) keeps its state in bits [3:0] of its state word and its last actions in [17:4]. -/
def opStatemach (p : List Word) (st : List Word) (a : List Tok) (_m : Memory) : OpRes :=
  let w := (stW st 0).toNat
  let s := if startedBit ≤ w then w % 16 else pU p 2
  if allOk a then
    let (s', act) := match firstEvent (argV a 0).toNat (pU p 1) with
      | some e => let t := pU p (4 + pU p 1 * s + e); (t % 16, t / 16 % 16384)
      | none => (s, 0)
    { o0 := (true, BitVec.ofNat 18 s'), o1 := (true, BitVec.ofNat 18 act), st := [mkW (startedBit + s' + 16 * act)] }
  else { o0 := (false, BitVec.ofNat 18 s), o1 := (false, BitVec.ofNat 18 (w / 16 % 16384)), st := st }

def opPoly (p : List Word) (_st : List Word) (a : List Tok) (_m : Memory) : OpRes :=
  let x := argS a 0
  one a (toS18 (roundDiv (pS p 0 * 2 ^ 48 + pS p 1 * x * 2 ^ 32 + pS p 2 * x ^ 2 * 2 ^ 16 + pS p 3 * x ^ 3) (2 ^ 48)))

end Sys2Proof.Machine
end

