-- ==== Sys2Proof/Machine/Percolator.lean ====
section
/-!
DEFINITION. The Percolator and Hopper (chapter 04): descriptors and arcs, tokens, readiness, placement and dispatch, completion of
a node, and releases.
-/
namespace Sys2Proof.Machine

open Sys2Proof

/-! ### Tables (R149, R153) -/

/-- Bits [lo + n - 1 : lo] of a node descriptor. -/
def ndBits (d : BitVec 128) (lo n : Nat) : Nat := d.toNat / 2 ^ lo % 2 ^ n

/-- Fields of a node descriptor. -/
def ndOpcode (d : BitVec 128) : Nat := ndBits d 0 6
def ndFlow (d : BitVec 128) : Nat := ndBits d 6 4
def ndPrio (d : BitVec 128) : Nat := ndBits d 10 2
def ndNin (d : BitVec 128) : Nat := ndBits d 12 3
def ndPersist (d : BitVec 128) : Bool := ndBits d 15 1 = 1
def ndIn (d : BitVec 128) (p : Nat) : Nat := ndBits d (16 + 12 * p) 12
def ndOutBase (d : BitVec 128) (o : Nat) : Nat := ndBits d (64 + 18 * o) 12
def ndOutCnt (d : BitVec 128) (o : Nat) : Nat := ndBits d (76 + 18 * o) 6
def ndParam (d : BitVec 128) : Nat := ndBits d 100 16
def ndParamLen (d : BitVec 128) : Nat := ndBits d 116 8

/-- Fields of an arc entry. -/
def arcKind (w : Word) : Nat := bitsOf w 0 2
/-- LATCHED has its meaning on arcs of KIND 0 and 2 only (R149). -/
def arcLatched (w : Word) : Bool := decide (bitsOf w 2 1 = 1) && decide (arcKind w ≠ 1)
def arcDstPort (w : Word) : Nat := bitsOf w 3 2
def arcDst (w : Word) : Nat := bitsOf w 5 10
def arcSrcKind (w : Word) : Nat := bitsOf w 16 2
def arcSrcIndex (w : Word) : Nat := bitsOf w 18 8

/-- The descriptor of node n and the entry of arc a in a bank. -/
def Pcl.node (p : Pcl) (bank n : Nat) : BitVec 128 := Sparse.get 0 p.nodes (1024 * bank + n)
def Pcl.arc (p : Pcl) (bank a : Nat) : Word := Sparse.get 0 p.arcs (4096 * bank + a)

/-- The nodes of a bank that belong to a flow, ascending. A descriptor of zero is no node. -/
def Pcl.flowNodes (p : Pcl) (bank flow : Nat) : List Nat :=
  (p.nodes.filter fun e => decide (e.1 / 1024 = bank) && decide (ndFlow e.2 = flow)).map fun e => e.1 % 1024

/-- The arcs of a bank whose entry is not zero, ascending, with their entries. -/
def Pcl.bankArcs (p : Pcl) (bank : Nat) : List (Nat × Word) :=
  (p.arcs.filter fun e => decide (e.1 / 4096 = bank)).map fun e => (e.1 % 4096, e.2)

/-- The operator's worst case (R169), in core cycles. -/
def wcetOf (opcode : Nat) : Nat :=
  [8, 6, 10, 10, 12, 14, 40, 8, 8, 12, 10, 10, 14, 48, 96, 64, 12, 10, 8, 8, 10, 14, 12, 14, 16, 40, 16, 10, 24, 20, 18, 12,
   36, 72, 80, 14, 18, 16, 10, 14, 14, 10, 16, 16, 10, 12, 40, 24].getD opcode 0

/-- The operator's state size in words (R169). -/
def stateSize (opcode : Nat) : Nat :=
  match opcode with
  | 0x10 | 0x14 | 0x15 | 0x16 | 0x17 | 0x1A | 0x23 | 0x24 | 0x25 | 0x2E => 1
  | 0x18 | 0x1D | 0x1E | 0x27 => 2
  | 0x19 => 4 | 0x1C => 34 | 0x1F => 16 | _ => 0

/-! ### Parameters and persistent state in lane SRAM (R154) -/

/-- The address of a node's parameter block. -/
def Lane.paramAddr (l : Lane) (d : BitVec 128) : Nat := 16 * l.rd PCL.PARAM_BASE_BASE + 16 * ndParam d

/-- The address of a node's committed or working state copy. -/
def Lane.stateAddr (l : Lane) (d : BitVec 128) (working : Bool) : Nat :=
  l.paramAddr d + 4 * ndParamLen d + (if working then 4 * stateSize (ndOpcode d) else 0)

/-- A node's state copies made equal: working taken from committed, or committed from working. -/
def Lane.copyState (l : Lane) (d : BitVec 128) (commit : Bool) : Lane :=
  if ndPersist d then l.moveWords 0x7 (l.stateAddr d commit) (l.stateAddr d (!commit)) (stateSize (ndOpcode d)) else l

/-- copyState for every node of a flow in a bank. -/
def Lane.copyFlowState (l : Lane) (bank flow : Nat) (commit : Bool) : Lane :=
  (l.pcl.flowNodes bank flow).foldl (fun m n => m.copyState (m.pcl.node bank n) commit) l

/-! ### Cores -/

/-- Core c. -/
def Lane.core (l : Lane) (c : Nat) : Core := Sparse.get {} l.pcl.cores c

/-- The lane with core c replaced. -/
def Lane.setCore (l : Lane) (c : Nat) (k : Core) : Lane := { l with pcl := { l.pcl with cores := Sparse.set {} l.pcl.cores c k } }

/-- The lane with the Percolator replaced by a function of it. -/
def Lane.onPcl (l : Lane) (f : Pcl → Pcl) : Lane := { l with pcl := f l.pcl }

/-- Whether slow flows are served atomically (R148). -/
def Lane.atomic (l : Lane) : Bool := decide (l.xla.mode = .snuffed)

/-- Whether some core runs, has saved or is about to start a node of the flow. -/
def Lane.flowInService (l : Lane) (flow : Nat) : Bool :=
  l.pcl.cores.any fun e => (match e.2.run with | some w => decide (w.flow = flow) | none => false) ||
    (match e.2.preempt with | some w => decide (w.flow = flow) | none => false) || e.2.ctx.any fun w => decide (w.flow = flow)

/-- Whether a ready node may be dispatched in the present phase and service (R147, R148). -/
def Lane.mayRun (l : Lane) (w : Work) : Bool :=
  match l.clk.phase with
  | .fast => decide (w.flow = 0)
  | .background => decide (w.flow ≠ 0) && !(l.atomic && l.flowInService w.flow)
  | _ => false

/-- The histogram bin of a waiting time (R172). -/
def waitBin (t : Nat) : Nat := if t < 16 then 0 else min 15 (Nat.log2 t - 3)

/-- The core with its queue-depth statistics brought up to a tick (R171). -/
def Core.tally (k : Core) (now : Nat) : Core :=
  { k with qSum := k.qSum + k.queue.length * (now - k.qSince), qSince := now, qMax := max k.qMax k.queue.length }

/-- A list with a ready node entered by priority and then by the time it became ready (R159). -/
def enqueue (w : Work) : List Work → List Work
  | [] => [w]
  | x :: xs => if w.prio < x.prio ∨ (w.prio = x.prio ∧ w.ready < x.ready) then w :: x :: xs else x :: enqueue w xs

/-- The activation of a flow. -/
def Lane.act (l : Lane) (flow : Nat) : Option Activation := Sparse.get none l.pcl.acts flow

/-- The lane with a flow's activation replaced. -/
def Lane.setAct (l : Lane) (flow : Nat) (a : Option Activation) : Lane :=
  l.onPcl fun p => { p with acts := Sparse.set none p.acts flow a }

/-- Whether a flow's activation carries the given SEQ. -/
def Lane.actIs (l : Lane) (flow : Nat) (seq : BitVec 16) : Bool :=
  match l.act flow with | some a => decide (a.seq = seq) | none => false

/-- The token held in a Hopper slot and at an engine port. -/
def Lane.slotTok (l : Lane) (bank arc : Nat) : Option Tok := Sparse.get none l.pcl.hop (4096 * bank + arc)
def Lane.portTok (l : Lane) (bank port : Nat) : Option Tok := Sparse.get none l.pcl.ports (48 * bank + port)

/-- An activation's first dispatch puts it in service (R147). -/
def Lane.beginService (l : Lane) (flow : Nat) (seq : BitVec 16) : Lane :=
  match l.act flow with
  | some a => if a.seq = seq then l.setAct flow (some { a with begun := true }) else l
  | none => l

/-- A core starts a node: its operands are read, its slots are freed, and the wait is counted (R156, R172). -/
def Lane.startNode (l : Lane) (c : Nat) (w : Work) : Lane :=
  let d := l.pcl.node w.bank w.node
  let ins := (List.range (ndNin d)).map fun p => ndIn d p
  let args := ins.map fun a => (l.slotTok w.bank a).getD ⟨w.flow, w.seq, false, 0⟩
  let k := (l.core c).tally l.clk.now
  let b := waitBin (l.clk.now - w.ready)
  let l1 := l.setCore c { k with run := some { w with args := args, start := l.clk.now }
                                 hist := Sparse.set 0 k.hist b (Sparse.get 0 k.hist b + 1) }
  (l1.onPcl fun p => { p with hop := ins.foldl (fun h a => Sparse.set none h (4096 * w.bank + a) none) p.hop }).beginService w.flow w.seq

/-- A core resumes a saved node. -/
def Lane.resumeNode (l : Lane) (c : Nat) (w : Work) : Lane :=
  let k := (l.core c).tally l.clk.now
  let b := waitBin (l.clk.now - w.ready)
  l.setCore c { k with run := some { w with start := l.clk.now }, ctx := k.ctx.filter fun x => decide (x ≠ w)
                       hist := Sparse.set 0 k.hist b (Sparse.get 0 k.hist b + 1) }

/-- The lowest-numbered core of which p holds. -/
def Lane.firstCore (l : Lane) (p : Core → Bool) : Option Nat := [0, 1, 2, 3].find? fun c => p (l.core c)

/-- The core with the fewest queued entries, the lowest-numbered on a tie. -/
def Lane.leastQueued (l : Lane) : Nat :=
  [1, 2, 3].foldl (fun b c => if (l.core c).queue.length < (l.core b).queue.length then c else b) 0

/-- The core with the longest queue, the lowest-numbered on a tie. -/
def Lane.mostQueued (l : Lane) : Nat :=
  [1, 2, 3].foldl (fun b c => if (l.core b).queue.length < (l.core c).queue.length then c else b) 0

/-- Whether a core is idle for a node of the given priority: it runs none, and no context that it may resume goes ahead (R160). -/
def Lane.idleFor (l : Lane) (prio : Nat) (k : Core) : Bool :=
  k.run.isNone && (decide (l.clk.phase ≠ .background) || k.ctx.all fun x => decide (prio < x.prio))

/-- A ready node that may be dispatched is placed (R159): on an idle core, on a core that runs a node of lower priority, or in the
shortest queue. DESIGN CHOICE: R159 is silent on a core that already waits for the safe point of a pre-emption; it is passed over for the next such
core or a queue (log entry 74). -/
def Lane.place (l : Lane) (w : Work) : Lane :=
  match l.firstCore (l.idleFor w.prio) with
  | some c => l.startNode c w
  | none =>
    match l.firstCore (fun k => k.preempt.isNone && match k.run with | some r => decide (w.prio < r.prio) | none => false) with
    | some c => l.setCore c { l.core c with preempt := some w }
    | none =>
      let c := l.leastQueued
      let k := (l.core c).tally l.clk.now
      l.setCore c (({ k with queue := enqueue w k.queue } : Core).tally l.clk.now)

/-- A ready node is placed when it may be dispatched, and waits on otherwise. DESIGN CHOICE: a node that becomes ready outside the phase of
its flow waits in a list beside the cores' queues, and is not part of their depth (log entry 74). -/
def Lane.placeOrWait (l : Lane) (w : Work) : Lane :=
  if l.mayRun w then l.place w else l.onPcl fun p => { p with waiting := enqueue w p.waiting }

/-- The first entry of a core's queue that may be dispatched. -/
def Lane.queueHead (l : Lane) (c : Nat) : Option Work := (l.core c).queue.find? fun w => l.mayRun w

/-- Core c starts a node taken from the queue of core q. -/
def Lane.takeFrom (l : Lane) (c q : Nat) (w : Work) : Lane :=
  let k := (l.core q).tally l.clk.now
  (l.setCore q { k with queue := k.queue.filter fun x => decide (x ≠ w) }).startNode c w

/-- The saved context that an idle core resumes first: the highest priority, in the background phase. -/
def Lane.ctxHead (l : Lane) (c : Nat) : Option Work :=
  if l.clk.phase = .background then (l.core c).ctx.foldl (fun b w => match b with
    | none => some w | some x => if w.prio < x.prio then some w else some x) none
  else none

/-- A core starts a node that may be dispatched; any other waits on. -/
def Lane.startOrWait (l : Lane) (c : Nat) (w : Work) : Lane :=
  if l.mayRun w then l.startNode c w else l.onPcl fun p => { p with waiting := enqueue w p.waiting }

/-- An idle core takes a node that waited for a pre-emption, its saved context or its queue head, a context going ahead of
entries of equal or lower priority; with neither, the head of the longest other queue (R159, R160). -/
def Lane.takeNext (l : Lane) (c : Nat) : Lane :=
  let k := l.core c
  if k.run.isSome then l
  else
    match k.preempt with
    | some w => (l.setCore c { k with preempt := none }).startOrWait c w
    | none =>
      match l.ctxHead c, l.queueHead c with
      | some x, some w => if w.prio < x.prio then l.takeFrom c c w else l.resumeNode c x
      | some x, none => l.resumeNode c x
      | none, some w => l.takeFrom c c w
      | none, none =>
        if k.queue.isEmpty then
          match l.queueHead l.mostQueued with
          | some w => l.takeFrom c l.mostQueued w
          | none => l
        else l

/-- Idle cores take work, saved contexts and queued nodes first, and the waiting nodes are then placed (R147, R159, R160). -/
def Lane.pump (l : Lane) : Lane :=
  let l1 := [0, 1, 2, 3].foldl Lane.takeNext l
  l1.pcl.waiting.foldl Lane.placeOrWait (l1.onPcl fun p => { p with waiting := [] })

/-! ### Tokens -/

/-- A node becomes ready (R156). -/
def Lane.makeReady (l : Lane) (bank n flow : Nat) (seq : BitVec 16) : Lane :=
  let w : Work := { bank := bank, node := n, flow := flow, seq := seq, prio := ndPrio (l.pcl.node bank n), ready := l.clk.now }
  l.onPcl fun p => { p with waiting := enqueue w p.waiting, readied := p.readied + 1 }

/-- Whether a token of the given SEQ is present on every used port of a node. -/
def Lane.nodeReady (l : Lane) (bank n : Nat) (seq : BitVec 16) : Bool :=
  let d := l.pcl.node bank n
  (List.range (ndNin d)).all fun p =>
    match l.slotTok bank (ndIn d p) with | some t => decide (t.seq = seq) | none => false

/-- An entry joins the release buffer (R163). -/
def Lane.addRel (l : Lane) (r : Rel) : Lane :=
  l.onPcl fun p => { p with rels := p.rels ++ [r], rbMax := max p.rbMax (p.rels.length + 1) }

/-- A token arrives at the consumer of an arc (R149, R156, R157): a Hopper slot, the release buffer or an engine port. -/
def Lane.deliver (l : Lane) (bank arc : Nat) (t : Tok) : Lane :=
  let w := l.pcl.arc bank arc
  match arcKind w with
  | 0 =>
    let l1 := l.onPcl fun p =>
      let h := Sparse.set none p.hop (4096 * bank + arc) (some t)
      { p with hop := h, hwm := max p.hwm h.length }
    if l1.nodeReady bank (arcDst w) t.seq then l1.makeReady bank (arcDst w) t.flow t.seq else l1
  | 1 => l.addRel ⟨t.flow, t.seq, bank, arc, t.valid, t.value⟩
  | _ => l.onPcl fun p => { p with ports := Sparse.set none p.ports (48 * bank + arcDst w) (some t) }

/-- An output value leaves a node or engine unit on one arc: a latched arc's new value waits for release (R163). -/
def Lane.sendArc (l : Lane) (bank arc : Nat) (t : Tok) : Lane :=
  if arcLatched (l.pcl.arc bank arc) then l.addRel ⟨t.flow, t.seq, bank, arc, t.valid, t.value⟩ else l.deliver bank arc t

/-- A node output goes to its arcs. -/
def Lane.sendOutput (l : Lane) (w : Work) (o : Nat) (v : Out) : Lane :=
  let d := l.pcl.node w.bank w.node
  (List.range (ndOutCnt d o)).foldl
    (fun m i => m.sendArc w.bank (ndOutBase d o + i) ⟨w.flow, w.seq, v.1, v.2⟩) l

/-- An engine unit's output goes to its arcs. -/
def Lane.sendUnit (l : Lane) (bank u flow : Nat) (seq : BitVec 16) (v : Out) : Lane :=
  (l.pcl.bankArcs bank).foldl (fun m e =>
    if arcSrcKind e.2 = 2 ∧ arcSrcIndex e.2 = u then m.sendArc bank e.1 ⟨flow, seq, v.1, v.2⟩ else m) l

/-! ### Engine units and the table words that readers meet -/

/-- The registers under which an activation started in cycle c runs its engine units (R206): those before the first commit after c. -/
def Lane.engineRegs (l : Lane) (c : Word) : Sparse Word :=
  match l.cen.old.find? fun e => ahead c e.m with
  | some e => e.regs
  | none => l.regs

/-- Whether an engine unit is enabled under a register map, and its flow. -/
def unitEnabled (r : Sparse Word) (u : Nat) : Bool :=
  if u < 8 then cfgRd r CEN.SLOT_CFG_ENABLE u = 1 else cfgRd r PGN.CFG_ENABLE (u - 8) = 1
def unitFlow (r : Sparse Word) (u : Nat) : Nat :=
  if u < 8 then cfgRd r CEN.SLOT_CFG_FLOW u else cfgRd r PGN.CFG_FLOW (u - 8)

/-- The engine units that a flow runs. -/
def flowUnits (r : Sparse Word) (flow : Nat) : List Nat :=
  (List.range 12).filter fun u => unitEnabled r u && decide (unitFlow r u = flow)

/-- Whether an activation has completed: every node and engine unit of its flow has. -/
def Lane.actComplete (l : Lane) (flow : Nat) (a : Activation) : Bool :=
  !a.dead && decide ((l.pcl.flowNodes a.bank flow).length + (flowUnits (l.engineRegs a.start) flow).length ≤ a.done)

/-- The measured response of an activation (R173): core cycles from its start to the present tick, within the phases in which its flow may run. -/
def Lane.response (l : Lane) (flow : Nat) (a : Activation) : Nat :=
  if flow = 0 then min l.tick 2940 - (a.since - l.clk.base)
  else (l.clk.cycles - a.cycles) * (l.cycleLen - 3300) + (l.tick - 3300)

/-- The longest response of the statistics period with one more measured. -/
def Lane.measure (l : Lane) (flow n : Nat) : Lane :=
  l.onPcl fun p => { p with flowMax := Sparse.set 0 p.flowMax flow (max (Sparse.get 0 p.flowMax flow) n) }

/-- One more node or engine unit of a flow's activation has completed; the last one ends its service, and its response is measured. -/
def Lane.unitDone (l : Lane) (flow : Nat) : Lane :=
  match l.act flow with
  | some a =>
    let a1 := { a with done := a.done + 1, begun := true }
    let l1 := l.setAct flow (some a1)
    if l1.actComplete flow a1 then l1.measure flow (l1.response flow a1) else l1
  | none => l

/-- Whether a flow's activation is in service (R147): from its first dispatch until its last node completes. -/
def Lane.inService (l : Lane) (flow : Nat) : Bool :=
  match l.act flow with | some a => a.begun && !l.actComplete flow a | none => false

/-- A correctable or uncorrectable error in a table word met by a reader (R183, R186, R208): unit is its reader code. -/
def Lane.tableCe (l : Lane) (w : Nat) : Lane :=
  (({ l with mem := { l.mem with tableErr := Sparse.set 0 l.mem.tableErr w 0 } } : Lane).bump CEN.TBL_CE_COUNT_COUNT).fault 0x31
def Lane.tableUe (l : Lane) (w unit : Nat) (syn : Nat) : Lane :=
  (((((l.flag CEN.TBL_ERR_UE true).flag
    CEN.TBL_ERR_SCRUB (decide (unit = 0xF))).wr CEN.TBL_ERR_UNIT unit).wr CEN.TBL_ERR_SYNDROME syn).wr CEN.TBL_ERR_WORD w).fault
    0x30 (BitVec.ofNat 32 w)

/-- An uncorrectable error that stays in the word. -/
def Lane.tableBad (l : Lane) (w unit syn : Nat) : Lane :=
  ({ l with mem := { l.mem with tableErr := Sparse.set 0 l.mem.tableErr w 2 } } : Lane).tableUe w unit syn

/-- A reader takes word w (R183): the upset found with it adds to its stored error; false means uncorrectable. A word that was written at
another number is uncorrectable, and the word that should have been read stays as it is. -/
def Lane.tableMeet (l : Lane) (unit w : Nat) (up : Upset) : Lane × Bool :=
  match up, Sparse.get 0 l.mem.tableErr w with
  | .misplaced syn, _ => (l.tableUe w unit (syn.toNat % 64), false)
  | .double syn, _ => (l.tableBad w unit (syn.toNat % 64), false)
  | .none, 0 => (l, true)
  | .none, 1 | .single, 0 => (l.tableCe w, true)
  | _, _ => (l.drew.tableBad w unit ((Config.syndrome l.free).toNat % 64), false)

/-- The words that a reader takes, with the errors that it meets handled; false when one is uncorrectable. An upset is met by the first read of its
word alone: what that read corrects it has also written back (R183). -/
def Lane.tableReads (l : Lane) (unit : Nat) (ws : List Nat) (hits : Hits) : Lane × Bool :=
  (ws.foldl (fun (s : (Lane × Bool) × Hits) w =>
    let r := s.1.1.tableMeet unit w (hitAt s.2 w)
    ((r.1, s.1.2 && r.2), s.2.filter fun h => decide (h.1 ≠ w))) ((l, true), hits)).1

/-! ### Completion of a node -/

/-- The meaning of an operator as a function of parameters, state, inputs and memory. -/
abbrev OpFn := List Word → List Word → List Tok → Memory → OpRes

/-- The core reads the parameter block of a node and its committed state; false when a word of them is uncorrectable (R76, R77). -/
def Lane.nodeLoad (l : Lane) (c : Nat) (d : BitVec 128) : Lane × Bool :=
  let p := l.sramLoad (c + 1) (l.paramAddr d) (4 * ndParamLen d)
  let s := if ndPersist d then p.1.sramLoad (c + 1) (l.stateAddr d false) (4 * stateSize (ndOpcode d)) else (p.1, true)
  (s.1, p.2 && s.2)

/-- The value of an output whose node met an uncorrectable word of lane SRAM is open, and not valid. -/
def Lane.openOut (l : Lane) (ok : Bool) (v : Out) : Lane × Out :=
  if ok then (l, v) else (l.drew, (false, BitVec.ofInt 18 (Config.openValue l.free)))

/-- The running node of core c completes with its operator's result: its state goes into the working copy, its outputs onto their
arcs. Results of an activation that no longer runs are dropped. DESIGN CHOICE: an operator that reads an uncorrectable table word delivers its result
with VALID 0 (log entry 87); one whose parameters or state are uncorrectable stores nothing and delivers open values with VALID 0 (log entry 35). -/
def Lane.completeNode (l : Lane) (c : Nat) (w : Work) (f : OpFn) (hits : Hits := []) : Lane :=
  let d := l.pcl.node w.bank w.node
  let r := f (l.mem.words (l.paramAddr d) (ndParamLen d)) (l.mem.words (l.stateAddr d false) (stateSize (ndOpcode d))) w.args l.mem
  let (m, read) := l.nodeLoad c d
  let (l0, ok) := m.tableReads 0xC r.reads hits
  let k := (l0.core c).tally l0.clk.now
  let l1 := l0.setCore c { k with run := none, busy := k.busy + (l0.clk.now - w.start) }
  (if l1.actIs w.flow w.seq then
    let l2 := if ndPersist d && read then l1.storeWords (c + 1) (l1.stateAddr d true) r.st else l1
    let (l3, o0) := l2.openOut read (r.o0.1 && ok, r.o0.2)
    let (l4, o1) := l3.openOut read (r.o1.1 && ok, r.o1.2)
    ((l4.unitDone w.flow).sendOutput w 0 o0).sendOutput w 1 o1
  else l1).pump

/-- The operator of the given code completes on core c, when that core runs a node of it. -/
def Lane.runOp (l : Lane) (c code : Nat) (f : OpFn) (hits : Hits := []) : Lane :=
  l.gated 1 (match (l.core c).run with
    | some w => if ndOpcode (l.pcl.node w.bank w.node) = code then l.completeNode c w f hits else l
    | none => l)

/-! ### Starting activations (R144 to R146, R151, R152) -/

/-- The status word of R107. -/
def Lane.formStatus (l : Lane) : Val :=
  let x := l.xla
  BitVec.ofNat 18 (x.mode.code + 8 * x.vset.mask + 64 * x.authCode + 256 * x.held.toNat + 512 * x.lst.a.code
    + 4096 * x.lst.b.code + 32768 * x.lst.c.code)

/-- Agreed value k with its valid bit; index 128 is the status word (R107, R151). -/
def Lane.agreedTok (l : Lane) (k : Nat) : Out :=
  if k = 128 then (true, l.xla.statusWord)
  else ((regWord l.regs (XLA.VALID_VALID.at_ (k / 32) 0)).getLsbD (k % 32), Sparse.get 0 l.xla.agreed k)

/-- The flow of an arc's consumer. -/
def Lane.consumerFlow (l : Lane) (bank : Nat) (w : Word) : Nat :=
  match arcKind w with
  | 0 => ndFlow (l.pcl.node bank (arcDst w))
  | 2 => unitFlow l.regs (arcDst w / 4)
  | _ => 0

/-- The source and latched tokens of a flow's activation are injected, and nodes without ports are ready (R151, R152, R154). -/
def Lane.inject (l : Lane) (flow : Nat) (seq : BitVec 16) : Lane :=
  let b := l.pcl.bank
  let l1 := (l.pcl.flowNodes b flow).foldl
    (fun m n => if ndNin (m.pcl.node b n) = 0 then m.makeReady b n flow seq else m) l
  (l1.pcl.bankArcs b).foldl (fun m e =>
    if l.consumerFlow b e.2 = flow then
      if arcSrcKind e.2 = 1 then
        let v := m.agreedTok (arcSrcIndex e.2)
        m.deliver b e.1 ⟨flow, seq, v.1, v.2⟩
      else if arcLatched e.2 then
        let v := Sparse.get 0 m.pcl.latched (4096 * b + e.1)
        m.deliver b e.1 ⟨flow, seq, v.getLsbD 18, v.setWidth 18⟩
      else m
    else m) l1

/-- An activation of a flow starts in this cycle with the given nominal start and release. -/
def Lane.activate (l : Lane) (flow : Nat) (nominal release : Word) : Lane :=
  let seq := l.ccn.setWidth 16
  (((l.setAct flow (some { seq := seq, bank := l.pcl.bank, nominal := nominal, start := l.ccn, release := release
                           since := l.clk.now, cycles := l.clk.cycles })).wr
    PCL.FLOW_STATUS_LAST_SEQ seq.toNat flow).inject flow seq)

/-- Core c without the ready nodes of which p holds. -/
def Lane.dropQueued (l : Lane) (p : Nat → BitVec 16 → Bool) (c : Nat) : Lane :=
  let k := l.core c
  let goes := fun (w : Work) => p w.flow w.seq
  if k.queue.any goes || k.preempt.any goes then
    l.setCore c { k.tally l.clk.now with queue := k.queue.filter fun w => !goes w, preempt := k.preempt.filter fun w => !goes w }
  else l

/-- The tokens and ready nodes of which p holds, by flow and SEQ, are discarded. -/
def Lane.dropWork (l : Lane) (p : Nat → BitVec 16 → Bool) : Lane :=
  let keep := fun (e : Nat × Option Tok) => match e.2 with | some t => !p t.flow t.seq | none => true
  [0, 1, 2, 3].foldl (fun (m : Lane) c => m.dropQueued p c) (l.onPcl fun q =>
    { q with hop := q.hop.filter keep, ports := q.ports.filter keep, waiting := q.waiting.filter fun w => !p w.flow w.seq })

/-- The tokens and ready nodes of an activation are discarded (R145, R158). -/
def Lane.dropTokens (l : Lane) (flow : Nat) (seq : BitVec 16) : Lane :=
  l.dropWork fun f q => decide (f = flow) && decide (q = seq)

/-- The tokens and ready nodes of flow 0 are discarded, whichever activation they are of (R158). -/
def Lane.dropFast (l : Lane) : Lane := l.dropWork fun f _ => decide (f = 0)

/-- The entries of an activation leave the release buffer without effect. -/
def Lane.dropRels (l : Lane) (flow : Nat) (seq : BitVec 16) : Lane :=
  l.onPcl fun p => { p with rels := p.rels.filter fun r => !(decide (r.flow = flow) && decide (r.seq = seq)) }

/-- Whether a slow flow is enabled, and whether it is due in the present cycle (R142). -/
def Lane.slowDue (l : Lane) (flow : Nat) : Bool :=
  l.on PCL.FLOW_CFG_ENABLE flow && decide (0 < l.rd PCL.FLOW_CFG_PERIOD flow) &&
    decide (l.ccn.toNat % l.rd PCL.FLOW_CFG_PERIOD flow = l.rd PCL.FLOW_CFG_PHASE flow % l.rd PCL.FLOW_CFG_PERIOD flow)

/-- The span k of a slow flow (R167), from the bound that the load check recorded. -/
def Lane.span (l : Lane) (flow : Nat) : Nat := ceilDiv (l.rd PCL.FLOW_BOUND_BOUND flow) (l.cycleLen - 3500)

/-- A deferred activation is skipped (R146). -/
def Lane.skipSlow (l : Lane) (flow : Nat) : Lane :=
  ((l.onPcl fun p => { p with due := Sparse.set none p.due flow none }).bump PCL.FLOW_STATUS_SKIPS flow).fault 0x26

/-- Injection for a slow flow at 2.9 µs: when it is due, or when a deferred start waits for a committing cycle (R145). A start
still deferred when the next one falls due is skipped. hold: this is a migration hold cycle, in which no flow starts. -/
def Lane.slowInject (l : Lane) (hold : Bool) (flow : Nat) : Lane :=
  let waiting := Sparse.get none l.pcl.due flow
  if !l.on PCL.FLOW_CFG_ENABLE flow then l
  else if l.slowDue flow then
    let l1 := if waiting.isSome then l.skipSlow flow else l
    let l2 := l1.onPcl fun p => { p with due := Sparse.set none p.due flow (some l.ccn) }
    if hold || (l.act flow).isSome then l2
    else l2.activate flow l.ccn (l.ccn + BitVec.ofNat 32 (l.rd PCL.FLOW_CFG_PERIOD flow))
  else match waiting with
    | some s => if hold || (l.act flow).isSome then l
                else l.activate flow s (s + BitVec.ofNat 32 (l.rd PCL.FLOW_CFG_PERIOD flow))
    | none => l

/-- The slow flows. -/
def slowFlows : List Nat := [1, 2, 3, 4, 5, 6, 7, 8, 9, 10, 11, 12, 13, 14, 15]

/-! ### Releases (R163, R164) -/

/-- The producer of an arc: the node and output that feed it, or its source fields. -/
def Pcl.producer (p : Pcl) (bank a : Nat) : Option (Nat × Nat) :=
  let w := p.arc bank a
  if arcSrcKind w = 0 then
    (p.nodes.find? fun e => decide (e.1 / 1024 = bank) && ((decide (ndOutBase e.2 0 ≤ a) && decide (a < ndOutBase e.2 0 + ndOutCnt e.2 0))
      || (decide (ndOutBase e.2 1 ≤ a) && decide (a < ndOutBase e.2 1 + ndOutCnt e.2 1)))).map fun e =>
        (e.1 % 1024, if decide (ndOutBase e.2 0 ≤ a) && decide (a < ndOutBase e.2 0 + ndOutCnt e.2 0) then 0 else 1)
  else some (1024 * arcSrcKind w + arcSrcIndex w, 2)

/-- Whether an arc's latched value carries over between the banks (R165). -/
def Pcl.arcCarries (p : Pcl) (a : Nat) : Bool :=
  arcLatched (p.arc 0 a) && arcLatched (p.arc 1 a) && decide (p.producer 0 a = p.producer 1 a) &&
    match p.producer 0 a with
    | some (n, o) => decide (o = 2) || decide (ndOpcode (p.node 0 n) = ndOpcode (p.node 1 n))
    | none => false

/-- Whether a node's persistent state carries over between the banks (R165). -/
def Pcl.nodeCarries (p : Pcl) (n : Nat) : Bool :=
  decide (p.node 0 n ≠ 0) && decide (p.node 1 n ≠ 0) && decide (ndOpcode (p.node 0 n) = ndOpcode (p.node 1 n))

/-- A node's committed state copied from its place under one bank to both copies of its place under the other. -/
def Lane.carryState (l : Lane) (src dst n : Nat) : Lane :=
  let d := l.pcl.node src n
  if l.pcl.nodeCarries n && ndPersist d then
    [false, true].foldl (fun (m : Lane) w =>
      m.moveWords 0x7 (l.stateAddr d false) (l.stateAddr (l.pcl.node dst n) w) (stateSize (ndOpcode d))) l
  else l

/-- The released entries of an activation applied to the latched values, in arc order. A value released on a draining bank also
reaches the active bank where the arc carries over. -/
def Lane.applyRels (l : Lane) (flow : Nat) (seq : BitVec 16) : Lane :=
  l.onPcl fun p =>
    let put := fun (m : Sparse (BitVec 19)) (r : Rel) =>
      if r.flow = flow ∧ r.seq = seq ∧ arcLatched (p.arc r.bank r.arc) then
        let v := BitVec.ofNat 19 (r.value.toNat + 262144 * r.valid.toNat)
        let m1 := Sparse.set 0 m (4096 * r.bank + r.arc) v
        if r.bank ≠ p.bank ∧ p.arcCarries r.arc then Sparse.set 0 m1 (4096 * p.bank + r.arc) v else m1
      else m
    { p with latched := p.rels.foldl put p.latched }

/-- Committed copies taken from the working copies of engine units, or working copies from the committed ones (R205). -/
def Lane.copyUnits (l : Lane) (us : List Nat) (commit : Bool) : Lane :=
  us.foldl (fun m u =>
    if u < 8 then
      { m with cen := if commit then { m.cen with slots := Sparse.set {} m.cen.slots u (Sparse.get {} m.cen.slotsW u) }
                      else { m.cen with slotsW := Sparse.set {} m.cen.slotsW u (Sparse.get {} m.cen.slots u) } }
    else
      { m with cen := if commit then { m.cen with gens := Sparse.set {} m.cen.gens (u - 8) (Sparse.get {} m.cen.gensW (u - 8)) }
                      else { m.cen with gensW := Sparse.set {} m.cen.gensW (u - 8) (Sparse.get {} m.cen.gens (u - 8)) } }) l

/-- The replaced configuration that holds unit u's state for an activation started in cycle c, where the unit has started anew since (R206). -/
def Lane.oldUnit (l : Lane) (c : Word) (u : Nat) : Option OldCfg := l.cen.old.find? fun o => ahead c o.m && o.units.contains u

/-- The engine units whose state an activation's release makes committed: those that it runs and that have not started anew since. -/
def Lane.actUnits (l : Lane) (flow : Nat) (a : Activation) : List Nat :=
  (flowUnits (l.engineRegs a.start) flow).filter fun u => (l.oldUnit a.start u).isNone

/-- A flow's activation releases its latched values and persistent state (R163). DESIGN CHOICE: R165 speaks of what carries over at the switch alone; what
is released on the draining bank after it also reaches the active bank where it carries over (log entry 88). -/
def Lane.release (l : Lane) (flow : Nat) (a : Activation) : Lane :=
  let l1 := (((l.applyRels flow a.seq).copyFlowState a.bank flow true).copyUnits (l.actUnits flow a) true).dropRels flow a.seq
  if a.bank = l.pcl.bank then l1
  else (l1.pcl.flowNodes a.bank flow).foldl (fun m n => m.carryState a.bank m.pcl.bank n) l1

/-- Nothing of a flow's activation is released: its state is restored (R112, R162). -/
def Lane.discard (l : Lane) (flow : Nat) (a : Activation) : Lane :=
  (((l.copyFlowState a.bank flow false).copyUnits (l.actUnits flow a) false).dropRels flow a.seq).dropTokens flow a.seq

/-- At a hold, the tokens of slow activations that were to start in this cycle are discarded, with what engine units have made of them,
and their start is deferred; at a commit they start, or are skipped when too little of the period is left (R145, R146). -/
def Lane.slowStart (l : Lane) (commits : Bool) (flow : Nat) : Lane :=
  match Sparse.get none l.pcl.due flow, l.act flow with
  | some s, some a =>
    if a.start = l.ccn ∧ a.nominal = s then
      let d := (l.ccn - s).toNat
      if commits && (decide (d = 0) || decide (l.span flow + d ≤ l.rd PCL.FLOW_CFG_PERIOD flow)) then
        l.onPcl fun p => { p with due := Sparse.set none p.due flow none }
      else
        let l1 := (l.discard flow a).setAct flow none
        if commits then l1.skipSlow flow else l1
    else l
  | _, _ => l

/-- The units whose ENABLE or FLOW differs between two register maps: they start anew (R206). -/
def freshUnits (old new_ : Sparse Word) : List Nat :=
  (List.range 12).filter fun u => unitEnabled old u != unitEnabled new_ u || decide (unitFlow old u ≠ unitFlow new_ u)

/-- Both copies of the state of the units that start anew are those of R190 and of zero position. -/
def Lane.clearUnits (l : Lane) (us : List Nat) : Lane :=
  { l with cen := { l.cen with
      slots := Sparse.keep (fun u => !us.contains u) l.cen.slots, slotsW := Sparse.keep (fun u => !us.contains u) l.cen.slotsW
      gens := Sparse.keep (fun g => !us.contains (8 + g)) l.cen.gens, gensW := Sparse.keep (fun g => !us.contains (8 + g)) l.cen.gensW } }

/-- Whether a slow activation started before cycle m is in service. -/
def Lane.olderThan (l : Lane) (m : Word) : Bool :=
  l.pcl.acts.any fun e => match e.2 with | some a => decide (e.1 ≠ 0) && ahead a.start m | none => false

/-- The registers before a commit in the present cycle go out of force: while slow activations drain they stay for them, with the state of the
units that start anew. -/
def Lane.retireCfg (l : Lane) (old : Sparse Word) : Lane :=
  let us := freshUnits old l.regs
  let o : OldCfg := { m := l.ccn, regs := old, units := us
                      slots := Sparse.keep (fun u => us.contains u) l.cen.slotsW, gens := Sparse.keep (fun g => us.contains (8 + g)) l.cen.gensW }
  (if l.olderThan l.ccn then { l with cen := { l.cen with old := l.cen.old ++ [o] } } else l).clearUnits us

/-- Whether any activation of before a commit remains: on the bank that drains (R165), and under the old engine registers (R206). -/
def Lane.drainOver (l : Lane) : Lane :=
  let left := l.pcl.acts.any fun e => match e.2 with | some a => decide (a.bank ≠ l.pcl.bank) | none => false
  let l1 := l.onPcl fun p => { p with draining := p.draining && left }
  { l1 with cen := { l1.cen with old := l1.cen.old.filter fun e => l1.olderThan e.m } }

/-- A slow flow whose release cycle starts releases its results; one still in service raises "slow flow deadline miss" and
releases nothing (R163, R164). Tokens still held for the released SEQ are discarded (R158). -/
def Lane.slowRelease (l : Lane) (flow : Nat) : Lane :=
  match l.act flow with
  | some a =>
    if a.release = l.ccn ∧ a.start ≠ l.ccn then
      if l.actComplete flow a then ((l.release flow a).dropTokens flow a.seq).setAct flow none
      else ((l.discard flow a).setAct flow none).fault 0x21
    else l
  | none => l

/-- The slow flows in the order of a release point (R163): by ascending SEQ, which wraps, and then by flow. -/
def Lane.releaseOrder (l : Lane) : List Nat :=
  let age := fun (f : Nat) => match l.act f with | some a => (l.ccn.setWidth 16 - a.seq).toNat | none => 0
  slowFlows.insertionSort fun f g => age g ≤ age f

/-- The slow releases of a cycle start; what drains no longer then goes out of force. -/
def Lane.slowReleases (l : Lane) : Lane := (l.releaseOrder.foldl Lane.slowRelease l).drainOver

/-- Every core that runs a slow node is suspended (R147); the command takes its safe point at the cycle start itself. -/
def Lane.suspendCore (l : Lane) (c : Nat) : Lane :=
  let k := (l.core c).tally l.clk.now
  match k.run with
  | some w =>
    if w.flow = 0 then l
    else
      let ctx := { w with ready := l.clk.now } :: k.ctx
      let l1 := l.setCore c { k with run := none, ctx := ctx, preempt := none, busy := k.busy + (l.clk.now - w.start) + 24
                                     preempts := k.preempts + 1, ctxMax := max k.ctxMax ctx.length }
      match k.preempt with
      | some p => l1.onPcl fun q => { q with waiting := enqueue p q.waiting }
      | none => l1
  | none => l

/-! ### Commands of the Percolator -/

/-- TAPER_CORE_UNRESPONSIVE (R162): a node beyond its worst case plus PCL.SUPERVISE.MARGIN. The core is reset, its saved contexts
are discarded, and the activations of those nodes cannot complete. -/
def Lane.resetTaper (l : Lane) (c : Nat) : Lane :=
  let k := (l.core c).tally l.clk.now
  let lost := k.ctx ++ (match k.run with | some w => [w] | none => [])
  let ran := match k.run with | some w => l.clk.now - w.start | none => 0
  let l1 := l.setCore c { k with run := none, ctx := [], busy := k.busy + ran }
  lost.foldl (fun m w => match m.act w.flow with
    | some a => if a.seq = w.seq then m.setAct w.flow (some { a with dead := true }) else m
    | none => m) l1

/-- The command of R162. -/
def execTaperCoreUnresponsive (l : LaneId) (t core : Nat) (s : State) : Host.Outcome State Fault Refusal :=
  let n := (s.lane l).atTick t
  .next (s.setLane l (n.gated 1
    (match (n.core core).run with
    | some w =>
      if decide (core < 4) &&
          decide (w.start + wcetOf (ndOpcode (n.pcl.node w.bank w.node)) + n.rd PCL.SUPERVISE_MARGIN < n.clk.now) then
        ((n.resetTaper core).pump).fault 0x22
      else n
    | none => n)))

/-- NODE_PREEMPTION (R160): the running node reaches its safe point, its context is saved, and the new node starts; the save is part of the
time from its start (R172). -/
def execNodePreemption (l : LaneId) (t core : Nat) (s : State) : Host.Outcome State Fault Refusal :=
  let n := (s.lane l).atTick t
  let k := (n.core core).tally n.clk.now
  .next (s.setLane l (n.gated 1
    (match k.run, k.preempt with
    | some r, some w =>
      let ctx := { r with ready := n.clk.now } :: k.ctx
      let n1 := n.setCore core { k with preempt := none }
      if n1.mayRun w then
        (n1.setCore core { k with run := none, preempt := none, ctx := ctx, preempts := k.preempts + 1
                                  ctxMax := max k.ctxMax ctx.length, busy := k.busy + (n.clk.now - r.start) }).startNode core w
      else n1.startOrWait core w
    | _, _ => n)))

/-- PCL_TABLE_SCRUB (R155, R173): the scrubber reads one entry of the node or arc table. -/
def execPclTableScrub (l : LaneId) (t bank : Nat) (arcTable : Bool) (entry : Nat) (up : Upset) (s : State) :
    Host.Outcome State Fault Refusal :=
  let n := (s.lane l).atTick t
  .next (s.setLane l (n.gated 1
    (match up with
    | .none => n
    | .single => (n.bump PCL.TBL_CE_COUNT_COUNT).fault 0x25
    | .double _ | .misplaced _ =>
      ((((n.wr PCL.TBL_ERR_ENTRY entry).flag PCL.TBL_ERR_TABLE arcTable).wr PCL.TBL_ERR_BANK bank).flag PCL.TBL_ERR_UE true).fault
        0x24 (BitVec.ofNat 32 entry))))

end Sys2Proof.Machine
end

