-- ==== Sys2Proof/Machine/Nodes.lean ====
section
/-!
DEFINITION. The 48 catalogue operators as commands (R169): the node that core c runs completes with its operator's result, when
that node's OPCODE is the operator's code; on any other core the command does nothing.
-/
namespace Sys2Proof.Machine

open Sys2Proof

/-- PASS, code 0x00. -/
def execPass (l : LaneId) (t core : Nat) (s : State) : Host.Outcome State Fault Refusal :=
  .next (s.setLane l (((s.lane l).atTick t).runOp core 0x00 opPass))

/-- CONST, code 0x01. -/
def execConst (l : LaneId) (t core : Nat) (s : State) : Host.Outcome State Fault Refusal :=
  .next (s.setLane l (((s.lane l).atTick t).runOp core 0x01 opConst))

/-- ADD, code 0x02. -/
def execAdd (l : LaneId) (t core : Nat) (s : State) : Host.Outcome State Fault Refusal :=
  .next (s.setLane l (((s.lane l).atTick t).runOp core 0x02 opAdd))

/-- SUB, code 0x03. -/
def execSub (l : LaneId) (t core : Nat) (s : State) : Host.Outcome State Fault Refusal :=
  .next (s.setLane l (((s.lane l).atTick t).runOp core 0x03 opSub))

/-- MUL, code 0x04. -/
def execMul (l : LaneId) (t core : Nat) (s : State) : Host.Outcome State Fault Refusal :=
  .next (s.setLane l (((s.lane l).atTick t).runOp core 0x04 opMul))

/-- MAC, code 0x05. -/
def execMac (l : LaneId) (t core : Nat) (s : State) : Host.Outcome State Fault Refusal :=
  .next (s.setLane l (((s.lane l).atTick t).runOp core 0x05 opMac))

/-- DIV, code 0x06. -/
def execDiv (l : LaneId) (t core : Nat) (s : State) : Host.Outcome State Fault Refusal :=
  .next (s.setLane l (((s.lane l).atTick t).runOp core 0x06 opDiv))

/-- ABS, code 0x07. -/
def execAbs (l : LaneId) (t core : Nat) (s : State) : Host.Outcome State Fault Refusal :=
  .next (s.setLane l (((s.lane l).atTick t).runOp core 0x07 opAbs))

/-- NEG, code 0x08. -/
def execNeg (l : LaneId) (t core : Nat) (s : State) : Host.Outcome State Fault Refusal :=
  .next (s.setLane l (((s.lane l).atTick t).runOp core 0x08 opNeg))

/-- SCALE, code 0x09. -/
def execScale (l : LaneId) (t core : Nat) (s : State) : Host.Outcome State Fault Refusal :=
  .next (s.setLane l (((s.lane l).atTick t).runOp core 0x09 opScale))

/-- MIN, code 0x0A. -/
def execMin (l : LaneId) (t core : Nat) (s : State) : Host.Outcome State Fault Refusal :=
  .next (s.setLane l (((s.lane l).atTick t).runOp core 0x0A opMin))

/-- MAX, code 0x0B. -/
def execMax (l : LaneId) (t core : Nat) (s : State) : Host.Outcome State Fault Refusal :=
  .next (s.setLane l (((s.lane l).atTick t).runOp core 0x0B opMax))

/-- LIMIT, code 0x0C. -/
def execLimit (l : LaneId) (t core : Nat) (s : State) : Host.Outcome State Fault Refusal :=
  .next (s.setLane l (((s.lane l).atTick t).runOp core 0x0C opLimit))

/-- SQRT, code 0x0D. -/
def execSqrt (l : LaneId) (t core : Nat) (s : State) : Host.Outcome State Fault Refusal :=
  .next (s.setLane l (((s.lane l).atTick t).runOp core 0x0D opSqrt))

/-- ATAN2, code 0x0E. -/
def execAtan2 (l : LaneId) (t core : Nat) (s : State) : Host.Outcome State Fault Refusal :=
  .next (s.setLane l (((s.lane l).atTick t).runOp core 0x0E opAtan2))

/-- SINCOS, code 0x0F. -/
def execSincos (l : LaneId) (t core : Nat) (s : State) : Host.Outcome State Fault Refusal :=
  .next (s.setLane l (((s.lane l).atTick t).runOp core 0x0F opSincos))

/-- CMP, code 0x10. -/
def execCmp (l : LaneId) (t core : Nat) (s : State) : Host.Outcome State Fault Refusal :=
  .next (s.setLane l (((s.lane l).atTick t).runOp core 0x10 opCmp))

/-- SELECT, code 0x11. -/
def execSelect (l : LaneId) (t core : Nat) (s : State) : Host.Outcome State Fault Refusal :=
  .next (s.setLane l (((s.lane l).atTick t).runOp core 0x11 opSelect))

/-- BITS, code 0x12. -/
def execBits (l : LaneId) (t core : Nat) (s : State) : Host.Outcome State Fault Refusal :=
  .next (s.setLane l (((s.lane l).atTick t).runOp core 0x12 opBits))

/-- LOGIC, code 0x13. -/
def execLogic (l : LaneId) (t core : Nat) (s : State) : Host.Outcome State Fault Refusal :=
  .next (s.setLane l (((s.lane l).atTick t).runOp core 0x13 opLogic))

/-- EDGE, code 0x14. -/
def execEdge (l : LaneId) (t core : Nat) (s : State) : Host.Outcome State Fault Refusal :=
  .next (s.setLane l (((s.lane l).atTick t).runOp core 0x14 opEdge))

/-- DEBOUNCE, code 0x15. -/
def execDebounce (l : LaneId) (t core : Nat) (s : State) : Host.Outcome State Fault Refusal :=
  .next (s.setLane l (((s.lane l).atTick t).runOp core 0x15 opDebounce))

/-- COUNTER, code 0x16. -/
def execCounter (l : LaneId) (t core : Nat) (s : State) : Host.Outcome State Fault Refusal :=
  .next (s.setLane l (((s.lane l).atTick t).runOp core 0x16 opCounter))

/-- TIMER, code 0x17. -/
def execTimer (l : LaneId) (t core : Nat) (s : State) : Host.Outcome State Fault Refusal :=
  .next (s.setLane l (((s.lane l).atTick t).runOp core 0x17 opTimer))

/-- LPF1, code 0x18. -/
def execLpf1 (l : LaneId) (t core : Nat) (s : State) : Host.Outcome State Fault Refusal :=
  .next (s.setLane l (((s.lane l).atTick t).runOp core 0x18 opLpf1))

/-- BIQUAD, code 0x19. -/
def execBiquad (l : LaneId) (t core : Nat) (s : State) : Host.Outcome State Fault Refusal :=
  .next (s.setLane l (((s.lane l).atTick t).runOp core 0x19 opBiquad))

/-- RATELIM, code 0x1A. -/
def execRatelim (l : LaneId) (t core : Nat) (s : State) : Host.Outcome State Fault Refusal :=
  .next (s.setLane l (((s.lane l).atTick t).runOp core 0x1A opRatelim))

/-- DEADBAND, code 0x1B. -/
def execDeadband (l : LaneId) (t core : Nat) (s : State) : Host.Outcome State Fault Refusal :=
  .next (s.setLane l (((s.lane l).atTick t).runOp core 0x1B opDeadband))

/-- MOVAVG, code 0x1C. -/
def execMovavg (l : LaneId) (t core : Nat) (s : State) : Host.Outcome State Fault Refusal :=
  .next (s.setLane l (((s.lane l).atTick t).runOp core 0x1C opMovavg))

/-- INTEG, code 0x1D. -/
def execInteg (l : LaneId) (t core : Nat) (s : State) : Host.Outcome State Fault Refusal :=
  .next (s.setLane l (((s.lane l).atTick t).runOp core 0x1D opInteg))

/-- DERIV, code 0x1E. -/
def execDeriv (l : LaneId) (t core : Nat) (s : State) : Host.Outcome State Fault Refusal :=
  .next (s.setLane l (((s.lane l).atTick t).runOp core 0x1E opDeriv))

/-- DELAY, code 0x1F. -/
def execDelay (l : LaneId) (t core : Nat) (s : State) : Host.Outcome State Fault Refusal :=
  .next (s.setLane l (((s.lane l).atTick t).runOp core 0x1F opDelay))

/-- LUT1, code 0x20. -/
def execLut1 (l : LaneId) (t : Nat) (core : TableUser) (s : State) : Host.Outcome State Fault Refusal :=
  .next (s.setLane l (((s.lane l).atTick t).runOp core.no 0x20 opLut1 core.hits))

/-- LUT2, code 0x21. -/
def execLut2 (l : LaneId) (t : Nat) (core : TableUser) (s : State) : Host.Outcome State Fault Refusal :=
  .next (s.setLane l (((s.lane l).atTick t).runOp core.no 0x21 opLut2 core.hits))

/-- STEERMAP, code 0x22. -/
def execSteermap (l : LaneId) (t : Nat) (core : TableUser) (s : State) : Host.Outcome State Fault Refusal :=
  .next (s.setLane l (((s.lane l).atTick t).runOp core.no 0x22 opSteermap core.hits))

/-- RANGECHK, code 0x23. -/
def execRangechk (l : LaneId) (t core : Nat) (s : State) : Host.Outcome State Fault Refusal :=
  .next (s.setLane l (((s.lane l).atTick t).runOp core 0x23 opRangechk))

/-- XCHK, code 0x24. -/
def execXchk (l : LaneId) (t core : Nat) (s : State) : Host.Outcome State Fault Refusal :=
  .next (s.setLane l (((s.lane l).atTick t).runOp core 0x24 opXchk))

/-- PLAUS, code 0x25. -/
def execPlaus (l : LaneId) (t core : Nat) (s : State) : Host.Outcome State Fault Refusal :=
  .next (s.setLane l (((s.lane l).atTick t).runOp core 0x25 opPlaus))

/-- VALIDOR, code 0x26. -/
def execValidor (l : LaneId) (t core : Nat) (s : State) : Host.Outcome State Fault Refusal :=
  .next (s.setLane l (((s.lane l).atTick t).runOp core 0x26 opValidor))

/-- STUCK, code 0x27. -/
def execStuck (l : LaneId) (t core : Nat) (s : State) : Host.Outcome State Fault Refusal :=
  .next (s.setLane l (((s.lane l).atTick t).runOp core 0x27 opStuck))

/-- BRIDGECMD, code 0x28. -/
def execBridgecmd (l : LaneId) (t core : Nat) (s : State) : Host.Outcome State Fault Refusal :=
  .next (s.setLane l (((s.lane l).atTick t).runOp core 0x28 opBridgecmd))

/-- SAFEOUT, code 0x29. -/
def execSafeout (l : LaneId) (t core : Nat) (s : State) : Host.Outcome State Fault Refusal :=
  .next (s.setLane l (((s.lane l).atTick t).runOp core 0x29 opSafeout))

/-- SIGENC, code 0x2A. -/
def execSigenc (l : LaneId) (t core : Nat) (s : State) : Host.Outcome State Fault Refusal :=
  .next (s.setLane l (((s.lane l).atTick t).runOp core 0x2A opSigenc))

/-- SIGDEC, code 0x2B. -/
def execSigdec (l : LaneId) (t core : Nat) (s : State) : Host.Outcome State Fault Refusal :=
  .next (s.setLane l (((s.lane l).atTick t).runOp core 0x2B opSigdec))

/-- AGECHK, code 0x2C. -/
def execAgechk (l : LaneId) (t core : Nat) (s : State) : Host.Outcome State Fault Refusal :=
  .next (s.setLane l (((s.lane l).atTick t).runOp core 0x2C opAgechk))

/-- MUX4, code 0x2D. -/
def execMux4 (l : LaneId) (t core : Nat) (s : State) : Host.Outcome State Fault Refusal :=
  .next (s.setLane l (((s.lane l).atTick t).runOp core 0x2D opMux4))

/-- STATEMACH, code 0x2E. -/
def execStatemach (l : LaneId) (t core : Nat) (s : State) : Host.Outcome State Fault Refusal :=
  .next (s.setLane l (((s.lane l).atTick t).runOp core 0x2E opStatemach))

/-- POLY, code 0x2F. -/
def execPoly (l : LaneId) (t core : Nat) (s : State) : Host.Outcome State Fault Refusal :=
  .next (s.setLane l (((s.lane l).atTick t).runOp core 0x2F opPoly))

end Sys2Proof.Machine
end

