-- ==== Sys2Proof/Machine/Engine.lean ====
section
/-!
DEFINITION. The control engine, the profile generators and table memory (chapter 05).
-/
namespace Sys2Proof.Machine

open Sys2Proof

/-! ### Ports -/

/-- Whether port p of unit u is wired in a bank: some arc leads to it (R187). -/
def Pcl.wired (b : Pcl) (bank u p : Nat) : Bool :=
  (b.bankArcs bank).any fun e => decide (arcKind e.2 = 2) && decide (arcDst e.2 = 4 * u + p)

/-- The token on port p of unit u of the activation with the given SEQ. -/
def Lane.unitTok (l : Lane) (bank u p : Nat) (seq : BitVec 16) : Option Tok :=
  match l.portTok bank (4 * u + p) with
  | some t => if t.seq = seq then some t else none
  | none => none

/-- Whether unit u may run a passage: enabled, and a token of the activation on every wired port (R188). -/
def Lane.unitReady (l : Lane) (bank u : Nat) (seq : BitVec 16) : Bool :=
  [0, 1, 2, 3].all fun p => !l.pcl.wired bank u p || (l.unitTok bank u p seq).isSome

/-- The value and validity on port p, or the given value, valid, when the port is unwired. -/
def Lane.unitIn (l : Lane) (bank u p : Nat) (seq : BitVec 16) (d : Val) : Out :=
  match l.unitTok bank u p seq with | some t => (t.valid, t.value) | none => (true, d)

/-- The tokens on a unit's ports are taken. -/
def Lane.takePorts (l : Lane) (bank u : Nat) : Lane :=
  l.onPcl fun p => { p with ports := [0, 1, 2, 3].foldl (fun m k => Sparse.set none m (48 * bank + 4 * u + k) none) p.ports }

/-! ### Loop slots (R190 to R196) -/

/-- The first replaced configuration of which p holds, changed by f. -/
def onOld (p : OldCfg → Bool) (f : OldCfg → OldCfg) : List OldCfg → List OldCfg
  | [] => []
  | o :: os => if p o then f o :: os else o :: onOld p f os

/-- The replaced configurations with the state of unit u changed for an activation started in cycle c. -/
def Lane.setOld (l : Lane) (c : Word) (u : Nat) (f : OldCfg → OldCfg) : Lane :=
  { l with cen := { l.cen with old := onOld (fun o => ahead c o.m && o.units.contains u) f l.cen.old } }

/-- The working copy of a loop slot's state, for an activation started in cycle c. -/
def Lane.slotW (l : Lane) (c : Word) (s : Nat) : SlotSt :=
  match l.oldUnit c s with | some o => Sparse.get {} o.slots s | none => Sparse.get {} l.cen.slotsW s

/-- The lane with the working copy of a loop slot replaced. -/
def Lane.setSlotW (l : Lane) (c : Word) (s : Nat) (st : SlotSt) : Lane :=
  match l.oldUnit c s with
  | some _ => l.setOld c s fun o => { o with slots := Sparse.set {} o.slots s st }
  | none => { l with cen := { l.cen with slotsW := Sparse.set {} l.cen.slotsW s st } }

/-- The flow and activation whose passage unit u runs next: of the activations whose registers assign it to their flow, the first with a token
on every wired port. -/
def Lane.passageOf (l : Lane) (u : Nat) : Option (Nat × Activation) :=
  (List.range 16).findSome? fun f => match l.act f with
    | some a =>
      let r := l.engineRegs a.start
      if unitEnabled r u && decide (unitFlow r u = f) && l.unitReady a.bank u a.seq then some (f, a) else none
    | none => none

/-- The gain table position of an error magnitude (R191): a × ERR_SCALE has 24 fraction bits, of which the upper 16 count. -/
def gainPos (a : Int) (scale : Nat) : Int := a * scale / 256

/-- A gain times an S18 operand in units of 2^-16, rounded to 2^-32 (R191). -/
def gainS (y : Int) (shift : Int) (x : Int) : Int := satA40 (roundDiv (y * x * 2 ^ (shift + 8).toNat) 256)

/-- A gain times an A40 operand in units of 2^-32, rounded to 2^-32 (R191). -/
def gainA (y : Int) (shift : Int) (x : Int) : Int := satA40 (roundDiv (y * x * 2 ^ (shift + 8).toNat) 16777216)

/-- The friction direction factor (R192), in units of 2^-16. -/
def fricDir (ref band : Int) : Int :=
  if band > 0 then clampInt (-65536) 65536 (roundDiv (ref * 65536) band)
  else if ref > 0 then 65536 else if ref < 0 then -65536 else 0

/-- The friction table position (R192). -/
def fricPos (r : Sparse Word) (s : Nat) (x : Int) : Int :=
  Int.fdiv ((x - cfgRdS r CEN.SLOT_FRIC_ORIGIN_VALUE s) * cfgRd r CEN.SLOT_FRIC_SCALE_SCALE s) 256

/-- The cogging table position (R193): the electrical angle wraps modulo 2.0 into [-1, 1). -/
def cogPos (r : Sparse Word) (s : Nat) (x : Int) : Int :=
  ((x * cfgRd r CEN.SLOT_COG_MULT s + cfgRdS r CEN.SLOT_COG_OFFSET_VALUE s + 65536).emod 131072) * 256

/-- The cogging term, whose last entry interpolates towards the first (R193). -/
def cogTerm (m : Memory) (base : Nat) (p : Int) : Int :=
  let i := (p / 65536).toNat
  interp (m.tblNum false (base + i)) (m.tblNum false (base + (i + 1) % 512)) (p.emod 65536)

/-- The table words that a loop slot's passage reads. -/
def slotReads (r : Sparse Word) (s : Nat) (e x : Int) : List Nat :=
  let g := gainPos (iabs e) (cfgRd r CEN.SLOT_ESCALE_SCALE s)
  interpReads (cfgRd r CEN.SLOT_KP_BASE s) 256 g ++ interpReads (cfgRd r CEN.SLOT_KI_BASE s) 256 g
    ++ interpReads (cfgRd r CEN.SLOT_KD_BASE s) 256 g
    ++ (if cfgRd r CEN.SLOT_CFG_FRIC_EN s = 1 then interpReads (cfgRd r CEN.SLOT_FRIC_TBL_BASE s) 1024 (fricPos r s x) else [])
    ++ (if cfgRd r CEN.SLOT_CFG_COG_EN s = 1 then
          [cfgRd r CEN.SLOT_COG_BASE s + (cogPos r s x / 65536).toNat,
           cfgRd r CEN.SLOT_COG_BASE s + ((cogPos r s x / 65536).toNat + 1) % 512] else [])

/-- An effective limit (R195), in units of 2^-16. -/
def effLimit (r : Sparse Word) (s : Nat) (tau : Nat) (x : Int) : Int :=
  if cfgRd r CEN.SLOT_CFG_TQLIM s = 1 then roundDiv (x * tau) 65536 else x

/-- One passage of R190 with all inputs valid, on the given state; all values in units of 2^-16. DESIGN CHOICE: of the friction term (R192) the
direction factor alone is rounded to S18, and its product with the entry is exact (log entry 75). -/
def slotStep (r : Sparse Word) (m : Memory) (s tau : Nat) (snuffed : Bool) (st : SlotSt) (ref fb ff x : Int) : SlotSt :=
  let e := clampInt (-131072) 131071 (ref - fb)
  let g := gainPos (iabs e) (cfgRd r CEN.SLOT_ESCALE_SCALE s)
  let kp := m.interp1 true (cfgRd r CEN.SLOT_KP_BASE s) 256 g
  let ki := m.interp1 true (cfgRd r CEN.SLOT_KI_BASE s) 256 g
  let kd := m.interp1 true (cfgRd r CEN.SLOT_KD_BASE s) 256 g
  let fbPrev := if st.started then st.fbPrev else fb
  let dv := (fbPrev - fb) * 65536
  let dst := satA40 (st.dst + roundDiv (dv - st.dst) (2 ^ cfgRd r CEN.SLOT_CFG_DSHIFT s))
  let pterm := gainS kp (cfgRdS r CEN.SLOT_KP_SHIFT s) e
  let iinc := if snuffed then 0 else gainS ki (cfgRdS r CEN.SLOT_KI_SHIFT s) e
  let dterm := gainA kd (cfgRdS r CEN.SLOT_KD_SHIFT s) dst
  let fric := if cfgRd r CEN.SLOT_CFG_FRIC_EN s = 1 then
      m.interp1 false (cfgRd r CEN.SLOT_FRIC_TBL_BASE s) 1024 (fricPos r s x) * fricDir ref (cfgRd r CEN.SLOT_FRIC_BAND_BAND s)
    else 0
  let cog := if cfgRd r CEN.SLOT_CFG_COG_EN s = 1 then cogTerm m (cfgRd r CEN.SLOT_COG_BASE s) (cogPos r s x) * 65536 else 0
  let ext := satA40 (ff * cfgRdS r CEN.SLOT_CFG_FF_GAIN s + fric + cog)
  let hi := effLimit r s tau (cfgRdS r CEN.SLOT_OHI_VALUE s)
  let lo := effLimit r s tau (cfgRdS r CEN.SLOT_OLO_VALUE s)
  let integ := if snuffed then 0 else st.integ
  let in1 := clampInt (lo * 65536) (hi * 65536) (integ + iinc)
  let u1 := satA40 (pterm + in1 + dterm + ext)
  let windup := (decide (hi * 65536 < u1) && decide (0 < iinc)) || (decide (u1 < lo * 65536) && decide (iinc < 0))
  let inew := if windup then clampInt (lo * 65536) (hi * 65536) integ else in1
  let u := if windup then satA40 (pterm + inew + dterm + ext) else u1
  let raw := s18 (round18 u)
  { st with integ := inew, dst := dst, fbPrev := fb, started := true, out := toS18 (clampInt lo hi raw), valid := true
            satHi := decide (hi < raw), satLo := decide (raw < lo), intHeld := decide (inew = st.integ), err := toS18 e }

/-- The following-error count after a passage (R196): the new count, FE_ACTIVE, and whether the event is raised. A count that has raised its
event stays until it returns to zero. DESIGN CHOICE: FE.TIME = 0, which disables the check, holds the count at zero and FE_ACTIVE clear (log
entry 75). -/
def feStep (limit time : Nat) (snuffed : Bool) (st : SlotSt) : Nat × Bool × Bool :=
  if snuffed || time == 0 || decide (iabs (s18 st.err) ≤ limit) then (0, false, false)
  else if st.feActive then (st.feCount, true, false)
  else (st.feCount + 1, decide (time ≤ st.feCount + 1), decide (time ≤ st.feCount + 1))

/-- A passage of loop slot s in its flow's activation (R186, R188, R190, R194, R196). DESIGN CHOICE: a passage with an invalid input in SNUFFED keeps
the following-error count, as R194 has it (log entry 87). -/
def Lane.slotPassage (l : Lane) (s : Nat) (flow : Nat) (a : Activation) (hits : Hits := []) : Lane :=
  let r := l.engineRegs a.start
  let ref := l.unitIn a.bank s 0 a.seq 0
  let fb := l.unitIn a.bank s 1 a.seq 0
  let ff := l.unitIn a.bank s 2 a.seq 0
  let x := l.unitIn a.bank s 3 a.seq 0
  let st := l.slotW a.start s
  let l0 := l.takePorts a.bank s
  let held := fun (m : Lane) => (((m.setSlotW a.start s { st with valid := false, intHeld := true }).unitDone flow).sendUnit a.bank s flow
    a.seq (false, st.out)).pump
  if ref.1 && fb.1 && ff.1 && x.1 then
    let e := clampInt (-131072) 131071 (s18 ref.2 - s18 fb.2)
    let (l1, ok) := l0.tableReads s (slotReads r s e (s18 x.2)) hits
    if ok then
      let snuffed := decide (l.xla.mode = .snuffed)
      let st1 := slotStep r l.mem s l.sfu.tau snuffed st (s18 ref.2) (s18 fb.2) (s18 ff.2) (s18 x.2)
      let (n, act, raised) := feStep (cfgRd r CEN.SLOT_FE_LIMIT s) (cfgRd r CEN.SLOT_FE_TIME s) snuffed st1
      let l2 := (l1.setSlotW a.start s { st1 with feCount := n, feActive := act }).setLevel (0x28 + s) act
      let l3 := if raised then (l2.wr CEN.FE_STICKY_SLOT (l2.rd CEN.FE_STICKY_SLOT ||| 2 ^ s)).fault (0x28 + s) else l2
      ((l3.unitDone flow).sendUnit a.bank s flow a.seq (true, st1.out)).pump
    else held l1
  else held l0

/-- LOOP_SLOT_PASSAGE: the unit is enabled, and a token of its flow's activation is on every wired port. -/
def execLoopSlotPassage (l : LaneId) (t : Nat) (slot : TableUser) (s : State) : Host.Outcome State Fault Refusal :=
  let n := (s.lane l).atTick t
  .next (s.setLane l (n.gated 2
    (match n.passageOf slot.no with
    | some (flow, a) => if slot.no < 8 then n.slotPassage slot.no flow a slot.hits else n
    | none => n)))

/-! ### Profile generators (R198 to R204) -/

/-- The working copy of a generator's state, for an activation started in cycle c. -/
def Lane.genW (l : Lane) (c : Word) (g : Nat) : GenSt :=
  match l.oldUnit c (8 + g) with | some o => Sparse.get {} o.gens g | none => Sparse.get {} l.cen.gensW g

/-- The lane with the working copy of a generator replaced. -/
def Lane.setGenW (l : Lane) (c : Word) (g : Nat) (st : GenSt) : Lane :=
  match l.oldUnit c (8 + g) with
  | some _ => l.setOld c (8 + g) fun o => { o with gens := Sparse.set {} o.gens g st }
  | none => { l with cen := { l.cen with gensW := Sparse.set {} l.cen.gensW g st } }

/-- The position in Q20.32, saturated. -/
def satPos (x : Int) : Int := clampInt (-2251799813685248) 2251799813685247 x

/-- The sign of an integer. -/
def isign (x : Int) : Int := if x < 0 then -1 else if x = 0 then 0 else 1

/-- One passage of R199. target, scale, ctl and preset are the port values with their validity; c is the steering-rate fraction
in force; wiredPreset says that port 3 is wired. -/
def genStep (r : Sparse Word) (g : Nat) (snuffed wiredPreset : Bool) (c : Nat) (st : GenSt) (target scale ctl preset : Out) :
    GenSt :=
  let vmax : Int := cfgRd r PGN.VMAX_LIMIT g
  let amax : Int := cfgRd r PGN.AMAX_LIMIT g
  let jmax : Int := cfgRd r PGN.JMAX_LIMIT g
  let sc : Int := if scale.1 then u18 scale.2 else 0
  let vlim := vmax * imin (imin sc c) 65536 / 65536
  let tgt := s18 target.2 * 65536
  if snuffed || (ctl.1 && ctl.2.getLsbD 1) then
    let pos := if wiredPreset && preset.1 then s18 preset.2 * 65536 else if target.1 then tgt else st.pos
    { pos := pos, vel := 0, acc := 0, vcap := vlim, stopping := false, arrived := false, preset := true
      targetOk := target.1 }
  else
    let stopping := (ctl.2.getLsbD 0) || !target.1 || !ctl.1
    let vcap := imax vlim (st.vcap - amax)
    let tj := ceilDiv amax.toNat jmax.toNat
    let d := tgt - st.pos
    let dl := imax 0 (iabs d - iabs st.vel * tj)
    let vt := if stopping then 0 else isign d * imin vcap (isqrtBits 45 (2 * amax * dl).toNat 0)
    let ad := clampInt (-amax) amax (vt - st.vel)
    let acc := satA40 (st.acc + clampInt (-jmax) jmax (ad - st.acc))
    let vel := clampInt (-vcap) vcap (st.vel + acc)
    let pos := satPos (st.pos + vel)
    let tolV : Int := cfgRd r PGN.VEL_TOL_LIMIT g
    let halt := stopping && decide (iabs vel ≤ tolV)
    let arrive := !stopping && decide (iabs (tgt - pos) ≤ cfgRd r PGN.POS_TOL_TOL g * 65536) && decide (iabs vel ≤ tolV)
    { pos := if arrive then tgt else pos, vel := if halt || arrive then 0 else vel, acc := if halt || arrive then 0 else acc
      vcap := vcap, stopping := stopping, arrived := arrive, preset := false, targetOk := target.1 }

/-- The generator's output token (R204). -/
def genOut (r : Sparse Word) (g : Nat) (st : GenSt) : Val :=
  let q := match cfgRd r PGN.CFG_OUT_SEL g with | 0 => st.pos | 1 => st.vel | _ => st.acc
  toS18 (roundDiv (q * 2 ^ cfgRd r PGN.CFG_OUT_SHIFT g) 65536)

/-- A passage of generator g (R199, R202). -/
def Lane.genPassage (l : Lane) (g : Nat) (flow : Nat) (a : Activation) : Lane :=
  let r := l.engineRegs a.start
  let u := 8 + g
  let target := l.unitIn a.bank u 0 a.seq 0
  let st := l.genW a.start g
  let c := if cfgRd r PGN.CFG_STEER g = 1 then l.sfu.frac else 65536
  let st1 := genStep r g (decide (l.xla.mode = .snuffed)) (l.pcl.wired a.bank u 3) c st target (l.unitIn a.bank u 1 a.seq 65536)
    (l.unitIn a.bank u 2 a.seq 0) (l.unitIn a.bank u 3 a.seq 0)
  let l1 := l.takePorts a.bank u
  let l2 := l1.setGenW a.start g st1
  let l3 := if st.targetOk && !target.1 then l2.fault (0x32 + g) else l2
  ((l3.unitDone flow).sendUnit a.bank u flow a.seq (true, genOut r g st1)).pump

/-- PROFILE_GENERATOR_PASSAGE: as for a loop slot. -/
def execProfileGeneratorPassage (l : LaneId) (t gen : Nat) (s : State) : Host.Outcome State Fault Refusal :=
  let n := (s.lane l).atTick t
  .next (s.setLane l (n.gated 2
    (match n.passageOf (8 + gen) with
    | some (flow, a) => if gen < 4 then n.genPassage gen flow a else n
    | none => n)))

/-! ### Table memory (R182 to R186) -/

/-- Table memory lies at 0x2000_0000 to 0x200F_FFFF (R48). -/
def inTable (a : Nat) : Bool := 0x20000000 ≤ a && a < 0x20100000

/-- The tables that a configuration's engine units name: first word and length. DESIGN CHOICE: a disabled unit names none, and a slot names its
friction or cogging table only with FRIC_EN or COG_EN set (log entry 75). -/
def unitTables (r : Sparse Word) : List (Nat × Nat) :=
  ((List.range 8).filter fun s => cfgRd r CEN.SLOT_CFG_ENABLE s = 1).flatMap fun s =>
    [(cfgRd r CEN.SLOT_KP_BASE s, 256), (cfgRd r CEN.SLOT_KI_BASE s, 256), (cfgRd r CEN.SLOT_KD_BASE s, 256)]
      ++ (if cfgRd r CEN.SLOT_CFG_FRIC_EN s = 1 then [(cfgRd r CEN.SLOT_FRIC_TBL_BASE s, 1024)] else [])
      ++ (if cfgRd r CEN.SLOT_CFG_COG_EN s = 1 then [(cfgRd r CEN.SLOT_COG_BASE s, 512)] else [])

/-- The table that a node's parameter block names (R569). -/
def nodeTable (opcode : Nat) (p : List Word) : List (Nat × Nat) :=
  match opcode with
  | 0x20 => [(pU p 0, pU p 1)]
  | 0x21 | 0x22 => [(pU p 0, pU p 1 * pU p 2)]
  | _ => []

/-- The tables that the nodes of the active bank and of a draining one name. -/
def Lane.nodeTables (l : Lane) : List (Nat × Nat) :=
  (l.pcl.nodes.filter fun e => l.pcl.draining || decide (e.1 / 1024 = l.pcl.bank)).flatMap fun e =>
    nodeTable (ndOpcode e.2) (l.mem.words (l.paramAddr e.2) (ndParamLen e.2))

/-- Whether a table word is referenced by the active or a draining configuration (R184, R206). -/
def Lane.referenced (l : Lane) (w : Nat) : Bool :=
  (unitTables l.regs ++ (l.cen.old.flatMap fun o => unitTables o.regs) ++ l.nodeTables).any
    fun t => decide (t.1 ≤ w) && decide (w < t.1 + t.2)

/-- A table word is written: only in open staging and when not referenced (R184); an armed injection places a double-bit error
(R356). Any other write ends with a bus error and source 0x07. -/
def Lane.tableWrite (l : Lane) (ini : Nat) (addr : Word) (data : Word) : Lane :=
  let w := (addr.toNat - 0x20000000) / 4
  if l.stage.isOpen && !l.referenced w then
    let bad := decide (l.fcl.armed = 4)
    ({ l with mem := { l.mem with table := Sparse.set 0 l.mem.table w (data.setWidth 18)
                                  tableErr := Sparse.set 0 l.mem.tableErr w (if bad then 2 else 0) }
              fcl := if bad then { l.fcl with armed := 0 } else l.fcl } : Lane).busDone 0
  else l.violation ini addr

/-- A table word as a fabric read returns it: extended as the type of its page says (R14, R182). -/
def Lane.tableSlot (l : Lane) (w : Nat) : Word :=
  let v := l.mem.tbl w
  if (l.rd CEN.TBL_TYPE_U18 (w / 1024 / 32)).testBit (w / 1024 % 32) then v.setWidth 32 else v.signExtend 32

/-- A read of a table word by an initiator with the right (R83): its stored error is met as by any reader. -/
def Lane.tableLook (l : Lane) (addr : Word) (up : Upset) : Lane :=
  let w := (addr.toNat - 0x20000000) / 4
  if l.domOn 2 then
    let (l1, ok) := l.tableMeet 0xD w up
    if ok then l1.busDone ((l.tableSlot w).setWidth 64) else l1.busError
  else l.stall 0xD addr none

/-- A table write by an initiator with the right waits for the clock of the CEN domain (R488). -/
def Lane.tablePut (l : Lane) (ini : Nat) (addr data : Word) : Lane :=
  if l.domOn 2 then l.tableWrite ini addr data else l.stall ini addr (some data)

/-- Whether an initiator may write table memory (R83). -/
def tableWriteRight (ini : Nat) : Bool := ini == 0x0 || ini == 0x8 || ini == 0xB

/-- TABLE_MEMORY_WRITE (R83, R184). -/
def execTableMemoryWrite (l : LaneId) (t ini : Nat) (addr data : Word) (s : State) : Host.Outcome State Fault Refusal :=
  let n := (s.lane l).atTick t
  .next (s.setLane l
    (if !inTable addr.toNat then n.unmapped ini addr
     else if tableWriteRight ini then n.tablePut ini addr data else n.violation ini addr))

/-- Whether the table scrubber's interval has passed since its last read: INTERVAL core cycles of one tick each (R185). -/
def Lane.tableScrubDue (l : Lane) : Bool :=
  match l.cen.scrubTick with
  | some a => decide (a + l.rd CEN.TBL_SCRUB_INTERVAL ≤ l.clk.now)
  | none => true

/-- The table scrubber reads its next word; a completed pass is counted (R185). -/
def Lane.tableScrubNext (l : Lane) (up : Upset) : Lane :=
  let w := l.cen.scrubAt
  let l1 := { l with cen := { l.cen with scrubAt := (w + 1) % 262144, scrubTick := some l.clk.now } }
  let l2 := if w + 1 = 262144 then l1.wrapInc CEN.TBL_SCRUB_PASSES else l1
  (l2.tableMeet 0xF w up).1

/-- TABLE_MEMORY_SCRUB (R185): the scrubber reads its next word. -/
def execTableMemoryScrub (l : LaneId) (t : Nat) (up : Upset) (s : State) : Host.Outcome State Fault Refusal :=
  let n := (s.lane l).atTick t
  .next (s.setLane l (n.gated 2 (if n.tableScrubDue then n.tableScrubNext up else n)))

end Sys2Proof.Machine
end

