-- ==== Sys2Proof/Machine/SafetyUnit.lean ====
section
/-!
DEFINITION. The safety unit (chapter 09): inputs, outputs, the evaluation at 2.9 µs, fractions, confirmation and the
commissioning session.
-/
namespace Sys2Proof.Machine

open Sys2Proof

/-! ### Safety inputs (R304 to R309) -/

/-- A time in milliseconds as samples, one per control cycle, at least 1 (R305, R306). -/
def Lane.msSamples (l : Lane) (ms : Nat) : Nat := max 1 (l.msCycles ms)

/-- A contact after a sample (R304, R305): between the switch points the reading stays; the debounced level follows once the
reading has stood for n samples. -/
def Contact.take (c : Contact) (lv : ContactLevel) (n : Nat) : Contact :=
  let r := match lv with | .low => false | .high => true | .between => c.reading
  let run := if r = c.reading then min (c.run + 1) 50000 else 1
  { reading := r, run := run, level := if n ≤ run then r else c.level }

/-- Safety input k. -/
def Lane.safeIn (l : Lane) (k : Nat) : SafeIn := Sparse.get {} l.sfu.ins k
/-- The lane with safety input k replaced. -/
def Lane.setSafeIn (l : Lane) (k : Nat) (i : SafeIn) : Lane := { l with sfu := { l.sfu with ins := Sparse.set {} l.sfu.ins k i } }

/-- One safety input's sample (R305, R306, R308). Contact A shows demand for the start-up test only once it has been sampled open as often as
its debounce asks; a disabled input keeps no discrepancy. -/
def Lane.sampleInput (l : Lane) (k : Nat) (la lb : ContactLevel) : Lane :=
  let i := l.safeIn k
  let n := l.msSamples (l.rd SFU.IN_CFG_DEB k)
  let a := i.a.take la n
  let b := i.b.take lb n
  let single := l.on SFU.IN_CFG_SINGLE k
  let da := !a.level
  let db := if l.on SFU.IN_CFG_ANTIVALENT k then b.level else !b.level
  let on := l.on SFU.IN_CFG_ENABLE k
  let disc := if on && !single && (da != db) then i.disc + 1 else 0
  let bad := decide (0 < disc) && decide (l.msSamples (l.rd SFU.IN_CFG_DISC k) ≤ disc) && !i.given
  let latched := on && (i.latched || bad) && !(da && db)
  let seen := i.seen || (da && decide (n ≤ a.run))
  let tested := i.tested || (seen && !da)
  let d := on && ((if single then da || !tested else da || db) || latched)
  let l1 := l.setSafeIn k { a := a, b := b, disc := disc, latched := latched, seen := seen, tested := tested, demand := d,
                               given := decide (0 < disc) && (i.given || bad) }
  if bad then (l1.bump SFU.EVENTS_DISC).faultLevel (0x90 + k)
  else if i.latched && !latched then l1.setLevel (0x90 + k) false else l1

/-- The lane's own demand of its inputs (R309). -/
def Lane.ownDemand (l : Lane) : Nat := natSum ((List.range 8).map fun k => if (l.safeIn k).demand then 2 ^ k else 0)

/-- SAFETY_INPUT_SAMPLE, 1.0 µs after the cycle start, with the levels at contacts A and B of the inputs. -/
def execSafetyInputSample (l : LaneId) (levelA levelB : List ContactLevel) (s : State) : Host.Outcome State Fault Refusal :=
  let n := (s.lane l).atTick 600
  .next (s.setLane l (n.gated 6 ((List.range 8).foldl (fun m k => m.sampleInput k (levelA.getD k .low) (levelB.getD k .low)) n)))

/-! ### Safe outputs (R311 to R315) -/

/-- Safe output o. -/
def Lane.safeOut (l : Lane) (o : Nat) : SafeOut := Sparse.get {} l.sfu.outs o
/-- The lane with safe output o replaced. -/
def Lane.setSafeOut (l : Lane) (o : Nat) (x : SafeOut) : Lane := { l with sfu := { l.sfu with outs := Sparse.set {} l.sfu.outs o x } }

/-- Whether the request bit or the mode bit of safe output o is 1. -/
def Lane.soAsked (l : Lane) (o : Nat) : Bool := l.sfu.soWord.getLsbD o || (l.rd SFU.SO_CFG_MODE_MASK o).testBit l.xla.mode.code

/-- Whether R313 asks for safe output o to be energised. -/
def Lane.soRequest (l : Lane) (o : Nat) : Bool :=
  l.own.healthy && l.on SFU.SO_CFG_ENABLE o && (!l.on SFU.SO_CFG_SHARED o || decide (l.own = .authority)) && l.soAsked o

/-- Safe output o follows its request (R313); after an overload it stays off until its request or mode bit has fallen (R315). -/
def Lane.driveOut (l : Lane) (o : Nat) : Lane :=
  let x := l.safeOut o
  let r := l.soRequest o
  let overload := x.overload && l.soAsked o
  let on := r && !overload
  l.setSafeOut o { x with request := r, overload := overload, on := on, pulse := x.pulse && on
                          testAt := if on && !x.on then l.clk.now else x.testAt }

/-- Both safe outputs follow their requests. -/
def Lane.driveOuts (l : Lane) : Lane := (l.driveOut 0).driveOut 1

/-- A safe output goes off as overloaded (R315). -/
def Lane.soOverload (l : Lane) (o : Nat) : Lane :=
  ((l.setSafeOut o { l.safeOut o with overload := true, on := false, pulse := false, lowRun := 0 }).bump SFU.EVENTS_SO).fault (0x9A + o)

/-- A safe output is found stuck on (R315). -/
def Lane.soStuck (l : Lane) (o : Nat) : Lane :=
  ((l.setSafeOut o { l.safeOut o with stuck := true }).bump SFU.EVENTS_SO).fault (0x98 + o)

/-- The readback of a safe output in one cycle (R315). -/
def Lane.readback (l : Lane) (o : Nat) (high : Bool) : Lane :=
  let x := l.safeOut o
  let hr := if high && !x.on then min (x.highRun + 1) 4 else 0
  let lr := if !high && x.on && !x.pulse then min (x.lowRun + 1) 4 else 0
  let l1 := l.setSafeOut o { x with readback := high, highRun := hr, lowRun := lr }
  if hr = 3 then l1.soStuck o else if lr = 3 then l1.soOverload o else l1

/-- SAFE_OUTPUT_TEST_PULSE (R315): due every TEST_INT × 100 ms while the output is energised. -/
def execSafeOutputTestPulse (l : LaneId) (t out : Nat) (s : State) : Host.Outcome State Fault Refusal :=
  let n := (s.lane l).atTick t
  let x := n.safeOut out
  let int := n.rd SFU.SO_CFG_TEST_INT out
  .next (s.setLane l (n.gated 6
    (if decide (out < 2) && x.on && !x.pulse && decide (int ≠ 0) &&
      decide (x.testAt + int * 60000000 ≤ n.clk.now) then
    n.setSafeOut out { x with pulse := true, testAt := n.clk.now } else n)))

/-- SAFE_OUTPUT_TEST_PULSE_END (R315), PULSE × 10 µs (6,000 ticks) after its start, with whether the readback lies below the threshold. -/
def execSafeOutputTestPulseEnd (l : LaneId) (t out : Nat) (below : Bool) (s : State) : Host.Outcome State Fault Refusal :=
  let n := (s.lane l).atTick t
  let n1 := n.setSafeOut out { n.safeOut out with pulse := false }
  let due := decide ((n.safeOut out).testAt + 6000 * n.rd SFU.SO_CFG_PULSE out ≤ n.clk.now)
  .next (s.setLane l (n.gated 6 (if (n.safeOut out).pulse && due then (if below then n1 else n1.soStuck out) else n)))

/-- SAFE_OUTPUT_CURRENT_LIMIT (R311, R315): the output has been in current limit for 100 µs. -/
def execSafeOutputCurrentLimit (l : LaneId) (t out : Nat) (s : State) : Host.Outcome State Fault Refusal :=
  let n := (s.lane l).atTick t
  .next (s.setLane l (n.gated 6 (if (n.safeOut out).on then n.soOverload out else n)))

/-! ### The evaluation (R316 to R324, R326) -/

/-- Whether an enabled input of function f is in agreed demand. -/
def Lane.inputDemand (l : Lane) (f : Nat) : Bool :=
  (List.range 8).any fun k => l.on SFU.IN_CFG_ENABLE k && decide (l.rd SFU.IN_CFG_FUNC k = f) && l.sfu.demand.testBit k

/-- The magnitude of the agreed speed, 2.0 when it is invalid (R318), in units of 2^-16. -/
def Lane.speedMag (l : Lane) : Nat :=
  let v := l.agreedTok (l.rd SFU.CFG_SPEED_IDX)
  if v.1 then (iabs (s18 v.2)).toNat else 131072

/-- Whether the agreed position lies within the SLP limits (R322). -/
def Lane.posInside (l : Lane) : Bool :=
  let v := l.agreedTok (l.rd SFU.CFG_POS_IDX)
  v.1 && decide (l.rdS SFU.SLP_LO_VALUE ≤ s18 v.2) && decide (s18 v.2 ≤ l.rdS SFU.SLP_HI_VALUE)

/-- The demands of the inputs, the limited functions' activity and the standstill measure take the agreed vector. -/
def Lane.sfuTake (l : Lane) : Lane :=
  let l1 := { l with sfu := { l.sfu with demand := (l.agreedTok (l.rd SFU.CFG_IN_IDX)).2.toNat % 256 } }
  let slp := l1.on SFU.SLP_CFG_ALWAYS || l1.inputDemand 3
  let slr := l1.on SFU.SLR_CFG_ALWAYS || l1.inputDemand 4
  let run := if l1.speedMag ≤ l1.rd SFU.STILL_SPEED then l1.sfu.stillRun + l1.cycleLen else 0
  { l1 with sfu := { l1.sfu with
      slpActive := slp, slrActive := slr
      slrSince := if slr && !l1.sfu.slrActive then l1.clk.now else l1.sfu.slrSince
      stillRun := run, still := decide (600000 * l1.rd SFU.STILL_TIME ≤ run) } }

/-- A count of consecutive cycles that stops at its limit, and whether it has just reached it. -/
def countTo (n limit : Nat) (bad : Bool) : Nat × Bool :=
  if bad then (min (n + 1) limit, decide (n + 1 = limit)) else (0, false)

/-- The check of the agreed position (R322), and whether it is violated in this cycle: the demand stands while the violation lasts, and the event is
raised once for it, also where a commit has lowered PERSIST below the count. -/
def Lane.slpCheck (l : Lane) : Lane × Bool :=
  let bad := l.sfu.slpActive && !l.posInside
  let n := (countTo l.sfu.slpRun (l.rd SFU.SLP_CFG_PERSIST) bad).1
  let l1 := { l with sfu := { l.sfu with slpRun := n } }
  let hit := bad && decide (n = l.rd SFU.SLP_CFG_PERSIST)
  (if hit && !(l.src 0x9C).level then l1.faultLevel 0x9C else if n = 0 then l1.setLevel 0x9C false else l1, hit)

/-- The check of the agreed rate (R323), and whether it is violated in this cycle. -/
def Lane.slrCheck (l : Lane) : Lane × Bool :=
  let v := l.agreedTok (l.rd SFU.CFG_RATE_IDX)
  let due := l.sfu.slrActive && decide (l.sfu.slrSince + 600000 * l.rd SFU.SLR_CFG_GRACE ≤ l.clk.now)
  let bad := due && (!v.1 || decide ((l.rd SFU.SLR_LIMIT_VALUE : Int) < iabs (s18 v.2)))
  let n := (countTo l.sfu.slrRun (l.rd SFU.SLR_CFG_PERSIST) bad).1
  let l1 := { l with sfu := { l.sfu with slrRun := n } }
  let hit := bad && decide (n = l.rd SFU.SLR_CFG_PERSIST)
  (if hit && !(l.src 0x9D).level then l1.faultLevel 0x9D else if n = 0 then l1.setLevel 0x9D false else l1, hit)

/-- The overspeed check of LAST LIGHT (R324). -/
def Lane.llCheck (l : Lane) : Lane × Bool :=
  match l.xla.mode, l.sfu.llStart with
  | .lastLight, some t0 =>
    let due := decide (t0 + 600000000 * l.rd SFU.LL_CFG_GRACE ≤ l.clk.now)
    let bad := !(l.agreedTok (l.rd SFU.CFG_SPEED_IDX)).1 ||
      decide (l.rd SFU.LL_SPEED_VALUE + l.rd SFU.STOP_MARGIN_VALUE < l.speedMag)
    let (n, hit) := countTo l.sfu.llRun (l.rd SFU.STOP_CFG_PERSIST) (due && bad)
    let l1 := { l with sfu := { l.sfu with llRun := n } }
    (if hit then l1.fault 0x9E else l1, hit)
  | _, _ => ({ l with sfu := { l.sfu with llRun := 0 } }, false)

/-- The agreed bit of FCL_DEMAND: 0 SS1, 1 STO (R346). -/
def Lane.faultDemand (l : Lane) (bit : Nat) : Bool := (l.agreedTok (l.rd FCL.CFG_DEMAND_IDX)).2.getLsbD bit

/-- The causes of a stop in this cycle (R316, R321 to R324, R333, R346). -/
def Lane.stopCauses (l : Lane) (slp slr ll : Bool) : List StopCause :=
  (if l.inputDemand 1 || l.sfu.soWord.getLsbD 6 || l.sfu.hostSto then [⟨2, true, true⟩] else [])
    ++ (if l.inputDemand 2 || l.sfu.soWord.getLsbD 7 || l.sfu.hostSs1 then [⟨1, true, false⟩] else [])
    ++ (if l.sfu.sessSs1 then [⟨7, true, false⟩] else [])
    ++ (if slp then [⟨3, false, l.on SFU.SLP_CFG_REACT⟩] else [])
    ++ (if slr then [⟨4, false, l.on SFU.SLR_CFG_REACT⟩] else [])
    ++ (if ll then [⟨5, false, false⟩] else [])
    ++ (if l.faultDemand 0 || l.faultDemand 1 then [⟨8, false, l.faultDemand 1⟩] else [])

/-- Several causes as one (R321, R326): STO when any demands it, commanded only when every one is, the KIND of the first that is
not commanded, or else of the first. -/
def joinCauses (cs : List StopCause) : Option StopCause :=
  match cs with
  | [] => none
  | c :: _ =>
    let first := (cs.find? fun x => !x.cmd).getD c
    some ⟨first.kind, cs.all StopCause.cmd, cs.any StopCause.sto⟩

/-- The quantities of R318 in one cycle of SAFE STOP, and its end code: 0 none, 1 standstill, 2 time-out, 3 envelope. Speeds are
in units of 2^-16; products with time are in ticks of 1/600,000,000 s. -/
def Lane.stopRule (l : Lane) (st : Stop) : Stop × Nat :=
  let v := l.speedMag
  let v0 := if l.ccn = st.e then v else st.v0
  let t := (l.ccn - st.e).toNat * l.cycleLen
  let fall := l.rd SFU.STOP_DECEL_VALUE * (t - 6000000 * l.rd SFU.STOP_CFG_DELAY)
  let lim := max (600000000 * (v0 + l.rd SFU.STOP_MARGIN_VALUE) - fall) (600000000 * l.rd SFU.STILL_SPEED)
  let overs := if lim < 600000000 * v then st.overs + 1 else 0
  let still := if v ≤ l.rd SFU.STILL_SPEED then st.still + l.cycleLen else 0
  let code := if l.rd SFU.STOP_CFG_PERSIST ≤ overs then 3
    else if 600000 * l.rd SFU.STILL_TIME ≤ still then 1
    else if 600000 * l.rd SFU.STOP_CFG_TIMEOUT ≤ t then 2 else 0
  ({ st with v0 := v0, overs := overs, still := still }, code)

/-- The decision of the evaluation by system mode (R317 to R321, R326). -/
def Lane.sfuDecide (l : Lane) (cause : Option StopCause) : Lane :=
  match l.xla.mode, l.sfu.stop with
  | .snuffed, _ => l
  | .safeStop, some st =>
    let (st1, code) := l.stopRule st
    let sto := st.sto || (match cause with | some c => c.sto | none => false)
    let cmd := l.on SFU.STOP_STATUS_COMMANDED && (match cause with | some c => !c.sto || c.cmd | none => true)
    ({ l with sfu := { l.sfu with stop := some { st1 with sto := sto }, endCode := if sto then 4 else code } } : Lane).flag
      SFU.STOP_STATUS_COMMANDED cmd
  | .safeStop, none => l
  | _, _ => match cause with
    | some c => { l with sfu := { l.sfu with toStop := some c } }
    | none => l

/-- The safety unit's functions on the agreed vector (R317). -/
def Lane.sfuFunctions (l : Lane) : Lane :=
  let (l1, slp) := l.sfuTake.slpCheck
  let (l2, slr) := l1.slrCheck
  let (l3, ll) := l2.llCheck
  l3.sfuDecide (joinCauses (l3.stopCauses slp slr ll))

/-- LAST_LIGHT_EXPIRY (R324): LL_TIME has run on the lane's own timebase; the part enters SAFE STOP at the next cycle start. -/
def execLastLightExpiry (l : LaneId) (t : Nat) (s : State) : Host.Outcome State Fault Refusal :=
  let n := (s.lane l).atTick t
  .next (s.setLane l (n.gated 6 (match n.xla.mode, n.sfu.llStart with
    | .lastLight, some t0 =>
      if t0 + 600000000 * n.rd SFU.LL_CFG_TIME ≤ n.clk.now then { n with sfu := { n.sfu with llDone := true } } else n
    | _, _ => n)))

/-! ### What the cycle start does with it (R318 to R321, R325, R327, R335) -/

/-- SAFE STOP begins with a cause (R318, R320): an STO removes torque at once. -/
def Lane.beginStop (l : Lane) (c : StopCause) : Lane :=
  let l1 := (((l.wr SFU.STOP_CCN_CCN l.ccn.toNat).bump SFU.EVENTS_STOPS).wr SFU.STOP_STATUS_KIND c.kind).wr SFU.STOP_STATUS_END 0
  let l2 := { l1.flag SFU.STOP_STATUS_COMMANDED c.cmd with
    sfu := { l1.sfu with stopAt := some l.clk.now, stop := some { e := l.ccn, since := l.clk.now, sto := c.sto }, toStop := none, endCode := 0
                         removed := c.sto, llStart := none, llDone := false, fromReset := false } }
  if c.sto then l2.snuffDrive else l2

/-- SAFE STOP ends (R319 to R321): torque is removed, and the stop stays commanded only at standstill or by STO. Code 4 is an end
by STO, recorded as END 3. -/
def Lane.endStop (l : Lane) (code : Nat) : Lane :=
  let cmd := l.on SFU.STOP_STATUS_COMMANDED && (decide (code = 1) || decide (code = 4))
  let l1 := (l.wr SFU.STOP_STATUS_END (min code 3)).flag SFU.STOP_STATUS_COMMANDED cmd
  ({ l1 with sfu := { l1.sfu with stop := none, endCode := 0, cmdStop := cmd, removed := true } } : Lane).snuffDrive

/-- Whether the part is uncertified (R335). -/
def Lane.uncertified (l : Lane) : Bool :=
  !l.sfu.confirmed || decide (l.otp.lifecycle ≠ 3) || l.on BCN.MODE_TWIN ||
    l.peers.any fun x => (l.xla.peers.get x).known && (decide ((l.xla.peers.get x).lifecycle ≠ 3) || (l.xla.peers.get x).twin)

/-- SFU_STATUS as the cycle start forms it (R325). -/
def Lane.sfuStatusWord (l : Lane) : Val :=
  BitVec.ofNat 18 (l.sfu.demand + 256 * l.sfu.still.toNat + 512 * l.sfu.slpActive.toNat + 1024 * l.sfu.slrActive.toNat
    + 2048 * (decide (l.xla.mode = .lastLight)).toNat + 4096 * (decide (l.xla.mode = .safeStop)).toNat
    + 8192 * l.sfu.removed.toNat + 16384 * (!l.sfu.confirmed).toNat + 32768 * l.uncertified.toNat)

/-- τ of R327. -/
def Lane.tauNow (l : Lane) : Nat := if l.sfu.confirmed then 65536 else 13107

/-- c of R327: the minimum of the entries that apply. -/
def Lane.fracNow (l : Lane) : Nat :=
  let c0 := if l.sfu.confirmed then 65536 else 6553
  let c1 := if l.sfu.slrActive then min c0 (l.rd SFU.SLR_FRAC_VALUE) else c0
  let c2 := if l.xla.mode = .lastLight then min c1 (l.rd SFU.LL_RATE_VALUE) else c1
  if l.xla.mode = .safeStop then min c2 (l.rd SFU.STOP_RATE_VALUE) else c2

/-- The fractions and the status word as they stand; removed: a torque removal is commanded at this cycle start. -/
def Lane.formSfu (l : Lane) (removed : Bool) : Lane :=
  let l1 := { l with sfu := { l.sfu with removed := removed } }
  { l with sfu := { l.sfu with tau := l.tauNow, frac := l.fracNow, statusWord := l1.sfuStatusWord } }

/-- The fractions and the status word of a cycle whose start a commit has changed (R325, R327, R334). -/
def Lane.reformSfu (l : Lane) : Lane := l.formSfu (l.sfu.statusWord.getLsbD 13)

/-- The safety unit at a cycle start, after the system mode is known: LAST LIGHT's timer, fractions, the status word and the
outputs. -/
def Lane.sfuCycleStart (l : Lane) : Lane :=
  let ll := decide (l.xla.mode = .lastLight)
  let l1 := { l with sfu := { l.sfu with
    llStart := if ll then some (l.sfu.llStart.getD l.clk.now) else none
    llDone := l.sfu.llDone && ll } }
  let l2 := l1.formSfu l1.sfu.removed
  ({ l2 with sfu := { l2.sfu with removed := false } } : Lane).driveOuts

/-! ### Check value, confirmation and the commissioning session (R329 to R334) -/

/-- The keys of the safety parameter image in order (R329). -/
def safetyKeys : List Nat :=
  [SFU.CFG_IN_IDX.key, SFU.MASKS_TQ_SLOTS.key] ++ ((List.range 8).map fun k => SFU.IN_CFG_DISC.at_ k 0)
    ++ [SFU.STOP_CFG_TIMEOUT.key, SFU.STOP_DECEL_VALUE.key, SFU.STOP_MARGIN_VALUE.key, SFU.STILL_TIME.key, SFU.STOP_RATE_VALUE.key]
    ++ [SFU.LL_CFG_TIME.key, SFU.LL_RATE_VALUE.key, SFU.LL_SPEED_VALUE.key]
    ++ [SFU.SLP_LO_VALUE.key, SFU.SLP_HI_VALUE.key, SFU.SLP_CFG_PERSIST.key]
    ++ [SFU.SLR_LIMIT_VALUE.key, SFU.SLR_FRAC_VALUE.key, SFU.SLR_CFG_PERSIST.key]
    ++ [SFU.SO_CFG_ENABLE.at_ 0 0, SFU.SO_CFG_ENABLE.at_ 1 0, GDC.SNUFF_CFG_ST_ACT.key]

/-- The check value of a register map (R329): CRC-32C over the image's 108 bytes. -/
def checkValue (m : Sparse Word) : Word := crc32c (safetyKeys.flatMap fun k => wordBytes (regWord m k))

/-- SFU.CHECK_VALUE is computed (R329). -/
def Lane.showCheck (l : Lane) : Lane := l.setWord SFU.CHECK_VALUE_VALUE.key (checkValue l.regs)

/-- The commissioning session closes (R333): SS1 is demanded when the part drives in commissioning mode. -/
def Lane.closeSession (l : Lane) : Lane :=
  let driving := match l.xla.mode with | .triplex | .duplex | .lastLight => true | _ => false
  { l with sfu := { l.sfu with session := false, sessSs1 := l.sfu.sessSs1 || (driving && !l.sfu.confirmed) } }

/-- COMMISSIONING_SESSION_LOST (R333): no keep-alive has been agreed for 250 ms. -/
def execCommissioningSessionLost (l : LaneId) (t : Nat) (s : State) : Host.Outcome State Fault Refusal :=
  let n := (s.lane l).atTick t
  .next (s.setLane l (n.gated 6
    (if n.sfu.session && decide (n.sfu.lastAlive + 150000000 ≤ n.clk.now) then n.closeSession.fault 0x9F else n)))

end Sys2Proof.Machine
end

