-- ==== Sys2Proof/Machine/Access.lean ====
section
/-!
DEFINITION. Register accesses (R18 to R22, R49, R50, R83, R488, R489, R517, R562 to R566): which register an address names, which
initiator may reach it, and what a write does by the access codes.
-/
namespace Sys2Proof.Machine

open Sys2Proof

/-- The outcome of the checks on a register access: the register's key and row; a register of CRY or OTP, whose layouts are not
part of the interface; or the check that failed. -/
inductive Access where
  | ok (k : Nat) (r : RegRow)
  | hidden
  | unmapped
  | violation
  | vigil
deriving DecidableEq, Repr

/-- Blocks that the comms core reaches in the privileged view (R83). -/
def commsBlocks : List Nat := [0x29, 0x2A, 0x2B, 0x2C, 0x2D, 0x2E, 0x28, 0x30, 0x31, 0x03, 0x0B]

/-- Blocks that Vigil's fabric port reaches in the privileged view (R517). -/
def vigilBlocks : List Nat := [0x04, 0x05, 0x06, 0x07, 0x08, 0x03, 0x38, 0x39, 0x30]

/-- Whether an initiator has the right to reach block b in a view (R83, R84, R513, R517). Initiator 0x10 is the Beacon checker in
twin mode, with code 0x0; the debug port reads at level 1 and writes at level 2. -/
def Lane.viewRight (l : Lane) (ini b : Nat) (priv w : Bool) : Bool :=
  match ini with
  | 0x0 => true
  | 0x10 => !priv && l.on BCN.MODE_TWIN
  | 0x1 | 0x2 | 0x3 | 0x4 => !priv
  | 0x5 => !priv || commsBlocks.contains b
  | 0x6 => priv && vigilBlocks.contains b
  | 0xB => true
  | 0xD => decide (if w then 2 ≤ l.dbgLevel else 1 ≤ l.dbgLevel)
  | 0xE => !w
  | _ => false

/-- Whether an address lies in one of the register windows (R48). -/
def inRegs (a : Nat) : Bool := (0x40000000 ≤ a && a < 0x41000000) || (0x50000000 ≤ a && a < 0x51000000)

/-- The checks on a register access. An address that holds no register outranks every other failed check; an access of Vigil's port that R21
refuses beside R517 is an access violation (R22). CRY and OTP are open to Vigil alone (R563). -/
def Lane.regAccess (l : Lane) (ini : Nat) (addr : Word) (w : Bool) : Access :=
  let priv := decide (addr.toNat < 0x50000000)
  let k := addr.toNat % 0x1000000
  let b := k / 0x10000
  if !inRegs addr.toNat then .unmapped
  else if b = 0x05 ∨ b = 0x07 then
    if l.viewRight ini b priv w && decide (ini = 0x6) then .hidden else if ini = 0x6 then .vigil else .violation
  else match rowOf k with
    | none => .unmapped
    | some r =>
      if l.viewRight ini b priv w && (priv || r.unpriv) then .ok k r
      else if decide (ini = 0x6) && (priv || r.unpriv) then .vigil else .violation

/-- The key of the LOCK register of the block that holds register k, if the block has one (R19). -/
def lockKey (k : Nat) : Option Nat := (rowOf (k / 0x10000 * 0x10000 + 0xFC)).map fun _ => k / 0x10000 * 0x10000 + 0xFC

/-- Whether the RWL fields of register k are locked. -/
def Lane.locked (l : Lane) (k : Nat) : Bool :=
  match lockKey k with
  | some q => bitsOf (l.word q) 0 1 = 1
  | none => false

/-- A word with the bits of a mask taken from another. -/
def maskIn (old v : Word) (m : Nat) : Word := (old &&& ~~~(BitVec.ofNat 32 m)) ||| (v &&& BitVec.ofNat 32 m)

/-- A field that is at least n: a smaller value is stored as n. -/
def atLeast (w : Word) (lo bits n : Nat) : Word := if bitsOf w lo bits < n then setBits w lo bits n else w

/-- Values that a register stores in place of those it does not accept (R79, R173, R208, R403, R408, R462, R493, R494). -/
def clampWord (k : Nat) (w : Word) : Word :=
  if k = BCN.SRAM_CTRL_SCRUB_INTERVAL.key then atLeast w 0 16 0x40
  else if k = PCL.SUPERVISE_MARGIN.key then atLeast w PCL.SUPERVISE_MARGIN.lo PCL.SUPERVISE_MARGIN.w 0x10
  else if k = CEN.TBL_SCRUB_INTERVAL.key then atLeast w CEN.TBL_SCRUB_INTERVAL.lo CEN.TBL_SCRUB_INTERVAL.w 0x10
  else if k = HIF.AGREE_CFG_TIMEOUT.key then atLeast w 0 16 1
  else if k = HIF.COMMIT_CFG_MIN_LEAD.key then atLeast w 0 8 4
  else if k = XSP.CS_CFG_DIV.at_ 0 0 ∨ k = XSP.CS_CFG_DIV.at_ 1 0 then atLeast w 0 4 2
  else if k = XTU.POOL_TABLES.key then if 64 < bitsOf w 0 7 then setBits w 0 7 64 else w
  else if k = PMU.WAKE_CFG_KEY_DEB.key then atLeast (atLeast w 24 8 1) 16 8 1
  else if k = CRU.FAT_CFG_CYCLES.key then
    let w1 := atLeast w 0 17 256
    if 65536 < bitsOf w1 0 17 then setBits w1 0 17 65536 else w1
  else w

/-- What a word v of an image makes of a register's word (R14, R20, R498): the fields that an image sets, sign extended where the register is, with the
values that it stores in place of those it does not accept; its other bits stay. -/
def loadWord (k : Nat) (old v : Word) : Word :=
  match rowOf k with
  | some r =>
    let w := maskIn old v (r.conf ||| r.rwl ||| r.rw)
    clampWord k (if r.sext then (w.setWidth 18).signExtend 32 else w)
  | none => old

/-- What a write of v makes of a register's word, by the access codes of its fields (R18). -/
def RegRow.write (r : RegRow) (k : Nat) (locked : Bool) (old v : Word) : Word :=
  let w1 := maskIn old v r.rw
  let w2 := if locked then w1 else maskIn w1 v r.rwl
  let w3 := w2 &&& ~~~(v &&& BitVec.ofNat 32 r.w1c)
  if r.rw = 0 ∧ r.rwl = 0 then w3 ||| (v &&& BitVec.ofNat 32 r.w1s) else clampWord k (w3 ||| (v &&& BitVec.ofNat 32 r.w1s))

/-- A write to register k by its access codes: a locked RWL field raises source 0x07 once, and the write completes. -/
def Lane.plainWrite (l : Lane) (ini : Nat) (addr : Word) (k : Nat) (r : RegRow) (v : Word) : Lane :=
  let locked := l.locked k
  let l1 := l.setWord k (r.write k locked (l.word k) v)
  (if locked && decide (r.rwl ≠ 0) then l1.fault 0x07 (accessInfo addr ini) else l1).busDone 0

/-- An access that a check refuses ends with a bus error and its event. -/
def Lane.refuseAccess (l : Lane) (ini : Nat) (addr : Word) (a : Access) : Lane :=
  match a with
  | .unmapped => l.unmapped ini addr
  | .violation => l.violation ini addr
  | .vigil => l.vigilViolation
  | _ => l

/-- A write of the host that the fabric ended with a bus error is logged as Completer Abort in AER, by the function whose window it came
through (R360, R361). -/
def Lane.logAbort (l : Lane) (ini : Nat) (addr : Word) : Lane :=
  if ini = 0xB ∧ l.bus = .error then
    { l with hif := { l.hif with aborts := l.hif.aborts ||| (if addr.toNat < 0x50000000 then 1 else 2) } }
  else l

/-- A write to the register at addr by an initiator, with the register's own effect f where it takes the write; the checks, and
the stall of a domain that is not ON, come first. An unaligned access of the host is an unsupported request (R361). -/
def Lane.guardWrite (l : Lane) (ini : Nat) (addr v : Word) (f : Nat → RegRow → Lane → Lane) : Lane :=
  if ini = 0xB ∧ addr.toNat % 4 ≠ 0 then l.unsupported
  else match l.regAccess ini addr true with
    | .ok k r => if l.domOn (blockDomain (k / 0x10000)) then (f k r l).logAbort ini addr else l.stall ini addr (some v)
    | .hidden => l.busDone 0
    | a => (l.refuseAccess ini addr a).logAbort ini addr

/-! ### Writes with an effect of their own -/

/-- PFB.ARM (R257, R263): an index that is not armed arms at the next cycle start, and so do probes. -/
def Lane.armWrite (l : Lane) (v : Word) : Lane :=
  ({ l with pfb := { l.pfb with armReq := l.pfb.armReq ||| v.toNat % 16 } } : Lane).busDone 0

/-- FCL.INJECT (R356): in MAKER, a write with GO set acts by TARGET: an event of the named source, a flip in the Beacon main
signature, or an armed memory error. In every other state the write completes without effect and raises source 0x07. -/
def Lane.injectWrite (l : Lane) (ini : Nat) (addr v : Word) : Lane :=
  (if l.otp.lifecycle ≠ 1 then l.fault 0x07 (accessInfo addr ini)
   else if bitsOf v 31 1 = 0 then l
   else match bitsOf v 8 3 with
    | 0 => l.fault (bitsOf v 0 8) 0 true
    | 1 => { l with bcn := { l.bcn with flip := true } }
    | 2 | 3 | 4 => { l with fcl := { l.fcl with armed := bitsOf v 8 3 } }
    | _ => l).busDone 0

/-- A LOCK register (R19): the lock bit sets, and setting GDC.LOCK copies GDC.SNUFF_CFG to the drive die (R297). -/
def Lane.lockWrite (l : Lane) (ini : Nat) (addr : Word) (k : Nat) (r : RegRow) (v : Word) : Lane :=
  let l1 := l.plainWrite ini addr k r v
  if k = GDC.LOCK_LOCK.key ∧ bitsOf v 0 1 = 1 then l1.copySnuffCfg else l1

/-- The fabric address of register k in the privileged view. -/
def privAddr (k : Nat) : Word := BitVec.ofNat 32 (0x40000000 + k)

/-- PFB_ARM_WRITE: bits 1 to 0 arm the index events of the encoders, bits 3 to 2 the probes. -/
def execPfbArmWrite (l : LaneId) (t ini : Nat) (v : Word) (s : State) : Host.Outcome State Fault Refusal :=
  .next (s.setLane l (((s.lane l).atTick t).guardWrite ini (privAddr PFB.ARM_INDEX.key) v fun _ _ n => n.armWrite v))

/-- A write of FCL.INJECT with a target. -/
def Lane.injectBy (l : Lane) (ini src target : Nat) : Lane :=
  let v := BitVec.ofNat 32 (0x80000000 + 256 * target + src % 256)
  let addr := privAddr FCL.INJECT_GO.key
  l.guardWrite ini addr v fun _ _ n => n.injectWrite ini addr v

/-- INJECT_SOURCE_EVENT (R356): TARGET 0. -/
def execInjectSourceEvent (l : LaneId) (t ini src : Nat) (s : State) : Host.Outcome State Fault Refusal :=
  .next (s.setLane l (((s.lane l).atTick t).injectBy ini src 0))

/-- INJECT_SIGNATURE_FLIP (R356): TARGET 1. -/
def execInjectSignatureFlip (l : LaneId) (t ini : Nat) (s : State) : Host.Outcome State Fault Refusal :=
  .next (s.setLane l (((s.lane l).atTick t).injectBy ini 0 1))

/-- INJECT_SRAM_SINGLE_BIT (R356): TARGET 2. -/
def execInjectSramSingleBit (l : LaneId) (t ini : Nat) (s : State) : Host.Outcome State Fault Refusal :=
  .next (s.setLane l (((s.lane l).atTick t).injectBy ini 0 2))

/-- INJECT_SRAM_DOUBLE_BIT (R356): TARGET 3. -/
def execInjectSramDoubleBit (l : LaneId) (t ini : Nat) (s : State) : Host.Outcome State Fault Refusal :=
  .next (s.setLane l (((s.lane l).atTick t).injectBy ini 0 3))

/-- INJECT_TABLE_DOUBLE_BIT (R356): TARGET 4. -/
def execInjectTableDoubleBit (l : LaneId) (t ini : Nat) (s : State) : Host.Outcome State Fault Refusal :=
  .next (s.setLane l (((s.lane l).atTick t).injectBy ini 0 4))

/-- GDC_LOCK_WRITE (R297). -/
def execGdcLockWrite (l : LaneId) (t ini : Nat) (v : Word) (s : State) : Host.Outcome State Fault Refusal :=
  .next (s.setLane l (((s.lane l).atTick t).guardWrite ini (privAddr GDC.LOCK_LOCK.key) v fun k r n =>
    n.lockWrite ini (privAddr GDC.LOCK_LOCK.key) k r v))

/-- BLOCK_LOCK_SET (R19): the lock bit of the block numbered blk, in the privileged view. -/
def execBlockLockSet (l : LaneId) (t ini blk : Nat) (s : State) : Host.Outcome State Fault Refusal :=
  let addr := privAddr (blk % 256 * 0x10000 + 0xFC)
  .next (s.setLane l (((s.lane l).atTick t).guardWrite ini addr 1 fun k r n => n.lockWrite ini addr k r 1))

/-- Whether an initiator has the right to table memory or host memory (R83): writes of table memory in staging have their own row. -/
def Lane.memRight (l : Lane) (ini a : Nat) (w : Bool) : Bool :=
  if inTable a then
    match ini with
    | 0x0 | 0x8 => true
    | 0x1 | 0x2 | 0x3 | 0x4 => !w
    | 0x10 => !w && l.on BCN.MODE_TWIN
    | 0xB => w
    | 0xD => !w && decide (1 ≤ l.dbgLevel)
    | _ => false
  else
    match ini with
    | 0x0 | 0xB => true
    | 0x10 => l.on BCN.MODE_TWIN
    | _ => false

/-- UNMAPPED_ACCESS (R49, R83): an address outside the memories and the register windows is unmapped, and so is an offset that holds
no register; a write to the boot ROM or to the NOR window is an access violation, and so is an access to table memory or host memory
without the right to it. What R517 alone refuses is Vigil's port violation (R22): of Vigil's accesses here, those to host memory, whose row of R83
leaves the right to R517. -/
def execUnmappedAccess (l : LaneId) (t ini : Nat) (addr : Word) (w : Bool) (s : State) : Host.Outcome State Fault Refusal :=
  let n := (s.lane l).atTick t
  let a := addr.toNat
  .next (s.setLane l
    (if a < 0x20000 ∨ (0x60000000 ≤ a ∧ a < 0x70000000) then
       if w then n.violation ini addr else n
     else if inSram a then n
     else if inTable a || decide (0x80000000 ≤ a) then
       (if n.memRight ini a w then n else if ini = 0x6 ∧ !inTable a then n.vigilViolation else n.violation ini addr)
     else if inRegs a then
       match n.regAccess ini addr w with
       | .unmapped => let m := n.unmapped ini addr
                      if w then m.logAbort ini addr else m
       | _ => n
     else n.unmapped ini addr))

/-! ### Fault rows (R344, R353) -/

/-- What an error found in an operand slot leaves in the Hopper's registers (R156, R174): INFO names the slot (R343), and the syndrome is
free. Table errors have commands of their own. -/
def Lane.hopperError (l : Lane) (src : Nat) (info : Word) : Lane :=
  if src = 0x23 then
    (((l.drew.wr HOP.ERR_INFO_SLOT info.toNat).wr HOP.ERR_INFO_SYNDROME (Config.syndrome l.free).toNat).flag HOP.ERR_INFO_UE true)
  else if src = 0x25 then l.bump HOP.ECC_COUNT_COUNT
  else l

/-- FAULT_EVENT: a source delivers an event, with its condition level where it has one. -/
def execFaultEvent (l : LaneId) (t src : Nat) (info : Word) (level : Option Bool) (s : State) : Host.Outcome State Fault Refusal :=
  let n := ((s.lane l).atTick t).hopperError src info
  .next (s.setLane l (match level with
    | some b => if b then n.faultLevel src info else n.setLevel src false
    | none => n.fault src info))

/-- FAULT_RECOVERY. -/
def execFaultRecovery (l : LaneId) (t src : Nat) (s : State) : Host.Outcome State Fault Refusal :=
  .next (s.setLane l (((s.lane l).atTick t).recover src))

/-- EPISODE_CLOSE (R352): at a qualifying commit, or at the eighth cycle start after the episode opened. -/
def execEpisodeClose (l : LaneId) (t : Nat) (s : State) : Host.Outcome State Fault Refusal :=
  let n := (s.lane l).atTick t
  .next (s.setLane l (if n.xla.committed then n.closeAtCommit else n.closeAtStart))

end Sys2Proof.Machine
end

