-- ==== Sys2Proof/Machine/Networks.lean ====
section
/-!
DEFINITION. Vehicle networks (chapter 12): Wick frames, windows, boundaries, transmission, reception and schedule-mode switches;
802.1AS synchronisation; best-effort forwarding; CAN buffers, filters and error states; ISO 11783 addresses.
A payload is a little-endian number, so that payload bit b is its bit b (R422).
-/
namespace Sys2Proof.Machine

open Sys2Proof

/-! ### Signals (R422 to R424) -/

/-- The raw signal field at BITPOS with LEN bits. -/
def rawField (payload bitpos len : Nat) : Val := BitVec.ofNat 18 (payload / 2 ^ bitpos % 2 ^ len)

/-- A payload after LEN bits of a value are written at BITPOS. -/
def putField (payload bitpos len v : Nat) : Nat :=
  payload - payload / 2 ^ bitpos % 2 ^ len * 2 ^ bitpos + v % 2 ^ len * 2 ^ bitpos

/-! ### Ports -/

/-- Whether a port is enabled, up and not fenced: a fenced port transmits nothing and drops received frames (R345, R419). -/
def Lane.portSends (l : Lane) (p : Nat) : Bool :=
  l.on WCK.PORT_CFG_ENABLE p && l.on WCK.PORT_STATUS_LINK p && !l.fenced (.port (.eth p))

/-- Whether the lane's networks run: Wick enabled, its domain ON, and lane state neither BOOT nor OFF (R419). -/
def Lane.wickRuns (l : Lane) : Bool :=
  l.on WCK.CFG_ENABLE && l.domOn 3 && (match l.own with | .boot | .off => false | _ => true)

/-- Whether the lane state permits data frames (R419). -/
def Lane.wickState (l : Lane) : Bool := l.own.healthy

/-- Line rate of an interface in tenths of a nanosecond per byte (R409). -/
def byteTime (i : Nat) : Nat := match i with | 0 => 32 | 1 => 80 | _ => 800

/-- The rate of the slower interface (R416). -/
def ringByteTime (r : Sparse Word) : Nat := max (byteTime (cfgRd r WCK.PORT_CFG_IF 0)) (byteTime (cfgRd r WCK.PORT_CFG_IF 1))

/-- W of a frame with the given LEN, in units of 10 ns, rounded up (R416). -/
def windowLen (r : Sparse Word) (len : Nat) : Nat :=
  let bytes := max (len + 34 + 4 * cfgRd r WCK.ETH_VLAN) 64 + 20
  ceilDiv (bytes * ringByteTime r) 100 + (cfgRd r WCK.CFG_RING_NODES - 1) * cfgRd r WCK.TIMING_HOP + cfgRd r WCK.TIMING_GUARD

/-- W_MIN and CTL_WIN in units of 10 ns. -/
def wMin (r : Sparse Word) : Nat := windowLen r (30 - 4 * cfgRd r WCK.ETH_VLAN)
def ctlWin (r : Sparse Word) : Nat := cfgRd r WCK.CFG_RING_NODES * wMin r

/-- The present instant of the Wick cycle, in units of 10 ns from the last boundary. -/
def Lane.wickAt (l : Lane) : Nat := (l.clk.now - l.wck.boundAt) / 6

/-- The group address of Wick frames (R412). -/
def Lane.groupMac (l : Lane) : Nat :=
  (l.word WCK.GROUP_MAC_LO_ADDR.key).toNat + 2 ^ 32 * (bitsOf (l.word WCK.GROUP_MAC_HI_ADDR.key) 0 16)

/-- Whether a frame is a Wick frame of this ring, by its EtherType and destination (R412). -/
def Lane.isWick (l : Lane) (e : EthHdr) : Bool := decide (e.etherType = l.rd WCK.ETH_ETHERTYPE) && decide (e.dst = l.groupMac)

/-- The nodes of the ring in ascending order. -/
def ringNodes (r : Sparse Word) : List Nat := (List.range 32).filter fun k => (regWord r WCK.NODE_MASK_NODES.key).getLsbD k

/-- Whether an instant of the Wick cycle, in units of 10 ns, lies in the window of slot s of mode m, direction d (R416). -/
def inSlotWindow (r : Sparse Word) (m d s x : Nat) : Bool :=
  cfgRd r WCK.SLOT_VALID (2 * m + d) s = 1 &&
    (let o := 2 * cfgRd r WCK.SLOT_OFFSET (2 * m + d) s
     let g := cfgRd r WCK.SLOT_MSG (2 * m + d) s
     decide (o ≤ x + cfgRd r WCK.TIMING_LATE) && decide (x < o + windowLen r (cfgRd r WCK.MSG_CFG_LEN g)))

/-- Whether an instant lies in the control sub-window of a node (R416). -/
def inSubWindow (r : Sparse Word) (node x : Nat) : Bool :=
  match (ringNodes r).findIdx? (· == node) with
  | some i =>
    let o := cfgRd r WCK.CYCLE_LENGTH - ctlWin r + i * wMin r
    decide (o ≤ x) && decide (x < o + wMin r)
  | none => false

/-- Whether an instant lies in some window of direction d of the active mode, the control window included. -/
def Lane.inAnyWindow (l : Lane) (d x : Nat) : Bool :=
  (List.range 64).any (fun s => inSlotWindow l.regs (l.rd WCK.STATUS_MODE) d s x)
    || decide (l.rd WCK.CYCLE_LENGTH ≤ x + ctlWin l.regs)

/-- The registers that show W_MIN and CTL_WIN follow the configuration. -/
def Lane.showWindows (l : Lane) : Lane := (l.wr WCK.W_MIN_NS10 (wMin l.regs)).wr WCK.CTL_WIN_NS10 (ctlWin l.regs)

/-! ### Time synchronisation (R410) -/

/-- Time synchronisation is lost: data frames stop until the next full valid cycle (R420). -/
def Lane.syncLost (l : Lane) : Lane :=
  if l.on WCK.STATUS_SYNCED then
    let l1 := (l.flag WCK.STATUS_SYNCED false).flag WCK.STATUS_TX_EN false
    ({ l1 with wck := { l1.wck with syncRun := 0, syncAll := false, txOk := false } } : Lane).faultLevel 0xBA
  else { l with wck := { l.wck with syncRun := 0, syncAll := false } }

/-- A Sync with its offset in nanoseconds. -/
def Lane.ptpSync (l : Lane) (off : Int) : Lane :=
  let l1 := { (l.setWord WCK.SYNC_OFFSET_VALUE.key (BitVec.ofInt 32 (clampInt (-2147483648) 2147483647 off))) with
    wck := { l.wck with syncAt := some l.clk.now } }
  if 10 * l.rd WCK.PTP_SYNC_LIMIT < off.natAbs then l1.syncLost
  else
    let run := min (l.wck.syncRun + 1) 3
    let l2 := { l1 with wck := { l1.wck with syncRun := run } }
    if run = 3 then (l2.flag WCK.STATUS_SYNCED true).setLevel 0xBA false else l2

/-- PTP_SYNC_MESSAGE: the offset that the message gives, on a port that is up. -/
def execPtpSyncMessage (l : LaneId) (t port : Nat) (off : Int) (s : State) : Host.Outcome State Fault Refusal :=
  let n := (s.lane l).atTick t
  .next (s.setLane l (if n.wickRuns && n.portSends (port % 2) then n.ptpSync off else n))

/-- PTP_SYNC_TIMEOUT: three Sync intervals have passed without a Sync. -/
def execPtpSyncTimeout (l : LaneId) (t : Nat) (s : State) : Host.Outcome State Fault Refusal :=
  let n := (s.lane l).atTick t
  .next (s.setLane l (n.gated 3 (match n.wck.syncAt with
    | some a => if decide (a * 2 ^ n.rd WCK.PTP_SYNC_EXP + 3 * 600000000 ≤ n.clk.now * 2 ^ n.rd WCK.PTP_SYNC_EXP) &&
        n.on WCK.STATUS_SYNCED then n.syncLost else n
    | none => n)))

/-! ### The Wick boundary (R411, R418 to R421, R425) -/

/-- Whether the last control cycle that started before this instant committed nothing (R418): the current cycle once its commit
time has passed, else the one before. A migration or commit hold cycle is known as such from its start. -/
def Lane.heldContent (l : Lane) : Bool := l.xla.migration || l.xla.commitHold || (if l.clk.phase = .background then !l.xla.committed else l.xla.held)

/-- The slots of the active mode that carry message g: direction and slot. -/
def Lane.slotsOf (l : Lane) (g : Nat) : List (Nat × Nat) :=
  ([0, 1].flatMap fun d => (List.range 64).map fun s => (d, s)).filter fun e =>
    let m := 2 * l.rd WCK.STATUS_MODE + e.1
    l.on WCK.SLOT_VALID m e.2 && decide (l.rd WCK.SLOT_MSG m e.2 = g)

/-- Whether the lane transmits message g in the active mode. -/
def Lane.transmits (l : Lane) (g : Nat) : Bool :=
  (l.slotsOf g).any fun e => decide (l.rd WCK.SLOT_OWNER (2 * l.rd WCK.STATUS_MODE + e.1) e.2 = l.rd WCK.CFG_NODE)

/-- A count of the Wick cycle in progress rises. -/
def Lane.netCount (l : Lane) (k : Nat) : Lane :=
  { l with wck := { l.wck with counts := Sparse.set 0 l.wck.counts k (Sparse.get 0 l.wck.counts k + 1) } }

/-- A slot that missed (R421). -/
def Lane.slotMissed (l : Lane) (d : Nat) : Lane := ((l.bump WCK.MISSED_LO d).netCount (2 + d)).fault (0xB8 + d)

/-- The age of a message that the lane receives: 255 before its first valid frame, and kept while the lane transmits the message instead (R421). -/
def Lane.msgAge (l : Lane) (g : Nat) : Nat := Sparse.get 255 l.wck.ages g
def Lane.setAge (l : Lane) (g a : Nat) : Lane :=
  ({ l with wck := { l.wck with ages := Sparse.set 255 l.wck.ages g a } } : Lane).wr WCK.MSG_STATUS_AGE a g

/-- A message is published or ages at a boundary (R421). -/
def Lane.ageMessage (l : Lane) (g : Nat) : Lane :=
  if !l.on WCK.MSG_CFG_ENABLE g || l.transmits g then l
  else match Sparse.get none l.wck.arrived g with
    | some f =>
      let l1 := l.setAge g 0
      { l1 with wck := { l1.wck with pub := Sparse.set 0 l1.wck.pub g f.payload } }
    | none => (l.slotsOf g).foldl (fun n e => n.slotMissed e.1) (l.setAge g (satN 8 (l.msgAge g + 1)))

/-- The transmit snapshot (R418), with TXAGE shown for the messages that the lane transmits. -/
def Lane.wickSnapshot (l : Lane) : Lane :=
  let age := satN 8 l.wck.since
  let l1 := { l with wck := { l.wck with snap := l.wck.buf, snapHold := l.heldContent, snapAge := age, since := l.wck.since + 1 } }
  ((List.range 128).filter fun g => l.on WCK.MSG_CFG_ENABLE g && l.transmits g).foldl
    (fun n g => n.wr WCK.MSG_STATUS_AGE age g) l1

/-- The nodes whose ACK a switch needs: every node of the ring but the lane's own and the announcer's. -/
def Lane.ackMask (l : Lane) (announcer : Nat) : List Nat :=
  (ringNodes l.regs).filter fun k => decide (k ≠ l.rd WCK.CFG_NODE) && decide (k ≠ announcer)

/-- Whether every ACK of the pending switch has come. -/
def Lane.acksDone (l : Lane) (sw : WickSwitch) : Bool :=
  (l.ackMask sw.node).all fun k => (l.word WCK.SW_ACKS_VALUE.key).getLsbD k

/-- The end of the pending switch at the boundary of w_s (R425): 1 switched, 2 ACK missing, 3 CONFIRM missing, 5 commit failed. -/
def Lane.endSwitch (l : Lane) (sw : WickSwitch) : Lane :=
  let r := if !l.acksDone sw then 2 else if sw.mine && !sw.applied then 5 else if !sw.mine && !sw.confirm then 3 else 1
  let l1 := ((l.flag WCK.STATUS_SW_PENDING false).wr WCK.SW_RESULT_RESULT r).wr WCK.SW_RESULT_TARGET (l.rd WCK.STATUS_TARGET)
  let l2 := { (l1.flag WCK.SW_RESULT_ANNOUNCER sw.mine) with wck := { l1.wck with switch := none } }
  if r = 1 then (l2.wr WCK.STATUS_MODE (l.rd WCK.STATUS_TARGET)).wrapInc WCK.SW_RESULT_SWITCHES else l2

/-- The counts of the Wick cycle just ended are latched (R540). -/
def Lane.latchNet (l : Lane) : Lane :=
  let c := fun k => Sparse.get 0 l.wck.counts k
  let l1 := [0, 1].foldl (fun (n : Lane) p => ((n.wr STA.NET_FRAMES (satN 16 (c p)) p).wr STA.NET_MISSED (satN 8 (c (2 + p))) p).wr
    STA.NET_LATE (satN 8 (c (4 + p))) p) l
  { (l1.setWord STA.NET_WCN_VALUE.key (l.word WCK.WCN_VALUE.key)) with wck := { l1.wck with counts := [] } }

/-- Best-effort frames that the queue of port p can hold: 16 KiB (R430). -/
def queueBytes (q : List (Bool × Nat)) : Nat := natSum (q.map fun e => e.2)

/-- The queue of a port. -/
def Wck.queue (w : Wck) (p : Nat) : List (Bool × Nat) := if p = 0 then w.queue0 else w.queue1

/-- The lane with the queue of a port replaced. -/
def Lane.setQueue (l : Lane) (p : Nat) (q : List (Bool × Nat)) : Lane :=
  { l with wck := if p = 0 then { l.wck with queue0 := q } else { l.wck with queue1 := q } }

/-- Whether a frame of the given bytes that starts at instant x, in units of 10 ns, is finished before the next window or control
window of the port's direction opens (R430). -/
def Lane.beFits (l : Lane) (p x bytes : Nat) : Bool :=
  let e := x + ceilDiv ((bytes + 20) * byteTime (l.rd WCK.PORT_CFG_IF p)) 100
  !l.inAnyWindow p x && decide (e + ctlWin l.regs ≤ l.rd WCK.CYCLE_LENGTH) &&
    (List.range 64).all fun s =>
      let m := 2 * l.rd WCK.STATUS_MODE + p
      let o := 2 * l.rd WCK.SLOT_OFFSET m s - l.rd WCK.TIMING_LATE
      !l.on WCK.SLOT_VALID m s || decide (o < x) || decide (e ≤ o)

/-- The time of a best-effort frame on the line of port p, in units of 10 ns, and the instant at which the next may start: x, or when the frame before it
has ended. -/
def Lane.beTime (l : Lane) (p bytes : Nat) : Nat := ceilDiv ((bytes + 20) * byteTime (l.rd WCK.PORT_CFG_IF p)) 100
def Lane.beStart (l : Lane) (p x : Nat) : Nat := max x (ceilDiv (Sparse.get 0 l.wck.busy p - l.wck.boundAt) 6)

/-- A best-effort frame starts on port p at instant x, and keeps the port busy for its time. -/
def Lane.beSend (l : Lane) (p x bytes : Nat) : Lane :=
  ({ l with wck := { l.wck with busy := Sparse.set 0 l.wck.busy p (l.wck.boundAt + 6 * (x + l.beTime p bytes)) } } : Lane).emit (.bestEffort p bytes)

/-- Waiting frames of a port leave from instant x while they fit, 802.1AS messages first. -/
def Lane.drainQueue : Nat → Lane → Nat → Nat → Lane
  | 0, l, _, _ => l
  | k + 1, l, p, x =>
    let q := l.wck.queue p
    let q' := (q.filter fun e => e.1) ++ (q.filter fun e => !e.1)
    match q' with
    | [] => l
    | e :: rest =>
      let y := l.beStart p x
      if l.portSends p && l.beFits p y e.2 then Lane.drainQueue k ((l.setQueue p rest).beSend p y e.2) p x else l

/-- A Wick boundary, at which cycle w begins. -/
def Lane.wickBoundary (l : Lane) (w : Word) : Lane :=
  let l1 := (List.range 128).foldl Lane.ageMessage l
  let full := l.wck.syncAll && l.wck.gotData && !l.wck.otherMode && !l.wck.otherWcn
  let ok := full || (l.wck.txOk && !l.wck.otherMode)
  let l2 := l1.latchNet.flag WCK.STATUS_VALID_CYCLE full
  let l3 := (({ l2 with wck := { l2.wck with boundAt := l.clk.now } } : Lane).setWord WCK.WCN_VALUE.key w |>.setWord WCK.BOUNDARY_CCN_VALUE.key l.ccn).wr
    WCK.BOUNDARY_TICK_TICK l.tick
  let l4 := match l3.wck.switch with
    | some sw => if l3.word WCK.SW_WCN_VALUE.key = w then l3.endSwitch sw else l3
    | none => l3
  let l5 := { (l4.wickSnapshot) with wck := { l4.wickSnapshot.wck with
    arrived := [], gotData := false, otherMode := false, otherWcn := false, syncAll := l.on WCK.STATUS_SYNCED, txOk := ok } }
  let l6 := l5.flag WCK.STATUS_TX_EN (ok && l.wickState)
  (l6.drainQueue 64 0 0).drainQueue 64 1 0

/-- WICK_BOUNDARY: the 802.1AS time reaches w × CYCLE. -/
def execWickBoundary (l : LaneId) (t : Nat) (w : Word) (s : State) : Host.Outcome State Fault Refusal :=
  let n := (s.lane l).atTick t
  .next (s.setLane l (if n.wickRuns then n.wickBoundary w else n))

/-! ### Sending (R415, R417 to R419, R427) -/

/-- A frame of the lane with its header filled in. -/
def Lane.wickFrame (l : Lane) (kind slot d len payload : Nat) : WickFrame :=
  let tag := if l.on WCK.ETH_VLAN then some (l.rd WCK.ETH_PCP, l.rd WCK.ETH_VID) else none
  let f : WickFrame := {
    dst := l.groupMac, src := l.otp.mac, tag := tag, etherType := l.rd WCK.ETH_ETHERTYPE, fcsOk := true, crc := 0, version := 1, kind := kind,
    slot := slot, dir := d, wcn := l.word WCK.WCN_VALUE.key, mode := l.rd WCK.STATUS_MODE, lane := l.id.code,
    primary := decide (l.own = .authority), hold := l.wck.snapHold, node := l.rd WCK.CFG_NODE, len := len, txage := l.wck.snapAge,
    hops := l.rd WCK.CFG_RING_NODES - 1, payload := payload }
  f.withCrc

/-- A slot's transmit offset has come. -/
def Lane.wickSlot (l : Lane) (d s : Nat) : Lane :=
  let m := 2 * l.rd WCK.STATUS_MODE + d
  let g := l.rd WCK.SLOT_MSG m s
  if l.wickRuns && l.wck.txOk && l.wickState && l.portSends d && l.on WCK.SLOT_VALID m s && decide (l.wickAt = 2 * l.rd WCK.SLOT_OFFSET m s) &&
      decide (l.rd WCK.SLOT_OWNER m s = l.rd WCK.CFG_NODE) && l.on WCK.MSG_CFG_ENABLE g then
    let len := l.rd WCK.MSG_CFG_LEN g
    l.emit (.wick d (l.wickFrame 0 s d len (Sparse.get 0 l.wck.snap g % 2 ^ (8 * len))))
  else l

/-- WICK_SLOT_TRANSMIT: direction d, 0 East and 1 West; it acts at the slot's OFFSET. -/
def execWickSlotTransmit (l : LaneId) (t d slot : Nat) (s : State) : Host.Outcome State Fault Refusal :=
  .next (s.setLane l (((s.lane l).atTick t).wickSlot (d % 2) slot))

/-- The 8-byte payload of a control frame for the pending switch (R413). -/
def Lane.switchPayload (l : Lane) (node : Nat) : Nat :=
  l.rd WCK.STATUS_TARGET + 256 * node + 2 ^ 32 * (l.word WCK.SW_WCN_VALUE.key).toNat

/-- A control frame out of both ports. -/
def Lane.sendControl (l : Lane) (kind node : Nat) : Lane :=
  [0, 1].foldl (fun (n : Lane) d => if n.portSends d then n.emit (.wick d (n.wickFrame kind 0 d 8 (n.switchPayload node))) else n) l

/-- The lane's control sub-window opens (R416, R427): a pending CONFIRM in the control window of w_s - 1, an ACK, or an ANNOUNCE
from the first control window on that starts after the start of the cycle following agreement. -/
def Lane.subWindow (l : Lane) : Lane :=
  match l.wck.switch with
  | some sw =>
    if sw.confirmDue && decide (l.word WCK.WCN_VALUE.key + 1 = l.word WCK.SW_WCN_VALUE.key) then
      { (l.sendControl 3 sw.node) with wck := { l.wck with switch := some { sw with confirmDue := false } } }
    else if sw.ackDue then { (l.sendControl 2 sw.node) with wck := { l.wck with switch := some { sw with ackDue := false } } }
    else if sw.annDue && decide ((l.word WCK.WCN_VALUE.key - sw.annWcn).toNat < 0x80000000) then
      { (l.sendControl 1 sw.node) with wck := { l.wck with switch := some { sw with annDue := false } } }
    else l
  | none => l

/-- WICK_CONTROL_SUBWINDOW: it acts inside the lane's own sub-window. -/
def execWickControlSubwindow (l : LaneId) (t : Nat) (s : State) : Host.Outcome State Fault Refusal :=
  let n := (s.lane l).atTick t
  .next (s.setLane l (if n.wickRuns && inSubWindow n.regs (n.rd WCK.CFG_NODE) n.wickAt then n.subWindow else n))

/-! ### Receiving (R414, R417, R420, R425, R426) -/

/-- A frame is forwarded out of its direction's port with HOPS decremented (R417). -/
def Lane.forwardWick (l : Lane) (f : WickFrame) : Lane :=
  if decide (1 < f.hops) && l.portSends (f.dir % 2) then l.emit (.wick (f.dir % 2) { f with hops := f.hops - 1 }) else l

/-- What every frame that reaches the lane does on arrival: error counts, and the marks of R420. -/
def Lane.noteFrame (l : Lane) (port : Nat) (f : WickFrame) : Lane :=
  if f.fcsOk && f.crcOk then
    { l with wck := { l.wck with
        otherMode := l.wck.otherMode || (f.crcOk && decide (f.mode ≠ l.rd WCK.STATUS_MODE))
        otherWcn := l.wck.otherWcn || (f.crcOk && decide (f.wcn ≠ l.word WCK.WCN_VALUE.key)) } }
  else
    let l1 := l.bump WCK.RX_COUNT_LO port
    if f.crcOk then
      { l1 with wck := { l1.wck with
          otherMode := l1.wck.otherMode || decide (f.mode ≠ l.rd WCK.STATUS_MODE)
          otherWcn := l1.wck.otherWcn || decide (f.wcn ≠ l.word WCK.WCN_VALUE.key) } }
    else l1

/-- Whether a data frame is valid apart from its window (R414). -/
def Lane.dataValid (l : Lane) (f : WickFrame) : Bool :=
  let m := 2 * l.rd WCK.STATUS_MODE + f.dir
  f.fcsOk && f.crcOk && decide (f.version = 1) && decide (f.wcn = l.word WCK.WCN_VALUE.key) &&
    decide (f.mode = l.rd WCK.STATUS_MODE) && decide (f.slot < 64) && decide (f.dir < 2) && l.on WCK.SLOT_VALID m f.slot &&
    decide (l.rd WCK.SLOT_OWNER m f.slot = f.node) && l.on WCK.MSG_CFG_ENABLE (l.rd WCK.SLOT_MSG m f.slot) &&
    decide (f.len = l.rd WCK.MSG_CFG_LEN (l.rd WCK.SLOT_MSG m f.slot))

/-- A valid data frame is consumed: its message shows what its header says (R438), and it is published at the next boundary. -/
def Lane.takeData (l : Lane) (port : Nat) (f : WickFrame) : Lane :=
  let g := l.rd WCK.SLOT_MSG (2 * l.rd WCK.STATUS_MODE + f.dir) f.slot
  let l0 := (l.bump WCK.RX_COUNT_HI port).netCount port
  let l1 := (((l0.wr WCK.MSG_STATUS_TXAGE f.txage g).flag WCK.MSG_STATUS_HOLD f.hold g).flag WCK.MSG_STATUS_PRIMARY f.primary g).wr
    WCK.MSG_STATUS_LANE f.lane g
  { l1 with wck := { l1.wck with gotData := true
                                 arrived := Sparse.set none l1.wck.arrived g (some { f with payload := f.payload % 2 ^ (8 * f.len) }) } }

/-- A Wick frame arrives on a port (R417); own says whether the present instant lies in the frame's own window, and take what a
receiver in time does with it. A frame that is not a Wick frame is best-effort traffic (R430). -/
def Lane.wickArrive (l : Lane) (port : Nat) (f : WickFrame) (own : Bool) (take : Lane → Lane) : Lane :=
  if l.wickRuns && l.portSends port && l.isWick f.toEthHdr then
    let l1 := l.noteFrame port f
    if f.node = l.rd WCK.CFG_NODE then l1
    else if !l.inAnyWindow (f.dir % 2) l.wickAt then (l1.bump WCK.MISSED_HI (f.dir % 2)).netCount (4 + f.dir % 2)
    else if own then take (l1.forwardWick f) else l1
  else l

/-- WICK_DATA_FRAME. -/
def execWickDataFrame (l : LaneId) (t port : Nat) (e : EthHdr) (w : WickHdr) (s : State) : Host.Outcome State Fault Refusal :=
  let n := (s.lane l).atTick t
  let f : WickFrame := ⟨e, w⟩
  .next (s.setLane l (n.wickArrive (port % 2) f (inSlotWindow n.regs (n.rd WCK.STATUS_MODE) (f.dir % 2) f.slot n.wickAt) fun m =>
    if n.dataValid f && decide (f.kind = 0) then m.takeData (port % 2) f else m))

/-- The switch that a control frame's payload names: target mode, announcing node, w_s. -/
def switchOf (f : WickFrame) : Nat × Nat × Word :=
  (f.payload % 4, f.payload / 256 % 256, BitVec.ofNat 32 (f.payload / 2 ^ 32))

/-- Whether a control frame is sound: R414's checks that are not of a slot. -/
def ctlSound (f : WickFrame) (kind : Nat) : Bool := f.fcsOk && f.crcOk && decide (f.version = 1) && decide (f.kind = kind)

/-- Whether a control frame belongs to the pending switch. -/
def Lane.forPending (l : Lane) (f : WickFrame) : Bool :=
  match l.wck.switch with
  | some sw => decide (switchOf f = (l.rd WCK.STATUS_TARGET, sw.node, l.word WCK.SW_WCN_VALUE.key))
  | none => false

/-- Whether a schedule mode is loaded: some slot of it is valid. -/
def Lane.modeLoaded (l : Lane) (m : Nat) : Bool :=
  [0, 1].any fun d => (List.range 64).any fun s => l.on WCK.SLOT_VALID (2 * m + d) s

/-- Another node announces a switch (R426): it is acknowledged, or refused with SW_RESULT 4. -/
def Lane.takeAnnounce (l : Lane) (f : WickFrame) : Lane :=
  let (m, node, ws) := switchOf f
  if l.forPending f then l
  else if l.on WCK.CFG_FOLLOW && l.modeLoaded m && decide (2 ≤ (ws - l.word WCK.WCN_VALUE.key).toNat) &&
      decide ((ws - l.word WCK.WCN_VALUE.key).toNat < 0x80000000) && !l.on WCK.STATUS_SW_PENDING then
    let l1 := ((l.wr WCK.STATUS_TARGET m).flag WCK.STATUS_SW_PENDING true).setWord WCK.SW_WCN_VALUE.key ws
    { (l1.setWord WCK.SW_ACKS_VALUE.key 0) with wck := { l1.wck with switch := some { mine := false, node := node, ackDue := true } } }
  else ((l.wr WCK.SW_RESULT_RESULT 4).wr WCK.SW_RESULT_TARGET m).flag WCK.SW_RESULT_ANNOUNCER false

/-- ANNOUNCE. -/
def execAnnounce (l : LaneId) (t port : Nat) (e : EthHdr) (w : WickHdr) (s : State) : Host.Outcome State Fault Refusal :=
  let n := (s.lane l).atTick t
  let f : WickFrame := ⟨e, w⟩
  .next (s.setLane l (n.wickArrive (port % 2) f (inSubWindow n.regs f.node n.wickAt) fun m =>
    if ctlSound f 1 then m.takeAnnounce f else m))

/-- An ACK counts in a Wick cycle no later than w_s - 2 (R425). -/
def Lane.takeAck (l : Lane) (f : WickFrame) : Lane :=
  let left := (l.word WCK.SW_WCN_VALUE.key - l.word WCK.WCN_VALUE.key).toNat
  if l.forPending f && decide (2 ≤ left) && decide (left < 0x80000000) then
    l.setWord WCK.SW_ACKS_VALUE.key (l.word WCK.SW_ACKS_VALUE.key ||| BitVec.ofNat 32 (2 ^ f.node))
  else l

/-- ACK. -/
def execAck (l : LaneId) (t port : Nat) (e : EthHdr) (w : WickHdr) (s : State) : Host.Outcome State Fault Refusal :=
  let n := (s.lane l).atTick t
  let f : WickFrame := ⟨e, w⟩
  .next (s.setLane l (n.wickArrive (port % 2) f (inSubWindow n.regs f.node n.wickAt) fun m =>
    if ctlSound f 2 then m.takeAck f else m))

/-- The announcer's CONFIRM in the control window of w_s - 1 (R425). -/
def Lane.takeConfirm (l : Lane) (f : WickFrame) : Lane :=
  match l.wck.switch with
  | some sw =>
    if l.forPending f && decide (f.node = sw.node) && decide (l.word WCK.WCN_VALUE.key + 1 = l.word WCK.SW_WCN_VALUE.key) then
      { l with wck := { l.wck with switch := some { sw with confirm := true } } }
    else l
  | none => l

/-- CONFIRM. -/
def execConfirm (l : LaneId) (t port : Nat) (e : EthHdr) (w : WickHdr) (s : State) : Host.Outcome State Fault Refusal :=
  let n := (s.lane l).atTick t
  let f : WickFrame := ⟨e, w⟩
  .next (s.setLane l (n.wickArrive (port % 2) f (inSubWindow n.regs f.node n.wickAt) fun m =>
    if ctlSound f 3 then m.takeConfirm f else m))

/-! ### A switch by commit (R427, R428) -/

/-- The w_s of R427: the first Wick cycle whose boundary falls at least CTL_WIN after the start of control cycle m and before its
end, as the last boundary and the configured lengths give it. -/
def Lane.findSwitch (l : Lane) (m : Word) : Option Word :=
  let start := (m - l.word WCK.BOUNDARY_CCN_VALUE.key).toNat * l.cycleLen
  let w := 6 * l.rd WCK.CYCLE_LENGTH
  let lo := start + 6 * ctlWin l.regs
  if w = 0 then none
  else
    let k := ceilDiv (lo - l.rd WCK.BOUNDARY_TICK_TICK) w
    if l.rd WCK.BOUNDARY_TICK_TICK + k * w < start + l.cycleLen then some (l.word WCK.WCN_VALUE.key + BitVec.ofNat 32 k) else none

/-- The WCN of the first control window that starts after the start of the next control cycle (R427). -/
def Lane.firstWindow (l : Lane) : Word :=
  let next := (l.ccn + 1 - l.word WCK.BOUNDARY_CCN_VALUE.key).toNat * l.cycleLen
  let w := 6 * l.rd WCK.CYCLE_LENGTH
  let open_ := l.rd WCK.BOUNDARY_TICK_TICK + w - 6 * ctlWin l.regs
  l.word WCK.WCN_VALUE.key + BitVec.ofNat 32 (if w = 0 then 0 else ceilDiv (next + 1 - open_) w)

/-- The lane prepares the switch of an agreed commit to a requested mode at cycle m (R427), and whether it could. -/
def Lane.prepareSwitch (l : Lane) (m : Word) (target : Nat) : Lane × Bool :=
  match l.findSwitch m with
  | some ws =>
    let lead := (ws - l.firstWindow).toNat
    if l.wickRuns && !l.on WCK.STATUS_SW_PENDING && decide (l.rd WCK.CFG_SW_LEAD ≤ lead) && decide (lead < 0x80000000) then
      let l1 := ((l.wr WCK.STATUS_TARGET target).flag WCK.STATUS_SW_PENDING true).setWord WCK.SW_WCN_VALUE.key ws
      let sw : WickSwitch := { mine := true, node := l.rd WCK.CFG_NODE, annWcn := l.firstWindow, annDue := true }
      ({ (l1.setWord WCK.SW_ACKS_VALUE.key 0) with wck := { l1.wck with switch := some sw } }, true)
    else (l, false)
  | none => (l, false)

/-- Whether the lane's ring is ready for the switch it announced. -/
def Lane.ringReady (l : Lane) : Bool :=
  match l.wck.switch with
  | some sw => sw.mine && l.acksDone sw
  | none => false

/-- The commit applies or does not: the CONFIRM is sent, or not (R427). -/
def Lane.settleSwitch (l : Lane) (applied : Bool) : Lane :=
  match l.wck.switch with
  | some sw => if sw.mine then { l with wck := { l.wck with switch := some { sw with applied := applied, confirmDue := applied } } } else l
  | none => l

/-! ### Best-effort frames and links (R409, R430) -/

/-- A best-effort frame arrives on a port and is forwarded, queued or dropped. -/
def Lane.bestEffort (l : Lane) (port x bytes : Nat) : Lane :=
  let q := 1 - port % 2
  if !l.portSends (port % 2) || l.on WCK.PORT_CFG_BE_BREAK q then l
  else
    let l1 := l.drainQueue 64 q x
    let y := l1.beStart q x
    if (l1.wck.queue q).isEmpty && l1.portSends q && l1.beFits q y bytes then l1.beSend q y bytes
    else if queueBytes (l1.wck.queue q) + bytes ≤ 16384 then
      (l1.setQueue q (l1.wck.queue q ++ [(false, bytes)])).bump WCK.BE_COUNT_LO
    else (l1.bump WCK.BE_COUNT_HI).fault 0xBE

/-- The EtherType of 802.1AS messages (PRESUMED, log entry 79). -/
def ptpEtherType : Nat := 0x88F7

/-- BEST_EFFORT_FRAME: a frame of at most 1,522 bytes (R409) that is no Wick frame. An 802.1AS message is delivered to the lane, whose own
rows say what it does, and goes no further (R430). -/
def execBestEffortFrame (l : LaneId) (t port : Nat) (e : EthHdr) (bytes : Nat) (s : State) : Host.Outcome State Fault Refusal :=
  let n := (s.lane l).atTick t
  .next (s.setLane l (if n.wickRuns && decide (bytes ≤ 1522) && !n.isWick e && decide (e.etherType ≠ ptpEtherType) then n.bestEffort port n.wickAt bytes else n))

/-- ETHERNET_LINK_CHANGE. -/
def execEthernetLinkChange (l : LaneId) (t port : Nat) (up : Bool) (s : State) : Host.Outcome State Fault Refusal :=
  let n := (s.lane l).atTick t
  let p := port % 2
  let n1 := (n.flag WCK.PORT_STATUS_LINK up p).flag (if p = 0 then WCK.STATUS_EAST_UP else WCK.STATUS_WEST_UP) up
  .next (s.setLane l
    (if !n.on WCK.PORT_CFG_ENABLE p || !n.domOn 3 then n
     else if up then n1.setLevel (0xBC + p) false
     else if n.on WCK.PORT_STATUS_LINK p then (n1.wrapInc WCK.PORT_STATUS_DOWNS p).faultLevel (0xBC + p) else n1))

/-! ### CAN (R431 to R434) -/

/-- Payload bytes of a data length code. -/
def dlcBytes (dlc : Nat) : Nat :=
  match dlc with
  | 9 => 12 | 10 => 16 | 11 => 20 | 12 => 24 | 13 => 32 | 14 => 48 | 15 => 64 | n => n

/-- Payload bytes of a frame: a classical one has at most 8 (ISO 11898-1). -/
def frameBytes (fdf : Bool) (dlc : Nat) : Nat := if fdf then dlcBytes dlc else min (dlcBytes dlc) 8

/-- The lane that sends ROLE 1 buffers (R433): the AUTHORITY, or while there is none the first candidate of the voting set. -/
def Lane.roleLane (l : Lane) : Option LaneId :=
  match l.xla.auth with
  | some x => if (l.xla.lst.get x).healthy then some x else l.authOrder.find? fun y => l.xla.vset.get y && l.candidate y
  | none => l.authOrder.find? fun y => l.xla.vset.get y && l.candidate y

/-- Whether controller n exists, is enabled and has its domain ON. -/
def Lane.canOn (l : Lane) (n : Nat) : Bool := decide (n < 6) && l.on CAN.CTRL_ENABLE n && l.domOn 3

/-- Whether controller n may send at all: normal mode (R431), not bus-off, and not fenced, which holds its transmitter recessive (R345). -/
def Lane.canTalks (l : Lane) (n : Nat) : Bool :=
  l.canOn n && decide (l.rd CAN.CTRL_MODE n = 0) && decide (l.rd CAN.STATUS_STATE n ≠ 2) && !l.fenced (.port (.can n))

/-- Whether the lane may send buffer t of controller n now (R432, R433, R435). -/
def Lane.canEligible (l : Lane) (n t : Nat) : Bool :=
  l.canOn n && decide (l.rd CAN.CTRL_MODE n = 0) && !l.fenced (.port (.can n)) && l.on CAN.TXB_CFG_ENABLE n t &&
    l.wickState && (l.rd CAN.TXB_CFG_ROLE n t = 0 || decide (l.roleLane = some l.id)) &&
    (!l.on CAN.TXB_CFG_SA_INSERT n t || decide (l.rd CAN.STATUS_ISO_STATE n = 2))

/-- The payload of a buffer as it is snapshotted: AGE_POS is set under the condition of HOLD (R432). -/
def Lane.canSnapshot (l : Lane) (n t : Nat) (held : Bool) : Nat :=
  let p := Sparse.get 0 l.can.buf (32 * n + t)
  if l.on CAN.TXB_CFG_AGE_EN n t && held then putField p (l.rd CAN.TXB_CFG_AGE_POS n t) 1 1 else p

/-- A buffer becomes due: its payload is snapshotted, and a snapshot that is still unsent is replaced and counted. -/
def Lane.canDue (l : Lane) (n t : Nat) (held : Bool) : Lane :=
  if l.canEligible n t then
    let k := 32 * n + t
    let l1 := if (Sparse.get none l.can.due k).isSome then l.bump CAN.ERR_TX_LATE n else l
    { l1 with can := { l1.can with due := Sparse.set none l1.can.due k (some (l.canSnapshot n t held)) } }
  else l

/-- How many whole periods of buffer t have passed since the enable of its controller (R432). -/
def Lane.canTimes (l : Lane) (n t : Nat) : Nat :=
  (l.clk.now - (Sparse.get none l.can.enAt n).getD l.clk.now) / (l.rd CAN.TXB_CFG_PERIOD n t * 600000)

/-- CAN_TX_BUFFER_DUE: PERIOD ms more have passed since the enable of the controller. -/
def execCanTxBufferDue (l : LaneId) (t n buf : Nat) (s : State) : Host.Outcome State Fault Refusal :=
  let a := (s.lane l).atTick t
  let k := 32 * n + buf
  let times := a.canTimes n buf
  .next (s.setLane l
    (if decide (buf < 32) && a.canOn n && a.on CAN.TXB_CFG_ENABLE n buf && decide (Sparse.get 0 a.can.times k < times) then
       ({ a with can := { a.can with times := Sparse.set 0 a.can.times k times } } : Lane).canDue n buf a.heldContent
     else a))

/-- The identifier that a buffer sends: with SA_INSERT it carries the claimed address (R435). -/
def Lane.canId (l : Lane) (n t : Nat) : Nat :=
  let id := l.rd CAN.TXB_ID_ID n t
  if l.on CAN.TXB_CFG_SA_INSERT n t then id / 256 * 256 + l.rd CAN.STATUS_ADDR n else id

/-- The arbitration field as a number: the base identifier, then the identifier format, then the extension. -/
def arbitration (ide : Bool) (id : Nat) : Nat := if ide then id / 2 ^ 18 * 2 ^ 19 + 2 ^ 18 + id % 2 ^ 18 else id * 2 ^ 19

/-- The due buffer that wins arbitration: the lowest field, and the lowest index on a tie (R432). -/
def Lane.canNext (l : Lane) (n : Nat) : Option Nat :=
  ((List.range 32).filter fun t => (Sparse.get none l.can.due (32 * n + t)).isSome && l.canEligible n t).foldl
    (fun best t => match best with
      | none => some t
      | some b =>
        if arbitration (l.on CAN.TXB_ID_IDE n t) (l.canId n t) < arbitration (l.on CAN.TXB_ID_IDE n b) (l.canId n b) then some t
        else some b) none

/-- CAN_FRAME_TRANSMITTED: the frame completes and leaves its buffer; the transmit error counter falls by one. -/
def execCanFrameTransmitted (l : LaneId) (t n : Nat) (s : State) : Host.Outcome State Fault Refusal :=
  let a := (s.lane l).atTick t
  .next (s.setLane l
    (if !a.canTalks n then a
     else match a.canNext n with
      | none => a
      | some b =>
        let f : CanFrame :=
          { ide := a.on CAN.TXB_ID_IDE n b, id := a.canId n b, remote := false, fdf := a.on CAN.TXB_CFG_FDF n b
            brs := a.on CAN.TXB_CFG_BRS n b, dlc := a.rd CAN.TXB_CFG_DLC n b
            payload := (Sparse.get none a.can.due (32 * n + b)).getD 0 % 2 ^ (8 * frameBytes (a.on CAN.TXB_CFG_FDF n b) (a.rd CAN.TXB_CFG_DLC n b)) }
        let a1 := (a.wr CAN.STATUS_TEC (a.rd CAN.STATUS_TEC n - 1) n).emit (.can n f)
        { a1 with can := { a1.can with due := Sparse.set none a1.can.due (32 * n + b) none } }))

/-- The lowest enabled filter that a frame matches (R434). -/
def Lane.canFilter (l : Lane) (n : Nat) (f : CanFrame) : Option Nat :=
  (List.range 32).find? fun r =>
    l.on CAN.RXF_CFG_ENABLE n r && decide (l.on CAN.RXF_CFG_IDE n r = f.ide) &&
      decide (BitVec.ofNat 29 f.id &&& BitVec.ofNat 29 (l.rd CAN.RXF_MASK_VALUE n r) =
        BitVec.ofNat 29 (l.rd CAN.RXF_ID_VALUE n r) &&& BitVec.ofNat 29 (l.rd CAN.RXF_MASK_VALUE n r))

/-- CAN_FRAME_RECEIVED: a remote frame is discarded and counted, and an FD frame needs FD (R431, R439). The receive error counter
falls by one (ISO 11898-1). -/
def execCanFrameReceived (l : LaneId) (t n : Nat) (f : CanFrame) (s : State) : Host.Outcome State Fault Refusal :=
  let a := (s.lane l).atTick t
  let a0 := a.wr CAN.STATUS_REC (a.rd CAN.STATUS_REC n - 1) n
  .next (s.setLane l
    (if !a.canOn n || decide (a.rd CAN.STATUS_STATE n = 2) || (f.fdf && !a.on CAN.CTRL_FD n) ||
        a.fenced (.port (.can n)) then a
     else if f.remote then a0.bump CAN.ERR_REMOTE n
     else match a.canFilter n f with
      | none => a0
      | some r =>
        let a1 := a0.wrapInc CAN.RXF_STATUS_FRAMES n r
        { a1 with can := { a1.can with
            rx := Sparse.set 0 a1.can.rx (32 * n + r) (f.payload % 2 ^ (8 * frameBytes f.fdf f.dlc))
            rxAt := Sparse.set none a1.can.rxAt (32 * n + r) (some a.clk.now) } }))

/-- CAN_ERROR_STATE_CHANGE: the error counters as ISO 11898-1 leaves them decide the state: bus-off above 255, error passive above
127 (R431). -/
def execCanErrorStateChange (l : LaneId) (t n tec rec : Nat) (s : State) : Host.Outcome State Fault Refusal :=
  let a := (s.lane l).atTick t
  let st := if 255 < tec then 2 else if 127 < tec ∨ 127 < rec then 1 else 0
  let a1 := ((a.wr CAN.STATUS_TEC (satN 8 tec) n).wr CAN.STATUS_REC (satN 7 rec) n).wr CAN.STATUS_STATE st n
  let old := a.rd CAN.STATUS_STATE n
  .next (s.setLane l
    (if !a.canOn n || decide (old = 2) then a
     else if st = 2 then ((a1.bump CAN.ERR_BUS_OFF n).setLevel (0xC6 + n) false).faultLevel (0xC0 + n)
     else if st = 1 ∧ old ≠ 1 then a1.faultLevel (0xC6 + n)
     else if st = 0 then a1.setLevel (0xC6 + n) false else a1))

/-- Whether a new enable of controller n has started its recovery from bus-off. -/
def Lane.setRecover (l : Lane) (n : Nat) (b : Bool) : Lane := { l with can := { l.can with recover := Sparse.set false l.can.recover n b } }

/-- CAN_BUS_OFF_RECOVERY: the recovery sequence has ended; with AUTO_REC = 1 it starts by itself, otherwise with ENABLE cleared and set. -/
def execCanBusOffRecovery (l : LaneId) (t n : Nat) (s : State) : Host.Outcome State Fault Refusal :=
  let a := (s.lane l).atTick t
  .next (s.setLane l
    (if a.canOn n && decide (a.rd CAN.STATUS_STATE n = 2) && (a.on CAN.CTRL_AUTO_REC n || Sparse.get false a.can.recover n) then
       ((((a.wr CAN.STATUS_STATE 0 n).wr CAN.STATUS_TEC 0 n).wr CAN.STATUS_REC 0 n).setRecover n false).setLevel (0xC0 + n) false
     else a))

/-! ### ISO 11783 addresses (R435) -/

/-- What is kept of a controller's address management. -/
def Lane.iso (l : Lane) (n : Nat) : IsoSt := Sparse.get {} l.can.iso n
def Lane.setIso (l : Lane) (n : Nat) (i : IsoSt) : Lane := { l with can := { l.can with iso := Sparse.set {} l.can.iso n i } }

/-- The lane's NAME on a controller: ECU-instance bits [34:32] are the lane code. -/
def Lane.isoName (l : Lane) (n : Nat) : Nat :=
  (l.word (CAN.NAME_LO_NAME.at_ n 0)).toNat + 2 ^ 32 * ((l.word (CAN.NAME_HI_NAME.at_ n 0)).toNat / 8 * 8 + l.id.code)

/-- The preferred address of the lane. -/
def Lane.isoPref (l : Lane) (n : Nat) : Nat :=
  match l.id with
  | .a => l.rd CAN.ISO_CFG_PREF_A n | .b => l.rd CAN.ISO_CFG_PREF_B n | .c => l.rd CAN.ISO_CFG_PREF_C n

/-- Whether the comms core runs, so that address management does: it pauses while that core is reset, for at most 2 ms (R72, R435). -/
def Lane.commsRuns (l : Lane) : Bool := l.domOn 0 && decide (l.bcn.commsAt + min 1200000 Config.commsReset ≤ l.clk.now)

/-- Address management sends an Address Claimed message, where the controller may send. -/
def Lane.isoSend (l : Lane) (n addr : Nat) : Lane := if l.canTalks n then l.emit (.addressClaimed n addr) else l

/-- The lane claims an address. -/
def Lane.isoClaim (l : Lane) (n addr k : Nat) : Lane :=
  (((l.wr CAN.STATUS_ISO_STATE 1 n).wr CAN.STATUS_ADDR 255 n).setIso n { cand := addr, alt := k, claimAt := l.clk.now }).isoSend n addr

/-- A controller with ISO = 1 comes on the bus and claims its preferred address, once the comms core runs. -/
def Lane.isoStart (l : Lane) (n : Nat) : Lane :=
  if l.on CAN.CTRL_ENABLE n && l.on CAN.CTRL_ISO n then
    if l.commsRuns then l.isoClaim n (l.isoPref n) 0 else l.setIso n { l.iso n with waits := true }
  else l

/-- The next alternative after number k: PREF + 3k up to address 247. -/
def Lane.isoNext (l : Lane) (n k : Nat) : Option Nat :=
  if k + 1 ≤ l.rd CAN.ISO_CFG_ALT_COUNT n ∧ l.isoPref n + 3 * (k + 1) ≤ 247 then some (l.isoPref n + 3 * (k + 1)) else none

/-- ADDRESS_CLAIM_CONTENTION: a claim of the lane's address by another NAME. The lower NAME keeps the address (ISO 11783-5). -/
def execAddressClaimContention (l : LaneId) (t n addr name : Nat) (s : State) : Host.Outcome State Fault Refusal :=
  let a := (s.lane l).atTick t
  let i := a.iso n
  .next (s.setLane l
    (if !(a.canOn n && a.commsRuns && a.on CAN.CTRL_ISO n) || a.fenced (.port (.can n)) || decide (a.rd CAN.STATUS_ISO_STATE n = 0) ||
        decide (a.rd CAN.STATUS_ISO_STATE n = 3) || decide (addr ≠ i.cand) then a
     else if a.isoName n < name then a.isoSend n i.cand
     else
       let a1 := a.bump CAN.ERR_ADDR_LOST n
       match a.isoNext n i.alt with
       | some x => a1.isoClaim n x (i.alt + 1)
       | none =>
         let a2 := (((a1.wr CAN.STATUS_ISO_STATE 3 n).wr CAN.STATUS_ADDR 254 n).setIso n { cand := 254, alt := i.alt }).isoSend n 254
         a2.fault 0xCC))

/-- ADDRESS_CLAIM_REQUEST: answered with the address held or being claimed, or with Cannot Claim Address. -/
def execAddressClaimRequest (l : LaneId) (t n : Nat) (s : State) : Host.Outcome State Fault Refusal :=
  let a := (s.lane l).atTick t
  .next (s.setLane l
    (if a.canOn n && a.commsRuns && a.on CAN.CTRL_ISO n && !a.fenced (.port (.can n)) && decide (a.rd CAN.STATUS_ISO_STATE n ≠ 0) then
       a.isoSend n (a.iso n).cand
     else a))

/-- ADDRESS_CLAIM_SETTLED: 250 ms after an uncontested claim the address is claimed. -/
def execAddressClaimSettled (l : LaneId) (t n : Nat) (s : State) : Host.Outcome State Fault Refusal :=
  let a := (s.lane l).atTick t
  .next (s.setLane l
    (if a.canOn n && a.commsRuns && decide (a.rd CAN.STATUS_ISO_STATE n = 1) && decide ((a.iso n).claimAt + 150000000 ≤ a.clk.now) then
       (a.wr CAN.STATUS_ISO_STATE 2 n).wr CAN.STATUS_ADDR (a.iso n).cand n
     else a))

/-! ### What the vector and the commit do with the networks -/

/-- The age of a filter at this instant (R434). -/
def Lane.filterAge (l : Lane) (n r : Nat) : Nat :=
  match Sparse.get none l.can.rxAt (32 * n + r) with
  | some a => if l.rd CAN.RXF_CFG_EXPECT n r = 0 then 255 else satN 8 ((l.clk.now - a) / (l.rd CAN.RXF_CFG_EXPECT n r * 600000))
  | none => 255

/-- A claim that waited for the comms core begins once that core runs (R435). -/
def Lane.isoWaiting (l : Lane) : Lane :=
  (l.can.iso.map fun e => e.1).foldl (fun (n : Lane) k => if (n.iso k).waits && n.commsRuns then (n.setIso k { n.iso k with waits := false }).isoStart k else n) l

/-- Network values are taken as of the cycle start (R34, R421, R434). -/
def Lane.netCycleStart (l : Lane) : Lane :=
  let l1 := { l with wck := { l.wck with atStart := l.wck.pub, ageStart := l.wck.ages }, can := { l.can with atStart := l.can.rx } }
  ((l.can.rxAt.map fun e => e.1).foldl (fun (n : Lane) k => n.wr CAN.RXF_STATUS_AGE (n.filterAge (k / 32) (k % 32)) (k / 32) (k % 32)) l1).isoWaiting

/-- The value of a Wick or CAN source (R423). A signal that is not enabled has no length and delivers zero. -/
def Lane.wickSource (l : Lane) (pos i : Nat) : Val :=
  let g := l.rd WCK.RXSIG_MSG i
  if !l.on WCK.RXSIG_ENABLE i then 0
  else if pos = 0 then rawField (Sparse.get 0 l.wck.atStart g) (l.rd WCK.RXSIG_BITPOS i) (l.rd WCK.RXSIG_LEN i)
  else BitVec.ofNat 18 (Sparse.get 255 l.wck.ageStart g)

def Lane.canSource (l : Lane) (pos inst : Nat) : Val :=
  let n := inst / 16
  let i := inst % 16
  let r := l.rd CAN.RXSIG_REF n i
  if !l.on CAN.RXSIG_ENABLE n i then 0
  else if pos = 0 then rawField (Sparse.get 0 l.can.atStart (32 * n + r)) (l.rd CAN.RXSIG_BITPOS n i) (l.rd CAN.RXSIG_LEN n i)
  else BitVec.ofNat 18 (l.rd CAN.RXF_STATUS_AGE n r)

/-- A committed CLASS 5 token of INDEX i writes its message's payload buffer (R424). -/
def Lane.wickToken (l : Lane) (i : Nat) (v : Val) : Lane :=
  if l.on WCK.TXSIG_ENABLE i then
    let g := l.rd WCK.TXSIG_MSG i
    let p := putField (Sparse.get 0 l.wck.buf g) (l.rd WCK.TXSIG_BITPOS i) (l.rd WCK.TXSIG_LEN i) v.toNat
    { l with wck := { l.wck with buf := Sparse.set 0 l.wck.buf g p } }
  else l

/-- A committed CLASS 6 token of INDEX 16 n + i writes its transmit buffer (R424). -/
def Lane.canToken (l : Lane) (idx : Nat) (v : Val) : Lane :=
  let n := idx / 16
  let i := idx % 16
  if decide (n < 6) && l.on CAN.TXSIG_ENABLE n i then
    let k := 32 * n + l.rd CAN.TXSIG_REF n i
    let p := putField (Sparse.get 0 l.can.buf k) (l.rd CAN.TXSIG_BITPOS n i) (l.rd CAN.TXSIG_LEN n i) v.toNat
    { l with can := { l.can with buf := Sparse.set 0 l.can.buf k p } }
  else l

/-- The EVENT buffers whose content a commit changed become due (R432): the cycle commits, so that HOLD's condition is not met. -/
def Lane.canEvents (l : Lane) (old : Can) : Lane :=
  ((List.range 192).filter fun k => l.on CAN.TXB_CFG_EVENT (k / 32) (k % 32) &&
    decide (Sparse.get 0 l.can.buf k ≠ Sparse.get 0 old.buf k)).foldl (fun n k => n.canDue (k / 32) (k % 32) false) l

/-- Controller k comes on the bus: its buffers count from now on, and its address management begins. One that is bus-off starts its recovery sequence
(R431). -/
def Lane.canEnabled (l : Lane) (k : Nat) : Lane :=
  let l1 := { l with can := { l.can with
    enAt := Sparse.set none l.can.enAt k (some l.clk.now), times := Sparse.keep (fun e => decide (e / 32 ≠ k)) l.can.times } }
  (if l.rd CAN.STATUS_STATE k = 2 then l1.setRecover k true
   else (((l1.wr CAN.STATUS_STATE 0 k).wr CAN.STATUS_TEC 0 k).wr CAN.STATUS_REC 0 k).setLevel (0xC0 + k) false).isoStart k

/-- Address management of controller k ends: it has no address. -/
def Lane.isoStop (l : Lane) (k : Nat) : Lane := ((l.wr CAN.STATUS_ISO_STATE 0 k).wr CAN.STATUS_ADDR 255 k).setIso k {}

/-- Controller k goes off the bus. -/
def Lane.canDisabled (l : Lane) (k : Nat) : Lane :=
  ({ l with can := { l.can with enAt := Sparse.set none l.can.enAt k none, recover := Sparse.set false l.can.recover k false } } : Lane).isoStop k

/-- What address management works from: the ISO bit, this lane's preferred address and its NAME. -/
def Lane.isoBasis (l : Lane) (k : Nat) : Bool × Nat × Nat := (l.on CAN.CTRL_ISO k, l.isoPref k, l.isoName k)

/-- The networks take a newly loaded configuration: windows, the active mode of MODE_REQ at lane reset (R438), and the controllers that it enables
or disables; one that has been on the bus since the last reset of its domain goes on (R431, R435). -/
def Lane.netLoad (l : Lane) : Lane :=
  (List.range 6).foldl (fun (n : Lane) k =>
    let was := (Sparse.get none n.can.enAt k).isSome
    let is := n.on CAN.CTRL_ENABLE k
    if is && !was then n.canEnabled k else if was && !is then n.canDisabled k else n)
    (l.showWindows.wr WCK.STATUS_MODE (l.rd WCK.CFG_MODE_REQ))

/-- After a commit changes a controller's registers: an enable that rises starts its timing, its recovery and its address claim;
one that falls takes it off the bus; a controller that stays on the bus claims anew when ISO, its preferred address or its NAME changes, and gives
its address up when ISO falls (R435). A buffer that is enabled, or whose PERIOD changes, is due from its next period on, counted from the enable of the
controller. -/
def Lane.canCommitted (l : Lane) (old : Sparse Word) : Lane :=
  let l1 := (List.range 6).foldl (fun (n : Lane) k =>
    let was := cfgRd old CAN.CTRL_ENABLE k = 1
    let is := n.on CAN.CTRL_ENABLE k
    if is && !was then n.canEnabled k
    else if was && !is then n.canDisabled k
    else if is && decide (n.isoBasis k ≠ ({ n with regs := old } : Lane).isoBasis k) then (n.isoStop k).isoStart k
    else n) l
  (List.range 192).foldl (fun (n : Lane) k =>
    if n.rd CAN.TXB_CFG_PERIOD (k / 32) (k % 32) ≠ cfgRd old CAN.TXB_CFG_PERIOD (k / 32) (k % 32) ∨
        (n.on CAN.TXB_CFG_ENABLE (k / 32) (k % 32) = true ∧ cfgRd old CAN.TXB_CFG_ENABLE (k / 32) (k % 32) = 0) then
      { n with can := { n.can with times := Sparse.set 0 n.can.times k (n.canTimes (k / 32) (k % 32)) } }
    else n) l1

end Sys2Proof.Machine
end

