-- ==== Sys2Proof/Machine/Agreement.lean ====
section
/-!
DEFINITION. The cross-lane agreement unit (chapter 03): peers and their reported states, the input vector, agreement frames, the
agreed vector, the fast flow's injection and hand-over, output frames and what the majority says of them.
-/
namespace Sys2Proof.Machine

open Sys2Proof

/-- The lane with its agreement unit replaced by a function of it. -/
def Lane.onXla (l : Lane) (f : Xla → Xla) : Lane := { l with xla := f l.xla }

/-! ### Links (R90 to R95) -/

/-- Whether a link carries frames. -/
def Lane.linkUp (l : Lane) (link : Nat) : Bool := decide (link < 2) && l.on XLA.LINK_STATUS_UP link

/-- Whether both links have trained. -/
def Lane.trainedBoth (l : Lane) : Bool := l.on XLA.LINK_STATUS_TRAINED 0 && l.on XLA.LINK_STATUS_TRAINED 1

/-- A frame is discarded and counted (R92). -/
def Lane.discardFrame (l : Lane) (link : Nat) : Lane := l.bump XLA.LINK_ERR_DISCARDED link

/-- A valid frame arrived on a link: its sender is heard on the link path (R119). -/
def Lane.hear (l : Lane) (link : Nat) : Lane := l.onXla fun x => { x with linkHeard := x.linkHeard.set (l.peerOf link) true }

/-- Whether the lane sends heartbeats and STATUS (R95, R117). -/
def LaneState.beats : LaneState → Bool
  | .sync | .standby | .authority | .fenced | .resync | .update => true
  | _ => false

/-- Whether a lane counts its cycles with no AUTHORITY to take the CCN from: in SYNC before the initial start, where the lanes are not synchronised
yet (R11, R135). -/
def Lane.unsynced (l : Lane) : Bool := decide (l.own = .sync) && l.xla.auth.isNone

/-- Whether a control frame with a message code is valid at this lane (R92, R102). DESIGN CHOICE: one that names the other peer alone is discarded
(log entry 72). DEDUCED: lanes that are not synchronised yet take each other's frames whatever their CCN (log entry 85). -/
def Lane.ctlOk (l : Lane) (code : Nat) (h : CtlHdr) : Bool :=
  h.crcOk code && decide (h.type = 3) && (decide (h.ccn = l.ccn) || l.unsynced) && (decide (h.dest = 3) || decide (h.dest = l.id.code))

/-- The effect f of a control message with a code from the peer on a link; an invalid frame is discarded, and a link that is not up
carries none. -/
def Lane.control (l : Lane) (code link : Nat) (h : CtlHdr) (f : LaneId → Lane → Lane) : Lane :=
  if !l.linkUp link then l
  else if l.ctlOk code h then f (l.peerOf link) (l.hear link) else l.discardFrame link

/-! ### Lane states as this lane holds them (R43, R45, R123) -/

/-- The donor of this lane's state transfer is lost: the transfer is abandoned without a fence and restarts with JOIN (R138). -/
def Lane.donorLost (l : Lane) (x : LaneId) : Lane :=
  if decide (l.own = .resync) && decide (l.rd XLA.RESYNC_STATUS_PHASE = 1) && decide (l.rd XLA.RESYNC_STATUS_DONOR = x.code) then
    (((l.wr XLA.RESYNC_STATUS_PHASE 0).wr XLA.RESYNC_STATUS_DONOR 3).onXla fun q => { q with accepted := none, cut := none }).sendCtl 3 .join
  else l

/-- Lane x is held in a state; a healthy lane that is healthy no longer is lost in this cycle, and a transfer to a lane that joins no
longer ends. -/
def Lane.setPeer (l : Lane) (x : LaneId) (st : LaneState) : Lane :=
  if x = l.id then l
  else
    let gone := (l.xla.lst.get x).healthy && !st.healthy
    let joins := match st with | .sync | .resync => true | _ => false
    let l1 := l.onXla fun q => { q with
      lst := q.lst.set x st, lostNow := if gone then q.lostNow.set x true else q.lostNow
      donorTo := if q.donorTo = some x ∧ !joins then none else q.donorTo
      admitted := if q.admitted = some x ∧ !joins then none else q.admitted }
    if gone then l1.donorLost x else l1

/-- Lane x is lost by a fence of the given cause. -/
def Lane.losePeer (l : Lane) (x : LaneId) (cause : Nat) : Lane :=
  (if (l.xla.lst.get x).healthy then l.onXla fun q => { q with lossCause := cause } else l).setPeer x .fenced

/-- Lane x reports a state. A lane held as FENCED that still reports itself healthy stays FENCED: it has not yet learned that it was
declared silent. -/
def Lane.report (l : Lane) (x : LaneId) (code : Nat) : Lane :=
  let st := LaneState.ofCode code
  if decide (l.xla.lst.get x = .fenced) && st.healthy then l else l.setPeer x st

/-- A fence of this lane by its own agreement unit: the source of its cause, and the cause. -/
def Lane.ownFence (l : Lane) (src cause : Nat) (info : Word := 0) (announce : Bool := true) : Lane :=
  if l.own.fenceable then ((l.fault src info).homeFenced src).fence cause announce else l

/-- The lane enters RESYNC with cause "frame lost" (R114), which is no fence: its bridges take the Snuff action. -/
def Lane.enterFrameLost (l : Lane) : Lane :=
  let l1 := ((l.fault 0x1D).goState .resync).snuffDrive
  (((l1.wr XLA.RESYNC_STATUS_PHASE 0).wr XLA.RESYNC_STATUS_DONOR 3).onXla fun q =>
    { q with vset := q.vset.set l.id false, accepted := none, cut := none }).sendCtl 3 .join

/-- The later of two lanes in the authority order. -/
def Lane.laterOf (l : Lane) (x y : LaneId) : LaneId :=
  match l.authOrder.find? fun z => decide (z = x) || decide (z = y) with
  | some z => if z = x then y else x
  | none => y

/-- The lane of a pair that is fenced when their path is lost (R121): the one that is not AUTHORITY; of two STANDBY lanes the later
in the authority order. -/
def Lane.pairLoser (l : Lane) (x y : LaneId) : LaneId :=
  if l.xla.auth = some x then y else if l.xla.auth = some y then x else l.laterOf x y

/-- The path between lanes x and y is lost (R121). -/
def Lane.pairLost (l : Lane) (x y : LaneId) : Lane :=
  let loser := l.pairLoser x y
  let l1 := if x = l.id ∨ y = l.id then
      let k := l.linkTo (if x = l.id then y else x)
      (l.flag XLA.LINK_STATUS_LOST true k).flag (if k = 0 then XLA.HB_STATUS_PATH_LOST_0 else XLA.HB_STATUS_PATH_LOST_1) true
    else l
  if loser = l.id then (l1.onXla fun q => { q with noJoin := true }).ownFence 0x13 0x5 else l1.losePeer loser 0x5

/-- Whether the key-off test runs in this lane, or has ended in this cycle (R529, R530). -/
def Lane.keyoffTesting (l : Lane) : Bool := (l.on BST.STATUS_RUNNING && decide (l.rd BST.STATUS_OCCASION = 2)) || l.xla.testOver

/-- Whether the lane computes and sends agreement and output frames (R117): STANDBY, AUTHORITY, and RESYNC after the cut; a lane
under key-off test sends none (R530). -/
def Lane.computes (l : Lane) : Bool :=
  !l.keyoffTesting && (l.own.healthy || (decide (l.own = .resync) && decide (2 ≤ l.rd XLA.RESYNC_STATUS_PHASE)))

/-- Whether each lane is its own voting set (R103): LAST LIGHT, and SAFE STOP reached through "no majority". -/
def Lane.alone (l : Lane) : Bool :=
  decide (l.xla.mode = .lastLight) || (decide (l.xla.mode = .safeStop) && l.xla.noMaj)

/-- The voting set of the cycle (R103). -/
def Lane.formVset (l : Lane) : Tri Bool :=
  if l.alone then if l.own.healthy then Tri.only l.id else Tri.all false
  else ⟨(l.xla.lst.a).healthy && !l.xla.fenceRx.a, (l.xla.lst.b).healthy && !l.xla.fenceRx.b, (l.xla.lst.c).healthy && !l.xla.fenceRx.c⟩

/-! ### The input vector (R34, R99, R104) -/

/-- The value of the source that an input-map word names (R498); none where the source is invalid, since its value is then open.
A word of 0 assigns nothing and delivers 0. -/
def Lane.sourceValue (l : Lane) (w : Word) : Option Val :=
  let pos := bitsOf w 16 8
  let inst := bitsOf w 8 8
  match bitsOf w 24 8 with
  | 3 =>
    if pos = 6 then
      if l.chanOk (6 + inst) && !l.fenced (.channel (6 + inst)) then some (l.slowValue inst (l.rd AFE.SLOW_RAW_CODE inst)) else none
    else
      let s := Sparse.get (false, 0) l.cmu.src (16 * inst + pos)
      if s.1 then some s.2 else none
  | 4 => some (Sparse.get 0 l.pfb.src (16 * pos + inst))
  | 5 => some (BitVec.ofNat 18 l.gdcStatus)
  | 6 => some (if pos = 0 then BitVec.ofNat 18 l.ownDemand else l.sfu.statusWord)
  | 7 => some (BitVec.ofNat 18 l.fclDemandWord)
  | 9 => some (l.wickSource pos inst)
  | 10 => some (l.canSource pos inst)
  | 12 => some (BitVec.ofNat 18 (l.pmu.key.toNat + 2 * l.pmu.wakePin.toNat))
  | _ => some 0

/-- The vector of n values, and the lane with a free value drawn for every invalid source. -/
def Lane.formVector (l : Lane) : Nat → Nat → List Val × Lane
  | _, 0 => ([], l)
  | k, n + 1 =>
    match l.sourceValue (Sparse.get 0 l.inMap k) with
    | some v => let r := l.formVector (k + 1) n; (v :: r.1, r.2)
    | none => let r := l.drew.formVector (k + 1) n; (BitVec.ofInt 18 (Config.openValue l.free) :: r.1, r.2)

/-- The lane's agreement frame with the given values (R99). -/
def Lane.agreeFrame (l : Lane) (vec : List Val) : AgreeFrame :=
  ({ type := 1, src := l.id.code, lstate := l.own.code, smode := l.xla.mode.code, vset := l.formVset.mask
     ccn := l.ccn, auth := l.xla.authCode, twin := l.on BCN.MODE_TWIN, cfgTag := BitVec.ofNat 16 (l.rd XLA.CFG_TAG_TAG)
     values := vec } : AgreeFrame).withCrc

/-- AFE.FAST_VALUE and AFE.SLOW_VALUE: the last values delivered to the input vector. -/
def Lane.showAfe (l : Lane) : Lane :=
  let word := fun pos inst => 0x03000000 + 65536 * pos + 256 * inst
  let fast := fun c => BitVec.ofNat 32 (if c < 4 then word (c % 2) (c / 2) else word 4 (c - 4))
  let l1 := (List.range 6).foldl (fun (n : Lane) c => match n.sourceValue (fast c) with
    | some v => n.wr AFE.FAST_VALUE_VALUE v.toNat c
    | none => n) l
  (List.range 8).foldl (fun (n : Lane) k => match n.sourceValue (BitVec.ofNat 32 (word 6 k)) with
    | some v => n.wr AFE.SLOW_VALUE_VALUE v.toNat k
    | none => n) l1

/-- The lane's input vector closes, and a lane that computes sends its agreement frame. -/
def Lane.closeVector (l : Lane) : Lane :=
  if l.computes then
    let (vec, l1) := l.showAfe.formVector 0 (l.rd XLA.VEC_CFG_VAL_COUNT)
    let f := l1.agreeFrame vec
    (l1.onXla fun x => { x with aframe := x.aframe.set l.id (some f) }).emit (.agree f)
  else l

/-! ### Agreement frames (R92, R99) -/

/-- A lane outside the voting set follows the AUTHORITY's report of the system mode, the voting set and the AUTHORITY; a lane that has
left that set is lost to it, which may be the donor of its state (R138). LAST LIGHT fences a lane in RESYNC with cause 0xB (R46). -/
def Lane.follow (l : Lane) (f : AgreeFrame) : Lane :=
  let mode := match f.smode with
    | 1 => SysMode.triplex | 2 => SysMode.duplex | 3 => SysMode.lastLight | 4 => SysMode.safeStop | _ => SysMode.snuffed
  let follows := match l.own with | .sync | .resync | .fenced | .update => true | _ => false
  if follows && decide (LaneState.ofCode f.lstate = .authority) then
    let vs := (Tri.ofMask f.vset).set l.id false
    let l0 := l.onXla fun x => { x with mode := mode, vset := vs, auth := LaneId.ofCode f.auth }
    let l1 := if l.xla.mode = mode ∧ l.xla.auth = LaneId.ofCode f.auth then l0 else l0.laneEvent
    let l2 := l1.peers.foldl (fun (n : Lane) x => if (n.xla.lst.get x).healthy && !vs.get x then n.setPeer x .fenced else n) l1
    if decide (mode = .lastLight) && decide (l.own = .resync) then l2.leaveVset 0xB true else l2
  else l

/-- Whether a frame shows this lane that it was declared silent and is heard again (R120, R123): a healthy lane of its own voting set, which other
lanes share, reads in a healthy peer's frame a voting set without itself. -/
def Lane.leftOut (l : Lane) (f : AgreeFrame) : Bool :=
  l.own.healthy && !l.alone && l.xla.vset.get l.id && (LaneState.ofCode f.lstate).healthy && !(Tri.ofMask f.vset).get l.id

/-- A valid agreement frame from peer x: its sender's state and twin flag, and its values when it came by 2.7 µs. A lane that was declared silent,
heard again, is fenced with cause 0x4 and sends no FENCE (R123). -/
def Lane.takeAgree (l : Lane) (x : LaneId) (f : AgreeFrame) : Lane :=
  let l1 := (l.report x f.lstate).onXla fun q => { q with twins := q.twins.set x f.twin }
  let l2 := if l.tick ≤ 1620 then l1.onXla fun q => { q with aframe := q.aframe.set x (some f) } else l1
  if l.tick ≤ 1620 ∧ l.leftOut f then l2.ownFence 0x1E 0x4 (BitVec.ofNat 32 l.id.code) false else l2.follow f

/-- AGREEMENT_FRAME: discarded on a bad CRC, an undefined type or another CCN (R92). A lane in SYNC takes the CCN from the
AUTHORITY's frames (R137). -/
def execAgreementFrame (l : LaneId) (t link : Nat) (f : AgreeFrame) (s : State) : Host.Outcome State Fault Refusal :=
  let n := (s.lane l).atTick t
  let x := n.peerOf link
  .next (s.setLane l
    (if !n.linkUp link then n
     else if f.crcOk && decide (f.type = 1) && decide (n.own = .sync) && decide (LaneState.ofCode f.lstate = .authority) then
       ((n.setWord XLA.CCN_CCN.key f.ccn).hear link).takeAgree x f
     else if f.crcOk && decide (f.type = 1) && decide (f.ccn = n.ccn) then (n.hear link).takeAgree x f
     else n.discardFrame link))

/-! ### The agreed vector (R103 to R108) -/

/-- The middle of three codes read as S18. -/
def midValue (a b c : Val) : Val :=
  let lo := imin (s18 a) (s18 b)
  let hi := imax (s18 a) (s18 b)
  BitVec.ofInt 18 (imax lo (imin hi (s18 c)))

/-- Whether two VOTED codes differ by more than a tolerance. -/
def beyond (tol : Nat) (a b : Val) : Bool := decide ((tol : Int) < iabs (s18 a - s18 b))

/-- The frame of lane x that this lane uses in the present cycle: x lies in its voting set and its frame came by 2.7 µs. -/
def Lane.usedFrame (l : Lane) (x : LaneId) : Option AgreeFrame := if l.xla.vset.get x then l.xla.aframe.get x else none

/-- The lanes whose frames are used, with the value that each sent for index k. -/
def Lane.usedValues (l : Lane) (k : Nat) : List (LaneId × Val) :=
  [LaneId.a, LaneId.b, LaneId.c].filterMap fun x => (l.usedFrame x).map fun f => (x, f.values.getD k 0)

/-- Agreed value k from the values used (R105); prev is its previous agreed value. -/
def Lane.agreeValue (l : Lane) (k : Nat) (vs : List (LaneId × Val)) (prev : Val) : Val :=
  match l.rd XLA.VAL_CFG_CLASS k with
  | 1 => match vs.find? fun v => decide (v.1.code = l.rd XLA.VAL_CFG_OWNER k) with
    | some v => v.2
    | none => prev
  | 0 => match vs with
    | [a, b, c] => midValue a.2 b.2 c.2
    | [a, b] => if beyond (l.rd XLA.VAL_CFG_TOL k) a.2 b.2 then prev else BitVec.ofInt 18 (Int.fdiv (s18 a.2 + s18 b.2) 2)
    | [a] => a.2
    | _ => prev
  | _ => match vs with
    | [a, b, c] => (a.2 &&& b.2) ||| (a.2 &&& c.2) ||| (b.2 &&& c.2)
    | [a, b] => if l.on XLA.VAL_CFG_DUP_RULE k then a.2 ||| b.2 else a.2 &&& b.2
    | [a] => a.2
    | _ => prev

/-- Whether a value is out of tolerance against another (R106): by class VOTED or DISCRETE. -/
def Lane.outOfTol (l : Lane) (k : Nat) (a b : Val) : Bool :=
  if l.rd XLA.VAL_CFG_CLASS k = 0 then beyond (l.rd XLA.VAL_CFG_TOL k) a b else decide (a ≠ b)

/-- One persistence count of value k (R106): keys 8 k + lane code, 3 for the pair, 4 for the joining lane; name is the lane code that
an event names. -/
def Lane.persistStep (l : Lane) (k slot name : Nat) (bad : Bool) : Lane :=
  let p := l.rd XLA.VAL_CFG_PERSIST k
  let c := Sparse.get 0 l.xla.persist (8 * k + slot)
  let n := if bad then min (c + 1) p else 0
  let l1 := l.onXla fun x => { x with persist := Sparse.set 0 x.persist (8 * k + slot) n }
  if bad && decide (c < p) && decide (n = p) then
    (((l1.bump XLA.DISAGREE_COUNT).wr XLA.DISAGREE_LANE (min name 3)).wr XLA.DISAGREE_INDEX k).fault 0x17
      (BitVec.ofNat 32 (name % 4 + 65536 * k))
  else l1

/-- The lane that is in RESYNC and sends frames, with its value for index k (R108). -/
def Lane.joinerValue (l : Lane) (k : Nat) : Option (LaneId × Val) :=
  ([LaneId.a, LaneId.b, LaneId.c].filterMap fun x =>
    if l.xla.lst.get x = .resync then (l.xla.aframe.get x).map fun f => (x, f.values.getD k 0) else none).head?

/-- The tolerance check of value k (R106, R108). DESIGN CHOICE: the joining lane's count stands in a cycle in which
its frame is missing (log entry 72). -/
def Lane.tolCheck (l : Lane) (k : Nat) (vs : List (LaneId × Val)) (v : Val) : Lane :=
  if l.rd XLA.VAL_CFG_CLASS k = 1 ∨ l.rd XLA.VAL_CFG_PERSIST k = 0 then l
  else
    let l1 := match vs with
      | [a, b, c] => [a, b, c].foldl (fun (m : Lane) e => m.persistStep k e.1.code e.1.code (l.outOfTol k e.2 v)) l
      | [a, b] => l.persistStep k 3 3 (l.outOfTol k a.2 b.2)
      | _ => l
    match vs, l.joinerValue k with
    | _ :: _ :: _, some e => l1.persistStep k 4 e.1.code (l.outOfTol k e.2 v)
    | _, _ => l1

/-- Whether the valid bit of value k is set (R107). -/
def Lane.valueValid (l : Lane) (k : Nat) (vs : List (LaneId × Val)) : Bool :=
  match vs with
  | [] => false
  | _ =>
    if l.rd XLA.VAL_CFG_CLASS k = 1 then vs.any fun v => decide (v.1.code = l.rd XLA.VAL_CFG_OWNER k)
    else !(decide (vs.length = 2) && decide (l.rd XLA.VAL_CFG_PERSIST k ≠ 0) &&
      decide (l.rd XLA.VAL_CFG_PERSIST k ≤ Sparse.get 0 l.xla.persist (8 * k + 3)))

/-- The lane with the valid bit of value k set or cleared. -/
def Lane.setValid (l : Lane) (k : Nat) (b : Bool) : Lane :=
  let q := XLA.VALID_VALID.at_ (k / 32) 0
  l.setWord q (setBits (l.word q) (k % 32) 1 b.toNat)

/-- Agreed value k is formed and checked. -/
def Lane.agreeOne (l : Lane) (k : Nat) : Lane :=
  let vs := l.usedValues k
  let v := l.agreeValue k vs (Sparse.get 0 l.xla.agreed k)
  let l1 := l.tolCheck k vs v
  (l1.onXla fun x => { x with agreed := Sparse.set 0 x.agreed k v }).setValid k (l1.valueValid k vs)

/-- The lanes that have left the voting set raise "peer lost" in every lane that remains in it. -/
def Lane.peersLost (l : Lane) (old : Tri Bool) : Lane :=
  if l.xla.vset.get l.id then
    l.peers.foldl (fun (n : Lane) x => if old.get x && !n.xla.vset.get x then n.fault 0x1A (BitVec.ofNat 32 x.code) else n) l
  else l

/-- An agreement or output frame missing at its deadline counts on its link. -/
def Lane.countMissing (l : Lane) (present : LaneId → Bool) : Lane :=
  l.peers.foldl (fun (n : Lane) x => if l.xla.vset.get x && !present x then n.bump XLA.LINK_ERR_MISSING (l.linkTo x) else n) l

/-- The voting set is fixed and every agreed value is formed (R103 to R108). -/
def Lane.agree (l : Lane) : Lane :=
  let vs := l.formVset
  let l1 := ((l.onXla fun x => { x with vset := vs }).peersLost l.xla.vset)
  let l2 := l1.countMissing fun x => (l1.xla.aframe.get x).isSome
  let rxm : Tri Bool := ⟨(l2.usedFrame .a).isSome, (l2.usedFrame .b).isSome, (l2.usedFrame .c).isSome⟩
  let n := rxm.members.length
  let l3 := l2.onXla fun x => { x with rxm := rxm, usedN := n, persist := if n = x.usedN then x.persist else [] }
  let l4 := (List.range (l3.rd XLA.VEC_CFG_VAL_COUNT)).foldl Lane.agreeOne l3
  l4.onXla fun x => { x with statusWord := l4.formStatus }

/-- A peer that enters SAFE STOP in the first cycle under a new AUTHORITY did not receive the CLAIMs that name it: the stop is the part's
(R43, R131), and this lane follows at its next cycle start (log entry 27). -/
def Lane.sharesStop (l : Lane) : Lane :=
  if l.xla.tookOver && l.peers.any fun x => match l.usedFrame x with | some f => decide (f.smode = 4) | none => false then
    l.onXla fun x => { x with claimFail := true }
  else l

/-- INPUT_AGREEMENT, at 2.7 µs, in the lanes that run the cycle. -/
def execInputAgreement (l : LaneId) (s : State) : Host.Outcome State Fault Refusal :=
  let n := (s.lane l).atTick 1620
  .next (s.setLane l (if n.computes then n.agree.sharesStop else n))

/-! ### The fast flow (R144, R164) -/

/-- Whether the flows rest in this cycle: a migration hold cycle (R129) or the commit hold of a two-step commit (R401). -/
def Lane.flowsRest (l : Lane) : Bool := l.xla.migration || l.xla.commitHold

/-- SOURCE_INJECTION, at 2.9 µs: the fast flow and the due slow flows take their source and latched tokens. -/
def execSourceInjection (l : LaneId) (s : State) : Host.Outcome State Fault Refusal :=
  let n := (s.lane l).atTick 1740
  .next (s.setLane l
    (if n.computes then
       let n1 := { n with clk := { n.clk with phase := .fast } }
       let n2 := if n.flowsRest then n1 else n1.activate 0 n.ccn n.ccn
       (slowFlows.foldl (fun (m : Lane) f => m.slowInject n.flowsRest f) n2).pump
     else n))

/-- The sink tokens of the fast activation that have been placed: output index and value, in arc order. -/
def Lane.sinkTokens (l : Lane) (a : Activation) : List (Nat × Val) :=
  l.pcl.rels.filterMap fun r =>
    if r.flow = 0 ∧ r.seq = a.seq ∧ arcKind (l.pcl.arc r.bank r.arc) = 1 then some (arcDst (l.pcl.arc r.bank r.arc), r.value) else none

/-- Whether every sink arc of the active bank has its token. -/
def Lane.sinksPlaced (l : Lane) (a : Activation) : Bool :=
  decide (((l.pcl.bankArcs a.bank).filter fun e => decide (arcKind e.2 = 1)).length ≤ (l.sinkTokens a).length)

/-- A fast activation misses its deadline: nothing of it is released (R162, R164). -/
def Lane.missFast (l : Lane) (a : Activation) : Lane := ((l.discard 0 a).setAct 0 none).fault 0x20

/-- FAST_FLOW_DEADLINE_CHECK, at 4.8 µs: a fast activation without all its sink tokens releases nothing (R164). -/
def execFastFlowDeadlineCheck (l : LaneId) (s : State) : Host.Outcome State Fault Refusal :=
  let n := (s.lane l).atTick 2880
  .next (s.setLane l (match n.act 0 with
    | some a => if n.sinksPlaced a && !a.dead then n else n.missFast a
    | none => n))

/-! ### The digest and the output frame (R100, R113) -/

/-- An integer as the digest image takes it. -/
def dig (x : Int) : Nat := (x.emod (2 ^ 64)).toNat

/-- The persistent state of a flow's nodes: words by address, from the working or the committed copies. -/
def Lane.nodeStateItems (l : Lane) (flow : Nat) : List (Nat × Nat) :=
  (l.pcl.flowNodes l.pcl.bank flow).flatMap fun n =>
    let d := l.pcl.node l.pcl.bank n
    if ndPersist d then
      (l.mem.words (l.stateAddr d (decide (flow = 0))) (stateSize (ndOpcode d))).map fun w => (n, w.toNat)
    else []

/-- The persistent state of a loop slot. -/
def SlotSt.items (s : SlotSt) : List Nat :=
  [dig s.integ, dig s.dst, dig s.fbPrev, s.started.toNat, s.feCount, s.feActive.toNat, s.out.toNat]

/-- The persistent state of a generator. -/
def GenSt.items (g : GenSt) : List Nat := [dig g.pos, dig g.vel, dig g.acc, dig g.vcap, g.stopping.toNat, g.arrived.toNat, g.preset.toNat]

/-- The persistent state of the engine units that a flow runs. -/
def Lane.unitStateItems (l : Lane) (flow : Nat) : List (Nat × Nat) :=
  (flowUnits l.regs flow).flatMap fun u =>
    (if u < 8 then (Sparse.get {} (if flow = 0 then l.cen.slotsW else l.cen.slots) u : SlotSt).items
     else (Sparse.get {} (if flow = 0 then l.cen.gensW else l.cen.gens) (u - 8) : GenSt).items).map fun v => (1024 + u, v)

/-- The state digest of the cycle (R113): the CCN, the persistent fast-flow state after the fast flow, and the persistent
slow-flow state as last released. -/
def Lane.stateDigest (l : Lane) : BitVec 64 :=
  crc64 (Config.digestImage l.ccn.toNat (((0 :: slowFlows).flatMap l.nodeStateItems) ++ ((0 :: slowFlows).flatMap l.unitStateItems)))

/-- The lane's output frame (R100). -/
def Lane.outFrame (l : Lane) : OutFrame :=
  ({ type := 2, src := l.id.code, vset := l.xla.vset.mask, rxm := l.xla.rxm.mask, held := l.xla.held
     ccnLo := l.ccn.setWidth 8, digest := l.xla.digest
     tokens := (List.range (l.rd XLA.VEC_CFG_OUT_COUNT)).map fun j => Sparse.get 0 l.xla.tokens j } : OutFrame).withCrc

/-- The fast sink tokens are handed over, the digest is formed and the output frame is sent (R100, R113, R144, R158, R163). -/
def Lane.handOver (l : Lane) (a : Activation) : Lane :=
  let toks := (l.sinkTokens a).foldl (fun (m : Sparse Val) e => Sparse.set 0 m e.1 e.2) []
  let l1 := l.onPcl fun p => { p with
    rels := p.rels.filter fun r => !(decide (r.flow = 0) && decide (r.seq = a.seq) && decide (arcKind (p.arc r.bank r.arc) = 1)) }
  let l3 := l1.onXla fun x => { x with tokens := toks, digest := l1.stateDigest, computed := true }
  (l3.onXla fun x => { x with oframe := x.oframe.set l.id (some l3.outFrame) }).emit (.output l3.outFrame)

/-- OUTPUT_EXCHANGE, at 4.9 µs: the fast-flow phase ends, and tokens of flow 0 that are left are discarded (R158). An activation that can no
longer complete (R162) hands nothing over. -/
def execOutputExchange (l : LaneId) (s : State) : Host.Outcome State Fault Refusal :=
  let n := (s.lane l).atTick 2940
  let n1 := ({ n with clk := { n.clk with phase := .exchange } } : Lane).dropFast
  .next (s.setLane l (if n.computes then (match n.act 0 with
    | some a => if a.dead then n1.missFast a else n1.handOver a
    | none => n1) else n))

/-- OUTPUT_FRAME: a receiver matches CCN_LO against its own CCN; the frame counts when it came by 5.35 µs (R92, R100, R109). -/
def execOutputFrame (l : LaneId) (t link : Nat) (f : OutFrame) (s : State) : Host.Outcome State Fault Refusal :=
  let n := (s.lane l).atTick t
  .next (s.setLane l
    (if !n.linkUp link then n
     else if f.crcOk && decide (f.type = 2) && decide (f.ccnLo = n.ccn.setWidth 8) then
       let n1 := n.hear link
       if n.tick ≤ 3210 then n1.onXla fun x => { x with oframe := x.oframe.set (n.peerOf link) (some f) } else n1
     else n.discardFrame link))

/-! ### The majority (R109 to R115) -/

/-- What the frames of a cycle say at this lane: it holds; it commits the given frame's tokens; there is no majority; it is in
minority with a fence cause; its lost frame sends it to RESYNC. Beside the verdict, a peer may be in minority. -/
inductive Verdict where
  | hold
  | commit (f : OutFrame)
  | noMajority
  | minority (cause : Nat)
  | frameLost
deriving DecidableEq, Repr

/-- A vote as the lanes of the voting set cast it: tokens, digest, configuration tag, HELD. -/
structure Vote where
  id   : LaneId
  out  : OutFrame
  tag  : BitVec 16
deriving DecidableEq, Repr

/-- Token j of a vote. -/
def Vote.token (v : Vote) (j : Nat) : Val := v.out.tokens.getD j 0

/-- Whether two votes have the same tokens among the first n. -/
def sameTokens (n : Nat) (a b : Vote) : Bool := (List.range n).all fun j => decide (a.token j = b.token j)

/-- Whether two votes agree in everything that is voted. -/
def sameVote (n : Nat) (a b : Vote) : Bool := sameTokens n a b && decide (a.out.digest = b.out.digest) && decide (a.tag = b.tag)

/-- Whether some token, the digest or the tag takes three different values. -/
def threeWay (n : Nat) (a b c : Vote) : Bool :=
  ((List.range n).any fun j => decide (a.token j ≠ b.token j) && decide (b.token j ≠ c.token j) && decide (a.token j ≠ c.token j))
    || (decide (a.out.digest ≠ b.out.digest) && decide (b.out.digest ≠ c.out.digest) && decide (a.out.digest ≠ c.out.digest))
    || (decide (a.tag ≠ b.tag) && decide (b.tag ≠ c.tag) && decide (a.tag ≠ c.tag))

/-- Whether vote a is in minority against b and c: on an item on which those two agree, it differs. -/
def inMinority (n : Nat) (a b c : Vote) : Bool :=
  ((List.range n).any fun j => decide (b.token j = c.token j) && decide (a.token j ≠ b.token j))
    || (decide (b.out.digest = c.out.digest) && decide (a.out.digest ≠ b.out.digest)) || (decide (b.tag = c.tag) && decide (a.tag ≠ b.tag))

/-- The fence cause of a minority: output, digest, configuration mismatch, in this order (R110, R115). -/
def minorityCause (n : Nat) (a b : Vote) : Nat :=
  if !sameTokens n a b then 0x2 else if a.out.digest ≠ b.out.digest then 0x3 else 0x9

/-- The verdict for lane me on three votes (R110, R111, R114, R115), and the lane found in minority with whether it goes to
RESYNC. -/
def verdict3 (n : Nat) (me : LaneId) (a b c : Vote) : Verdict × Option (LaneId × Bool) :=
  let ms := (if inMinority n a b c then [(a, b, c)] else []) ++ (if inMinority n b a c then [(b, a, c)] else [])
    ++ (if inMinority n c a b then [(c, a, b)] else [])
  if threeWay n a b c then (.noMajority, none)
  else match ms with
    | [] => (.commit a.out, none)
    | [(m, p, q)] =>
      let lost := m.out.held && !p.out.held && !q.out.held
      if m.id = me then (if lost then .frameLost else .minority (minorityCause n m p), none)
      else (.commit p.out, some (m.id, lost))
    | _ => (.noMajority, none)

/-- The verdict for lane me on two votes, its own first (R111, R114, R115). -/
def verdict2 (n : Nat) (mine other : Vote) : Verdict × Option (LaneId × Bool) :=
  if sameVote n mine other then (.commit mine.out, none)
  else if mine.out.held && !other.out.held then (.frameLost, none)
  else if !mine.out.held && other.out.held then (.commit mine.out, some (other.id, true))
  else (.noMajority, none)

/-- The votes of the lanes of the voting set; none unless conditions 1 and 2 of R109 hold: every frame is there, and each carries a
VSET and an RXM equal to this lane's VSET. -/
def Lane.votes (l : Lane) : Option (List Vote) :=
  let vs := l.xla.vset.members.map fun x =>
    match l.xla.oframe.get x, l.xla.aframe.get x with
    | some o, some a => if o.vset = l.xla.vset.mask ∧ o.rxm = l.xla.vset.mask then some (Vote.mk x o a.cfgTag) else none
    | _, _ => none
  if vs.all Option.isSome then some (vs.filterMap fun v => v) else none

/-- The verdict of the cycle at a lane of the voting set. -/
def Lane.verdict (l : Lane) : Verdict × Option (LaneId × Bool) :=
  let n := l.rd XLA.VEC_CFG_OUT_COUNT
  if !l.xla.computed || l.flowsRest || !l.xla.vset.get l.id || l.xla.statusLost then (.hold, none)
  else match l.votes with
    | some [v] => (.commit v.out, none)
    | some [a, b] => if a.id = l.id then verdict2 n a b else verdict2 n b a
    | some [a, b, c] => verdict3 n l.id a b c
    | _ => (.hold, none)

/-- The committed majority as a lane in RESYNC sees it in the frames of the voting set (R137): none in a hold cycle. -/
def Lane.seenMajority (l : Lane) : Option Vote :=
  let n := l.rd XLA.VEC_CFG_OUT_COUNT
  match l.votes with
  | some [v] => some v
  | some [a, b] => if sameVote n a b then some a
    else if a.out.held && !b.out.held then some b else if !a.out.held && b.out.held then some a else none
  | some [a, b, c] =>
    match verdict3 n l.id a b c with
    | (.commit o, _) => some ⟨a.id, o, a.tag⟩
    | _ => none
  | _ => none

end Sys2Proof.Machine
end

