-- ==== Sys2Proof/Machine/Links.lean ====
section
/-!
DEFINITION. Control messages, heartbeats and cycle alignment (chapter 03): STATUS with the declarations that rest on it, FENCE,
CLAIM, MOVE, COMMIT_READY, HOST_CMD, the initial start, markers, pulse toggles, and link training.
-/
namespace Sys2Proof.Machine

open Sys2Proof

/-! ### Peer evaluation (R119, R121, R122) -/

/-- The HB_STATUS fields of a link. -/
def silentFld (k : Nat) : Fld := if k = 0 then XLA.HB_STATUS_SILENT_0 else XLA.HB_STATUS_SILENT_1
def linkHeardFld (k : Nat) : Fld := if k = 0 then XLA.HB_STATUS_LINK_HEARD_0 else XLA.HB_STATUS_LINK_HEARD_1
def pulseHeardFld (k : Nat) : Fld := if k = 0 then XLA.HB_STATUS_PULSE_HEARD_0 else XLA.HB_STATUS_PULSE_HEARD_1
def pulseFaultFld (k : Nat) : Fld := if k = 0 then XLA.HB_STATUS_PULSE_FAULT_0 else XLA.HB_STATUS_PULSE_FAULT_1

/-- Whether this lane reports peer x silent. -/
def Lane.reportsSilent (l : Lane) (x : LaneId) : Bool := decide (l.rd (silentFld (l.linkTo x)) = 3)

/-- Whether this lane heard peer x on either path in its last evaluation. -/
def Lane.hears (l : Lane) (x : LaneId) : Bool := l.on (linkHeardFld (l.linkTo x)) || l.on (pulseHeardFld (l.linkTo x))

/-- A pulse line fault appears after 3 cycles heard on the link alone, and ends when the pulse is heard again (R122). -/
def Lane.pulseCheck (l : Lane) (x : LaneId) (link pulse : Bool) : Lane :=
  let k := l.linkTo x
  let n := if link && !pulse then min (l.xla.noPulse.get x + 1) 3 else 0
  let l1 := l.onXla fun q => { q with noPulse := q.noPulse.set x n }
  if n = 3 ∧ l.xla.noPulse.get x < 3 then (l1.flag (pulseFaultFld k) true).faultLevel (0x18 + k) (BitVec.ofNat 32 x.code)
  else if pulse then (l1.flag (pulseFaultFld k) false).setLevel (0x18 + k) false
  else l1

/-- The evaluation of one peer at 5.35 µs. -/
def Lane.evalPeer (l : Lane) (x : LaneId) : Lane :=
  let k := l.linkTo x
  let link := l.xla.linkHeard.get x
  let pulse := l.xla.pulseHeard.get x
  let silent := if link || pulse then 0 else min (l.rd (silentFld k) + 1) 3
  let noFrame := if pulse && !link then min (l.xla.noFrame.get x + 1) 3 else 0
  let l1 := ((l.flag (linkHeardFld k) link).flag (pulseHeardFld k) pulse).wr (silentFld k) silent
  (l1.onXla fun q => { q with linkHeard := q.linkHeard.set x false, pulseHeard := q.pulseHeard.set x false
                              noFrame := q.noFrame.set x noFrame }).pulseCheck x link pulse

/-- Both peers are evaluated; a pair path is lost when three lanes vote and pulses come without a frame for 3 cycles (R121). -/
def Lane.evalPeers (l : Lane) : Lane :=
  if l.own.beats then
    let l1 := l.peers.foldl Lane.evalPeer l
    if l1.xla.vset.mask = 7 then
      l1.peers.foldl (fun (n : Lane) x => if n.xla.noFrame.get x = 3 ∧ l.xla.noFrame.get x < 3 then n.pairLost n.id x else n) l1
    else l1
  else l

/-! ### Declarations (R120, R121) -/

/-- The report of observer o on lane x in this cycle: silent or not; none when it has not come. -/
def Lane.reportOf (l : Lane) (o x : LaneId) : Option Bool :=
  if o = l.id then some (l.reportsSilent x) else (l.xla.status.get o).map fun m => decide (3 ≤ m.silent.get x)

/-- Whether observer o heard lane x. -/
def Lane.heardBy (l : Lane) (o x : LaneId) : Bool :=
  if o = l.id then l.hears x
  else match l.xla.status.get o with | some m => m.linkHeard.get x || m.pulseHeard.get x | none => false

/-- A lane is declared silent when every observer of the voting set reports it silent in the same cycle (R120): a peer is lost in
this cycle; this lane itself, heard again, is fenced with cause 0x4 and sends no FENCE (R123). -/
def Lane.declareSilent (l : Lane) (x : LaneId) : Lane :=
  let obs := l.xla.vset.members.filter fun o => decide (o ≠ x)
  if l.xla.vset.get x && !obs.isEmpty && obs.all (fun o => decide (l.reportOf o x = some true)) then
    if x = l.id then l.ownFence 0x1E 0x4 (BitVec.ofNat 32 x.code) false else l.losePeer x 0x4
  else l

/-- With three lanes voting, a pair path is lost when one observer reports a lane silent that the third hears (R121). -/
def Lane.pairCheck (l : Lane) (o x : LaneId) : Lane :=
  match [LaneId.a, LaneId.b, LaneId.c].find? fun y => decide (y ≠ o) && decide (y ≠ x) with
  | some z =>
    if decide (l.xla.vset.mask = 7) && decide (o ≠ x) && decide (l.reportOf o x = some true) && l.heardBy z x then l.pairLost o x else l
  | none => l

/-- What this cycle's reports say, evaluated with each report. -/
def Lane.declarations (l : Lane) : Lane :=
  if l.xla.vset.get l.id then
    let ids := [LaneId.a, LaneId.b, LaneId.c]
    let l1 := ids.foldl Lane.declareSilent l
    (ids.flatMap fun o => ids.map fun x => (o, x)).foldl (fun (n : Lane) p => n.pairCheck p.1 p.2) l1
  else l

/-! ### CLAIM (R131) -/

/-- The lanes that remain healthy as this lane holds them. -/
def Lane.remaining (l : Lane) : List LaneId := l.healthySet.members

/-- The lane that every remaining lane's CLAIM names; none when one is missing or they differ (R131). -/
def Lane.claimed (l : Lane) : Option LaneId :=
  match l.remaining.map fun x => l.xla.claims.get x with
  | some c :: cs => if cs.all fun d => decide (d = some c) then LaneId.ofCode c else none
  | _ => none

/-! ### STATUS (R102, R119, R135, R136, R378) -/

/-- The confirmation record in force: the valid one with the highest sequence number (R448). -/
def Lane.recordInForce (l : Lane) : Option ConfRec :=
  ((l.nor.conf0 ++ l.nor.conf1).filter ConfRec.valid).foldl (fun b r => match b with
    | none => some r
    | some x => if x.seq < r.seq then some r else b) none

/-- Whether the lane's record in force equals its check value (R331). -/
def Lane.recordOk (l : Lane) : Bool :=
  match l.recordInForce with
  | some r => decide (r.value = checkValue l.regs)
  | none => false

/-- Whether what a peer reported of itself matches this lane (R135): firmware version, configuration tag, lifecycle state. -/
def Lane.matches_ (l : Lane) (x : LaneId) : Bool :=
  let p := l.xla.peers.get x
  p.known && decide (p.acn = l.rd SEC.FW_INFO_ACN) && decide (p.tag.toNat = l.rd XLA.CFG_TAG_TAG) &&
    decide (p.lifecycle = l.otp.lifecycle)

/-- Whether a joining lane's firmware version and lifecycle state match the AUTHORITY's (R137). -/
def Lane.mayJoin (l : Lane) (x : LaneId) : Bool :=
  let p := l.xla.peers.get x
  p.known && decide (p.acn = l.rd SEC.FW_INFO_ACN) && decide (p.lifecycle = l.otp.lifecycle)

/-- A comparison that does not match (R136): the lane stays in SYNC and raises the mismatch once, until the two match again. -/
def Lane.mismatch (l : Lane) (n : Nat) (bad : Bool) : Lane :=
  if bad then (if (l.src n).level then l else l.faultLevel n) else l.setLevel n false

/-- How many lanes this lane knows to be in twin mode (R69). -/
def Lane.twinCount (l : Lane) : Nat := ([LaneId.a, LaneId.b, LaneId.c].filter l.isTwin).length

/-- The comparison of a lane in SYNC with a peer: with the AUTHORITY once the part runs, else with a peer in SYNC while no other
peer matches. A lane that may join sends JOIN (R137): not one held under a limit (R60, R125) or stopped, nor with two lanes in twin
mode, where none leaves SYNC (R69). -/
def Lane.compareSync (l : Lane) (x : LaneId) : Lane :=
  let p := l.xla.peers.get x
  let runs := decide (l.xla.lst.get x = .authority)
  let cfgBad := decide (p.acn ≠ l.rd SEC.FW_INFO_ACN) || (!runs && decide (p.tag.toNat ≠ l.rd XLA.CFG_TAG_TAG))
  let lcBad := decide (p.lifecycle ≠ l.otp.lifecycle)
  if runs then
    let l1 := (l.mismatch 0x15 cfgBad).mismatch 0x16 lcBad
    if l.mayJoin x && l.trainedBoth && !l.xla.noJoin && !l.heldFenced && !l.bcn.stopped && !l.bcn.halted && decide (l.twinCount < 2) then l1.sendCtl 3 .join else l1
  else if decide (l.xla.lst.get x = .sync) && !(l.peers.any fun y => decide (y ≠ x) && l.matches_ y) then
    (l.mismatch 0x15 cfgBad).mismatch 0x16 lcBad
  else l

/-! ### JOIN (R137, R138) -/

/-- Whether the modes admit lane x to resynchronisation (R137, R69): SNUFFED and DUPLEX, with firmware version and lifecycle state
that match, and not two lanes in twin mode. -/
def Lane.admits (l : Lane) (x : LaneId) : Bool :=
  (decide (l.xla.mode = .snuffed) || decide (l.xla.mode = .duplex)) && l.mayJoin x && decide (l.twinCount < 2)

/-- Whether a lane is one that sends JOIN: in SYNC, or in RESYNC with no transfer begun (R114, R138). -/
def Lane.seeksJoin (l : Lane) : Bool :=
  ((decide (l.own = .sync) && !l.xla.noJoin) || (decide (l.own = .resync) && decide (l.rd XLA.RESYNC_STATUS_PHASE = 0))) && l.xla.auth.isSome

/-- The donor for lane x: a STANDBY lane of the voting set when there is one, else the AUTHORITY. -/
def Lane.donorFor (l : Lane) (x : LaneId) : LaneId :=
  ([LaneId.a, LaneId.b, LaneId.c].find? fun y => decide (y ≠ x) && l.xla.vset.get y && decide (l.xla.lst.get y = .standby)).getD
    (l.xla.auth.getD l.id)

/-- The joining lane enters RESYNC, and its transfer from the donor begins: what the donor's state holds no item for is clear. -/
def Lane.beginTransfer (l : Lane) (donor : LaneId) : Lane :=
  let l1 := (((l.goState .resync).wr XLA.RESYNC_STATUS_PHASE 1).wr XLA.RESYNC_STATUS_DONOR donor.code).wr XLA.RESYNC_STATUS_BLOCKS_LEFT 0
  let l2 := l1.onXla fun q => { q with accepted := some l.clk.now, cut := none, persist := [] }
  { l2 with cen := { l2.cen with slots := [], slotsW := [], gens := [], gensW := [], old := [] }
            pcl := { l2.pcl with latched := [], rels := [], acts := [], due := [] } }

/-- The AUTHORITY's STATUS names the lane that it has admitted by JOIN (R137): the lane enters RESYNC, with the donor that the voting set gives it, and
its 50 ms run from here (R138). -/
def Lane.takeAdmission (l : Lane) (x : LaneId) (m : StatusMsg) : Lane :=
  if l.seeksJoin && decide (l.xla.lst.get x = .authority) && decide (m.admitted = some l.id) then l.beginTransfer (l.donorFor l.id) else l

/-- A STATUS message of peer x. -/
def Lane.takeStatus (l : Lane) (x : LaneId) (m : StatusMsg) : Lane :=
  let info : PeerInfo := { known := true, acn := m.acn, tag := m.tag, lifecycle := m.lifecycle, sealed := m.sealed, twin := m.twin
                           recordOk := m.recordOk, check := m.check }
  let l1 := (l.report x m.lstate).onXla fun q => { q with
    status := q.status.set x (some m), peers := q.peers.set x info, twins := q.twins.set x m.twin }
  let l2 := if l1.xla.lst.get x = .authority ∧ m.covered ≠ 0 then
      { l1 with stm := { l1.stm with held := l1.stm.held.filter fun r => ahead m.covered r.ccn, covered := some m.covered } }
    else l1
  match l2.own with
  | .sync => (l2.compareSync x).takeAdmission x m
  | .resync => l2.declarations.takeAdmission x m
  | _ => l2.declarations

/-! ### FENCE, CLAIM, MOVE, COMMIT_READY, HOST_CMD -/

/-- FENCE_MESSAGE: the sender has left the voting set (R103, R123). -/
def execFenceMessage (l : LaneId) (t link : Nat) (h : CtlHdr) (cause : Nat) (s : State) : Host.Outcome State Fault Refusal :=
  .next (s.setLane l (((s.lane l).atTick t).control 0x02 link h fun x n =>
    (n.onXla fun q => { q with fenceRx := q.fenceRx.set x true }).losePeer x cause))

/-- CLAIM: the lane that the sender names as the next AUTHORITY, in a migration hold cycle (R131). -/
def execClaim (l : LaneId) (t link : Nat) (h : CtlHdr) (named : Nat) (s : State) : Host.Outcome State Fault Refusal :=
  .next (s.setLane l (((s.lane l).atTick t).control 0x03 link h fun x n =>
    if n.xla.migration then n.onXla fun q => { q with claims := q.claims.set x (some named) } else n))

/-- MOVE: the sender confirms the commanded move that this lane knows (R132). -/
def execMove (l : LaneId) (t link : Nat) (h : CtlHdr) (target : Nat) (at_ : Word) (s : State) : Host.Outcome State Fault Refusal :=
  .next (s.setLane l (((s.lane l).atTick t).control 0x04 link h fun x n =>
    match n.xla.move with
    | some q => if q.target.code = target ∧ q.at_ = at_ then
        n.onXla fun y => { y with move := some { q with confirm := q.confirm.set x true } } else n
    | none => n))

/-- COMMIT_READY: the sender is ready for the commit at the named cycle with the named tag (R134). -/
def execCommitReady (l : LaneId) (t link : Nat) (h : CtlHdr) (at_ : Word) (tag : BitVec 16) (s : State) :
    Host.Outcome State Fault Refusal :=
  .next (s.setLane l (((s.lane l).atTick t).control 0x05 link h fun x n =>
    n.onXla fun q => { q with ready := q.ready.set x (some (at_, tag)) }))

/-- HOST_CMD: the image of a command authenticated at the sender, which stands in for the descriptor at a lane that never fetches
it (R378). -/
def execHostCmd (l : LaneId) (t link : Nat) (h : CtlHdr) (img : CmdImage) (s : State) : Host.Outcome State Fault Refusal :=
  .next (s.setLane l (((s.lane l).atTick t).control 0x06 link h fun _ n =>
    if n.hif.known.contains img then n else { n with hif := { n.hif with known := img :: n.hif.known } }))

/-! ### Before the initial start (R135) -/

/-- The peers in SYNC that match this lane. -/
def Lane.matching (l : Lane) : List LaneId := l.peers.filter fun x => decide (l.xla.lst.get x = .sync) && l.matches_ x

/-- The authority-elect as this lane sees it: the first lane of the authority order among itself and the lanes that match it, twin
lanes left out. Without a match there is none, nor with two lanes in twin mode, where none leaves SYNC (R69). -/
def Lane.elect (l : Lane) : Option LaneId :=
  let set := l.id :: l.matching
  if l.matching.isEmpty || decide (2 ≤ l.twinCount) then none else l.authOrder.find? fun x => set.contains x && !l.isTwin x

/-- SYNC_START_DECISION: the authority-elect names a start instant when all three lanes match, or 130 ms (78,000,000 ticks) after its
own lane ready with two. -/
def execSyncStartDecision (l : LaneId) (t start : Nat) (s : State) : Host.Outcome State Fault Refusal :=
  let n := (s.lane l).atTick t
  let late := match n.xla.readyAt with | some r => decide (r + 78000000 ≤ n.clk.now) | none => false
  .next (s.setLane l
    (if decide (n.own = .sync) && decide (n.elect = some l) && n.xla.startAt.isNone && decide (n.clk.now < start) &&
        (decide (n.matching.length = 2) || late) then
       (n.onXla fun x => { x with startAt := some start }).sendCtl 3 (.syncStart start)
     else n))

/-- SYNC_START: a matching lane takes the start instant that the authority-elect names. DESIGN CHOICE: R135 does not say in whose timebase; it is the
same tick number in every lane's own (log entry 24). -/
def execSyncStart (l : LaneId) (t link : Nat) (h : CtlHdr) (start : Nat) (s : State) : Host.Outcome State Fault Refusal :=
  .next (s.setLane l (((s.lane l).atTick t).control 0x0A link h fun x n =>
    if decide (n.own = .sync) && decide (n.elect = some x) then n.onXla fun q => { q with startAt := some start } else n))

/-- The agreement unit at a cycle start: what belongs to the past cycle goes, its outcome becomes HELD, and the STATUS messages of
the cycle move back by one. -/
def Xla.newCycle (x : Xla) : Xla :=
  { x with held := !x.committed, committed := false, computed := false, fenceRx := Tri.all false
           aframe := Tri.all none, oframe := Tri.all none, markOff := Tri.all none, lostNow := Tri.all false
           statusOld := x.statusPrev, statusPrev := x.status, status := Tri.all none, claims := Tri.all none, testOver := false }

/-- The lane's timebase at a cycle start at tick now with the given length. -/
def Clk.start (c : Clk) (now len : Nat) : Clk :=
  { base := now, last := c.base, now := now, len := len, cycles := c.cycles + 1, phase := .sampling }

/-! ### Markers and alignment (R96 to R98) -/

/-- The lane whose markers give the reference in this cycle: the AUTHORITY while it is healthy; none once it is lost (R130). -/
def Lane.reference (l : Lane) : Option LaneId := l.xla.auth.filter fun au => decide (au = l.id) || (l.xla.lst.get au).healthy

/-- The offset of lane x from the AUTHORITY in this cycle as this lane's markers give it; none while a marker lacks. -/
def Lane.offsetOf (l : Lane) (x : LaneId) : Option Int :=
  match l.reference with
  | none => none
  | some au =>
    if au = l.id then (l.xla.markOff.get x).map fun o => -o
    else if x = l.id then l.xla.markOff.get au
    else match l.xla.markOff.get au, l.xla.markOff.get x with
      | some o, some z => some (o - z)
      | _, _ => none

/-- Lane x's run of cycles with an offset outside 12 ticks, after the offset of this cycle. -/
def Lane.countRun (l : Lane) (x : LaneId) : Lane :=
  match l.offsetOf x with
  | some o => l.onXla fun q => { q with alignRun := q.alignRun.set x (if 12 < iabs o then min (q.alignRun.get x + 1) 3 else 0) }
  | none => l

/-- Whether lane x meets the condition of R98: outside 36 ticks in this cycle, or outside 12 ticks in 3 consecutive cycles. -/
def Lane.alignLost (l : Lane) (x : LaneId) : Bool :=
  match l.offsetOf x with
  | some o => decide (36 < iabs o) || decide (3 ≤ l.xla.alignRun.get x)
  | none => false

/-- The AUTHORITY's marker at a lane that is not AUTHORITY: the offset is stored and an excursion counted, and a lane in SYNC that lies
outside the range steps its cycle start by it (R137), which leaves nothing to trim. -/
def Lane.takeMarker (l : Lane) (au : LaneId) (off : Int) : Lane :=
  let out := decide (12 < iabs off)
  let l1 := l.wrS XLA.ALIGN_OFFSET (clampInt (-127) 127 off)
  let l2 := if out then l1.bump XLA.ALIGN_EXC_EXCURSIONS else l1
  if decide (l.own = .sync) && out then
    ({ l2 with clk := { l2.clk with base := ((l2.clk.base : Int) + off).toNat } } : Lane).onXla fun x =>
      { x with markOff := x.markOff.set au (some 0) }
  else l2.countRun l.id

/-- The AUTHORITY judges itself (R98): both STANDBY lanes of a TRIPLEX part meet the condition against it and lie within 24 ticks of
each other. -/
def Lane.judgeSelf (l : Lane) : Lane :=
  match l.peers with
  | [p, q] =>
    match l.offsetOf p, l.offsetOf q with
    | some a, some b =>
      if decide (l.xla.mode = .triplex) && l.alignLost p && l.alignLost q && decide (iabs (a - b) ≤ 24) then l.ownFence 0x12 0x6 else l
    | _, _ => l
  | _ => l

/-- A STANDBY or RESYNC lane judges its alignment (R98): in TRIPLEX it waits for the other STANDBY lane's marker; when that lane meets the
condition too and the two lie within 24 ticks of each other, the AUTHORITY is the lane that is fenced. -/
def Lane.judgeAlign (l : Lane) : Lane :=
  match l.reference with
  | none => l
  | some au =>
    if au = l.id then l.judgeSelf
    else if l.alignLost l.id then
      match l.peers.find? fun x => decide (x ≠ au) with
      | some z =>
        if decide (l.xla.mode = .triplex) && decide (l.own = .standby) && decide (l.xla.lst.get z = .standby) then
          (match l.xla.markOff.get z with
           | some oz => if l.alignLost z && decide (iabs oz ≤ 24) then l.losePeer au 0x6 else l.ownFence 0x12 0x6
           | none => l)
        else l.ownFence 0x12 0x6
      | none => l
    else l

/-- The runs that a marker from lane x completes: at the AUTHORITY that lane's own, elsewhere that of the lane that is neither this one nor
the AUTHORITY, once both markers are there. -/
def Lane.runsOfOthers (l : Lane) (x : LaneId) : Lane :=
  match l.reference with
  | none => l
  | some au =>
    if au = l.id then l.countRun x
    else match l.peers.find? fun y => decide (y ≠ au) with
      | some z => l.countRun z
      | none => l

/-- CYCLE_MARKER_RECEIVE: arr is the arrival on the lane's timebase, counted from its own cycle start; the link's latency is
subtracted. A lane sends one marker in a cycle. In a migration hold cycle no lane has a reference (R130). -/
def execCycleMarkerReceive (l : LaneId) (link : Nat) (arr : Int) (s : State) : Host.Outcome State Fault Refusal :=
  let n := s.lane l
  let x := n.peerOf link
  let off := arr - (n.rd XLA.LINK_STATUS_LATENCY link : Int)
  .next (s.setLane l
    (if !n.linkUp link || (n.xla.markOff.get x).isSome then n
     else
       let n1 := n.onXla fun q => { q with markOff := q.markOff.set x (some off) }
       if n.xla.migration || n.reference.isNone then n1
       else ((if n.reference = some x then n1.takeMarker x off else n1).runsOfOthers x).judgeAlign))

/-- A lane whose judgement waited for the other STANDBY lane's marker is fenced when none has come by 2.0 µs. -/
def Lane.judgeLate (l : Lane) : Lane :=
  match l.reference with
  | some au =>
    match l.peers.find? fun x => decide (x ≠ au) with
    | some z =>
      if decide (au ≠ l.id) && !l.xla.migration && l.alignLost l.id && (l.xla.markOff.get z).isNone then l.ownFence 0x12 0x6 else l
    | none => l
  | none => l

/-- INPUT_VECTOR_CLOSE, at 2.0 µs. -/
def execInputVectorClose (l : LaneId) (s : State) : Host.Outcome State Fault Refusal :=
  .next (s.setLane l ((((s.lane l).atTick 1200).judgeLate).closeVector))

/-- PULSE_TOGGLE_RECEIVE: a toggle within 500 ns (300 ticks) of the lane's own cycle start counts as heard (R95). -/
def execPulseToggleReceive (l : LaneId) (link : Nat) (off : Int) (s : State) : Host.Outcome State Fault Refusal :=
  let n := s.lane l
  .next (s.setLane l (if iabs off ≤ 300 then n.onXla fun q => { q with pulseHeard := q.pulseHeard.set (n.peerOf link) true } else n))

/-! ### Link training (R91) -/

/-- LINK_BLOCK_LOCK_LOST: the link carries no frames while it trains. -/
def execLinkBlockLockLost (l : LaneId) (t link : Nat) (s : State) : Host.Outcome State Fault Refusal :=
  let n := (s.lane l).atTick t
  .next (s.setLane l
    (if decide (link < 2) && n.on XLA.LINK_STATUS_BLOCK_LOCK link then
       (((n.flag XLA.LINK_STATUS_BLOCK_LOCK false link).flag XLA.LINK_STATUS_TRAINED false link).flag XLA.LINK_STATUS_UP false link).faultLevel
         (0x1B + link)
     else n))

/-- LINK_TRAINING_COMPLETE: the measured one-way latency is stored; once both links have trained, a lane fenced for a lost path may
send JOIN again (R121). -/
def execLinkTrainingComplete (l : LaneId) (t link latency : Nat) (s : State) : Host.Outcome State Fault Refusal :=
  let n := (s.lane l).atTick t
  let n1 := ((((n.flag XLA.LINK_STATUS_BLOCK_LOCK true link).flag XLA.LINK_STATUS_TRAINED true link).flag XLA.LINK_STATUS_UP true link).wr
    XLA.LINK_STATUS_LATENCY latency link).setLevel (0x1B + link) false
  .next (s.setLane l
    (if decide (link < 2) && decide (n.own ≠ .off) && !n.on XLA.LINK_STATUS_TRAINED link then
       (if n1.trainedBoth then n1.onXla fun x => { x with noJoin := false } else n1)
     else n))

end Sys2Proof.Machine
end

