-- ==== Sys2Proof/Machine/LoadCheck.lean ====
section
/-!
DEFINITION. The load checks of a configuration as a whole: the Percolator's graph (R166 to R168, R567 to R570) and the checks of
every other block (R140, R189, R239, R273, R301, R338, R357, R436).
Each check answers the first failure in the order of its block's table, or none.
-/
namespace Sys2Proof.Machine

open Sys2Proof

/-- A failed check: REASON, ITEM, the flow it names, and whether ITEM is an output index (R173). -/
structure LoadFail where
  reason   : Nat
  item     : Nat := 0
  flow     : Nat := 0
  outIndex : Bool := false
deriving DecidableEq, Repr

/-- The first failure of a list of checks. -/
def firstFail : List (Option LoadFail) → Option LoadFail
  | [] => none
  | some f :: _ => some f
  | none :: t => firstFail t

/-- The check that no number of a list is bad; a failure names the first that is. -/
def checkEach (reason : Nat) (xs : List Nat) (bad : Nat → Bool) : Option LoadFail :=
  (xs.find? bad).map fun x => { reason := reason, item := x }

/-- A field of a configuration. -/
def Cfg.rd (c : Cfg) (f : Fld) (i : Nat := 0) (j : Nat := 0) : Nat := cfgRd c.regs f i j

/-- A field of a configuration read as two's complement. -/
def Cfg.rdS (c : Cfg) (f : Fld) (i : Nat := 0) (j : Nat := 0) : Int := cfgRdS c.regs f i j

/-- Whether a one-bit field of a configuration is set. -/
def Cfg.on (c : Cfg) (f : Fld) (i : Nat := 0) (j : Nat := 0) : Bool := c.rd f i j ≠ 0

/-! ### The graph -/

/-- Operand ports of an operator (R169). -/
def opInputs (opcode : Nat) : Nat :=
  [1, 0, 2, 2, 2, 3, 2, 1, 1, 1, 2, 2, 1, 1, 2, 1, 2, 3, 1, 2, 1, 1, 2, 1, 1, 1, 1, 1, 1, 2, 1, 1,
   1, 2, 2, 1, 2, 2, 2, 2, 2, 2, 1, 1, 2, 4, 1, 1].getD opcode 0

/-- Outputs of an operator (R169). -/
def opOutputs (opcode : Nat) : Nat :=
  match opcode with
  | 0x0C | 0x0F | 0x17 | 0x23 | 0x24 | 0x2E => 2
  | _ => 1

/-- The length of an operator's parameter block in words (R169, R569, R570); p holds the block. -/
def opParams (opcode : Nat) (p : List Word) : Nat :=
  if opcode = 0x2E then 4 + pU p 0 * pU p 1
  else [0, 1, 0, 0, 0, 0, 0, 0, 0, 2, 0, 0, 2, 0, 0, 0, 1, 0, 2, 1, 2, 2, 1, 1, 1, 5, 2, 1, 1, 3, 2, 1,
        4, 7, 7, 3, 2, 2, 0, 2, 1, 1, 4, 6, 1, 0, 0, 4].getD opcode 0

/-- A byte of the parameter area of a configuration. -/
def Cfg.paramByte (c : Cfg) (m : Memory) (off : Nat) : Byte :=
  match Sparse.get none c.params off with
  | some b => b
  | none => m.byte (16 * c.rd PCL.PARAM_BASE_BASE + off)

/-- A word of the parameter area of a configuration. -/
def Cfg.paramWord (c : Cfg) (m : Memory) (off : Nat) : Word :=
  BitVec.ofNat 32 ((c.paramByte m off).toNat + 256 * (c.paramByte m (off + 1)).toNat + 65536 * (c.paramByte m (off + 2)).toNat
    + 16777216 * (c.paramByte m (off + 3)).toNat)

/-- The parameter block of a node. -/
def Cfg.block (c : Cfg) (m : Memory) (d : BitVec 128) : List Word :=
  (List.range (ndParamLen d)).map fun i => c.paramWord m (16 * ndParam d + 4 * i)

/-- The arcs that output o of a node feeds. -/
def ndOutArcs (d : BitVec 128) (o : Nat) : List Nat := (List.range (ndOutCnt d o)).map fun i => ndOutBase d o + i

/-- The arc entries in use: those whose word is not zero, and those that a node's output ranges or operand ports name. -/
def usedArcs (nodes : Sparse (BitVec 128)) (arcs : Sparse Word) : Sparse Word :=
  let named := nodes.flatMap fun e => ndOutArcs e.2 0 ++ ndOutArcs e.2 1 ++ (List.range (ndNin e.2)).map fun p => ndIn e.2 p
  named.foldl (fun m a => Sparse.put m a (Sparse.get 0 arcs a)) arcs

/-- How often an arc lies in a node output range. -/
def producers (nodes : Sparse (BitVec 128)) (a : Nat) : List Nat :=
  nodes.flatMap fun e => ((ndOutArcs e.2 0 ++ ndOutArcs e.2 1).filter fun x => decide (x = a)).map fun _ => e.1

/-- How many operand ports name an arc, and whether one of them is the port that the arc leads to. -/
def namers (nodes : Sparse (BitVec 128)) (a : Nat) : List (Nat × Nat) :=
  nodes.flatMap fun e => ((List.range (ndNin e.2)).filter fun p => decide (ndIn e.2 p = a)).map fun p => (e.1, p)

/-- A vertex of a flow's graph: a node, or 1,024 + u for an engine unit. -/
abbrev Vertex := Nat

/-- The producer vertex of an arc; none for an agreed input value. -/
def producerOf (nodes : Sparse (BitVec 128)) (e : Nat × Word) : Option Vertex :=
  match arcSrcKind e.2 with
  | 0 => (producers nodes e.1).head?
  | 2 => some (1024 + arcSrcIndex e.2)
  | _ => none

/-- The consumer vertex of an arc; none for an output index. -/
def consumerOf (w : Word) : Option Vertex :=
  match arcKind w with
  | 0 => some (arcDst w)
  | 2 => some (1024 + arcDst w / 4)
  | _ => none

/-- The flow of a vertex. -/
def Cfg.flowOf (c : Cfg) (v : Vertex) : Nat :=
  if v < 1024 then ndFlow (Sparse.get 0 c.nodes v) else unitFlow c.regs (v - 1024)

/-- The unlatched edges between vertices. -/
def Cfg.edges (c : Cfg) : List (Vertex × Vertex) :=
  (usedArcs c.nodes c.arcs).filterMap fun e =>
    if arcLatched e.2 then none
    else match producerOf c.nodes e, consumerOf e.2 with
      | some p, some q => some (p, q)
      | _, _ => none

/-- Vertices reached from a set in at most n steps, the set not counted. -/
def reach (es : List (Vertex × Vertex)) : Nat → List Vertex → List Vertex
  | 0, seen => seen
  | n + 1, seen =>
    let new := (es.filter fun e => seen.contains e.1).map fun e => e.2
    let fresh := (new.filter fun v => !seen.contains v).eraseDups
    if fresh.isEmpty then seen else reach es n (seen ++ fresh)

/-- Whether vertex v lies on a cycle. -/
def onCycle (es : List (Vertex × Vertex)) (v : Vertex) : Bool :=
  es.any fun e => decide (e.1 = v) && (decide (e.2 = v) || (reach es 2000 [e.2]).contains v)

/-- The vertices of a flow: its nodes and the enabled units it runs. -/
def Cfg.vertices (c : Cfg) (flow : Nat) : List Vertex :=
  ((c.nodes.filter fun e => decide (ndFlow e.2 = flow)).map fun e => e.1) ++ (flowUnits c.regs flow).map fun u => 1024 + u

/-- The node cost of a vertex (R167). -/
def Cfg.nodeCost (c : Cfg) (v : Vertex) : Nat := if v < 1024 then wcetOf (ndOpcode (Sparse.get 0 c.nodes v)) + 20 else 0

/-- The engine cost of a vertex (R167): 90 for a loop slot and 60 for a generator. -/
def unitCost (v : Vertex) : Nat := if v < 1024 then 0 else if v < 1032 then 90 else 60

/-- The better of two path sums: the larger total, and on a tie the smaller node cost. -/
def worsePath (a b : Nat × Nat) : Nat × Nat := if a.1 < b.1 ∨ (a.1 = b.1 ∧ b.2 < a.2) then b else a

/-- One round of the longest-path search: total and node cost of the longest path found so far that ends at each vertex. -/
def pathRound (c : Cfg) (es : List (Vertex × Vertex)) (vs : List Vertex) (m : Sparse (Nat × Nat)) : Sparse (Nat × Nat) :=
  vs.foldl (fun acc v =>
    let base := (c.nodeCost v + unitCost v, c.nodeCost v)
    let best := (es.filter fun e => decide (e.2 = v)).foldl (fun b e =>
      let s := Sparse.get (0, 0) m e.1
      worsePath b (s.1 + base.1, s.2 + base.2)) base
    Sparse.put acc v best) m

/-- The rounds of the search. -/
def pathRounds (c : Cfg) (es : List (Vertex × Vertex)) (vs : List Vertex) : Nat → Sparse (Nat × Nat) → Sparse (Nat × Nat)
  | 0, m => m
  | n + 1, m =>
    let m' := pathRound c es vs m
    if m' = m then m else pathRounds c es vs n m'

/-- What R167 takes of a flow: l, lw, w, e, and the numbers of its highest and lowest priority. -/
structure FlowCost where
  l  : Nat
  lw : Nat
  w  : Nat
  e  : Nat
  hi : Nat
  lo : Nat
  nodes : Bool
deriving DecidableEq, Repr

/-- The cost of a flow of a configuration. -/
def Cfg.flowCost (c : Cfg) (flow : Nat) : FlowCost :=
  let vs := c.vertices flow
  let es := c.edges.filter fun e => vs.contains e.1 && vs.contains e.2
  let m := pathRounds c es vs (vs.length + 1) []
  let best := m.foldl (fun b x => worsePath b x.2) (0, 0)
  let prios := (c.nodes.filter fun e => decide (ndFlow e.2 = flow)).map fun e => ndPrio e.2
  { l := best.1, lw := best.2, w := natSum (vs.map c.nodeCost), e := natSum (vs.map unitCost)
    hi := prios.foldl min 3, lo := prios.foldl max 0, nodes := !prios.isEmpty }

/-- The slow flows that a configuration enables. -/
def Cfg.slow (c : Cfg) : List Nat := slowFlows.filter fun s => c.on PCL.FLOW_CFG_ENABLE s

/-- The interference i of the slow flows of configuration g on a flow with the given cost and period. -/
def interference (g : Cfg) (s : Nat) (cost : FlowCost) (period : Nat) : Nat :=
  natSum (g.slow.map fun f =>
    let k := g.flowCost f
    if f ≠ s ∧ k.nodes ∧ k.hi ≤ cost.lo then ceilDiv period (g.rd PCL.FLOW_CFG_PERIOD f) * k.w else 0)

/-- The bound of R167 for the fast flow. -/
def Cfg.fastBound (c : Cfg) : Nat :=
  let k := c.flowCost 0
  k.l + ceilDiv (k.w - k.lw) 4

/-- The bound of R167 for slow flow s of configuration c with the slow flows of g as interference. -/
def Cfg.slowBound (c g : Cfg) (s : Nat) : Nat :=
  let k := c.flowCost s
  let i := interference g s k (c.rd PCL.FLOW_CFG_PERIOD s)
  max (k.l + ceilDiv (k.w - k.lw + i) 4 + 48) (k.w + k.e + i + 48)

/-- The span k of a slow flow, given its bound. -/
def Cfg.spanOf (c : Cfg) (bound : Nat) : Nat := ceilDiv bound (c.rd CRU.CYCLE_TICKS - 3500)

/-- Whether a span is met. -/
def Cfg.spanOk (c : Cfg) (s bound : Nat) : Bool := decide (c.spanOf bound + 1 ≤ c.rd PCL.FLOW_CFG_PERIOD s)

/-- Whether some slow flow may be in service at the start of cycle n: 1 to k - 1 cycles after a nominal start (R168). -/
def busyStart (fs : List (Nat × Nat × Nat)) (n : Nat) : Bool :=
  fs.any fun f => let d := (n + f.1 - f.2.1) % f.1
                  decide (1 ≤ d) && decide (d + 1 ≤ f.2.2)

/-- Whether n, n + 1, … holds a run of 1,000 busy cycle starts within the given number of cycles. -/
def busyRun (fs : List (Nat × Nat × Nat)) : Nat → Nat → Nat → Bool
  | 0, _, run => decide (1000 ≤ run)
  | k + 1, n, run => if 1000 ≤ run then true else if busyStart fs n then busyRun fs k (n + 1) (run + 1) else busyRun fs k (n + 1) 0

/-- Whether a cut window exists (R168); the pattern repeats with the least common multiple of the periods. -/
def Cfg.cutWindow (c : Cfg) : Bool :=
  let fs := (c.slow.map fun s => (c.rd PCL.FLOW_CFG_PERIOD s, c.rd PCL.FLOW_CFG_PHASE s, c.spanOf (c.slowBound c s))).filter fun f =>
    decide (0 < f.1) && decide (2 ≤ f.2.2)
  fs.isEmpty || !busyRun fs ((fs.foldl (fun n f => Nat.lcm n f.1) 1) + 1000) 0 0

/-- Whether parameter i, read as S18, is at most parameter j. -/
def inOrder (p : List Word) (i j : Nat) : Bool := decide (pS p i ≤ pS p j)

/-- Whether parameter i lies in a range. -/
def inRange (p : List Word) (i lo hi : Nat) : Bool := decide (lo ≤ pU p i) && decide (pU p i ≤ hi)

/-- Whether a node's parameters lie in the ranges of R568 to R570. -/
def paramsOk (opcode : Nat) (p : List Word) : Bool :=
  match opcode with
  | 0x0C => inOrder p 0 1
  | 0x12 => inRange p 1 0 17
  | 0x13 => inRange p 0 0 2
  | 0x14 => inRange p 0 1 3 && inRange p 1 0 17
  | 0x15 => inRange p 0 1 16383 && inRange p 1 1 16383
  | 0x16 | 0x17 => inRange p 0 1 262143
  | 0x18 => inRange p 0 0 65536
  | 0x1C => inRange p 0 2 32
  | 0x1D => inOrder p 1 2
  | 0x1E => inRange p 1 0 65536
  | 0x1F => inRange p 0 1 16
  | 0x20 => inRange p 1 2 1024
  | 0x21 | 0x22 => inRange p 1 2 32 && inRange p 2 2 32
  | 0x23 => inOrder p 0 1 && inRange p 2 0 8191
  | 0x24 | 0x25 => inRange p 1 0 8191
  | 0x27 => inRange p 0 0 8191
  | 0x2A => inRange p 0 1 16 && inRange p 1 0 1 && decide (pU p 2 ≠ 0)
  | 0x2B => inRange p 0 0 17 && inRange p 1 1 16 && decide (pU p 0 + pU p 1 ≤ 18) && inRange p 2 0 1
  | 0x2C => inRange p 0 0 255
  | 0x2E => inRange p 0 1 16 && inRange p 1 1 8 && decide (pU p 2 < pU p 0) && decide (pU p 3 = 0) &&
      (List.range (pU p 0 * pU p 1)).all fun i => decide (pU p (4 + i) % 16 < pU p 0)
  | _ => true

/-- Check 0x03 of a node: NIN, unused IN fields, outputs and PERSIST agree with the operator, and bits [127:124] are zero. DESIGN CHOICE: no check of R166
names the unused IN fields and those bits, which R153 has zero; they fail under this one (log entry 88). -/
def nodeShape (d : BitVec 128) : Bool :=
  decide (ndNin d = opInputs (ndOpcode d)) && ([0, 1, 2, 3].all fun p => decide (p < ndNin d) || decide (ndIn d p = 0)) &&
    (decide (opOutputs (ndOpcode d) = 2) || decide (ndOutCnt d 1 = 0)) &&
    (ndPersist d == decide (stateSize (ndOpcode d) ≠ 0)) && decide (ndBits d 124 4 = 0)

/-- Check 0x05 of an arc. -/
def arcShape (nodes : Sparse (BitVec 128)) (e : Nat × Word) : Bool :=
  let ns := namers nodes e.1
  decide (arcKind e.2 ≠ 3) && (decide (arcKind e.2 = 0) || decide (arcDstPort e.2 = 0)) && decide (bitsOf e.2 15 1 = 0) &&
    decide (bitsOf e.2 26 6 = 0) &&
    (if arcKind e.2 = 0 then decide (ns = [(arcDst e.2, arcDstPort e.2)]) else ns.isEmpty)

/-- Check 0x06 of an arc: exactly one producer. -/
def arcProducer (nodes : Sparse (BitVec 128)) (e : Nat × Word) : Bool :=
  let n := (producers nodes e.1).length
  match arcSrcKind e.2 with
  | 0 => decide (n = 1)
  | 1 => decide (n = 0) && decide (arcSrcIndex e.2 ≤ 128)
  | 2 => decide (n = 0) && decide (arcSrcIndex e.2 < 12)
  | _ => false

/-- Checks 0x07: an unlatched arc joins producer and consumer of the same flow. -/
def Cfg.arcFlow (c : Cfg) (e : Nat × Word) : Bool :=
  arcLatched e.2 || (match producerOf c.nodes e, consumerOf e.2 with
    | some p, some q => decide (c.flowOf p = c.flowOf q)
    | _, _ => true)

/-- Check 0x09 of the sink arcs. -/
def Cfg.sinkCheck (c : Cfg) (arcs : Sparse Word) : Option LoadFail :=
  let sinks := arcs.filter fun e => decide (arcKind e.2 = 1)
  let n := c.rd XLA.VEC_CFG_OUT_COUNT
  firstFail [
    checkEach 0x09 (sinks.map fun e => e.1) fun a => match producerOf c.nodes (a, Sparse.get 0 arcs a) with
      | some p => decide (c.flowOf p ≠ 0)
      | none => true,
    checkEach 0x09 (sinks.map fun e => e.1) fun a => let d := arcDst (Sparse.get 0 arcs a)
      decide (d < n) && sinks.any fun e => decide (e.1 < a) && decide (arcDst e.2 = d),
    ((List.range n).find? fun j => !sinks.any fun e => decide (arcDst e.2 = j)).map fun j =>
      { reason := 0x09, item := j, outIndex := true }]

/-- The Percolator's check (R166); draining says whether a bank drains, and is false at lane reset. -/
def Cfg.checkPcl (c : Cfg) (m : Memory) (draining : Bool) : Option LoadFail :=
  let arcs := usedArcs c.nodes c.arcs
  let ns := c.nodes.map fun e => e.1
  let nd := fun n => Sparse.get 0 c.nodes n
  let as := arcs.map fun e => e.1
  let ar := fun a => (a, Sparse.get 0 arcs a)
  let flowOn := fun f => decide (f = 0) || c.on PCL.FLOW_CFG_ENABLE f
  firstFail [
    if ns.any (fun n => decide (1024 ≤ n)) || as.any (fun a => decide (4096 ≤ a)) || ns.any (fun n => !flowOn (ndFlow (nd n)))
      then some { reason := 0x01 } else none,
    checkEach 0x02 ns fun n => decide (0x30 ≤ ndOpcode (nd n)),
    checkEach 0x03 ns fun n => !nodeShape (nd n),
    checkEach 0x04 ns fun n =>
      let d := nd n
      decide (0x100000 < 16 * ndParam d + 4 * (ndParamLen d + (if ndPersist d then 2 * stateSize (ndOpcode d) else 0))) ||
        decide (ndParamLen d ≠ opParams (ndOpcode d) (c.block m d)),
    checkEach 0x05 as fun a => !arcShape c.nodes (ar a),
    checkEach 0x06 as fun a => !arcProducer c.nodes (ar a),
    checkEach 0x07 as fun a => !c.arcFlow (ar a),
    (let es := c.edges
     match (ns ++ (List.range 12).map fun u => 1024 + u).find? (onCycle es) with
     | some v => some { reason := 0x08, item := if v < 1024 then v else 0 }
     | none => none),
    c.sinkCheck arcs,
    checkEach 0x0A ns fun n => decide (ndFlow (nd n) = 0) && decide (ndPrio (nd n) ≠ 0),
    checkEach 0x0B as fun a => decide (arcKind (ar a).2 = 2) && (decide (48 ≤ arcDst (ar a).2) ||
      arcs.any fun e => decide (e.1 < a) && decide (arcKind e.2 = 2) && decide (arcDst e.2 = arcDst (ar a).2)),
    if 256 < (arcs.filter fun e => decide (arcKind e.2 = 1) || arcLatched e.2).length then some { reason := 0x0C } else none,
    if 1080 < c.fastBound then some { reason := 0x0D } else none,
    (c.slow.find? fun s => !c.spanOk s (c.slowBound c s)).map fun s => { reason := 0x0E, flow := s },
    ((0 :: c.slow).find? fun s => !(if s = 0 then decide (c.rd PCL.FLOW_CFG_PERIOD 0 = 1) && decide (c.rd PCL.FLOW_CFG_PHASE 0 = 0)
      else decide (2 ≤ c.rd PCL.FLOW_CFG_PERIOD s) && decide (c.rd PCL.FLOW_CFG_PERIOD s ≤ 1000) &&
      decide (c.rd PCL.FLOW_CFG_PHASE s < c.rd PCL.FLOW_CFG_PERIOD s))).map fun s => { reason := 0x0F, flow := s },
    if c.cutWindow then none else some { reason := 0x10 },
    if draining then some { reason := 0x11 } else none,
    checkEach 0x12 ns fun n => (nodeTable (ndOpcode (nd n)) (c.block m (nd n))).any fun t => decide (262144 < t.1 + t.2),
    checkEach 0x13 ns fun n => !paramsOk (ndOpcode (nd n)) (c.block m (nd n))]

/-- HIF check 0x04 (R397): whether every slow flow of the active configuration still meets its span with the staged graph's flows
as interference. -/
def Cfg.drainOk (c staged : Cfg) : Bool := c.slow.all fun s => c.spanOk s (c.slowBound staged s)

/-! ### XLA and CEN -/

/-- Whether an input-map word names a source that its home chapter offers (R227, R271, R423, R498). -/
def sourceOffered (w : Word) : Bool :=
  let pos := bitsOf w 16 8
  let inst := bitsOf w 8 8
  decide (bitsOf w 0 8 = 0) && (match bitsOf w 24 8 with
    | 3 => (decide (pos < 6) && decide (inst < 2)) || (decide (pos = 6) && decide (inst < 8))
    | 4 => decide (pos < 13) && decide (inst < 2)
    | 5 | 7 | 12 => decide (pos = 0) && decide (inst = 0)
    | 6 => decide (pos < 2) && decide (inst = 0)
    | 9 => decide (pos < 2) && decide (inst < 64)
    | 10 => decide (pos < 2) && decide (inst < 96)
    | _ => false)

/-- The indices below VAL_COUNT, and the output indices below OUT_COUNT. -/
def Cfg.vals (c : Cfg) : List Nat := List.range (c.rd XLA.VEC_CFG_VAL_COUNT)
def Cfg.outs (c : Cfg) : List Nat := List.range (c.rd XLA.VEC_CFG_OUT_COUNT)

/-- The XLA's check (R140). -/
def Cfg.checkXla (c : Cfg) : Option LoadFail :=
  let o := [c.rd XLA.AUTH_ORDER_FIRST, c.rd XLA.AUTH_ORDER_SECOND, c.rd XLA.AUTH_ORDER_THIRD]
  firstFail [
    if [0, 1, 2].all fun x => o.contains x then none else some { reason := 0x01 },
    if 128 < c.rd XLA.VEC_CFG_VAL_COUNT ∨ 64 < c.rd XLA.VEC_CFG_OUT_COUNT then some { reason := 0x02 } else none,
    checkEach 0x03 c.vals fun k => decide (c.rd XLA.VAL_CFG_CLASS k = 3) ||
      (decide (c.rd XLA.VAL_CFG_CLASS k = 1) && decide (c.rd XLA.VAL_CFG_OWNER k = 3)),
    checkEach 0x04 c.outs fun j => decide (7 < c.rd XLA.OUT_CFG_CLASS j),
    checkEach 0x05 (List.range 128) fun k => !sourceOffered (Sparse.get 0 c.inMap k) &&
      (decide (k < c.rd XLA.VEC_CFG_VAL_COUNT) || decide (Sparse.get 0 c.inMap k ≠ 0))]

/-- Whether some arc leads to port p of unit u. -/
def Cfg.wired (c : Cfg) (u p : Nat) : Bool := c.arcs.any fun e => decide (arcKind e.2 = 2) && decide (arcDst e.2 = 4 * u + p)

/-- Whether the pages that hold n words from base are all U18 (true) or all S18 (false). -/
def Cfg.pagesAre (c : Cfg) (u18 : Bool) (base n : Nat) : Bool :=
  (List.range (n / 1024 + 2)).all fun i =>
    let page := base / 1024 + i
    decide ((base + n - 1) / 1024 < page) || (bitsOf (regWord c.regs (CEN.TBL_TYPE_U18.at_ (page / 32) 0)) (page % 32) 1 == u18.toNat)

/-- The engine's check (R189). -/
def Cfg.checkCen (c : Cfg) : Option LoadFail :=
  let units := List.range 12
  let slots := (List.range 8).filter fun s => c.on CEN.SLOT_CFG_ENABLE s
  let gens := (List.range 4).filter fun g => c.on PGN.CFG_ENABLE g
  let tables := fun s => [(true, c.rd CEN.SLOT_KP_BASE s, 256), (true, c.rd CEN.SLOT_KI_BASE s, 256), (true, c.rd CEN.SLOT_KD_BASE s, 256)]
    ++ (if c.on CEN.SLOT_CFG_FRIC_EN s then [(false, c.rd CEN.SLOT_FRIC_TBL_BASE s, 1024)] else [])
    ++ (if c.on CEN.SLOT_CFG_COG_EN s then [(false, c.rd CEN.SLOT_COG_BASE s, 512)] else [])
  let genFail := fun (r : Nat) (bad : Nat → Bool) => (gens.find? bad).map fun g => ({ reason := r, item := 8 + g } : LoadFail)
  firstFail [
    checkEach 0x01 (units.filter (unitEnabled c.regs)) fun u =>
      decide (unitFlow c.regs u ≠ 0) && !c.on PCL.FLOW_CFG_ENABLE (unitFlow c.regs u),
    checkEach 0x02 units fun u =>
      if unitEnabled c.regs u then !c.wired u 0 || (decide (u < 8) && (!c.wired u 1 ||
        ((c.on CEN.SLOT_CFG_FRIC_EN u || c.on CEN.SLOT_CFG_COG_EN u) && !c.wired u 3)))
      else ([0, 1, 2, 3].any fun p => c.wired u p) || c.arcs.any fun e => decide (arcSrcKind e.2 = 2) && decide (arcSrcIndex e.2 = u),
    checkEach 0x03 slots fun s => (tables s).any fun t => decide (262144 < t.2.1 + t.2.2),
    checkEach 0x04 slots fun s => (tables s).any fun t => !c.pagesAre t.1 t.2.1 t.2.2,
    checkEach 0x05 slots fun s => !decide (c.rdS CEN.SLOT_OLO_VALUE s < c.rdS CEN.SLOT_OHI_VALUE s),
    checkEach 0x06 slots fun s => (c.wired s 3 != (c.on CEN.SLOT_CFG_FRIC_EN s || c.on CEN.SLOT_CFG_COG_EN s)) ||
      (c.on CEN.SLOT_CFG_COG_EN s && decide (c.rd CEN.SLOT_COG_MULT s = 0)),
    genFail 0x07 fun g => decide (c.rd PGN.VMAX_LIMIT g = 0) || decide (c.rd PGN.AMAX_LIMIT g = 0) ||
      decide (c.rd PGN.JMAX_LIMIT g = 0) || decide (65535 < ceilDiv (c.rd PGN.AMAX_LIMIT g) (c.rd PGN.JMAX_LIMIT g)),
    genFail 0x08 fun g => decide (c.rd PGN.CFG_OUT_SEL g = 3)]

/-! ### CMU, PFB, GDC -/

/-- Whether some output index carries a class. -/
def Cfg.carries (c : Cfg) (cls : Nat) : Bool := c.outs.any fun j => decide (c.rd XLA.OUT_CFG_CLASS j = cls)

/-- The check that every output index of a class has INDEX 0. -/
def Cfg.indexZero (c : Cfg) (reason : Nat) (cls : List Nat) (item : Nat → Nat) : Option LoadFail :=
  (c.outs.find? fun j => cls.contains (c.rd XLA.OUT_CFG_CLASS j) && decide (c.rd XLA.OUT_CFG_INDEX j ≠ 0)).map fun j =>
    { reason := reason, item := item j }

/-- Whether six numbers are a permutation of 0 to 5. -/
def perm6 (xs : List Nat) : Bool := [0, 1, 2, 3, 4, 5].all fun x => xs.contains x

/-- Whether P of bridge b meets R37. -/
def Cfg.periodOk (c : Cfg) (b : Nat) : Bool :=
  let n := c.rd CMU.CFG_PWM_DIV b + 1
  let len := c.rd CRU.CYCLE_TICKS
  decide (len % n = 0) && decide (12000 ≤ len / n) && decide (len / n ≤ 37500) && decide (len / n % 3 = 0)

/-- The CMU's check (R239), with R37 and R38. -/
def Cfg.checkCmu (c : Cfg) : Option LoadFail :=
  let cmd := [0, 1].filter fun b => c.carries (b + 1)
  let power := c.carries 1 || c.carries 2 || c.carries 3
  firstFail [
    checkEach 0x01 [0, 1] fun b => power && (!c.periodOk b || decide (150000 < c.rd CRU.CYCLE_TICKS)),
    checkEach 0x02 cmd fun b => !perm6 [c.rd CMU.SECTOR_MAP_H1 b, c.rd CMU.SECTOR_MAP_H2 b, c.rd CMU.SECTOR_MAP_H3 b,
      c.rd CMU.SECTOR_MAP_H4 b, c.rd CMU.SECTOR_MAP_H5 b, c.rd CMU.SECTOR_MAP_H6 b],
    checkEach 0x03 [0, 1] fun b => decide (c.rd CMU.WIN_CFG_SETTLE b < 120) || decide (900 < c.rd CMU.WIN_CFG_SETTLE b) ||
      (cmd.contains b && decide (c.rd CMU.WIN_CFG_PERSIST b = 0)),
    checkEach 0x04 [0, 1] fun b => decide (c.rd CMU.MOD_CEIL_CEIL b < 8192),
    checkEach 0x05 cmd fun b => decide (c.rd CMU.SYNC_SPEED_VALUE b < c.rd CMU.REV_SPEED_VALUE b) ||
      decide (c.rd CMU.START_CFG_TIMEOUT b = 0),
    c.indexZero 0x06 [1, 2] fun j => c.rd XLA.OUT_CFG_CLASS j - 1]

/-- Whether hall set or encoder g (0 and 1 hall sets, 2 and 3 encoders) is enabled. -/
def Cfg.groupOn (c : Cfg) (g : Nat) : Bool := if g < 2 then c.on PFB.HALL_CFG_ENABLE g else c.on PFB.ENC_CFG_ENABLE (g - 2)

/-- A field of a hall set or encoder. -/
def Cfg.cntCfg (c : Cfg) (hall enc : Fld) (g : Nat) : Nat := if g < 2 then c.rd hall g else c.rd enc (g - 2)

/-- Whether the settings of SSI port p are in range and meet the timing of R265. -/
def Cfg.ssiOk (c : Cfg) (p : Nat) : Bool :=
  let div := c.rd PFB.SSI_CFG_DIV p
  let len := c.rd PFB.SSI_CFG_LEN p
  let start := c.rdS PFB.SSI_TIMING_START p
  let n := len + c.rd PFB.SSI_CFG_ERR_BITS p + (if c.rd PFB.SSI_CFG_PARITY p = 0 then 0 else 1)
  decide (30 ≤ div) && decide (div ≤ 3000) && decide (8 ≤ len) && decide (len ≤ 32) && decide (c.rd PFB.SSI_CFG_PARITY p ≠ 3) &&
    decide (c.rd PFB.SSI_CFG_ERR_BITS p ≠ 3) && decide (-3600 ≤ start) && decide (start ≤ 1080) &&
    decide (start + 2 * (div : Int) * ((n : Int) + 1) + (c.rd PFB.SSI_TIMING_DELAY p : Int) ≤ 1140)

/-- Whether the settings of SENT receiver r are in range. -/
def Cfg.sentOk (c : Cfg) (r : Nat) : Bool :=
  decide (225 ≤ c.rd PFB.SENT_CFG_TICK r) && decide (c.rd PFB.SENT_CFG_TICK r ≤ 6750) && decide (1 ≤ c.rd PFB.SENT_CFG_NIBBLES r) &&
    decide (c.rd PFB.SENT_CFG_NIBBLES r ≤ 6) && decide (c.rd PFB.SENT_CFG_FC1_BITS r ≤ 4 * c.rd PFB.SENT_CFG_NIBBLES r) &&
    decide (c.rd PFB.SENT_CFG_AGE_LIMIT r ≠ 0)

/-- The PFB's check (R273). Hall sets, SENT, SSI and probe ports are checked where they are enabled. -/
def Cfg.checkPfb (c : Cfg) : Option LoadFail :=
  let groups := [0, 1, 2, 3].filter c.groupOn
  firstFail [
    checkEach 0x01 (List.range 18) fun i => decide (c.rd PFB.LINE_CFG_EDGE_MIN i < 15) ||
      ((decide (i = 7) || decide (i = 10)) && decide (c.rd PFB.LINE_CFG_FILT i ≠ c.rd PFB.LINE_CFG_FILT (i - 1))),
    checkEach 0x02 ([0, 1].filter c.groupOn) fun h => !perm6 [c.rd PFB.HALL_CFG_P1 h, c.rd PFB.HALL_CFG_P2 h, c.rd PFB.HALL_CFG_P3 h,
      c.rd PFB.HALL_CFG_P4 h, c.rd PFB.HALL_CFG_P5 h, c.rd PFB.HALL_CFG_P6 h],
    checkEach 0x03 groups fun g => let n := c.cntCfg PFB.HALL_SPD_CFG_STILL_MS PFB.ENC_SPD_CFG_STILL_MS g
      decide (n = 0) || decide (1000 < n),
    checkEach 0x04 [0, 1, 2, 3] fun g => let r := c.cntCfg PFB.HALL_STUCK_CFG_REF PFB.ENC_STUCK_CFG_REF g
      decide (r ≠ 0) && (decide (4 < r) || decide (r = g + 1) || !c.groupOn (r - 1)),
    checkEach 0x05 [2, 3] fun g => decide (c.rd PFB.ENC_CFG_INDEX_MODE (g - 2) = 3),
    checkEach 0x06 [4, 5] fun g => c.on PFB.SSI_CFG_ENABLE (g - 4) && !c.ssiOk (g - 4),
    checkEach 0x07 [6, 7] fun g => c.on PFB.SENT_CFG_ENABLE (g - 6) && !c.sentOk (g - 6),
    checkEach 0x08 [8, 9] fun g => c.on PFB.PRB_CFG_ENABLE (g - 8) && (decide (c.rd PFB.PRB_CFG_EDGE (g - 8) = 0) ||
      decide (3 < c.rd PFB.PRB_CFG_SRC (g - 8)) || !c.groupOn (probeGroup (c.rd PFB.PRB_CFG_SRC (g - 8)))),
    if c.rd PFB.LATCH_CFG_SRC = 3 ∨ 1080 < c.rd PFB.LATCH_CFG_T then some { reason := 0x09 } else none,
    checkEach 0x0A ([0, 1].filter fun b => c.carries (b + 1)) fun b => !c.groupOn (c.rd CMU.CFG_HALL_SRC b)]

/-- The GDC's check (R301); inField: the lane is in FIELD. -/
def Cfg.checkGdc (c : Cfg) (inField : Bool) : Option LoadFail :=
  let thr := fun u => if u < 2 then c.rd GDC.BR_CFG_DS_THR u else c.rd GDC.CH_CFG_DS_THR
  let v := fun f => c.rd f
  firstFail [
    checkEach 0x01 ([0, 1].filter fun b => c.carries (b + 1)) fun b =>
      decide (c.rd GDC.BR_CFG_DEADTIME b < 12) || decide (1200 < c.rd GDC.BR_CFG_DEADTIME b),
    checkEach 0x02 [0, 1, 2] fun u => decide (18 < thr u),
    if c.rd GDC.RETRY_CFG_WAIT = 0 ∨ 1000 < c.rd GDC.RETRY_CFG_WAIT then some { reason := 0x03 } else none,
    if v GDC.V_CH_OFF_VALUE < v GDC.V_CH_ON_VALUE ∧ v GDC.V_CH_ON_VALUE < v GDC.V_OV1_VALUE ∧ v GDC.V_OV1_VALUE < v GDC.V_OV2_VALUE ∧
        10 ≤ c.rd GDC.OV_TIME_T_OV1 ∧ c.rd GDC.OV_TIME_T_OV1 ≤ 10000 then none else some { reason := 0x04 },
    if c.carries 1 ∧ ¬(20 ≤ c.rd GDC.ADAPT_CFG_TARGET ∧ c.rd GDC.ADAPT_CFG_TARGET ≤ 200 ∧
        c.rd GDC.ADAPT_CFG_MIN_STEP ≤ c.rd GDC.ADAPT_CFG_START ∧ c.rd GDC.ADAPT_CFG_START ≤ c.rd GDC.ADAPT_CFG_MAX_STEP)
      then some { reason := 0x05 } else none,
    if c.rd GDC.SNUFF_CFG_ST_ACT = 3 ∨ (inField ∧ c.rd GDC.SNUFF_CFG_ST_ACT ≠ 1) then some { reason := 0x06 }
    else if c.rd GDC.SNUFF_CFG_BK_ACT = 3 then some { reason := 0x06, item := 1 }
    else if c.rd GDC.SNUFF_CFG_SN_CH_OFF < c.rd GDC.SNUFF_CFG_SN_CH_ON then none else some { reason := 0x06, item := 2 },
    c.indexZero 0x07 [3] fun _ => 2]

/-! ### SFU, FCL -/

/-- Whether index k is DISCRETE with DUP_RULE 1 and PERSIST at least 1. -/
def Cfg.demandIndex (c : Cfg) (k : Nat) : Bool :=
  decide (k < c.rd XLA.VEC_CFG_VAL_COUNT) && decide (c.rd XLA.VAL_CFG_CLASS k = 2) && c.on XLA.VAL_CFG_DUP_RULE k &&
    decide (c.rd XLA.VAL_CFG_PERSIST k ≠ 0)

/-- Whether index k is a VOTED value. -/
def Cfg.votedIndex (c : Cfg) (k : Nat) : Bool :=
  decide (k < c.rd XLA.VEC_CFG_VAL_COUNT) && decide (c.rd XLA.VAL_CFG_CLASS k = 0)

/-- The SFU's check (R338). -/
def Cfg.checkSfu (c : Cfg) : Option LoadFail :=
  firstFail [
    if c.demandIndex (c.rd SFU.CFG_IN_IDX) ∧ c.votedIndex (c.rd SFU.CFG_SPEED_IDX) ∧ c.votedIndex (c.rd SFU.CFG_POS_IDX) ∧
        c.votedIndex (c.rd SFU.CFG_RATE_IDX) then none else some { reason := 0x01 },
    checkEach 0x02 ((List.range 8).filter fun k => c.on SFU.IN_CFG_ENABLE k) fun k =>
      decide (4 < c.rd SFU.IN_CFG_FUNC k) || decide (c.rd SFU.IN_CFG_DISC k = 0) || decide (500 < c.rd SFU.IN_CFG_DISC k) ||
        (c.on SFU.IN_CFG_SINGLE k && !c.on SFU.IN_CFG_IMPLEMENT k),
    if ((List.range 8).all fun s => !(c.rd SFU.MASKS_TQ_SLOTS).testBit s || c.on CEN.SLOT_CFG_TQLIM s) &&
        ((List.range 4).all fun g => !(c.rd SFU.MASKS_RATE_GENS).testBit g || c.on PGN.CFG_STEER g) then none else some { reason := 0x03 },
    if 100 ≤ c.rd SFU.STOP_CFG_TIMEOUT ∧ 1 ≤ c.rd SFU.STOP_CFG_PERSIST ∧ 1 ≤ c.rd SFU.STILL_TIME then none else some { reason := 0x04 },
    if 1 ≤ c.rd SFU.LL_CFG_TIME ∧ c.rd SFU.LL_CFG_TIME ≤ 300 then none else some { reason := 0x05 },
    if c.rdS SFU.SLP_LO_VALUE < c.rdS SFU.SLP_HI_VALUE ∧ 1 ≤ c.rd SFU.SLP_CFG_PERSIST ∧ 1 ≤ c.rd SFU.SLR_CFG_PERSIST then none
      else some { reason := 0x06 },
    checkEach 0x07 [0, 1] fun o => decide (c.rd SFU.SO_CFG_TEST_INT o ≠ 0) &&
      (decide (c.rd SFU.SO_CFG_PULSE o = 0) || decide (50 < c.rd SFU.SO_CFG_PULSE o)),
    c.indexZero 0x08 [4] fun _ => 0]

/-- The FCL's check (R357). -/
def Cfg.checkFcl (c : Cfg) : Option LoadFail :=
  let ns := (List.range 256).filter fun n => (srcInfo n).isSome
  let info := fun n => (srcInfo n).getD { sev := .note }
  firstFail [
    if c.demandIndex (c.rd FCL.CFG_DEMAND_IDX) then none else some { reason := 0x01 },
    checkEach 0x02 ns fun n => (info n).fixed && (decide (c.rd FCL.SRC_CFG_SEV n ≠ (info n).sev.code) || c.on FCL.SRC_CFG_COUNT n ||
      decide (c.rd FCL.SRC_CFG_STOP n ≠ if (info n).noStop then 0 else 1)),
    checkEach 0x03 ns fun n => decide ((info n).origin = .agreed) &&
      (decide (c.rd FCL.SRC_CFG_SEV n = 3) || decide (c.rd FCL.SRC_CFG_ESC_SEV n = 3)),
    checkEach 0x04 ns fun n => c.on FCL.SRC_CFG_COUNT n && (decide (c.rd FCL.SRC_CFG_ESC_N n < 2) ||
      decide (c.rd FCL.SRC_CFG_ESC_T n = 0) || decide (c.rd FCL.SRC_CFG_ESC_SEV n ≤ c.rd FCL.SRC_CFG_SEV n)),
    checkEach 0x05 ns fun n => decide (c.rd FCL.SRC_REC_QUIET n = 0) ||
      (decide (c.rd FCL.SRC_REC_K n ≠ 0) && decide (c.rd FCL.SRC_REC_W n = 0)) || decide (c.rd FCL.SRC_CFG_STOP n = 3)]

/-! ### WCK, CAN -/

/-- The window of a slot: first instant and end, in units of 10 ns, shifted up by LATE. -/
def slotWindow (r : Sparse Word) (m d s : Nat) : Nat × Nat :=
  let o := 2 * cfgRd r WCK.SLOT_OFFSET (2 * m + d) s
  (o, o + cfgRd r WCK.TIMING_LATE + windowLen r (cfgRd r WCK.MSG_CFG_LEN (cfgRd r WCK.SLOT_MSG (2 * m + d) s)))

/-- Whether two half-open intervals overlap. -/
def overlaps (a b : Nat × Nat) : Bool := decide (a.1 < b.2) && decide (b.1 < a.2)

/-- Whether the lane owns message g: some valid slot of some mode names it with the lane's node as owner. -/
def Cfg.ownsMessage (c : Cfg) (g : Nat) : Bool :=
  (List.range 8).any fun md => (List.range 64).any fun s => c.on WCK.SLOT_VALID md s && decide (c.rd WCK.SLOT_MSG md s = g) &&
    decide (c.rd WCK.SLOT_OWNER md s = c.rd WCK.CFG_NODE)

/-- The check of the Wick unit (R436); old is the mode request in force. -/
def Cfg.checkWck (c : Cfg) (oldReq : Nat) : Option LoadFail :=
  let r := c.regs
  let nodes := ringNodes r
  let slots := ((List.range 8).flatMap fun md => (List.range 64).map fun s => (md, s)).filter fun e => c.on WCK.SLOT_VALID e.1 e.2
  let num := fun (e : Nat × Nat) => 0x100 * (e.1 / 2) + 0x40 * (e.1 % 2) + e.2
  let win := fun (e : Nat × Nat) => slotWindow r (e.1 / 2) (e.1 % 2) e.2
  let slotFail := fun (n : Nat) (bad : Nat × Nat → Bool) => (slots.find? bad).map fun e => ({ reason := n, item := num e } : LoadFail)
  let rx := (List.range 64).filter fun i => c.on WCK.RXSIG_ENABLE i
  let tx := (List.range 64).filter fun i => c.on WCK.TXSIG_ENABLE i
  let span := fun i => (c.rd WCK.TXSIG_BITPOS i, c.rd WCK.TXSIG_BITPOS i + c.rd WCK.TXSIG_LEN i)
  firstFail [
    if 10000 ≤ c.rd WCK.CYCLE_LENGTH ∧ c.rd WCK.CYCLE_LENGTH ≤ 1000000 ∧ 2 ≤ c.rd WCK.CFG_RING_NODES ∧ c.rd WCK.CFG_RING_NODES ≤ 32 ∧
        c.rd WCK.CFG_RING_NODES = nodes.length ∧ nodes.contains (c.rd WCK.CFG_NODE) ∧ 3 ≤ c.rd WCK.CFG_SW_LEAD ∧
        c.rd WCK.PTP_SYNC_EXP ≤ 5 ∧ c.rd WCK.PORT_CFG_IF 0 ≤ 2 ∧ c.rd WCK.PORT_CFG_IF 1 ≤ 2 then none else some { reason := 0x01 },
    slotFail 0x02 fun e => !c.on WCK.MSG_CFG_ENABLE (c.rd WCK.SLOT_MSG e.1 e.2) || !nodes.contains (c.rd WCK.SLOT_OWNER e.1 e.2) ||
      slots.any fun x => decide (x.1 = e.1) && decide (x.2 < e.2) && decide (c.rd WCK.SLOT_MSG x.1 x.2 = c.rd WCK.SLOT_MSG e.1 e.2),
    slotFail 0x03 fun e => decide (c.rd WCK.CYCLE_LENGTH + c.rd WCK.TIMING_LATE < (win e).2 + ctlWin r) ||
      slots.any fun x => decide (x.1 = e.1) && decide (x.2 < e.2) && overlaps (win x) (win e),
    firstFail [
      checkEach 0x04 rx fun i => !c.on WCK.MSG_CFG_ENABLE (c.rd WCK.RXSIG_MSG i) || decide (c.rd WCK.RXSIG_LEN i = 0) ||
        decide (18 < c.rd WCK.RXSIG_LEN i),
      checkEach 0x04 tx fun i => let g := c.rd WCK.TXSIG_MSG i
        !c.on WCK.MSG_CFG_ENABLE g || decide (c.rd WCK.TXSIG_LEN i = 0) || decide (18 < c.rd WCK.TXSIG_LEN i) ||
          decide (8 * c.rd WCK.MSG_CFG_LEN g < (span i).2) || !c.ownsMessage g ||
          tx.any fun k => decide (k < i) && decide (c.rd WCK.TXSIG_MSG k = g) && overlaps (span k) (span i)],
    (c.outs.find? fun j => decide (c.rd XLA.OUT_CFG_CLASS j = 5) && !(decide (c.rd XLA.OUT_CFG_INDEX j < 64) &&
      c.on WCK.TXSIG_ENABLE (c.rd XLA.OUT_CFG_INDEX j))).map fun j => { reason := 0x05, item := c.rd XLA.OUT_CFG_INDEX j },
    if c.rd WCK.CFG_MODE_REQ ≠ oldReq ∧ c.rd CRU.CYCLE_TICKS < 6 * ctlWin r + 600 then some { reason := 0x06 } else none]

/-- The check of CAN controller n (R436). -/
def Cfg.checkCan (c : Cfg) (n : Nat) : Option LoadFail :=
  let buf := fun t => c.on CAN.TXB_CFG_ENABLE n t
  let bytes := fun t => dlcBytes (c.rd CAN.TXB_CFG_DLC n t)
  let tx := (List.range 16).filter fun i => c.on CAN.TXSIG_ENABLE n i
  let rx := (List.range 16).filter fun i => c.on CAN.RXSIG_ENABLE n i
  let span := fun i => (c.rd CAN.TXSIG_BITPOS n i, c.rd CAN.TXSIG_BITPOS n i + c.rd CAN.TXSIG_LEN n i)
  let bit := fun (b t1 t2 : Fld) => (c.rd b n + 1) * (c.rd t1 n + c.rd t2 n + 3)
  firstFail [
    if bit CAN.NBT_BRP CAN.NBT_TSEG1 CAN.NBT_TSEG2 < 80 ∨ bit CAN.DBT_BRP CAN.DBT_TSEG1 CAN.DBT_TSEG2 < 10 ∨
        c.rd CAN.NBT_TSEG2 n < c.rd CAN.NBT_SJW n ∨ c.rd CAN.DBT_TSEG2 n < c.rd CAN.DBT_SJW n ∨ c.rd CAN.CTRL_MODE n = 3
      then some { reason := 0x01 } else none,
    checkEach 0x02 ((List.range 32).filter buf) fun t => (!c.on CAN.TXB_ID_IDE n t && decide (0x7FF < c.rd CAN.TXB_ID_ID n t)) ||
      (c.on CAN.TXB_CFG_BRS n t && !c.on CAN.TXB_CFG_FDF n t) || (c.on CAN.TXB_CFG_FDF n t && !c.on CAN.CTRL_FD n) ||
      (!c.on CAN.TXB_CFG_FDF n t && decide (8 < c.rd CAN.TXB_CFG_DLC n t)) || decide (c.rd CAN.TXB_CFG_PERIOD n t = 0),
    firstFail [
      checkEach 0x03 tx fun i => !buf (c.rd CAN.TXSIG_REF n i) || decide (8 * bytes (c.rd CAN.TXSIG_REF n i) < (span i).2) ||
        tx.any fun k => decide (k < i) && decide (c.rd CAN.TXSIG_REF n k = c.rd CAN.TXSIG_REF n i) && overlaps (span k) (span i),
      checkEach 0x03 rx fun i => !c.on CAN.RXF_CFG_ENABLE n (c.rd CAN.RXSIG_REF n i) ||
        decide (512 < c.rd CAN.RXSIG_BITPOS n i + c.rd CAN.RXSIG_LEN n i)],
    firstFail [
      checkEach 0x04 ((List.range 32).filter buf) fun t => c.on CAN.TXB_CFG_SA_INSERT n t &&
        !(c.on CAN.CTRL_ISO n && c.on CAN.TXB_ID_IDE n t),
      if 247 < c.rd CAN.ISO_CFG_PREF_A n ∨ 247 < c.rd CAN.ISO_CFG_PREF_B n ∨ 247 < c.rd CAN.ISO_CFG_PREF_C n ∨
          c.rd CAN.ISO_CFG_PREF_A n = c.rd CAN.ISO_CFG_PREF_B n ∨ c.rd CAN.ISO_CFG_PREF_A n = c.rd CAN.ISO_CFG_PREF_C n ∨
          c.rd CAN.ISO_CFG_PREF_B n = c.rd CAN.ISO_CFG_PREF_C n ∨
          (c.rd CAN.ISO_CFG_ALT_COUNT n ≠ 0 ∧ c.rd CAN.NAME_HI_NAME n < 2 ^ 31) then some { reason := 0x04 } else none],
    (c.outs.find? fun j => decide (c.rd XLA.OUT_CFG_CLASS j = 6) &&
      (decide (c.rd XLA.OUT_CFG_INDEX j / 16 = n) || (decide (n = 0) && decide (96 ≤ c.rd XLA.OUT_CFG_INDEX j))) &&
      !(decide (c.rd XLA.OUT_CFG_INDEX j < 96) && c.on CAN.TXSIG_ENABLE n (c.rd XLA.OUT_CFG_INDEX j % 16))).map fun j =>
        { reason := 0x05, item := c.rd XLA.OUT_CFG_INDEX j % 16 }]

/-! ### The whole configuration -/

/-- A failure of a block, with the block's code of R373. -/
abbrev BlockFail := Nat × LoadFail

/-- The checks of blocks 1 to 10 in block order, CAN controllers by number. -/
def Cfg.checks (c : Cfg) (m : Memory) (draining inField : Bool) (oldReq : Nat) : List (Nat × Option LoadFail) :=
  [(1, c.checkPcl m draining), (2, c.checkCen), (3, c.checkCmu), (4, c.checkPfb), (5, c.checkGdc inField), (6, c.checkSfu),
   (7, c.checkFcl), (8, c.checkXla), (9, c.checkWck oldReq), (10, c.checkCan 0), (10, c.checkCan 1), (10, c.checkCan 2),
   (10, c.checkCan 3), (10, c.checkCan 4), (10, c.checkCan 5)]

/-- RESULT0 of CHECK_FAILED (R373). -/
def checkFailed (block : Nat) (f : LoadFail) : Nat := block * 2 ^ 24 + f.reason * 2 ^ 16 + f.item % 2 ^ 16

/-- The LOAD_RESULT registers after the checks (R166 and the checks beside it). -/
def Lane.showLoad (l : Lane) (rs : List (Nat × Option LoadFail)) : Lane :=
  let f := fun i => match rs[i]? with | some (_, some x) => x | _ => { reason := 0 }
  let put := fun (n : Lane) (r it : Fld) (x : LoadFail) => (n.wr r x.reason).wr it x.item
  let l1 := (((put l PCL.LOAD_RESULT_REASON PCL.LOAD_RESULT_ITEM (f 0)).wr PCL.LOAD_RESULT_FLOW (f 0).flow).flag
    PCL.LOAD_RESULT_OUT_INDEX (f 0).outIndex)
  let l2 := put (put (put l1 CEN.LOAD_RESULT_REASON CEN.LOAD_RESULT_ITEM (f 1)) CMU.LOAD_RESULT_REASON CMU.LOAD_RESULT_BRIDGE (f 2))
    PFB.LOAD_RESULT_REASON PFB.LOAD_RESULT_ITEM (f 3)
  let l3 := put (put (put l2 GDC.LOAD_RESULT_REASON GDC.LOAD_RESULT_ITEM (f 4)) SFU.LOAD_RESULT_REASON SFU.LOAD_RESULT_ITEM (f 5))
    FCL.LOAD_RESULT_REASON FCL.LOAD_RESULT_ITEM (f 6)
  let l4 := put (put l3 XLA.LOAD_RESULT_REASON XLA.LOAD_RESULT_ITEM (f 7)) WCK.LOAD_RESULT_REASON WCK.LOAD_RESULT_ITEM (f 8)
  [0, 1, 2, 3, 4, 5].foldl (fun (n : Lane) k => (n.wr CAN.LOAD_RESULT_REASON (f (9 + k)).reason k).wr CAN.LOAD_RESULT_ITEM (f (9 + k)).item k) l4

/-- The first failure of the checks, with its block. -/
def firstBlock : List (Nat × Option LoadFail) → Option BlockFail
  | [] => none
  | (b, some f) :: _ => some (b, f)
  | (_, none) :: t => firstBlock t

/-- The bounds of R167 as PCL.FLOW_BOUND shows them for the active configuration. -/
def Lane.showBounds (l : Lane) (c : Cfg) : Lane :=
  slowFlows.foldl (fun (n : Lane) s => n.wr PCL.FLOW_BOUND_BOUND (if c.on PCL.FLOW_CFG_ENABLE s then c.slowBound c s else 0) s)
    (l.wr PCL.FLOW_BOUND_BOUND c.fastBound 0)

end Sys2Proof.Machine
end

