-- ==== Sys2Proof/Machine/Queues.lean ====
section
/-!
DEFINITION. Queue pairs and translation (chapter 11): doorbells, descriptor checks, bursts, completion entries, and what a loss of
the link, a function-level reset or a stopped queue does.
-/
namespace Sys2Proof.Machine

open Sys2Proof

/-! ### Functions and rings (R359 to R364) -/

/-- The lane with its host interface replaced by a function of it. -/
def Lane.onHif (l : Lane) (f : Hif → Hif) : Lane := { l with hif := f l.hif }

/-- A queue pair. -/
def Lane.qp (l : Lane) (q : Nat) : Qp := Sparse.get {} l.hif.qp q

/-- The lane with a queue pair replaced. -/
def Lane.setQp (l : Lane) (q : Nat) (x : Qp) : Lane := l.onHif fun h => { h with qp := Sparse.set {} h.qp q x }

/-- The function that owns queue pair q (R364). -/
def Lane.queueFn (l : Lane) (q : Nat) : Nat := if q = 0 then 0 else l.rd QDM.QP_CFG_FUNC q

/-- The session of a function: its identifier. -/
def Lane.session (l : Lane) (fn : Nat) : Option Word := if fn = 0 then l.hif.sess0 else l.hif.sess1

/-- The session key of a function (R374). -/
def Lane.sessionKey (l : Lane) (fn : Nat) : BitVec 256 := if fn = 0 then l.hif.key0 else l.hif.key1

/-- Ring sizes (R364). -/
def Lane.sqSize (l : Lane) (q : Nat) : Nat := 2 ^ l.rd QDM.QP_CFG_SQ_LOG q
def Lane.cqSize (l : Lane) (q : Nat) : Nat := 2 ^ l.rd QDM.QP_CFG_CQ_LOG q

/-- The host bus address of entry i of a ring of queue q: submission entries have 64 bytes, completion entries 32 (R364). -/
def Lane.sqSlot (l : Lane) (q i : Nat) : BitVec 64 :=
  BitVec.ofNat 64 ((l.word (QDM.SQ_BASE_HI_ADDR.at_ q 0)).toNat * 2 ^ 32 + (l.word (QDM.SQ_BASE_LO_ADDR.at_ q 0)).toNat + 64 * i)
def Lane.cqSlot (l : Lane) (q i : Nat) : BitVec 64 :=
  BitVec.ofNat 64 ((l.word (QDM.CQ_BASE_HI_ADDR.at_ q 0)).toNat * 2 ^ 32 + (l.word (QDM.CQ_BASE_LO_ADDR.at_ q 0)).toNat + 32 * i)

/-- Whether the completion ring has room. -/
def Lane.cqRoom (l : Lane) (q : Nat) : Bool := decide ((l.rd QDM.CQ_PTR_TAIL q + 1) % l.cqSize q ≠ l.rd QDM.CQ_PTR_HEAD q)

/-! ### Completions (R367, R370, R371) -/

/-- The 8 words of a completion entry as lane x posts it (R370). -/
def Completion.words (c : Completion) (phase : Bool) (x : LaneId) (auth : Nat) (ccn : Word) : List Word :=
  [BitVec.ofNat 32 (phase.toNat * 2 ^ 31 + c.status % 2 ^ 8 * 2 ^ 16 + c.cid % 2 ^ 16), c.seq,
   BitVec.ofNat 32 (c.sqHead % 2 ^ 12 * 2 ^ 8 + auth % 4 * 2 ^ 4 + x.code), BitVec.ofNat 32 c.bytes, BitVec.ofNat 32 c.r0, BitVec.ofNat 32 c.r1,
   BitVec.ofNat 32 c.token, ccn]

/-- A completion entry joins those that wait at a queue; one of a queue whose function no longer masters the bus, or that is not
enabled, is discarded (R363). -/
def Lane.pushCompletion (l : Lane) (q : Nat) (c : Completion) : Lane :=
  if l.fnRuns (l.queueFn q) && l.on QDM.QP_CFG_ENABLE q then
    l.setQp q { l.qp q with waiting := (l.qp q).waiting ++ [{ c with since := l.clk.now }] }
  else l

/-- A completion entry joins those that wait, unless it is to be discarded (R363). -/
def Lane.pushUnless (l : Lane) (mute : Bool) (q : Nat) (c : Completion) : Lane := if mute then l else l.pushCompletion q c

/-- The command in hand of a queue completes. -/
def Lane.completeCmd (l : Lane) (q status : Nat) (r0 : Nat := 0) (r1 : Nat := 0) : Lane :=
  match (l.qp q).cmd with
  | some c =>
    (l.setQp q { l.qp q with cmd := none }).pushCompletion q
      { cid := c.desc.cid, seq := c.desc.seq, status := status, bytes := c.bytes, r0 := r0, r1 := r1
        irq := c.desc.flags.testBit 0, sqHead := l.rd QDM.SQ_PTR_HEAD q, due := l.clk.cycles }
  | none => l

/-- A command that is ready is executed by the lane alone (class L): f gives the lane after it, its status and results. -/
def Lane.localCmd (l : Lane) (q opcode : Nat) (f : Cmd → Lane → Lane × Nat × Nat × Nat) : Lane :=
  match (l.qp q).cmd with
  | some c =>
    if decide (c.stage = .ready) && !c.halted && decide (c.desc.opcode = opcode) then
      let (l1, status, r0, r1) := f c l
      l1.completeCmd q status r0 r1
    else l
  | none => l

/-- A ready command answers with an Out payload: its words are to be written to host memory, as many as LENGTH holds. -/
def Lane.outCmd (l : Lane) (q opcode : Nat) (f : Cmd → Lane → List Nat × Nat) : Lane :=
  match (l.qp q).cmd with
  | some c =>
    if decide (c.stage = .ready) && !c.halted && decide (c.desc.opcode = opcode) then
      let (ws, r0) := f c l
      let data := ws.take (c.desc.length / 4)
      if data.isEmpty then l.completeCmd q 0 r0
      else l.setQp q { l.qp q with cmd := some { c with stage := .output, data := data, r0 := r0 } }
    else l
  | none => l

/-- An agreed command has its result here: its own descriptor, once authenticated, completes with it, at the AUTHORITY in the cycle from_ in which it
took effect, at another lane one cycle later at the earliest (R382); without one the result is kept for the descriptor that may come. -/
def Lane.finishFrom (l : Lane) (from_ : Nat) (img : CmdImage) (needs : Bool) (status : Nat) (r0 : Nat := 0) (r1 : Nat := 0) : Lane :=
  match l.hif.authed.find? fun p => decide (p.img = img) with
  | some p =>
    (l.onHif fun h => { h with authed := h.authed.erase p, known := h.known.filter fun i => decide (i ≠ img) }).pushUnless p.mute img.queue
      { cid := img.cid, seq := p.seq, status := status, bytes := p.bytes, r0 := r0, r1 := r1, irq := p.irq, sqHead := p.sqHead
        due := max l.clk.cycles (from_ + (if l.own = .authority then 0 else 1)), late := true }
  | none => l.onHif fun h => { h with known := h.known.filter fun i => decide (i ≠ img)
                                      agreed := { img := img, status := status, r0 := r0, r1 := r1, needs := needs, from_ := from_ } :: h.agreed }

/-- An agreed command takes effect in this cycle. -/
def Lane.finish (l : Lane) (img : CmdImage) (needs : Bool) (status : Nat) (r0 : Nat := 0) (r1 : Nat := 0) : Lane :=
  l.finishFrom l.clk.cycles img needs status r0 r1

/-- A lane that becomes AUTHORITY posts all of its pending completions (R382). -/
def Lane.postAll (l : Lane) : Lane :=
  l.onHif fun h => { h with qp := h.qp.map fun e =>
    (e.1, { e.2 with waiting := e.2.waiting.map fun c => { c with due := min c.due l.clk.cycles } }) }

/-- The queue stops once nothing waits (R404). -/
def Lane.stopQueue (l : Lane) (q : Nat) : Lane :=
  if (l.qp q).stopping && (l.qp q).waiting.isEmpty then
    (l.flag QDM.QP_CFG_ENABLE false q).setQp q { l.qp q with stopping := false }
  else l

/-- Whether a completion may be posted at this tick: its cycle has come, and that of an agreed command waits for the cycle's background phase,
which begins at 5.5 µs (R34, R382). -/
def Lane.postable (l : Lane) (c : Completion) : Bool :=
  decide (c.due < l.clk.cycles) || (decide (c.due = l.clk.cycles) && (!c.late || decide (3300 ≤ l.tick)))

/-- COMPLETION_POST: the oldest waiting entry of a queue is written when it is due and the ring has room; PHASE inverts with each
wrap. A fenced endpoint completes no command (R345). -/
def execCompletionPost (l : LaneId) (t q : Nat) (s : State) : Host.Outcome State Fault Refusal :=
  let n := (s.lane l).atTick t
  .next (s.setLane l (n.gated 5
    (match (n.qp q).waiting with
    | c :: cs =>
      if decide (q < 8) && n.cqRoom q && n.postable c && n.fnRuns (n.queueFn q) && !n.fenced (.port .pcie) then
        let tail := (n.rd QDM.CQ_PTR_TAIL q + 1) % n.cqSize q
        let n1 := n.emit (.completion q (n.cqSlot q (n.rd QDM.CQ_PTR_TAIL q)) (c.words (n.on QDM.CQ_PTR_PHASE q) n.id n.xla.authCode n.ccn))
        let n2 := n1.wr QDM.CQ_PTR_TAIL tail q
        let n3 := if tail = 0 then n2.flag QDM.CQ_PTR_PHASE (!n.on QDM.CQ_PTR_PHASE q) q else n2
        let n4 := n3.setQp q { n.qp q with waiting := cs, raised := false }
        (if c.irq ∨ c.status = 1 then n4.msix (n.queueFn q) q else n4).stopQueue q
      else n
    | [] => n)))

/-- COMPLETION_WAIT_TIMEOUT: a completion that has waited 1 ms (600,000 ticks) for room raises "completion queue overflow" once. -/
def execCompletionWaitTimeout (l : LaneId) (t q : Nat) (s : State) : Host.Outcome State Fault Refusal :=
  let n := (s.lane l).atTick t
  .next (s.setLane l (n.gated 5
    (match (n.qp q).waiting with
    | c :: _ =>
      if !(n.qp q).raised && !n.cqRoom q && decide (c.since + 600000 ≤ n.clk.now) then
        (n.setQp q { n.qp q with raised := true }).fault 0xAF
      else n
    | [] => n)))

/-! ### Opcodes (R369, R372) -/

/-- The payload of a command. -/
inductive PayKind where
  | none | input | output
deriving DecidableEq, Repr

/-- The queues on which a command is permitted. -/
inductive OnQueues where
  | any | priv | zero
deriving DecidableEq, Repr

/-- A row of R372: queues, whether the command is agreed, payload, and the number of arguments it uses. -/
structure OpRow where
  on     : OnQueues
  agreed : Bool
  pay    : PayKind
  args   : Nat
deriving DecidableEq, Repr

/-- The opcode table of R372. -/
def opRow (opcode : Nat) : Option OpRow :=
  match opcode with
  | 0x00 | 0x0A => some ⟨.any, false, .none, 0⟩
  | 0x02 => some ⟨.any, false, .output, 2⟩
  | 0x03 => some ⟨.any, false, .output, 1⟩
  | 0x04 => some ⟨.priv, false, .output, 2⟩
  | 0x08 => some ⟨.zero, false, .input, 0⟩
  | 0x09 => some ⟨.zero, false, .none, 2⟩
  | 0x10 | 0x12 | 0x14 | 0x21 | 0x22 | 0x28 | 0x29 | 0x2A => some ⟨.zero, true, .none, 0⟩
  | 0x11 | 0x31 => some ⟨.zero, true, .input, 0⟩
  | 0x13 | 0x23 | 0x38 => some ⟨.zero, true, .none, 2⟩
  | 0x20 | 0x24 | 0x2B | 0x32 => some ⟨.zero, true, .none, 1⟩
  | 0x30 => some ⟨.zero, true, .input, 2⟩
  | _ => none

/-- Whether LENGTH and HOST_ADDR agree with the payload column and the window (R368, R369). -/
def lengthOk (r : OpRow) (d : Desc) : Bool :=
  match r.pay with
  | .none => decide (d.length = 0) && decide (d.addr = 0)
  | _ => decide (0 < d.length) && decide (d.length % 4 = 0) && decide (d.length ≤ 0x100000) && decide (0x80000000 ≤ d.addr.toNat) &&
      decide (d.addr.toNat % 4 = 0) && decide (d.addr.toNat + d.length ≤ 2 ^ 32) &&
      (match d.opcode with
       | 0x04 => decide (1 ≤ (d.args.getD 1 0).toNat) && decide ((d.args.getD 1 0).toNat ≤ 16384) &&
           decide (d.length = 64 * (d.args.getD 1 0).toNat)
       | 0x08 => decide (d.length % 16 = 0)
       | 0x31 => decide (d.length = 100)
       | _ => true)

/-- The format check of a descriptor (R369): a defined opcode, its flags, its arguments, LENGTH and HOST_ADDR. -/
def descOk (d : Desc) : Bool :=
  match opRow d.opcode with
  | some r => decide (d.flags < 8) && (decide (d.opcode = 0x13) || decide (d.flags < 2)) && (d.args.drop r.args).all (fun a => a = 0) &&
      lengthOk r d
  | none => false

/-- Whether an opcode is permitted on a queue (R372). -/
def Lane.permitted (l : Lane) (opcode q : Nat) : Bool :=
  match opRow opcode with
  | some r => match r.on with
    | .any => true
    | .priv => decide (l.queueFn q = 0)
    | .zero => decide (q = 0)
  | none => false

/-! ### Doorbells (R365, R393) -/

/-- A doorbell write by a function that does not own the queue is discarded and raises "access violation". It comes over the PCIe unit,
which does nothing while its domain is not ON (R30). -/
def Lane.doorbell (l : Lane) (fn q off : Nat) (f : Lane → Lane) : Lane :=
  l.gated 5 (if q < 8 ∧ l.queueFn q = fn then f l else l.fault 0x07 (accessInfo (BitVec.ofNat 32 (16 * q + off)) 0xB))

/-- SQ_TAIL: a tail outside the ring is discarded and raises "descriptor format error". -/
def execSqTail (l : LaneId) (t fn q v : Nat) (s : State) : Host.Outcome State Fault Refusal :=
  .next (s.setLane l (((s.lane l).atTick t).doorbell fn q 0 fun n =>
    if v < n.sqSize q then n.wr QDM.SQ_PTR_TAIL v q else (n.bump HIF.CMD_ERR_FORMAT).fault 0xAE))

/-- CQ_HEAD: frees entries; a head outside the ring is discarded and raises "descriptor format error". -/
def execCqHead (l : LaneId) (t fn q v : Nat) (s : State) : Host.Outcome State Fault Refusal :=
  .next (s.setLane l (((s.lane l).atTick t).doorbell fn q 4 fun n =>
    if v < n.cqSize q then n.wr QDM.CQ_PTR_HEAD v q else (n.bump HIF.CMD_ERR_FORMAT).fault 0xAE))

/-- The token of a queue's halted transfer acts; any other value is discarded and raises "access violation" (R393). -/
def Lane.tokenWrite (l : Lane) (q off : Nat) (token : Word) (f : Cmd → Lane → Lane) : Lane :=
  match (l.qp q).cmd with
  | some c =>
    if c.halted ∧ l.word (QDM.QP_STATUS_TOKEN.at_ q 0) = token ∧ token ≠ 0 then
      f c (l.setWord (QDM.QP_STATUS_TOKEN.at_ q 0) 0)
    else l.fault 0x07 (accessInfo (BitVec.ofNat 32 (16 * q + off)) 0xB)
  | none => l.fault 0x07 (accessInfo (BitVec.ofNat 32 (16 * q + off)) 0xB)

/-- RESUME: the transfer restarts at BYTES_DONE. -/
def execResume (l : LaneId) (t fn q : Nat) (token : Word) (s : State) : Host.Outcome State Fault Refusal :=
  .next (s.setLane l (((s.lane l).atTick t).doorbell fn q 8 fun n =>
    n.tokenWrite q 8 token fun c m => m.setQp q { m.qp q with cmd := some { c with halted := false } }))

/-- CANCEL: the command completes with ABORTED and BYTES_DONE. -/
def execCancel (l : LaneId) (t fn q : Nat) (token : Word) (s : State) : Host.Outcome State Fault Refusal :=
  .next (s.setLane l (((s.lane l).atTick t).doorbell fn q 12 fun n =>
    n.tokenWrite q 12 token fun c m => (m.setQp q { m.qp q with cmd := some { c with halted := false } }).completeCmd q 2))

/-! ### Translation (R387 to R389) -/

/-- The level-1 entry address of a window address, and the level-2 entry address in a table. -/
def Lane.level1At (l : Lane) (w : Nat) : Nat := 8192 * l.rd XTU.BASE_BASE + 4 * (w / 2 ^ 22 % 512)
def level2At (table w : Nat) : Nat := table + 8 * (w / 2 ^ 12 % 1024)

/-- The address of the level-2 table that a level-1 entry names. -/
def level2Table (e : Word) : Nat := e.toNat / 8192 * 8192

/-- The level-2 entry of window address w, or the kind of fault met on the way to it (R387, R388). A cached entry is used first. -/
def Lane.walk (l : Lane) (w : Nat) : Nat × Nat :=
  match l.hif.cache.find? fun e => decide (e.1 = w / 4096) with
  | some e => (0, e.2)
  | none =>
    let a1 := l.level1At w
    let e1 := l.mem.word a1
    let a2 := level2At (level2Table e1) w
    if l.mem.err (word64 a1) = 2 then (5, 0)
    else if bitsOf e1 0 1 = 0 then (1, 0)
    else if l.mem.err a2 = 2 then (5, 0)
    else (0, l.mem.read a2 8)

/-- What the reads of a walk do to the words that they meet (R76, R77): those of an entry that the cache does not hold. -/
def Lane.walkReads (l : Lane) (ini w : Nat) : Lane :=
  if l.hif.cache.any fun e => decide (e.1 = w / 4096) then l
  else
    let e1 := l.mem.word (l.level1At w)
    let r := l.sramCheck ini (word64 (l.level1At w)) .none
    if r.2 && decide (bitsOf e1 0 1 = 1) then (r.1.sramCheck ini (level2At (level2Table e1) w) .none).1 else r.1

/-- The kind of fault of a burst at window address w of queue q (0: none), and its host address (R388). -/
def Lane.translate (l : Lane) (q w : Nat) (toHost : Bool) : Nat × Nat :=
  let (k, e) := l.walk w
  if k ≠ 0 then (k, 0)
  else if !e.testBit 0 then (1, 0)
  else if !e.testBit (if toHost then 2 else 1) then (2, 0)
  else if (e.testBit 3).toNat ≠ l.queueFn q then (3, 0)
  else (0, e / 4096 * 4096 + w % 4096)

/-- The cache after the entry of a page has been used: 32 entries, newest first. -/
def Lane.cached (l : Lane) (w : Nat) : Lane :=
  let (k, e) := l.walk w
  if k = 0 ∧ e.testBit 0 then
    l.onHif fun h => { h with cache := ((w / 4096, e) :: h.cache.filter fun x => decide (x.1 ≠ w / 4096)).take 32 }
  else l

/-- Cached entries of n pages from window page p are invalidated. -/
def Lane.uncache (l : Lane) (p n : Nat) : Lane :=
  l.onHif fun h => { h with cache := h.cache.filter fun x => !(decide (p ≤ x.1) && decide (x.1 < p + n)) }

/-- A page number as the page of the host window that the tables hold it under: bits [30:12] of the address (R387). -/
def windowPage (p : Nat) : Nat := 0x80000 + p % 0x80000

/-- What the search for the level-2 table of a window address finds: the table, taken from the pool when there is none yet; a level-1 entry that
is uncorrectable; an exhausted pool. -/
inductive TableFor where
  | table (a : Nat)
  | broken
  | exhausted
deriving DecidableEq, Repr

/-- The level-2 table for window address w. -/
def Lane.level2For (l : Lane) (w : Nat) : Lane × TableFor :=
  let a1 := l.level1At w
  let e1 := l.mem.word a1
  let (l1, ok) := l.sramCheck 0xB (word64 a1) .none
  if !ok then (l1, .broken)
  else if bitsOf e1 0 1 = 1 then (l1, .table (level2Table e1))
  else
    let n := l.rd XTU.STATUS_POOL_USED
    if n < l.rd XTU.POOL_TABLES then
      let table := 8192 * l.rd XTU.BASE_BASE + 0x2000 + 8192 * n
      (((l1.zeroArea table 8192).storeWords 0xB a1 [BitVec.ofNat 32 (table + 1)]).wr XTU.STATUS_POOL_USED (n + 1), .table table)
    else (l1, .exhausted)

/-- One page is mapped: the level-2 entry for window page p in a table. -/
def Lane.mapEntry (l : Lane) (table p flags host : Nat) : Lane :=
  let a2 := level2At table (4096 * p)
  let (l1, ok) := l.sramCheck 0xB a2 .none
  let was := ok && (l.mem.read a2 8).testBit 0
  let e := host / 4096 * 4096 + (flags % 2) * 8 + (flags / 4 % 2) * 4 + (flags / 2 % 2) * 2 + 1
  let l2 := (l1.store64 0xB a2 e 0xFF).1
  (if was then l2 else l2.wr XTU.STATUS_MAPPED (l2.rd XTU.STATUS_MAPPED + 1)).uncache (windowPage p) 1

/-- Page p is mapped; the pages mapped by it, none under a level-1 entry that is uncorrectable (log entry 35), and whether the pool sufficed. -/
def Lane.mapPage (l : Lane) (p flags host : Nat) : Lane × Nat × Bool :=
  match l.level2For (4096 * p) with
  | (l1, .table a) => (l1.mapEntry a p flags host, 1, true)
  | (l1, .broken) => (l1, 0, true)
  | (l1, .exhausted) => (l1, 0, false)

/-- n consecutive pages are mapped from window page p to the host address; the pages mapped and whether the pool sufficed. -/
def Lane.mapRun (l : Lane) (flags : Nat) : Nat → Nat → Nat → Lane × Nat × Bool
  | 0, _, _ => (l, 0, true)
  | n + 1, p, host =>
    let (l1, k, ok) := l.mapPage p flags host
    if ok then
      let r := l1.mapRun flags n (p + 1) (host + 4096)
      (r.1, r.2.1 + k, r.2.2)
    else (l1, 0, false)

/-- The entries of a MAP payload are applied in order (word 0, page count, host address); a window page lies in 0x8_0000 to
0xF_FFFF. -/
def Lane.mapAll (l : Lane) : List (Nat × Nat × Nat) → Lane × Nat × Bool
  | [] => (l, 0, true)
  | e :: es =>
    let (l1, n, ok) := l.mapRun (e.1 % 8) (min e.2.1 524288) (e.1 / 4096 % 2 ^ 20) e.2.2
    if ok then
      let r := l1.mapAll es
      (r.1, r.2.1 + n, r.2.2)
    else (l1, n, false)

/-- One page is unmapped. -/
def Lane.unmapPage (l : Lane) (p : Nat) : Lane :=
  let e1 := l.mem.word (l.level1At (4096 * p))
  let a2 := level2At (level2Table e1) (4096 * p)
  let (l1, ok1) := (l.uncache (windowPage p) 1).sramCheck 0xB (word64 (l.level1At (4096 * p))) .none
  if ok1 && decide (bitsOf e1 0 1 = 1) then
    let (l2, ok2) := l1.sramCheck 0xB a2 .none
    if ok2 && (l.mem.read a2 8).testBit 0 then ((l2.store64 0xB a2 0 0xFF).1).wr XTU.STATUS_MAPPED (l2.rd XTU.STATUS_MAPPED - 1) else l2
  else l1

/-- Pages from p are unmapped. -/
def Lane.unmapRun (l : Lane) : Nat → Nat → Lane
  | 0, _ => l
  | n + 1, p => (l.unmapPage p).unmapRun n (p + 1)

/-- MAP: SUCCESS, or REFUSED when the pool is exhausted; RESULT0 gives the pages mapped in both cases (R389), and RESULT1 the reason of the refusal. -/
def execMap (l : LaneId) (t q : Nat) (s : State) : Host.Outcome State Fault Refusal :=
  .next (s.setLane l (((s.lane l).atTick t).localCmd q 0x08 fun c n =>
    match c.pay with
    | .mapPages es => let (n1, k, ok) := n.mapAll es
                      if ok then (n1, 0, k, 0) else (n1, 8, k, 1)
    | _ => (n, 0, 0, 0)))

/-- UNMAP: ARG1 pages from ARG0. -/
def execUnmap (l : LaneId) (t q : Nat) (s : State) : Host.Outcome State Fault Refusal :=
  .next (s.setLane l (((s.lane l).atTick t).localCmd q 0x09 fun c n =>
    (n.unmapRun (min (c.desc.args.getD 1 0).toNat 524288) ((c.desc.args.getD 0 0).toNat / 4096), 0, 0, 0)))

/-- FENCE: every burst issued before it has completed, since a burst is one step (R394). -/
def execFence (l : LaneId) (t q : Nat) (s : State) : Host.Outcome State Fault Refusal :=
  .next (s.setLane l (((s.lane l).atTick t).localCmd q 0x0A fun _ n => (n, 0, 0, 0)))

/-- NOP. -/
def execNop (l : LaneId) (t q : Nat) (s : State) : Host.Outcome State Fault Refusal :=
  .next (s.setLane l (((s.lane l).atTick t).localCmd q 0x00 fun _ n => (n, 0, 0, 0)))

/-- RESULT_READ: the CLASS 7 tokens of the last commit from output index ARG0, ARG1 of them; an index of another class reads as 0. -/
def execResultRead (l : LaneId) (t q : Nat) (s : State) : Host.Outcome State Fault Refusal :=
  .next (s.setLane l (((s.lane l).atTick t).outCmd q 0x02 fun c n =>
    ((List.range (min (c.desc.args.getD 1 0).toNat 64)).map fun i =>
      let j := (c.desc.args.getD 0 0).toNat + i
      if j < n.rd XLA.VEC_CFG_OUT_COUNT ∧ n.rd XLA.OUT_CFG_CLASS j = 7 then (Sparse.get 0 n.xla.majority j).toNat else 0, 0)))

/-! ### Bursts (R388, R390 to R392) -/

/-- Whether a queue's command has a transfer in progress. -/
def Lane.transfers (l : Lane) (q : Nat) : Bool :=
  match (l.qp q).cmd with
  | some c => (match c.stage with | .ready => false | _ => true) && !c.halted && l.fnRuns (l.queueFn q)
  | none => false

/-- The queue that wins the next burst (R390): no queue of a higher priority transfers, and queues of equal priority take turns, the one whose last
burst lies longest back first. -/
def Lane.nextBurst (l : Lane) : Option Nat :=
  l.hif.served.find? fun q => l.transfers q && (List.range 8).all fun k => !l.transfers k || decide (l.rd QDM.QP_CFG_PRIO q ≤ l.rd QDM.QP_CFG_PRIO k)

/-- Whether queue q wins the next burst. -/
def Lane.winsBurst (l : Lane) (q : Nat) : Bool := decide (l.nextBurst = some q)

/-- The burst goes to queue q; another transfer that had the last burst and is not done is pre-empted. -/
def Lane.takeBurst (l : Lane) (q : Nat) : Lane :=
  let l1 := l.onHif fun h => { h with lastQ := some q, served := (h.served.filter fun k => decide (k ≠ q)) ++ [q] }
  match l.hif.lastQ with
  | some k => if k ≠ q ∧ l.transfers k then l1.bump QDM.STATUS_PREEMPT else l1
  | none => l1

/-- The burst of queue q at window address w is issued: the walk reads its table entries. -/
def Lane.issueBurst (l : Lane) (q w : Nat) : Lane := (l.takeBurst q).walkReads 0xB w

/-- The generation of the next resume token: 17 bits, skipping zero (R392). -/
def nextGen (g : Nat) : Nat := if (g + 1) % 131072 = 0 then 1 else (g + 1) % 131072

/-- A burst faults (R391): the fault is recorded and raised, the command completes with PARTIAL_FAULT and its token, and the queue
halts. -/
def Lane.burstFault (l : Lane) (q w kind : Nat) (toHost : Bool) (c : Cmd) : Lane :=
  let g := nextGen l.hif.gen
  let token := q * 2 ^ 29 + c.slot % 4096 * 2 ^ 17 + g
  let l1 := (l.setWord XTU.FAULT_ADDR_ADDR.key (BitVec.ofNat 32 w)).setWord XTU.FAULT_INFO_NEW.key 0
  let l2 := ((((l1.wr XTU.FAULT_INFO_QUEUE q).wr XTU.FAULT_INFO_KIND kind).flag XTU.FAULT_INFO_DIR toHost).wr XTU.FAULT_INFO_FUNC
    (l.queueFn q)).flag XTU.FAULT_INFO_NEW true
  let l3 := ((l2.bump XTU.FAULT_COUNT_COUNT).fault 0xAD).setWord (QDM.QP_STATUS_TOKEN.at_ q 0) (BitVec.ofNat 32 token)
  let l4 := (l3.onHif fun h => { h with gen := g }).setQp q { l3.qp q with cmd := some { c with halted := true } }
  l4.pushCompletion q { cid := c.desc.cid, seq := c.desc.seq, status := 1, bytes := c.bytes, token := token, irq := true
                        sqHead := l.rd QDM.SQ_PTR_HEAD q, due := l.clk.cycles }

/-! ### Loss of the link, function-level reset, stopping a queue (R363, R377, R404) -/

/-- A function's sessions end: its queues authenticate nothing until a new one opens. -/
def Lane.endSession (l : Lane) (fn : Nat) : Lane :=
  let l1 := l.onHif fun h => if fn = 0 then { h with sess0 := none, key0 := 0, delivery := false } else { h with sess1 := none, key1 := 0 }
  (List.range 8).foldl (fun (n : Lane) q => if n.queueFn q = fn then n.setWord (QDM.QP_SEQ_SEQ.at_ q 0) 0 else n) l1

/-- The transfers and waiting completions of a function go, and those of its commands that are agreed already are discarded (R363). A queue that was
stopping has no completion left to write, so its ENABLE reads 0 (R404). -/
def Lane.stopFn (l : Lane) (fn : Nat) : Lane :=
  (List.range 8).foldl (fun (n : Lane) q =>
    if n.queueFn q = fn then
      ((if (n.qp q).stopping then n.flag QDM.QP_CFG_ENABLE false q else n).setQp q { configured := (n.qp q).configured }).setWord (QDM.QP_STATUS_TOKEN.at_ q 0) 0
    else n)
    (l.onHif fun h => { h with authed := h.authed.map fun p => if p.img.fn = fn ∧ p.seen then { p with mute := true } else p })

/-- FUNCTION_LEVEL_RESET: its queues are disabled, bus mastering is cleared, and for function 0 its session closes. -/
def execFunctionLevelReset (l : LaneId) (t fn : Nat) (s : State) : Host.Outcome State Fault Refusal :=
  let n := (s.lane l).atTick t
  let n1 := (List.range 8).foldl (fun (m : Lane) q => if m.queueFn q = fn then m.flag QDM.QP_CFG_ENABLE false q else m) (n.stopFn fn)
  let n2 := (n1.flag (if fn = 0 then HIF.STATUS_BME_P else HIF.STATUS_BME_U) false).onHif fun h =>
    { h with d3 := if h.d3.testBit fn then h.d3 - 2 ^ fn else h.d3 }
  .next (s.setLane l (n.gated 5 (if fn = 0 then n2.endSession 0 else if fn = 1 then n2 else n)))

/-- The link is down: both functions stop, and bus mastering is cleared. -/
def Lane.linkLost (l : Lane) : Lane :=
  ((((((l.stopFn 0).stopFn 1).flag HIF.STATUS_LINK_UP false).wr HIF.STATUS_SPEED 0).flag HIF.STATUS_BME_P false).flag
    HIF.STATUS_BME_U false).onHif fun h => { h with d3 := 0 }

/-- PCIE_LINK_DOWN. -/
def execPcieLinkDown (l : LaneId) (t : Nat) (s : State) : Host.Outcome State Fault Refusal :=
  let n := (s.lane l).atTick t
  .next (s.setLane l (n.gated 5 (if n.on HIF.STATUS_LINK_UP then n.linkLost.faultLevel 0xB0 else n)))

/-- PCIE_LINK_UP: the negotiated speed, 1 to 3; the endpoint trains at no other rate (R359). -/
def execPcieLinkUp (l : LaneId) (t speed : Nat) (s : State) : Host.Outcome State Fault Refusal :=
  let n := (s.lane l).atTick t
  .next (s.setLane l (n.gated 5
    (if speed < 1 ∨ 3 < speed then n else ((n.flag HIF.STATUS_LINK_UP true).wr HIF.STATUS_SPEED speed).setLevel 0xB0 false)))

/-- PCIE_POWER_STATE_CHANGE: a function's power state (D3hot or D0) and its bus-mastering bit, as its host sets them. -/
def execPciePowerStateChange (l : LaneId) (t fn : Nat) (d3hot bme : Bool) (s : State) : Host.Outcome State Fault Refusal :=
  let n := (s.lane l).atTick t
  let n1 := (n.flag (if fn = 0 then HIF.STATUS_BME_P else HIF.STATUS_BME_U) bme).onHif fun h =>
    { h with d3 := (if h.d3.testBit fn then h.d3 - 2 ^ fn else h.d3) + if d3hot then 2 ^ fn else 0 }
  .next (s.setLane l (n.gated 5 (if 2 ≤ fn then n else if d3hot || !bme then n1.stopFn fn else n1)))

/-- The commands of a queue that have been fetched and not agreed complete with ABORTED (R404). -/
def Lane.abortQueue (l : Lane) (q : Nat) : Lane :=
  let mine := l.hif.authed.filter fun p => decide (p.img.queue = q) && decide (p.img.opcode < 0xFE) && !p.seen
  let l1 := ((match (l.qp q).cmd with
    | some c => l.setQp q { l.qp q with cmd := some { c with halted := false } }
    | none => l).completeCmd q 2).setWord (QDM.QP_STATUS_TOKEN.at_ q 0) 0
  let l2 := l1.onHif fun h => { h with authed := h.authed.filter fun p => !mine.contains p }
  mine.foldl (fun (n : Lane) p => n.pushCompletion q
    { cid := p.img.cid, seq := p.seq, status := 2, bytes := p.bytes, irq := p.irq, sqHead := p.sqHead, due := l.clk.cycles }) l2

/-- A write of v to QDM.QP_CFG of queue q (R404): the other fields take a value only while ENABLE is 0; clearing ENABLE stops the
queue once its completions are written. Queue 0 belongs to function 0, and ring sizes lie in 4 to 12. DESIGN CHOICE: a queue that moves to the
other function expects SEQ 1 where that function has a session, else 0 (log entry 90). -/
def Lane.qpCfgWrite (l : Lane) (q : Nat) (v : Word) : Lane :=
  let on := bitsOf v 31 1 = 1
  let size := fun (n : Nat) => max 4 (min n 12)
  if l.on QDM.QP_CFG_ENABLE q then
    if on then l
    else ((l.abortQueue q).setQp q { (l.abortQueue q).qp q with stopping := true }).stopQueue q
  else
    let fn := if q = 0 then 0 else bitsOf v 12 1
    let l := if fn = l.queueFn q then l else l.setWord (QDM.QP_SEQ_SEQ.at_ q 0) (if (l.session fn).isSome then 1 else 0)
    let l := l.setQp q { l.qp q with configured := true }
    ((((l.wr QDM.QP_CFG_FUNC fn q).wr QDM.QP_CFG_PRIO (bitsOf v 10 2) q).wr QDM.QP_CFG_CQ_LOG
      (size (bitsOf v 4 4)) q).wr QDM.QP_CFG_SQ_LOG (size (bitsOf v 0 4)) q).flag QDM.QP_CFG_ENABLE on q

/-- QP_ENABLE_WRITE: a write of QDM.QP_CFG[q] by an initiator. -/
def execQpEnableWrite (l : LaneId) (t ini q : Nat) (v : Word) (s : State) : Host.Outcome State Fault Refusal :=
  .next (s.setLane l (((s.lane l).atTick t).guardWrite ini (privAddr (QDM.QP_CFG_ENABLE.at_ q 0)) v fun _ _ n =>
    (n.qpCfgWrite q v).busDone 0))

end Sys2Proof.Machine
end

