-- ==== Sys2Proof/Machine/Storage.lean ====
section
/-!
DEFINITION. Flash storage (chapter 13): the slot directory, the confirmation area, NAND management, the recorder's pages and its
reading, and reads through the NOR window.
-/
namespace Sys2Proof.Machine

open Sys2Proof

/-! ### The NOR (R444 to R448) -/

/-- The CRC-32C over words, each as its four bytes. -/
def crcOf (ws : List Nat) : Nat := (crc32c (ws.flatMap fun w => wordBytes (BitVec.ofNat 32 w))).toNat

/-- A directory copy as its 16 words (R445). -/
def dirWords (d : NorDir) : List Nat :=
  let ws := [0x4C445244, d.dseq.toNat, d.active % 16, d.state0 % 8, d.state1 % 8, d.fw0, d.fw1, d.cfg0, d.cfg1] ++ List.replicate 6 0
  ws ++ [crcOf ws]

/-- The directory that a copy's words hold; none where MAGIC or CRC is not correct (R446). -/
def dirOf (ws : List Nat) : Option NorDir :=
  let w := fun (k : Nat) => ws.getD k 0
  if w 0 = 0x4C445244 ∧ w 15 = crcOf (ws.take 15) ∧ ws.length = 16 then
    some { dseq := BitVec.ofNat 32 (w 1), active := w 2 % 16, state0 := w 3 % 8, state1 := w 4 % 8, fw0 := w 5, fw1 := w 6, cfg0 := w 7, cfg1 := w 8 }
  else none

/-- The slot directory in force: the copy that STM.STATUS.DIR_COPY names, once the NOR is mounted. -/
def Lane.norDir (l : Lane) : Option NorDir :=
  if l.on STM.STATUS_NOR_MOUNTED then dirOf (if l.on STM.STATUS_DIR_COPY then l.nor.dir1 else l.nor.dir0) else none

/-- Whether a NOR program or erase is in progress. -/
def Lane.norBusy (l : Lane) : Bool := l.stm.norOp.isSome || !l.stm.sysOps.isEmpty

/-- A NOR program of the STM's own begins, after those in progress (R443). -/
def Lane.norBegins (l : Lane) (op : NorSys) : Lane :=
  let l1 := l.flag STM.STATUS_NOR_BUSY true
  { l1 with stm := { l1.stm with sysOps := l.stm.sysOps ++ [op], opAt := if l.stm.sysOps.isEmpty then l.clk.now else l.stm.opAt } }

/-- The lane with a directory copy's words replaced. -/
def Lane.setCopy (l : Lane) (copy1 : Bool) (ws : List Nat) : Lane :=
  { l with nor := if copy1 then { l.nor with dir1 := ws, changes := l.nor.changes + 1 } else { l.nor with dir0 := ws, changes := l.nor.changes + 1 } }

/-- STATE of a slot in a directory (R445). -/
def dirState (d : NorDir) (slot : Nat) : Nat := if slot = 0 then d.state0 else d.state1

/-- The directory with a slot's STATE replaced. -/
def dirSetState (d : NorDir) (slot st : Nat) : NorDir := if slot = 0 then { d with state0 := st } else { d with state1 := st }

/-- The directory with a slot's versions replaced. -/
def dirSetVersions (d : NorDir) (slot fw cfg : Nat) : NorDir :=
  if slot = 0 then { d with fw0 := fw, cfg0 := cfg } else { d with fw1 := fw, cfg1 := cfg }

/-- The STM shows the directory in force. -/
def Lane.showDir (l : Lane) : Lane :=
  match l.norDir with
  | some d => ((l.wr STM.STATUS_ACTIVE_SLOT d.active).wr STM.NOR_DIR_STATE0 d.state0).wr STM.NOR_DIR_STATE1 d.state1
  | none => l

/-- A directory update writes the copy not in force with DSEQ incremented, which then is in force (R446); the NOR is busy until the program ends. -/
def Lane.updateDir (l : Lane) (f : NorDir → NorDir) : Lane :=
  match l.norDir with
  | some d =>
    let other := !l.on STM.STATUS_DIR_COPY
    (((l.setCopy other (dirWords { f d with dseq := d.dseq + 1 })).flag STM.STATUS_DIR_COPY other).showDir).norBegins (.dir other)
  | none => l

/-- A program of a directory copy fails, or the copy reads back wrong: the other copy is in force (R446). -/
def Lane.dirFails (l : Lane) (copy1 : Bool) : Lane :=
  let l1 := l.setCopy copy1 []
  (if l.on STM.STATUS_DIR_COPY = copy1 then l1.flag STM.STATUS_DIR_COPY (!copy1) else l1).showDir

/-- A slot of the NOR. -/
def norSlot (n : Nor) (k : Nat) : NorSlot := if k = 0 then n.slot0 else n.slot1

/-- The NOR with a slot replaced. -/
def norSetSlot (n : Nor) (k : Nat) (s : NorSlot) : Nor :=
  if k = 0 then { n with slot0 := s, changes := n.changes + 1 } else { n with slot1 := s, changes := n.changes + 1 }

/-- A confirmation record is written (R448): appended to the half in use, or, when that holds 256 records, as the first record of
the other half, which is erased. The NOR is busy until the program ends, and with it a command that waits for it completes. -/
def Lane.writeConfirmation (l : Lane) (value : Word) (img : Option CmdImage := none) : Lane :=
  let r : ConfRec := { seq := ((l.recordInForce.map ConfRec.seq).getD 0) + 1, value := value, valid := true }
  let n := l.nor
  let inUse := if n.half = 0 then n.conf0 else n.conf1
  let nor := if inUse.length < 256 then
      (if n.half = 0 then { n with conf0 := n.conf0 ++ [r] } else { n with conf1 := n.conf1 ++ [r] })
    else if n.half = 0 then { n with conf1 := [r], half := 1 } else { n with conf0 := [r], half := 0 }
  ({ l with nor := { nor with changes := n.changes + 1 } } : Lane).norBegins (.conf img)

/-- A list with its last record not valid. -/
def spoilLast (rs : List ConfRec) : List ConfRec :=
  match rs.getLast? with
  | some r => rs.dropLast ++ [{ r with valid := false }]
  | none => rs

/-- The confirmation record written last is not valid. -/
def Lane.confFails (l : Lane) : Lane :=
  { l with nor := if l.nor.half = 0 then { l.nor with conf0 := spoilLast l.nor.conf0, changes := l.nor.changes + 1 }
                  else { l.nor with conf1 := spoilLast l.nor.conf1, changes := l.nor.changes + 1 } }

/-- The valid directory copy with the later DSEQ (R446), with its number. -/
def norInForce (n : Nor) : Option (Nat × NorDir) :=
  match dirOf n.dir0, dirOf n.dir1 with
  | some a, some b => if ahead a.dseq b.dseq then some (1, b) else some (0, a)
  | some a, none => some (0, a)
  | none, some b => some (1, b)
  | none, none => none

/-- Whether a NOR device meets R441, and has 8D-8D-8D with DS as R440 requires. -/
def norFits (d : NorDev) : Bool :=
  decide (0x2000000 ≤ d.cap) && decide (d.sectorKib = 64) && decide (d.pageBytes = 256) && decide (100000 ≤ d.endurance) && d.octal && d.ds

/-- The NOR is mounted (R440, R441, R446): a device that does not fit, a protocol that R462 rejects, or two invalid directory copies
leave it unmounted; a single valid copy is written to the other. -/
def Lane.mountNor (l : Lane) (d : NorDev) : Lane :=
  let l1 := { l with norCap := d.cap, stm := { l.stm with norMax := 1200 * d.maxUs } }
  if !norFits d || decide (l1.rd XSP.CS_CFG_PROTO 0 ≠ 0) then l1
  else
    let l2 := (l1.flag XSP.STATUS_CS0_UP true).wr XSP.CS_CFG_DUMMY d.dummy.toNat 0
    match norInForce l2.nor with
    | some (k, _) =>
      let l3 := ((l2.flag STM.STATUS_NOR_MOUNTED true).flag STM.STATUS_DIR_COPY (decide (k = 1))).showDir
      if (dirOf l2.nor.dir0).isSome && (dirOf l2.nor.dir1).isSome then l3
      else (l3.setCopy (decide (k = 0)) (if k = 0 then l2.nor.dir0 else l2.nor.dir1)).norBegins (.dir (decide (k = 0)))
    | none => l2

/-! ### The NAND (R449 to R453) -/

/-- The pages that the recorder has programmed in block b move to block c, and b is erased (R450, R451). -/
def Lane.moveBlock (l : Lane) (b c : Nat) : Lane :=
  let l0 := l.journal (.moved b c)
  let l1 := { l0 with nand := { l0.nand with
    pages := l.nand.pages.map fun (p : Nat × List Rec) => if p.1 = b then (c, p.2) else p
    used := l.nand.used ++ [c]
    reads := Sparse.set 0 l.nand.reads c 0 } }
  let l2 := { l1 with stm := { l1.stm with block := if l1.stm.block = b then c else l1.stm.block } }
  l2.eraseBlock b

/-- The free block with the lowest erase count. -/
def Lane.freshBlock (l : Lane) : Option Nat := l.nand.lowest l.freeBlocks

/-- The blocks that hold the two copies of the bad-block table: the first two good blocks of the system area (R450). -/
def Nand.tableBlocks (n : Nand) : List Nat := ((List.range 8).filter fun b => !n.bad.contains b).take 2

/-- Whether sequence number a of a table copy is later than b, modulo 65,536. -/
def seqLater (a b : Nat) : Bool := decide (a ≠ b) && decide ((a + 65536 - b) % 65536 < 32768)

/-- An update of the bad-block table writes the copy with the older sequence number (R450). -/
def Nand.updateTable (n : Nand) : Nand :=
  if seqLater n.bbt0.seq n.bbt1.seq then { n with bbt1 := { seq := (n.bbt0.seq + 1) % 65536, bad := n.bad } }
  else { n with bbt0 := { seq := (n.bbt1.seq + 1) % 65536, bad := n.bad } }

/-- The table copy in force: the one with the later sequence number. -/
def Nand.table (n : Nand) : Bbt := if seqLater n.bbt0.seq n.bbt1.seq then n.bbt0 else n.bbt1

/-- Both copies of the bad-block table take block b (R450): the copy with the older sequence number is written first. -/
def Lane.enterBad (l : Lane) (b : Nat) : Lane :=
  let l0 := l.nandBusy.journal (.retired b)
  let l1 := { l0 with nand := (({ l0.nand with bad := l.nand.bad ++ [b] } : Nand).updateTable).updateTable }
  (l1.wr STM.BBT_SEQ l1.nand.table.seq).wr STM.BBT_BAD l1.nand.bad.length

/-- Block b is retired (R450): its valid content is moved first. -/
def Lane.retireBlock (l : Lane) (b : Nat) : Lane :=
  if !l.on STM.STATUS_NAND_MOUNTED || l.nand.bad.contains b || decide (l.rd STM.NAND_GEOM_BLOCKS ≤ b) then l
  else
    let l1 := match l.nand.used.contains b, l.freshBlock with
      | true, some c => l.moveBlock b c
      | _, _ => l
    (l1.enterBad b).recFirst.fault 0xD2

/-- Whether a device meets R441: 1 Gib, pages of 2 KiB with 64 spare bytes or 4 KiB with 128, 64 pages per block or more, on-die ECC, endurance; and has
the protocol that XSP.CS_CFG names, with DS in 8D-8D-8D (R440, R462). -/
def Lane.nandFits (l : Lane) (d : NandDev) : Bool :=
  let proto := l.rd XSP.CS_CFG_PROTO 1
  ((decide (d.pageKib = 2) && decide (64 ≤ d.spare)) || (decide (d.pageKib = 4) && decide (128 ≤ d.spare))) && decide (64 ≤ d.pages) &&
    decide (131072 ≤ d.blocks * d.pages * d.pageKib) && d.eccOn && decide (60000 ≤ d.endurance) &&
    decide (proto ≠ 3) && d.protos.contains proto && (decide (proto ≠ 0) || d.ds)

/-- What is left of a change whose journal entry was cut short: the old state (R453). The content of an erased block has gone. -/
def Nand.undo (n : Nand) : Nand :=
  match n.entries with
  | .page :: es => { n with pages := n.pages.dropLast, entries := es }
  | .taken b :: es => { n with used := n.used.filter fun x => decide (x ≠ b), entries := es }
  | .moved b c :: es => { n with pages := n.pages.map fun (p : Nat × List Rec) => if p.1 = c then (b, p.2) else p
                                 used := n.used.filter fun x => decide (x ≠ c), entries := es }
  | .retired b :: es => { n with bad := n.bad.filter fun x => decide (x ≠ b), entries := es }
  | .erased b :: es => { n with used := n.used ++ [b], entries := es }
  | [] => n

/-- The bad-block table at mount (R450): the valid copy with the later sequence number, from which the other is repaired; at the first mount, and where no
copy is valid, it is built from the factory markers. -/
def Nand.mountTable (n : Nand) (d : NandDev) : Nand :=
  let use := fun (t : Bbt) => { n with built := true, bad := t.bad, bbt0 := t, bbt1 := t }
  match n.built, d.table0, d.table1 with
  | true, true, true => use n.table
  | true, true, false => use n.bbt0
  | true, false, true => use n.bbt1
  | _, _, _ => use { bad := d.bad }

/-- The NAND is mounted (R441, R450, R453, R456, R458): the bad-block table is read or built, and the journal is
replayed from the last checkpoint; an entry that was cut short is discarded. -/
def Lane.mountNand (l : Lane) (d : NandDev) : Lane :=
  if l.nandFits d then
    let l0 := (l.flag XSP.STATUS_CS1_UP true).wr XSP.CS_CFG_DUMMY d.dummy.toNat 1
    let l1 := ((l0.wr STM.NAND_GEOM_BLOCKS d.blocks).wr STM.NAND_GEOM_PAGES d.pages).wr STM.NAND_GEOM_PAGE_KIB d.pageKib
    let n := l1.nand
    let n1 := (if d.cut then n.undo else n).mountTable d
    let replayed := n.built && (d.cut || decide (n.journal ≠ n.checkpoint))
    let l2 := { l1 with nand := n1, stm := { l1.stm with block := ((n1.pages.getLast?).map Prod.fst).getD 0 } }
    let l3 := ((((l2.flag STM.STATUS_NAND_MOUNTED true).flag STM.STATUS_REPLAYED replayed).wr STM.BBT_SEQ n1.table.seq).wr STM.BBT_BAD
      n1.bad.length).recFirst
    if replayed then l3.fault 0xD4 else l3
  else l

/-- STORAGE_MOUNT: after a reset of the STO domain the devices are discovered and mounted; norDev is the NOR as found
(none: no device answers), nor the content that board access has programmed, if any (R503), nand the NAND as found. -/
def execStorageMount (l : LaneId) (t : Nat) (norDev : Option NorDev) (nor : Option Nor) (nand : Option NandDev) (s : State) :
    Host.Outcome State Fault Refusal :=
  let n := (s.lane l).atTick t
  .next (s.setLane l (n.gated 4
    (if n.on XSP.STATUS_CS0_UP || n.on XSP.STATUS_CS1_UP then n
     else
       let n1 := match nor with
         | some x => { n with nor := { x with changes := n.nor.changes + 1 } }
         | none => n
       let n2 := match norDev with
         | some d => n1.mountNor d
         | none => { n1 with norCap := 0 }
       match nand with
       | some d => n2.mountNand d
       | none => n2)))

/-- Reads of a block found corrected bits or uncorrectable sectors (R449). -/
def Lane.nandRead (l : Lane) (block corrected bad : Nat) : Lane :=
  let l1 := { l with nand := { l.nand with reads := Sparse.set 0 l.nand.reads block (Sparse.get 0 l.nand.reads block + 1) } }
  let l2 := (l1.bump STM.ECC_COUNT_CORRECTED 0 0 corrected).bump STM.ECC_COUNT_UNCORRECTABLE 0 0 bad
  if bad = 0 then l2 else l2.fault 0xD1

/-- A day of RUN time in ticks. -/
def ticksPerDay : Nat := 86400 * 600000000

/-- A pass begins anew once SCRUB_DAYS of RUN time have gone by since the last one began (R452). -/
def Lane.openPass (l : Lane) : Lane :=
  if l.nand.passAt + ticksPerDay * l.rd STM.NAND_CFG_SCRUB_DAYS ≤ l.nand.runTicks then
    { l with nand := { l.nand with passAt := l.nand.runTicks, passed := [], passOver := false } }
  else l

/-- Whether recorder writes wait: the open page is full, or FLUSH_MS have passed since its first record (R456). -/
def Lane.pageDue (l : Lane) : Bool :=
  !l.stm.page.isEmpty && (decide (l.recsPerPage ≤ l.stm.page.length) ||
    decide (l.stm.pageAt + 600000 * l.rd STM.REC_CFG_FLUSH_MS ≤ l.clk.now))

/-- Blocks that a read found weak move to fresh blocks, once no recorder write waits (R452). -/
def Lane.moveWeak (l : Lane) : Lane :=
  if l.pageDue then l
  else
    let moved := l.nand.weak.foldl (fun (n : Lane) b =>
      match n.nand.used.contains b, n.freshBlock with
      | true, some c => (n.moveBlock b c).wrapInc STM.SCRUB_MOVES
      | _, _ => n) l
    { moved with nand := { moved.nand with weak := [] } }

/-- A read of a block for the host or the lane: a sector of more than 16 errors is uncorrectable (R449), and a block of which a sector needs more than
SCRUB_THR corrected bits is to be moved (R452). -/
def Lane.nandReadDone (l : Lane) (block corrected : Nat) (bad : Bool) : Lane :=
  if bad ∨ 16 < corrected then l.nandRead block (if bad then corrected else 0) 1
  else
    let l1 := l.nandRead block corrected 0
    if l.rd STM.NAND_CFG_SCRUB_THR < corrected then ({ l1 with nand := { l1.nand with weak := block :: l1.nand.weak } } : Lane).moveWeak else l1

/-- Whether a block is due for a scrub read (R452): the pass in force has not read it, or it has been read 100,000 times since its
last program; scrub reads yield to recorder writes. -/
def Lane.scrubBlockDue (l : Lane) (block : Nat) : Bool :=
  l.domOn 4 && l.on STM.STATUS_NAND_MOUNTED && l.nand.used.contains block && !l.pageDue &&
    ((!l.nand.passOver && !l.nand.passed.contains block) || decide (100000 ≤ Sparse.get 0 l.nand.reads block))

/-- The pass has read a block; with the last block in use it is complete. -/
def Lane.passRead (l : Lane) (block : Nat) : Lane :=
  if l.nand.passOver then l
  else
    let done := if l.nand.passed.contains block then l.nand.passed else block :: l.nand.passed
    let l1 := { l with nand := { l.nand with passed := done } }
    if l.nand.used.all done.contains then ({ l1 with nand := { l1.nand with passOver := true } } : Lane).wrapInc STM.SCRUB_PASSES else l1

/-- A fresh block whose program fails is retired (R450), and another one is taken. -/
def Lane.failFresh (l : Lane) (good : Bool) : Lane :=
  match good, l.freshBlock with
  | false, some c => l.retireBlock c
  | _, _ => l

/-- The block that a scrub read finds weak moves to a fresh block, which the pass need not read again; good says that the program of the first
block taken succeeds. -/
def Lane.scrubMove (l : Lane) (block worst : Nat) (good : Bool) : Lane :=
  if l.rd STM.NAND_CFG_SCRUB_THR < worst then
    let l1 := l.failFresh good
    match l1.freshBlock with
    | some c =>
      let l2 := (l1.moveBlock block c).wrapInc STM.SCRUB_MOVES
      { l2 with nand := { l2.nand with passed := c :: l2.nand.passed } }
    | none => l1
  else l

/-- NAND_SCRUB (R452): every page of a block that is due has been read; worst is the largest number of corrected bits in a sector, total
the corrected bits, bad the uncorrectable sectors, and good whether the program of a fresh block succeeds. -/
def execNandScrub (l : LaneId) (t block worst total bad : Nat) (good : Bool) (s : State) : Host.Outcome State Fault Refusal :=
  let n := ((s.lane l).atTick t).openPass
  let bad := if 16 < worst then max bad 1 else bad
  .next (s.setLane l (if n.scrubBlockDue block then (((n.nandRead block total bad).passRead block).scrubMove block worst good) else n))

/-- The block of a list with the highest erase count, the first of several. -/
def Nand.highest (n : Nand) : List Nat → Option Nat
  | [] => none
  | b :: bs => match n.highest bs with
    | none => some b
    | some c => if n.wear b < n.wear c then some c else some b

/-- STATIC_WEAR_LEVEL (R451): the move yields to recorder writes (R452). -/
def execStaticWearLevel (l : LaneId) (t : Nat) (s : State) : Host.Outcome State Fault Refusal :=
  let n := (s.lane l).atTick t
  .next (s.setLane l (n.gated 4
    (match n.on STM.STATUS_NAND_MOUNTED, n.nand.lowest n.nand.used, n.nand.highest n.nand.used, n.nand.highest n.freeBlocks with
     | true, some lo, some hi, some c =>
       if !n.pageDue && decide (n.nand.wear lo + n.rd STM.NAND_CFG_WL_DELTA < n.nand.wear hi) then (n.moveBlock lo c).wrapInc STM.SCRUB_MOVES else n
     | _, _, _, _ => n)))

/-! ### The recorder (R454 to R459) -/

/-- An overwrite of the oldest records that has not been raised yet is raised (R458). -/
def Lane.raiseOvers (l : Lane) : Lane := if l.stm.overs then ({ l with stm := { l.stm with overs := false } } : Lane).fault 0xD5 else l

/-- The page is programmed, and an erased block of the oldest records raises "recorder overwrite" (R458); blocks found weak then move. -/
def Lane.flushPage (l : Lane) : Lane := l.savePage.raiseOvers.moveWeak

/-- RECORDER_PAGE_PROGRAM (R456): the open page is full, or FLUSH_MS have passed since its first record. -/
def execRecorderPageProgram (l : LaneId) (t : Nat) (s : State) : Host.Outcome State Fault Refusal :=
  let n := (s.lane l).atTick t
  .next (s.setLane l
    (if n.domOn 4 && n.pageDue then n.flushPage else n))

/-- A record as 16 words (R454). -/
def Rec.words (r : Rec) (lane : Nat) : List Nat :=
  let w3 := r.rtcSub * 2 ^ 17 + r.smode * 2 ^ 14 + r.auth * 2 ^ 12 + r.lstate * 2 ^ 8 + lane * 64 + r.type
  let ws := [r.rsn, r.ccn.toNat, r.rtcS, w3] ++ (r.body ++ List.replicate 10 0).take 10 ++ [r.restored.toNat]
  ws ++ [crcOf ws]

/-- A record takes its place by RSN in a list in that order. -/
def insertRec (r : Rec) : List Rec → List Rec
  | [] => [r]
  | x :: xs => if r.rsn < x.rsn then r :: x :: xs else x :: insertRec r xs

/-- The records that RECORDER_READ returns (R459), in RSN order. -/
def Lane.readRecords (l : Lane) (from_ count : Nat) (lost : List Nat) : List Rec :=
  ((((l.nand.pages.flatMap fun p => p.2) ++ l.stm.page).filter fun r => decide (from_ ≤ r.rsn) && !lost.contains r.rsn).foldl
    (fun rs r => insertRec r rs) []).take count

/-- RECORDER_READ; lost names the records in uncorrectable sectors. -/
def execRecorderRead (l : LaneId) (t q : Nat) (lost : List Nat) (s : State) : Host.Outcome State Fault Refusal :=
  let n := (s.lane l).atTick t
  .next (s.setLane l (n.gated 4
    (if n.on STM.STATUS_NAND_MOUNTED then
       n.outCmd q 0x04 fun c m =>
         let rs := m.readRecords (c.desc.args.getD 0 0).toNat (c.desc.args.getD 1 0).toNat lost
         (rs.flatMap fun r => r.words (LaneId.code l), rs.length)
     else n.localCmd q 0x04 fun _ m => (m, 0x0C, 0x02, 0))))

/-! ### The NOR window (R443, R444) -/

/-- A byte of the firmware or configuration area of a slot: the device holds what has been written, and is erased beyond (R444). -/
def Lane.slotByte (l : Lane) (s : NorSlot) (off : Nat) : Byte :=
  let written := if off < 0x800000 then decide (off < s.fwNext) else decide (off - 0x800000 < s.cfgNext)
  if written then Config.norByte l.nor.changes off else 0xFF

/-- A byte of the NOR as the window shows it (R444, R445): the directory copies, the confirmation records of the half (their layout is Vigil's), the slots,
and the reserved regions, which are erased; above them the device is unused. -/
def Lane.norByte (l : Lane) (off : Nat) : Byte :=
  let free := Config.norByte l.nor.changes off
  if off < 0x20000 then
    let ws := if off < 0x10000 then l.nor.dir0 else l.nor.dir1
    if off % 0x10000 < 4 * ws.length then BitVec.ofNat 8 (ws.getD (off % 0x10000 / 4) 0 / 256 ^ (off % 4)) else 0xFF
  else if off < 0x40000 then
    let rs := if off < 0x30000 then l.nor.conf0 else l.nor.conf1
    if off % 0x10000 < 256 * rs.length then free else 0xFF
  else if off < 0x100000 then 0xFF
  else if off < 0x1000000 then l.slotByte l.nor.slot0 (off - 0x100000)
  else if off < 0x1F00000 then l.slotByte l.nor.slot1 (off - 0x1000000)
  else if off < 0x2000000 then 0xFF
  else free

/-- A read of the NOR window by an initiator: it waits for the STO domain, and fails while the NOR is busy or beyond its capacity. -/
def Lane.norRead (l : Lane) (ini : Nat) (addr : Word) : Lane :=
  let off := addr.toNat - 0x60000000
  if addr.toNat < 0x60000000 ∨ 0x70000000 ≤ addr.toNat then l
  else if ini = 0xB then l.busError
  else if !l.domOn 4 then l.stall ini addr none
  else if l.on STM.STATUS_NOR_BUSY then (l.bump STM.NOR_ERR_BUSY_READS).busError
  else if l.norCap ≤ off then l.busError
  else l.readDone ini (BitVec.ofNat 64 (natSum ((List.range 8).map fun i =>
    (l.norByte (off / 8 * 8 + i)).toNat * 256 ^ i)))

/-- NOR_WINDOW_READ. -/
def execNorWindowRead (l : LaneId) (t ini : Nat) (addr : Word) (s : State) : Host.Outcome State Fault Refusal :=
  .next (s.setLane l (((s.lane l).atTick t).norRead ini addr))

end Sys2Proof.Machine
end

