-- ==== Sys2Proof/Machine/Stats.lean ====
section
/-!
DEFINITION. Statistics (R171, R172, R539 to R541): the boundary of the statistics period and STATS_READ.
-/
namespace Sys2Proof.Machine

open Sys2Proof

/-- The live counters of a Taper core restart: those that are maxima start at what stands now. -/
def Core.restart (k : Core) (now : Nat) : Core :=
  { k with qMax := k.queue.length, qSum := 0, qSince := now, hist := [], busy := 0, preempts := 0, ctxMax := k.ctx.length }

/-- The observables of core c are latched (R171, R172) over a period of n core cycles, and its live counters restart. -/
def Lane.latchCore (l : Lane) (n c : Nat) : Lane :=
  let k := (l.core c).tally l.clk.now
  let l1 := ((l.wr PCL.CORE_QDEPTH_MAX (satN 16 k.qMax) c).wr PCL.CORE_QDEPTH_AVG (satN 16 (256 * k.qSum / max n 1)) c).wr
    PCL.CORE_LOAD_LOAD (min 10000 (10000 * k.busy / max n 1)) c
  let l2 := (l1.wr PCL.CTX_STATUS_PREEMPTIONS (satN 16 k.preempts) c).wr PCL.CTX_STATUS_MAX_USED (min 31 k.ctxMax) c
  let l3 := (List.range 16).foldl (fun (m : Lane) b => m.wr PCL.CORE_HIST_COUNT (satN 32 (Sparse.get 0 k.hist b)) c b) l2
  l3.setCore c (k.restart l.clk.now)

/-- The live counters restart without being latched. -/
def Lane.restartStats (l : Lane) : Lane :=
  let l1 := [0, 1, 2, 3].foldl (fun (m : Lane) c => m.setCore c (((m.core c).tally m.clk.now).restart m.clk.now)) l
  l1.onPcl fun p => { p with hwm := p.hop.length, rbMax := p.rels.length, readied := 0, flowMax := [], statSince := l.clk.now }

/-- A statistics boundary (R539): every counter is latched and restarts; PARTIAL says that the latched period began at lane reset
or at the end of RESYNC. -/
def Lane.statsBoundary (l : Lane) : Lane :=
  let n := l.clk.now - l.pcl.statSince
  let l1 := [0, 1, 2, 3].foldl (fun (m : Lane) c => m.latchCore n c) l
  let l2 := (List.range 16).foldl (fun (m : Lane) f => m.wr PCL.FLOW_MEAS_MAX (satN 32 (Sparse.get 0 l.pcl.flowMax f)) f) l1
  let l3 := ((l2.wr PCL.RB_STATUS_MAX (satN 10 l.pcl.rbMax)).wr HOP.STATUS_HWM (satN 14 l.pcl.hwm)).wr HOP.MATCH_COUNT_COUNT
    (satN 32 l.pcl.readied)
  let l4 := ((l3.wrapInc STA.STATUS_SEQ).setWord STA.BOUNDARY_CCN_VALUE.key l.ccn).flag STA.STATUS_PARTIAL l.staPartial
  { l4.restartStats with staPartial := false }

/-- STATISTICS_BOUNDARY: a cycle start whose CCN is a multiple of STA.CFG.PERIOD; one boundary per cycle. -/
def execStatisticsBoundary (l : LaneId) (t : Nat) (s : State) : Host.Outcome State Fault Refusal :=
  let n := (s.lane l).atTick t
  .next (s.setLane l
    (if decide (n.rd STA.CFG_PERIOD ≠ 0) && decide (n.ccn.toNat % n.rd STA.CFG_PERIOD = 0) && decide (n.clk.base ≠ n.pcl.statSince) then
       ({ n with clk := { n.clk with now := n.clk.base } } : Lane).statsBoundary
     else n))

/-- A register word with only the bits of a mask. -/
def Lane.masked (l : Lane) (k m : Nat) : Nat := (l.word k &&& BitVec.ofNat 32 m).toNat

/-- The statistics fields of a block (R541): one word per register that has any, in offset order, other bits zero. All of them are of view U, so
both functions get the same. -/
def Lane.statWords (l : Lane) (block : Nat) : List Nat :=
  match block with
  | 1 =>
    [l.masked PCL.RB_STATUS_MAX.key 0x03FF0000] ++ ((List.range 16).map fun f => l.masked (PCL.FLOW_MEAS_MAX.at_ f 0) 0xFFFFFFFF)
      ++ ((List.range 4).map fun c => l.masked (PCL.CORE_QDEPTH_MAX.at_ c 0) 0xFFFFFFFF)
      ++ ((List.range 4).map fun c => l.masked (PCL.CORE_LOAD_LOAD.at_ c 0) 0x3FFF)
      ++ ((List.range 4).map fun c => l.masked (PCL.CTX_STATUS_MAX_USED.at_ c 0) 0xFFFF1F00)
      ++ ((List.range 64).map fun i => l.masked (PCL.CORE_HIST_COUNT.at_ (i / 16) (i % 16)) 0xFFFFFFFF)
      ++ [l.masked HOP.STATUS_HWM.key 0x3FFF0000, l.masked HOP.MATCH_COUNT_COUNT.key 0xFFFFFFFF]
  | 9 => [0, 1].map fun p => l.masked (STA.NET_FRAMES.at_ p 0) 0xFFFFFFFF
  | _ => []

/-- STATS_READ. -/
def execStatsRead (l : LaneId) (t q : Nat) (s : State) : Host.Outcome State Fault Refusal :=
  .next (s.setLane l (((s.lane l).atTick t).outCmd q 0x03 fun c n =>
    ([(n.word STA.BOUNDARY_CCN_VALUE.key).toNat, n.rd STA.STATUS_SEQ] ++ n.statWords (c.desc.args.getD 0 0).toNat, 0)))

end Sys2Proof.Machine
end

