-- ==== Sys2Proof/Machine/Images.lean ====
section
/-!
DEFINITION. Images and their sections (R82, R497 to R499): which items a section may name, why an image is rejected, and what its
sections make of a configuration.
-/
namespace Sys2Proof.Machine

open Sys2Proof

/-- Whether register k is documented as configuration, and whether it has RWL fields. -/
def confKey (k : Nat) : Bool := match rowOf k with | some r => decide (r.conf ≠ 0) | none => false
def rwlKey (k : Nat) : Bool := match rowOf k with | some r => decide (r.rwl ≠ 0) | none => false

/-- The keys and words of a register section; none where its address is not a register address of the privileged view. -/
def sectionRegs (s : Section) : List (Nat × Nat) :=
  (List.range s.data.length).map fun i => (s.addr - 0x40000000 + 4 * i, s.data.getD i 0)

/-- Whether a register word that a section names gives the control cycle a length of R33, where the register is CRU.CYCLE. DESIGN CHOICE: no load
check names the range, and a length outside it is a format failure (log entry 31). -/
def cycleLenOk (k v : Nat) : Bool :=
  let n := v % 2 ^ CRU.CYCLE_TICKS.w
  decide (k ≠ CRU.CYCLE_TICKS.key) || (decide (12000 ≤ n) && decide (n ≤ 300000))

/-- Whether a section's KIND, address, length and cycle length are valid (R33, R498). -/
def sectionOk (s : Section) : Bool :=
  match s.kind with
  | 0 => decide (0x40000000 ≤ s.addr) && decide (s.addr % 4 = 0) &&
      (sectionRegs s).all fun e => (confKey e.1 || rwlKey e.1) && cycleLenOk e.1 e.2
  | 1 => decide (s.addr + s.data.length ≤ 262144)
  | 2 => decide (s.data.length % 4 = 0) && decide (s.addr + s.data.length / 4 ≤ 1024)
  | 3 => decide (s.addr + s.data.length ≤ 4096)
  | 4 => decide (s.addr + 4 * s.data.length ≤ 0x100000)
  | 5 => decide (s.addr = 0) && decide (s.data.length = 32)
  | 6 => decide (s.addr + s.data.length ≤ 128)
  | _ => false

/-- Whether a section touches what only a new configuration image and a lane reset change (R395). -/
def resetOnly (s : Section) : Bool :=
  match s.kind with
  | 0 => (sectionRegs s).any fun e => rwlKey e.1 || decide (e.1 = GDC.SNUFF_CFG_ST_ACT.key)
  | 5 => true
  | _ => false

/-- A node descriptor from its four words, lowest first (R153). -/
def nodeOf (ws : List Nat) : BitVec 128 :=
  BitVec.ofNat 128 (ws.getD 0 0 + 2 ^ 32 * ws.getD 1 0 + 2 ^ 64 * ws.getD 2 0 + 2 ^ 96 * ws.getD 3 0)

/-- What a section makes of a configuration; table memory stands apart. -/
def applySection (c : Cfg) (s : Section) : Cfg :=
  match s.kind with
  | 0 => { c with regs := (sectionRegs s).foldl (fun m e =>
      setRegWord m e.1 (loadWord e.1 (regWord m e.1) (BitVec.ofNat 32 e.2))) c.regs }
  | 2 => { c with nodes := (List.range (s.data.length / 4)).foldl (fun m i =>
      Sparse.set 0 m (s.addr + i) (nodeOf ((s.data.drop (4 * i)).take 4))) c.nodes }
  | 3 => { c with arcs := (List.range s.data.length).foldl (fun m i =>
      Sparse.set 0 m (s.addr + i) (BitVec.ofNat 32 (s.data.getD i 0))) c.arcs }
  | 4 => { c with params := (List.range (4 * s.data.length)).foldl (fun m i =>
      Sparse.set none m (s.addr + i) (some (BitVec.ofNat 8 (s.data.getD (i / 4) 0 / 256 ^ (i % 4))))) c.params }
  | 5 => { c with keys := s.data }
  | 6 => { c with inMap := (List.range s.data.length).foldl (fun m i =>
      Sparse.set 0 m (s.addr + i) (BitVec.ofNat 32 (s.data.getD i 0))) c.inMap }
  | _ => c

/-- The sections of an image applied in order. -/
def applySections (c : Cfg) (img : Image) : Cfg := img.sections.foldl applySection c

/-- The table words that the sections of an image hold: word number and value. -/
def sectionTables (img : Image) : List (Nat × Nat) :=
  (img.sections.filter fun s => decide (s.kind = 1)).flatMap fun s =>
    (List.range s.data.length).map fun i => (s.addr + i, s.data.getD i 0)

/-- The areas of lane SRAM that a configuration sets (R82): first address and size. -/
def sramAreas (r : Sparse Word) : List (Nat × Nat) :=
  [(0x40000 * cfgRd r SEC.VGL_WIN_BASE, 0x40000), (0x2000 * cfgRd r XTU.BASE_BASE, 0x2000 + 0x2000 * cfgRd r XTU.POOL_TABLES),
   (0x80000 * cfgRd r BST.CFG_SAVE_BASE, 0x80000), (16 * cfgRd r PCL.PARAM_BASE_BASE, 0x100000)]

/-- Whether no two areas of a list overlap. -/
def apart : List (Nat × Nat) → Bool
  | [] => true
  | a :: t => (t.all fun b => decide (a.1 + a.2 ≤ b.1) || decide (b.1 + b.2 ≤ a.1)) && apart t

/-- Whether the areas are disjoint and lie wholly inside lane SRAM. -/
def areasOk (r : Sparse Word) : Bool :=
  apart (sramAreas r) && (sramAreas r).all fun a => decide (0x10000000 ≤ a.1) && decide (a.1 + a.2 ≤ 0x10600000)

/-- Whether a lane mask names more than one lane. -/
def manyLanes (m : Nat) : Bool := decide (1 < (m % 2) + (m / 2 % 2) + (m / 4 % 2))

/-- The code of the first reason of R499 for which an image of the given kind is rejected, 0 when none applies; acn is that of the
firmware that the image must match. -/
def rejectCode (o : Otp) (kind acn : Nat) (img : Image) : Nat :=
  let conf := decide (kind ≠ 1)
  if !img.magicOk || decide (img.kind ≠ kind) || (conf && !img.sections.all sectionOk) then 0x01
  else if (!conf && decide (img.keySel = 0) && o.revoked0) || (conf && o.custKey.isNone) then 0x02
  else if !img.sigOk then 0x03
  else if !img.hashOk then 0x04
  else if 64 < img.secVer then 0x05
  else if img.secVer < (if conf then o.ctrCfg else o.ctrFw) then 0x06
  else if conf && decide (img.acn ≠ acn) then 0x07
  else if img.devOnly && !(decide (o.lifecycle = 2) && !o.sealed) then 0x08
  else if manyLanes img.twinMask then 0x09
  else if (kind = 1 ∧ 0x800000 < img.length + 256) ∨ (kind = 2 ∧ 0x700000 < img.length + 256) then 0x0A
  else if decide (kind = 2) && !areasOk (applySections {} img).regs then 0x0B
  else 0

/-- SEC.REJECT shows the last rejected image. -/
def Lane.showReject (l : Lane) (code slot : Nat) (conf : Bool) : Lane :=
  ((l.wr SEC.REJECT_REASON code).flag SEC.REJECT_KIND conf).wr SEC.REJECT_SLOT slot

/-! ### The configuration in force and its tag -/

/-- The entries of one bank of a table, by entry. -/
def bankOf {α : Type} (n b : Nat) (m : Sparse α) : Sparse α := (m.filter fun e => decide (e.1 / n = b)).map fun e => (e.1 % n, e.2)

/-- The registers that the checks of a configuration read: the configuration registers, and the RWL registers that firmware writes from the
configuration image and that a check names (R166, R301). -/
def checkedKey (k : Nat) : Bool := confKey k || k == GDC.SNUFF_CFG_ST_ACT.key || k == PCL.PARAM_BASE_BASE.key

/-- The active configuration of a lane (R396). -/
def Lane.activeCfg (l : Lane) : Cfg :=
  { regs := Sparse.keep checkedKey l.regs, nodes := bankOf 1024 l.pcl.bank l.pcl.nodes, arcs := bankOf 4096 l.pcl.bank l.pcl.arcs
    inMap := l.inMap, keys := l.hostKeys }

/-- The tables that a configuration names. -/
def Cfg.tables (c : Cfg) (m : Memory) : List (Nat × Nat) :=
  unitTables c.regs ++ c.nodes.flatMap fun e => nodeTable (ndOpcode e.2) (c.block m e.2)

/-- What a configuration consists of, as CFG_TAG takes it: registers, nodes, arcs, parameters, input map, the words of the tables
it names, host keys. -/
def Cfg.items (c : Cfg) (m : Memory) : List (Nat × Nat) :=
  ((Sparse.keep confKey c.regs).map fun e => (e.1, e.2.toNat)) ++ (c.nodes.map fun e => (0x1000000 + e.1, e.2.toNat))
    ++ (c.arcs.map fun e => (0x2000000 + e.1, e.2.toNat))
    ++ (c.nodes.flatMap fun e => (List.range (ndParamLen e.2)).map fun i =>
        (0x3000000 + 16 * ndParam e.2 + 4 * i, (c.paramWord m (16 * ndParam e.2 + 4 * i)).toNat))
    ++ (c.inMap.map fun e => (0x4000000 + e.1, e.2.toNat))
    ++ ((c.tables m).flatMap fun t => (List.range t.2).map fun i => (0x5000000 + t.1 + i, (m.tbl (t.1 + i)).toNat))
    ++ ((List.range c.keys.length).map fun i => (0x6000000 + i, c.keys.getD i 0))

/-- The tag of a configuration (R141): the low 16 bits of the CRC-32C over it. -/
def Cfg.tag (c : Cfg) (m : Memory) : BitVec 16 := (crc32c (Config.cfgImage (c.items m))).setWidth 16

/-- The 64-bit words that parameter-area bytes lie in, ascending. -/
def paramWords (params : Sparse (Option Byte)) : List Nat :=
  params.foldr (fun e ws => match ws with
    | w :: _ => if w = e.1 / 8 then ws else e.1 / 8 :: ws
    | [] => [e.1 / 8]) []

/-- The parameter-area bytes that a configuration overrides are written to lane SRAM, word by word. -/
def Lane.writeParams (l : Lane) (params : Sparse (Option Byte)) : Lane :=
  let base := 16 * l.rd PCL.PARAM_BASE_BASE
  (paramWords params).foldl (fun (n : Lane) w =>
    let bytes := (List.range 8).map fun i => Sparse.get none params (8 * w + i)
    let data := bytes.foldr (fun b v => (match b with | some x => x.toNat | none => 0) + 256 * v) 0
    let strobe := bytes.foldr (fun b v => b.isSome.toNat + 2 * v) 0
    (n.store64 0x0 (base + 8 * w) data strobe).1) l

/-- Resident firmware reads the parameter blocks of a configuration that lie in lane SRAM (R76, R77). -/
def Lane.readBlocks (l : Lane) (c : Cfg) : Lane :=
  c.nodes.foldl (fun (n : Lane) e => (n.sramLoad 0x0 (l.paramAddr e.2) (4 * ndParamLen e.2)).1) l

end Sys2Proof.Machine
end

