-- ==== Sys2Proof/Machine/Staging.lean ====
section
/-!
DEFINITION. Staging and the atomic commit (R134, R165, R206, R334, R395 to R402, R427, R428).
-/
namespace Sys2Proof.Machine

open Sys2Proof

/-! ### What a staged configuration changes -/

/-- The configuration registers of a configuration. -/
def Cfg.conf (c : Cfg) : Sparse Word := Sparse.keep confKey c.regs

/-- Whether the staged node or arc tables differ from the active ones. -/
def Lane.tablesChanged (l : Lane) (c : Cfg) : Bool := decide (c.nodes ≠ l.activeCfg.nodes) || decide (c.arcs ≠ l.activeCfg.arcs)

/-- Whether a staged parameter byte differs from lane SRAM. -/
def Lane.paramsChanged (l : Lane) (c : Cfg) : Bool :=
  c.params.any fun e => match e.2 with
    | some b => decide (l.mem.byte (16 * l.rd PCL.PARAM_BASE_BASE + e.1) ≠ b)
    | none => false

/-- Whether the staged configuration requests another Wick schedule mode, and whether it names another authority order. -/
def Lane.modeSwitch (l : Lane) (c : Cfg) : Bool := decide (c.rd WCK.CFG_MODE_REQ ≠ l.rd WCK.CFG_MODE_REQ)
def Lane.orderChange (l : Lane) (c : Cfg) : Bool := decide (regWord c.regs XLA.AUTH_ORDER_FIRST.key ≠ l.word XLA.AUTH_ORDER_FIRST.key)

/-- The lane after step 1 of a two-step commit: authority order and schedule mode (R401). -/
def Lane.applyStep1 (l : Lane) (c : Cfg) : Lane :=
  (l.setWord XLA.AUTH_ORDER_FIRST.key (regWord c.regs XLA.AUTH_ORDER_FIRST.key)).wr WCK.CFG_MODE_REQ (c.rd WCK.CFG_MODE_REQ)

/-- Whether the staged configuration changes anything beside the schedule mode. -/
def Lane.otherChange (l : Lane) (c : Cfg) : Bool :=
  l.tablesChanged c || l.paramsChanged c || decide (c.inMap ≠ l.inMap) ||
    decide (c.conf ≠ Sparse.keep confKey (l.wr WCK.CFG_MODE_REQ (c.rd WCK.CFG_MODE_REQ)).regs)

/-- Whether R401 requires the commit to be made in two steps. -/
def Lane.needsTwoStep (l : Lane) (c : Cfg) : Bool := l.orderChange c || (l.modeSwitch c && l.otherChange c)

/-- Whether the staged configuration alters the safety parameter image other than GDC.SNUFF_CFG (R334). -/
def Lane.safetyChanged (l : Lane) (c : Cfg) : Bool :=
  safetyKeys.any fun k => decide (k ≠ GDC.SNUFF_CFG_ST_ACT.key) && decide (regWord c.regs k ≠ l.word k)

/-! ### Staging commands (R396, R397) -/

/-- The payload of an agreed command as this lane has received it; none while it has not (R381). -/
def Lane.ownPayload (l : Lane) (img : CmdImage) : Option Payload := (l.hif.authed.find? fun p => decide (p.img = img)).map Pending.pay

/-- STAGE_OPEN. -/
def Lane.stageOpen (l : Lane) (img : CmdImage) : Lane :=
  if l.stage.isOpen then l.finish img false 8 1
  else ({ l with stage := { isOpen := true, cfg := l.activeCfg } } : Lane).finish img false 0

/-- Table words of a bundle are written (R184); the access result of the lane's own ports stays. -/
def Lane.stageTables (l : Lane) (img : Image) : Lane :=
  let l1 := (sectionTables img).foldl (fun (n : Lane) e =>
    n.tableWrite 0x8 (BitVec.ofNat 32 (0x20000000 + 4 * e.1)) (BitVec.ofNat 32 e.2)) l
  { l1 with bus := l.bus }

/-- A bundle's sections replace those of the bank; a bundle that R499 rejects is kept out and fails the check. -/
def Lane.stageApply (l : Lane) (b : Image) : Lane :=
  let code := rejectCode l.otp 3 (l.rd SEC.FW_INFO_ACN) b
  let baseBad := !b.baseAny && decide (b.baseTag.toNat ≠ l.rd XLA.CFG_TAG_TAG)
  let st := { l.stage with checked := false }
  if code ≠ 0 then { l with stage := { st with reject := if st.reject = 0 then code else st.reject } }
  else if baseBad then { l with stage := { st with baseBad := true } }
  else ({ l with stage := { st with cfg := applySections st.cfg b } } : Lane).stageTables b

/-- A payload that is no bundle: the check finds its format bad (R397). -/
def Lane.stageJunk (l : Lane) : Lane :=
  { l with stage := { l.stage with checked := false, reject := if l.stage.reject = 0 then 1 else l.stage.reject } }

/-- STAGE_WRITE with the lane's own payload, if it has come. -/
def Lane.stageWrite (l : Lane) (img : CmdImage) (pay : Option Payload) : Lane :=
  if !l.stage.isOpen then l.finish img false 8 1
  else match pay with
    | some (.bundle b) =>
      if b.sections.any resetOnly || decide (b.twinMask ≠ 0) then l.finish img false 8 2 else (l.stageApply b).finish img false 0
    | some _ => l.stageJunk.finish img false 0
    | none => ({ l with stage := { l.stage with checked := false } } : Lane).finish img true 0

/-- STAGE_ABORT. -/
def Lane.stageAbort (l : Lane) (img : CmdImage) : Lane :=
  if l.stage.isOpen then ({ l with stage := {} } : Lane).finish img false 0 else l.finish img false 8 1

/-- A failed STAGE_CHECK. -/
def Lane.checkFails (l : Lane) (img : CmdImage) (block : Nat) (f : LoadFail) : Lane :=
  let l1 := { l with stage := { l.stage with checked := false } }
  (l1.setWord HIF.CHECK_RESULT_RESULT.key (BitVec.ofNat 32 (checkFailed block f))).finish img false 9 (checkFailed block f)

/-- The checks of every block on the staged configuration in block order, with HIF's reasons 0x02 and 0x04 last. Without a change to the tables no bank
switches, and no slow activation is in service at a switch (R165). -/
def Lane.stageChecks (l : Lane) : List (Nat × Option LoadFail) :=
  let c := l.stage.cfg
  c.checks l.mem (l.pcl.draining && l.tablesChanged c) (decide (l.otp.lifecycle = 3)) (l.rd WCK.CFG_MODE_REQ)
    ++ [(11, if l.stage.reject ≠ 0 ∨ l.stage.baseBad then some { reason := 0x02 }
             else if l.tablesChanged c && !l.activeCfg.drainOk c then some { reason := 0x04 } else none)]

/-- STAGE_CHECK: signatures, then every block in order. -/
def Lane.stageCheck (l : Lane) (img : CmdImage) : Lane :=
  let st := l.stage
  let l := if st.isOpen then l.readBlocks st.cfg else l
  if !st.isOpen then l.finish img false 8 1
  else if 2 ≤ st.reject ∧ st.reject ≤ 4 then (l.showReject st.reject 0 true).checkFails img 11 { reason := 0x01 }
  else
    let rs := l.stageChecks
    let l1 := (if st.reject = 0 then l else l.showReject st.reject 0 true).showLoad rs
    match firstBlock rs with
    | some (b, f) => l1.checkFails img b f
    | none =>
      let tag := st.cfg.tag l.mem
      let l2 := { l1 with stage := { st with checked := true, tag := tag } }
      ((l2.setWord HIF.CHECK_RESULT_RESULT.key 0).wr HIF.STAGE_TAG_VALUE tag.toNat).finish img false 0
        (checkValue st.cfg.regs).toNat tag.toNat

/-! ### Applying a configuration (R165, R206) -/

/-- A two-bank table with n entries per bank: bank b stays, and bank nb takes new entries. -/
def rebank {α : Type} (n b nb : Nat) (old new_ : Sparse α) : Sparse α :=
  new_.foldl (fun m e => Sparse.put m (n * nb + e.1) e.2) (Sparse.keep (fun k => decide (k / n = b)) old)

/-- The Percolator switches banks: the new tables, the latched values that carry over, persistent state carried over or cleared, and the old
bank drains while activations remain on it. State that carries over and stays at its place is not touched, so that the working copy of a
draining activation stands. -/
def Lane.switchBank (l : Lane) (c : Cfg) : Lane :=
  let b := l.pcl.bank
  let nb := 1 - b
  let keepBank := fun (n k : Nat) => decide (k / n = b)
  let p1 := { l.pcl with
    nodes := rebank 1024 b nb l.pcl.nodes c.nodes, arcs := rebank 4096 b nb l.pcl.arcs c.arcs
    hop := Sparse.keep (keepBank 4096) l.pcl.hop, ports := Sparse.keep (keepBank 48) l.pcl.ports, bank := nb }
  let carried := fun (m : Sparse (BitVec 19)) (e : Nat × BitVec 19) =>
    if p1.arcCarries (e.1 % 4096) then Sparse.set 0 m (4096 * nb + e.1 % 4096) e.2 else m
  let old := Sparse.keep (keepBank 4096) l.pcl.latched
  let left := l.pcl.acts.any fun e => e.2.isSome
  let l1 := { l with pcl := { p1 with latched := old.foldl carried old, draining := left } }
  let was := fun (n : Nat) => (l.mem.words (l.stateAddr (p1.node b n) false) (stateSize (ndOpcode (p1.node b n))))
  c.nodes.foldl (fun (m : Lane) e =>
    let src := l.stateAddr (p1.node b e.1) false
    let carries := p1.nodeCarries e.1 && ndPersist (p1.node b e.1)
    if ndPersist e.2 && !(carries && decide (m.stateAddr e.2 false = src)) then
      let ws := if carries then was e.1 else List.replicate (stateSize (ndOpcode e.2)) 0
      let r := if carries then m.sramLoad 0x7 src (4 * ws.length) else (m, true)
      if r.2 then (r.1.storeWords 0x7 (m.stateAddr e.2 false) ws).storeWords 0x7 (m.stateAddr e.2 true) ws else r.1
    else m) (l1.writeParams c.params)

/-- The configuration registers of the lane replaced by those of c. -/
def Lane.takeRegs (l : Lane) (c : Cfg) : Lane :=
  { l with regs := c.conf.foldl (fun m e => Sparse.put m e.1 e.2) (Sparse.keep (fun k => !confKey k) l.regs), inMap := c.inMap }

/-- A configuration takes effect at a cycle start: registers, tables and parameters, with what follows in each block. -/
def Lane.applyCfg (l : Lane) (c : Cfg) : Lane :=
  let tables := l.tablesChanged c
  let l1 := if tables then l.switchBank c else l.writeParams c.params
  let l2 := (((l1.noteAll.takeRegs c).remapSector 0).remapSector 1).copyDead
  let l4 := ({ l2 with clk := { l2.clk with len := l2.clk.len + l2.cycleLen - l.cycleLen } } : Lane).retireCfg l.regs
  let l5 := ((l4.showBounds l4.activeCfg).showCheck.showWindows.adaptCommitted).canCommitted l.regs
  let l6 := (l5.wr XLA.CFG_TAG_TAG (l5.activeCfg.tag l5.mem).toNat)
    |>.flag PCL.STATUS_LOADED (!l5.activeCfg.nodes.isEmpty || l5.on PCL.STATUS_LOADED)
    |>.flag CEN.STATUS_LOADED true |>.flag FCL.STATUS_LOADED true
  let l7 := l.keepValid l6.noteIndex fun _ => l.sampleNo
  if l7.rd STA.CFG_PERIOD ≠ l.rd STA.CFG_PERIOD ∧ l7.clk.base ≠ l7.pcl.statSince then l7.statsBoundary else l7

/-! ### The commit (R334, R398 to R402) -/

/-- The check value is confirmed with value v: a record is written in every lane (R330, R331), and a command may wait for it. -/
def Lane.confirmWith (l : Lane) (v : Word) (img : Option CmdImage := none) : Lane :=
  ((l.setWord SFU.CONFIRMED_VALUE_VALUE.key v).writeConfirmation v img).sysRecord 0x07 [v.toNat, l.rd SFU.CONFIRM_STATUS_LAST_RESULT]

/-- What a commit makes of the confirmation (R334). -/
def Lane.commitConfirm (l : Lane) (expect : Option Word) : Lane :=
  let v := l.word SFU.CHECK_VALUE_VALUE.key
  if expect = some v then
    let l1 := l.confirmWith v
    { l1 with sfu := { l1.sfu with confirmed := true } }
  else if v = l.word SFU.CONFIRMED_VALUE_VALUE.key then l
  else { l.setWord SFU.CONFIRMED_VALUE_VALUE.key 0 with sfu := { l.sfu with confirmed := false, confirmNext := false } }

/-- A commit fails at this lane (R400): staging stays open and checked. COMMIT_STATUS shows the last commit, failed or applied (R403). -/
def Lane.commitFails (l : Lane) (img : CmdImage) (reason : Nat) : Lane :=
  let l1 := (((l.wr HIF.COMMIT_STATUS_REASON reason).flag HIF.COMMIT_STATUS_TWO_STEP (img.flags.testBit 1)).finish img false 0x0A reason).fault 0xB1
  if reason = 0x0A then l1.fault 0xBB else l1

/-- COMMIT, agreed in the present cycle: at once it fails for a pending commit or for M; else it waits for M, and a schedule-mode
switch is prepared (R427). -/
def Lane.commitAgreed (l : Lane) (img : CmdImage) : Lane :=
  let m := img.args.getD 0 0
  let lead := (m - l.ccn).toNat
  if l.hif.commit.isSome then l.commitFails img 0x0B
  else if !ahead l.ccn m || decide (lead < l.rd HIF.COMMIT_CFG_MIN_LEAD) || decide (l.rd HIF.COMMIT_CFG_MAX_LEAD < lead) then
    (l.setWord HIF.COMMIT_CCN_VALUE.key m).commitFails img 0x03
  else
    let (l1, ok) := if l.stage.isOpen && l.modeSwitch l.stage.cfg then l.prepareSwitch m (l.stage.cfg.rd WCK.CFG_MODE_REQ) else (l, true)
    let expect := if img.flags.testBit 2 then some (img.args.getD 1 0) else none
    let r : CommitReq := { m := m, expect := expect, twoStep := img.flags.testBit 1, wickBad := !ok, img := img }
    (l1.setWord HIF.COMMIT_CCN_VALUE.key m).onHif fun h => { h with commit := some r }

/-- The tag that is the agreed one for a pending commit (R398): the one that more than half of the lanes of the voting set showed in the last
cycle's STATUS, this lane's own among them. -/
def Lane.agreedTag (l : Lane) (r : CommitReq) : Option (BitVec 16) :=
  let tags := l.xla.vset.members.map fun x =>
    if x = l.id then (if l.stage.checked then some l.stage.tag else none)
    else match (l.xla.statusPrev.get x).bind StatusMsg.commit with
      | some c => if c.at_ = r.m then c.tag else none
      | none => none
  (tags.find? fun t => t.isSome && decide (tags.length < 2 * tags.count t)).getD none

/-- Why this lane would not be ready for a pending commit; 0 when it is (R398 to R400). -/
def Lane.commitReason (l : Lane) (r : CommitReq) : Nat :=
  let c := l.stage.cfg
  if !(l.stage.isOpen && l.stage.checked) then 0x04
  else if l.agreedTag r ≠ some l.stage.tag then 0x05
  else if l.pcl.draining && l.tablesChanged c then 0x06
  else if l.safetyChanged c && !(decide (l.xla.mode = .snuffed) && l.sfu.still) then 0x07
  else if r.twoStep ≠ l.needsTwoStep c then 0x08
  else if l.xla.mode = .lastLight ∨ l.xla.mode = .safeStop then 0x09
  else if r.wickBad then 0x0A else 0

/-- What this lane's STATUS shows of a pending commit: its own readiness, and whose COMMIT_READY it holds (R134). -/
def Lane.commitShow (l : Lane) : Option CommitShow :=
  l.hif.commit.map fun r =>
    let got := fun (x : LaneId) => decide (l.xla.ready.get x = some (r.m, l.stage.tag))
    ⟨r.m, if l.stage.checked then some l.stage.tag else none, l.commitReason r, ⟨got .a, got .b, got .c⟩⟩

/-- In cycle M − 1, a lane that is ready sends COMMIT_READY with its staged tag (R398). -/
def Lane.sendReady (l : Lane) : Lane :=
  match l.hif.commit with
  | some r =>
    if l.ccn + 1 = r.m ∧ !r.sent ∧ l.own.healthy ∧ l.commitReason r = 0 then
      let l1 := l.onHif fun h => { h with commit := some { r with sent := true } }
      (l1.onXla fun x => { x with ready := x.ready.set l.id (some (r.m, l.stage.tag)) }).sendCtl 3 (.commitReady r.m l.stage.tag)
    else l
  | none => l

/-- The lanes whose readiness counts: those of the voting set of M − 1 that have not been lost in it (R134). -/
def Lane.commitLanes (l : Lane) : List LaneId := l.xla.vset.members.filter fun x => (l.xla.lst.get x).healthy

/-- Why a commit does not apply at the start of M; 0 when it does (R134, R400, R428). DESIGN CHOICE: every lane judges by the STATUS messages of M − 1, in
which each lane shows its own reason and the COMMIT_READYs that it holds, so that all of them come to one answer (log entry 30). -/
def Lane.commitVerdict (l : Lane) (r : CommitReq) : Nat :=
  let ls := l.commitLanes
  let shows := ls.map fun x => ((l.xla.statusPrev.get x).bind StatusMsg.commit).filter fun c => decide (c.at_ = r.m)
  let reasons := shows.map fun c => (c.map CommitShow.reason).getD 0
  let refuses := fun (x : LaneId) => ((l.xla.statusPrev.get x).map fun m => !m.ringReady).getD false
  if l.xla.migration then 0x02
  else if reasons.contains 0x0A || (l.modeSwitch l.stage.cfg && ls.any refuses) then 0x0A
  else if shows.any Option.isNone then 0x01
  else match reasons.find? fun n => decide (n ≠ 0) with
    | some n => n
    | none =>
      if !shows.all fun c => decide (c.bind CommitShow.tag = some l.stage.tag) then 0x05
      else if !shows.all fun c => ls.all fun y => ((c.map CommitShow.got).getD (Tri.all false)).get y then 0x01
      else l.commitReason r

/-- The commit applies in full: staging closes, and the command completes with M and the new tag. -/
def Lane.commitDone (l : Lane) (r : CommitReq) : Lane :=
  let l1 := ((l.applyCfg l.stage.cfg).commitConfirm r.expect).reformSfu.wrapInc HIF.COMMIT_STATUS_APPLIED
  let l2 := (l1.flag HIF.COMMIT_STATUS_TWO_STEP r.twoStep).sysRecord 0x05
    [r.m.toNat, l1.rd XLA.CFG_TAG_TAG, (l1.word SFU.CHECK_VALUE_VALUE.key).toNat, r.twoStep.toNat]
  let l3 := { l2 with stage := {}, hif := { l2.hif with commit := none } }
  l3.finish r.img false 0 r.m.toNat (l3.rd XLA.CFG_TAG_TAG)

/-- The start of a cycle as a pending commit sees it. A lane that has left the voting set takes the configuration with its state (R134). -/
def Lane.commitStart (l : Lane) : Lane :=
  match l.hif.commit with
  | some r =>
    if !l.own.healthy then l.onHif fun h => { h with commit := none }
    else if r.stepped then (if l.ccn = r.m + 1 then l.commitDone r else l)
    else if l.ccn = r.m then
      let v := l.commitVerdict r
      if v ≠ 0 then ((l.onHif fun h => { h with commit := none }).settleSwitch false).commitFails r.img v
      else
        let l1 := if l.modeSwitch l.stage.cfg then l.settleSwitch true else l
        if r.twoStep then
          ((l1.applyStep1 l.stage.cfg).onXla fun x => { x with commitHold := true }).onHif fun h => { h with commit := some { r with stepped := true } }
        else l1.commitDone r
    else l
  | none => l

/-- COMMIT_APPLY, at the start of M, and of M + 1 for step 2. -/
def execCommitApply (l : LaneId) (s : State) : Host.Outcome State Fault Refusal :=
  .next (s.setLane l (((s.lane l).atTick 0).commitStart))

/-! ### STATUS (R102, R119, R131, R134, R135, R136, R137, R378) -/

/-- The lane's STATUS message. A lane whose entry into BANK or EMBER is accepted shows OFF (R470). -/
def Lane.statusMsg (l : Lane) : StatusMsg :=
  let per := fun (f : LaneId → Bool) => (⟨decide (l.id ≠ .a) && f .a, decide (l.id ≠ .b) && f .b, decide (l.id ≠ .c) && f .c⟩ : Tri Bool)
  let silent := fun (x : LaneId) => if x = l.id then 0 else l.rd (silentFld (l.linkTo x))
  { lstate := if l.pmu.accepted.isSome then 0 else l.own.code
    linkHeard := per fun x => l.on (linkHeardFld (l.linkTo x))
    pulseHeard := per fun x => l.on (pulseHeardFld (l.linkTo x))
    silent := ⟨silent .a, silent .b, silent .c⟩
    window := (within l.clk.now tenMinutes l.xla.fences).length
    acn := l.rd SEC.FW_INFO_ACN, tag := BitVec.ofNat 16 (l.rd XLA.CFG_TAG_TAG), lifecycle := l.otp.lifecycle
    sealed := l.otp.sealed, twin := l.on BCN.MODE_TWIN, recordOk := l.recordOk
    images := (l.hif.authed.filter fun p => !p.seen).map fun p => p.img
    smode := l.xla.mode.code, ringReady := l.ringReady, covered := l.stm.covered.getD 0
    claimBad := l.xla.migration && l.claimed.isNone, commit := l.commitShow, admitted := l.xla.admitted.filter l.admits
    check := l.word SFU.CHECK_VALUE_VALUE.key }

/-- STATUS_SEND, 1.5 µs (900 ticks) before the end of the configured cycle. -/
def execStatusSend (l : LaneId) (s : State) : Host.Outcome State Fault Refusal :=
  let n := (s.lane l).atTick ((s.lane l).cycleLen - 900)
  .next (s.setLane l
    (if n.own.beats then
       let n1 := ((n.onXla fun x => { x with status := x.status.set l (some n.statusMsg) }).sendCtl 3 (.status n.statusMsg)).declarations
       { n1 with pmu := { n1.pmu with shown := n1.pmu.accepted.isSome } }
     else n))

end Sys2Proof.Machine
end

