-- ==== Sys2Proof/Machine/Security.lean ====
section
/-!
DEFINITION. Boot, lifecycle and security (chapter 15): permissions, verifying and booting a slot, writing images, enrolment,
lifecycle transitions, debug authentication; with the xSPI operations that they wait for (R442).
-/
namespace Sys2Proof.Machine

open Sys2Proof

/-! ### Permissions (R509) -/

/-- Power-up, key-off and in-service self-tests are permitted. -/
def Otp.selfTest (o : Otp) : Bool := decide (1 ≤ o.lifecycle) && decide (o.lifecycle ≤ 3)

/-- Drive enable, and twin mode, are permitted: DEVELOP and FIELD. -/
def Otp.drives (o : Otp) : Bool := decide (o.lifecycle = 2) || decide (o.lifecycle = 3)

/-- DEVELOP on an open part (LGD3T960-QD). -/
def Otp.openDev (o : Otp) : Bool := decide (o.lifecycle = 2) && !o.sealed

/-- LCS.PERMIT. -/
def Otp.permit (o : Otp) : Nat :=
  let key := match o.lifecycle with
    | 0 => 3
    | 1 => 0
    | 2 => if o.sealed then 2 else 1
    | 3 => 1
    | _ => 2
  256 * key + 128 * o.drives.toNat + 64 * o.drives.toNat + 32 * o.selfTest.toNat + 16 * o.openDev.toNat + 8 * o.openDev.toNat
    + 4 * o.openDev.toNat + 2 * (decide (o.lifecycle = 1)).toNat + (decide (o.lifecycle = 1)).toNat

/-! ### Verifying a slot (R499, R501, R504, R518) -/

/-- The code for which a slot is rejected, 0 when it passes, and whether its configuration is the cause. While no customer key is
enrolled its firmware alone counts; a configuration area in which nothing is written is no image. -/
def slotReject (o : Otp) (s : NorSlot) : Nat × Bool :=
  match s.fw with
  | none => (0x01, false)
  | some f =>
    let a := rejectCode o 1 0 f
    if a ≠ 0 then (a, false)
    else if o.custKey.isNone then (0, false)
    else match s.cfg with
      | some c => (rejectCode o 2 f.acn c, true)
      | none => (if s.cfgNext = 0 then 0 else 0x01, true)

/-- Security versions of a slot. -/
def fwVersion (s : NorSlot) : Nat := (s.fw.map Image.secVer).getD 0
def cfgVersion (s : NorSlot) : Nat := (s.cfg.map Image.secVer).getD 0

/-- A slot takes a new STATE in the directory, with the versions it holds and the own record of R455 type 0x09. -/
def Lane.slotState (l : Lane) (k st : Nat) : Lane :=
  let s := norSlot l.nor k
  (l.updateDir fun d => dirSetState (dirSetVersions d k (fwVersion s) (cfgVersion s)) k st).record 0x09
    [k, fwVersion s, cfgVersion s, st]

/-- A slot that the boot ROM rejects; its record waits for the lane's start (R501). -/
def Lane.romReject (l : Lane) (k code : Nat) (conf : Bool) : Lane :=
  let s := norSlot l.nor k
  let l1 := (l.updateDir fun d => dirSetState (dirSetVersions d k (fwVersion s) (cfgVersion s)) k 4).showReject code k conf
  { l1 with boot := { l1.boot with rejects := l1.boot.rejects ++ [[k, fwVersion s, cfgVersion s, 4]] } }

/-- The image records of the slots that the ROM has rejected, written as the lane starts (R455, R501). -/
def Lane.romRecords (l : Lane) : Lane :=
  l.boot.rejects.foldl (fun (n : Lane) b => n.record 0x09 b) { l with boot := { l.boot with rejects := [] } }

/-- A slot is rejected. -/
def Lane.rejectSlot (l : Lane) (k code : Nat) (conf : Bool) : Lane := (l.slotState k 4).showReject code k conf

/-- SEC.STATUS.UPDATE_READY: the slot that is not running is VERIFIED with the ACN of the running firmware. -/
def Lane.updateReady (l : Lane) : Bool :=
  let k := 1 - l.rd SEC.STATUS_SLOT
  match l.norDir, (norSlot l.nor k).fw with
  | some d, some f => decide (dirState d k = 2) && decide (f.acn = l.rd SEC.FW_INFO_ACN)
  | _, _ => false

/-- Whether some slot is VERIFIED (R533). -/
def Lane.anyVerified (l : Lane) : Bool :=
  match l.norDir with
  | some d => decide (d.state0 = 2) || decide (d.state1 = 2)
  | none => false

/-! ### Boot (R500 to R504, R507) -/

/-- The slots that the ROM tries, in order (R501); after a fence reset the ACTIVE slot alone (R500), or, with no slot ACTIVE, the
slot from which the lane runs as WRITTEN. -/
def bootOrder (d : NorDir) (fence : Bool) : List Nat :=
  let of := fun st => [0, 1].filter fun k => decide (dirState d k = st)
  if fence then (if (of 3).isEmpty then of 1 else of 3) else of 2 ++ of 3 ++ of 1

/-- The first of a list of slots that passes, with the lane after the rejection of those before it; a failed rollback check raises
"rollback rejected". -/
def Lane.trySlots (l : Lane) : List Nat → Lane × Option Nat
  | [] => (l, none)
  | k :: ks =>
    let (code, conf) := slotReject l.otp (norSlot l.nor k)
    if code = 0 then (l, some k)
    else
      let l1 := l.romReject k code conf
      (if code = 0x06 then l1.fault 0xE1 else l1).trySlots ks

/-- Lane SRAM and its stored errors are cleared (R81). -/
def Lane.clearSram (l : Lane) : Lane := { l with mem := { l.mem with sram := [], sramErr := [] } }

/-- The state words of every persistent node of the active bank are zero, their initial state (R567). -/
def Lane.zeroStates (l : Lane) : Lane :=
  l.pcl.nodes.foldl (fun (m : Lane) e =>
    if ndPersist e.2 then m.storeWords 0x0 (m.stateAddr e.2 false) (List.replicate (2 * stateSize (ndOpcode e.2)) 0) else m) l

/-- A configuration image is loaded (R498, R500): the registers it names and its configuration registers, node and arc tables, parameter area,
table memory, input map and host keys; twin mode where the image selects it for this lane and R509 permits it. A hall state that a fence reset has
left is mapped anew (R215). -/
def Lane.loadConfig (l : Lane) (img : Image) : Lane :=
  let c := applySections {} img
  let named := (img.sections.filter fun s => decide (s.kind = 0)).flatMap sectionRegs
  let l := l.noteAll
  let l1 := { l with regs := named.foldl (fun m (e : Nat × Nat) => setRegWord m e.1 (loadWord e.1 (regWord m e.1) (regWord c.regs e.1))) (Sparse.keep (fun k => !confKey k) l.regs)
                     inMap := c.inMap, hostKeys := c.keys }
  let l2 := l1.onPcl fun p => { p with nodes := rebank 1024 (1 - p.bank) p.bank [] c.nodes
                                       arcs := rebank 4096 (1 - p.bank) p.bank [] c.arcs }
  let words := sectionTables img
  let l3 := { l2 with mem := words.foldl (fun (m : Memory) (e : Nat × Nat) =>
    { m with table := Sparse.set 0 m.table e.1 (BitVec.ofNat 18 e.2), tableErr := Sparse.set 0 m.tableErr e.1 0 }) l2.mem }
  (((l3.writeParams c.params).zeroStates.flag BCN.MODE_TWIN (l.otp.drives && img.twinMask.testBit l.id.code)).remapSector 0).remapSector 1
    |>.noteIndex

/-- Boot step k is shown on the service UART, in every lifecycle state but MAKER (R559). -/
def Lane.bootLine (l : Lane) (step : Nat) : Lane := if l.otp.lifecycle = 1 then l else l.emit (.uart step)

/-- Slot k boots: its directory states, its firmware, and its configuration when a customer key is enrolled. -/
def Lane.bootSlot (l : Lane) (d : NorDir) (k : Nat) : Lane :=
  let l := l.romRecords
  let st := dirState d k
  let s := norSlot l.nor k
  let l1 := if st = 2 then
      let old := [0, 1].filter fun j => decide (j ≠ k) && decide (dirState d j = 3)
      ((old.foldl (fun (n : Lane) j => n.slotState j 1) l).slotState k 3).updateDir fun x => { x with active := k }
    else l
  let l2 := (l1.wr SEC.STATUS_SLOT k).wr SEC.STATUS_BOOT_RESULT (match st with | 3 => 1 | 2 => 2 | _ => 3)
  let l3 := ((l2.wr SEC.FW_INFO_ACN ((s.fw.map Image.acn).getD 0)).wr SEC.FW_INFO_FW_SEC (fwVersion s)).bootLine 4
  let l4 := match l.otp.custKey, s.cfg with
    | some _, some c => (((l3.loadConfig c).wr SEC.FW_INFO_CFG_SEC c.secVer).flag SEC.STATUS_CFG_LOADED true).bootLine 5
    | _, _ => l3.flag BCN.MODE_TWIN false
  { (l4.flag BCN.MODE_LOCKSTEP (!l4.on BCN.MODE_TWIN)).bootLine 6 with
    boot := { l.boot with loaded := true }, bcn := { l4.bcn with coreStart := l4.clk.now } }

/-- The ROM finds nothing to boot: the lane stays in BOOT until its next reset (R496, R501). -/
def Lane.bootFails (l : Lane) : Lane := { l with boot := { l.boot with failed := true } }

/-- Steps 1 to 5 of the boot ROM, which starts when the reference and the PLLs are good (R492), with whether the OTP was read without an uncorrectable
field (R496). -/
def Lane.bootRom (l : Lane) (otpOk : Bool) : Lane :=
  let code := l.rd CRU.RESET_CAUSE_LAST
  let l0 := ((l.flag CRU.STATUS_XTAL_OK true).flag CRU.STATUS_PLL_LOCK true).flag CRU.STATUS_SERDES_LOCK true
  let l1 := if code ≤ 4 then l0.clearSram.bootLine 1 else l0
  if !otpOk then (l1.fault 0xE4).bootFails
  else match l1.norDir with
    | none => ((l1.wr SEC.STATUS_BOOT_RESULT 4).fault 0xE0).bootFails
    | some d =>
      let (l2, got) := (if code = 6 then l1.bootLine 3 else (l1.bootLine 2).bootLine 3).trySlots (bootOrder d (decide (code = 6)))
      match got, l2.norDir with
      | some k, some d2 => l2.bootSlot d2 k
      | _, _ => ((l2.wr SEC.STATUS_BOOT_RESULT 4).fault 0xE0).bootFails

/-- BOOT_SEQUENCE. -/
def execBootSequence (l : LaneId) (t : Nat) (otpOk : Bool) (s : State) : Host.Outcome State Fault Refusal :=
  let n := (s.lane l).atTick t
  .next (s.setLane l (if decide (n.own = .boot) && !n.boot.loaded && !n.boot.quick && !n.boot.failed then n.bootRom otpOk else n))

/-- Whether the power-up test allows the lane to become ready (R527, R532): it has passed, or it does not run. -/
def Lane.powerUpPassed (l : Lane) : Bool :=
  l.boot.quick || decide (l.rd CRU.RESET_CAUSE_LAST = 8) || !l.otp.selfTest ||
    (decide (l.rd BST.STATUS_OCCASION = 1) && !l.on BST.STATUS_RUNNING && !l.on BST.STATUS_FAILED &&
      decide (l.rd BST.STATUS_TESTED = 0xFF))

/-- Whether a die's temperature code, in two's complement, lies above the HIGH threshold (R490). -/
def Lane.tooHot (l : Lane) : Bool :=
  decide ((l.rd PMU.TEMP_CFG_HIGH : Int) < l.rdS PMU.TEMP_LANE) || decide ((l.rd PMU.TEMP_CFG_HIGH : Int) < l.rdS PMU.TEMP_DRIVE)

/-- Every LOCK register of the lane is set by resident firmware (R19). -/
def Lane.lockAll (l : Lane) : Lane :=
  (List.range 0x42).foldl (fun (n : Lane) b =>
    if (rowOf (b * 0x10000 + 0xFC)).isSome then n.setWord (b * 0x10000 + 0xFC) (n.word (b * 0x10000 + 0xFC) ||| 1) else n) l

/-- R507: a sealed lane in DEVELOP with a customer key programs FIELD. -/
def Lane.finishEnrol (l : Lane) : Lane :=
  if l.otp.sealed && decide (l.otp.lifecycle = 2) && l.otp.custKey.isSome then
    ({ l with otp := { l.otp with lifecycle := 3 } } : Lane).record 0x0A [2, 3]
  else l

/-- Whether the lane has a configuration: its image gave one, or, woken from BANK, it still has the one that was active (R208, R481). -/
def Lane.hasConfig (l : Lane) : Bool := l.on SEC.STATUS_CFG_LOADED || (l.boot.quick && l.on CEN.STATUS_LOADED)

/-- The lane is ready (R118, R500): registers locked, the drive die's settings copied and its interface initialised (R297, R300), adaptive
drivers and networks started, bounds, check value and tag shown; then SYNC. -/
def Lane.becomeReady (l : Lane) : Lane :=
  let l1 := ((l.lockAll.copySnuffCfg.initDriveLink.adaptStart.netLoad).showBounds l.activeCfg).showCheck.showWindows
  let tag := if l.hasConfig then (l1.activeCfg.tag l1.mem).toNat else 0
  let l2 := (l1.wr XLA.CFG_TAG_TAG tag).flag PCL.STATUS_LOADED (l.hasConfig && !l1.activeCfg.nodes.isEmpty)
    |>.flag CEN.STATUS_LOADED l.hasConfig |>.flag FCL.STATUS_LOADED l.hasConfig
  let l3 := l2.record 0x0C [l.rd CRU.RESET_CAUSE_LAST, l.rd SEC.STATUS_SLOT, l.rd SEC.FW_INFO_FW_SEC]
  let l4 := (l3.onXla fun x => { x with readyAt := some l.clk.now }).goState .sync
  { l4 with boot := { l4.boot with quick := false } }

/-- Step 6 of R500 in a lane that may become ready. The checks of every block run on a loaded configuration, under the lifecycle state that the
boot has completed (R301, R507); a failure keeps the lane in BOOT. -/
def Lane.checkReady (l : Lane) : Lane :=
  let n := l.finishEnrol
  let rs := n.activeCfg.checks n.mem false (decide (n.otp.lifecycle = 3)) (n.rd WCK.CFG_MODE_REQ)
  if n.hasConfig then
    let n1 := n.showLoad rs
    if (firstBlock rs).isNone then n1.becomeReady else n1
  else n.becomeReady

/-- LANE_READY. A lane that comes from BANK has lost nothing (R481). -/
def execLaneReady (l : LaneId) (t : Nat) (s : State) : Host.Outcome State Fault Refusal :=
  let n := (s.lane l).atTick t
  .next (s.setLane l
    (if decide (n.own = .boot) && (n.boot.loaded || n.boot.quick) && n.powerUpPassed && !n.tooHot &&
        n.on STM.STATUS_NOR_MOUNTED && n.on STM.STATUS_NAND_MOUNTED then n.checkReady else n))

/-- At the first commit in STANDBY or AUTHORITY the rollback counters rise to the running versions (R502). -/
def Lane.raiseCounters (l : Lane) : Lane :=
  { l with otp := { l.otp with ctrFw := max l.otp.ctrFw (l.rd SEC.FW_INFO_FW_SEC), ctrCfg := max l.otp.ctrCfg (l.rd SEC.FW_INFO_CFG_SEC) } }

/-! ### Writing images (R442, R443, R447, R460, R518) -/

/-- The first byte and the end of the area of a slot that holds an offset, and whether it is the configuration's. -/
def slotArea (off : Nat) : Nat × Nat × Bool := if off < 0x800000 then (0, 0x800000, false) else (0x800000, 0xF00000, true)

/-- An area of a slot is erased. -/
def eraseArea (s : NorSlot) (conf : Bool) : NorSlot :=
  if conf then { s with cfg := none, cfgNext := 0 } else { s with fw := none, fwNext := 0 }

/-- The first unwritten byte of an area, as a slot offset. -/
def firstFree (s : NorSlot) (conf : Bool) : Nat := if conf then 0x800000 + s.cfgNext else s.fwNext

/-- IMAGE_WRITE with the payload that this lane has received: its program begins, or its refusal. -/
def Lane.imageWrite (l : Lane) (img : CmdImage) (pay : Option Payload) : Lane :=
  let slot := (img.args.getD 0 0).toNat
  let off := (img.args.getD 1 0).toNat
  let (first, last, conf) := slotArea off
  match pay with
  | none => l.finish img true 0
  | some (.nor n complete) =>
    if off % 256 ≠ 0 then l.finish img false 8 0x07
    else if 2 ≤ slot then l.finish img false 0xC 0x05
    else match l.norDir with
      | none => (l.fault 0xD3).finish img false 0xC 0x01
      | some d =>
        let s := norSlot l.nor slot
        if dirState d slot = 3 then l.finish img false 0xC 0x03
        else if last < off + n then l.finish img false 0xC 0x05
        else if l.norBusy then l.finish img false 0xC 0x06
        else if off ≠ first ∧ off ≠ firstFree s conf then l.finish img false 8 0x07
        else
          let l1 := if off = first then
              ({ l with nor := norSetSlot l.nor slot (eraseArea s conf) } : Lane).slotState slot 1
            else l
          let job : NorJob := { img := img, slot := slot, cfg := conf, off := off, bytes := n, image := complete }
          { l1.flag STM.STATUS_NOR_BUSY true with stm := { l1.stm with norOp := some job, opAt := l.clk.now } }
  | some _ => l.finish img false 0

/-- The bytes of a program are in the slot. -/
def written (s : NorSlot) (j : NorJob) : NorSlot :=
  if j.cfg then { s with cfgNext := j.off + j.bytes - 0x800000, cfg := j.image } else { s with fwNext := j.off + j.bytes, fw := j.image }

/-- Whether a slot holds all that is verified: both images, or the firmware while no customer key is enrolled. -/
def slotWhole (o : Otp) (s : NorSlot) : Bool := s.fw.isSome && (s.cfg.isSome || o.custKey.isNone)

/-- A NOR program ends: a failure completes the command with STORAGE_ERROR; a slot that it completes is verified. -/
def Lane.norEnds (l : Lane) (j : NorJob) (ok : Bool) : Lane :=
  let l1 := { l.flag STM.STATUS_NOR_BUSY (!l.stm.sysOps.isEmpty) with stm := { l.stm with norOp := none } }
  if !ok then ((l1.bump STM.NOR_ERR_FAILS).fault 0xD3).finish j.img false 0xC 0x01
  else
    let s := written (norSlot l.nor j.slot) j
    let l2 := { l1 with nor := norSetSlot l1.nor j.slot s }
    if j.image.isSome && slotWhole l.otp s then
      let (code, conf) := slotReject l.otp s
      if code = 0 then (l2.slotState j.slot 2).finish j.img false 0
      else (l2.rejectSlot j.slot code conf).finish j.img false 8 0x08
    else l2.finish j.img false 0

/-- The first of the STM's own NOR programs ends; status is 0, or the code of R460 with which it fails. The next one begins, or a program for IMAGE_WRITE. -/
def Lane.sysEnds (l : Lane) (op : NorSys) (rest : List NorSys) (status : Nat) : Lane :=
  let l1 := l.flag STM.STATUS_NOR_BUSY (!rest.isEmpty || l.stm.norOp.isSome)
  let l2 := { l1 with stm := { l1.stm with sysOps := rest, opAt := l.clk.now } }
  let l3 := if status = 1 then (l2.bump STM.NOR_ERR_FAILS).fault 0xD3 else l2
  match op with
  | .dir k => if status = 0 then l3 else l3.dirFails k
  | .conf img =>
    let l4 := if status = 0 then l3 else l3.confFails
    match img with
    | some i => if status = 0 then l4.finish i false 0 else l4.finish i false 0xC status
    | none => l4

/-- XSPI_OPERATION_COMPLETE: a NOR program, a NAND read (R449), or a NAND program or erase; one that fails retires its block
(R450). -/
def execXspiOperationComplete (l : LaneId) (t : Nat) (op : FlashEnd) (s : State) : Host.Outcome State Fault Refusal :=
  let n := (s.lane l).atTick t
  .next (s.setLane l (n.gated 4
    (match op with
    | .norDone ok => match n.stm.sysOps, n.stm.norOp with
      | op :: rest, _ => n.sysEnds op rest (if ok then 0 else 1)
      | [], some j => n.norEnds j ok
      | [], none => n
    | .nandRead b c bad => if n.on STM.STATUS_NAND_MOUNTED then n.nandReadDone b c bad else n
    | .nandFailed b => (n.flag STM.STATUS_NAND_BUSY false).retireBlock b
    | .nandDone => n.flag STM.STATUS_NAND_BUSY false)))

/-- The program in hand on chip select 0 is given up (R442). -/
def Lane.norTimeout (l : Lane) : Lane :=
  match l.stm.sysOps, l.stm.norOp with
  | op :: rest, _ => l.sysEnds op rest 4
  | [], some j => ({ l.flag STM.STATUS_NOR_BUSY false with stm := { l.stm with norOp := none } } : Lane).finish j.img false 0xC 0x04
  | [], none => l

/-- The queue whose RECORDER_READ waits to be executed. -/
def Lane.readingQueue (l : Lane) : Option Nat :=
  (List.range 8).find? fun q => match (l.qp q).cmd with
    | some c => decide (c.stage = .ready) && !c.halted && decide (c.desc.opcode = 0x04)
    | none => false

/-- A NAND operation is given up: a RECORDER_READ that waits completes with STORAGE_ERROR. -/
def Lane.nandTimeout (l : Lane) : Lane :=
  let l1 := l.flag STM.STATUS_NAND_BUSY false
  match l1.readingQueue with
  | some q => l1.completeCmd q 0x0C 0x04
  | none => l1

/-- XSPI_TIMEOUT: the device of a chip select is reset and discovered again, which finds it as it was; an operation in progress completes with
STORAGE_ERROR, and a fabric reader gets a bus error. A program or erase exceeds its limit at twice the device's maximum (R442). -/
def execXspiTimeout (l : LaneId) (t cs : Nat) (reader : Bool) (s : State) : Host.Outcome State Fault Refusal :=
  let n := (s.lane l).atTick t
  let n1 := (n.bump XSP.STATUS_TIMEOUTS).fault 0xD0
  .next (s.setLane l (n.gated 4
    (if 2 ≤ cs then n
     else if reader then n1.busError
     else if cs = 1 then n1.nandTimeout
     else if n.norBusy && decide (n.clk.now < n.stm.opAt + n.stm.norMax) then n
     else n1.norTimeout)))

/-! ### Enrolment and lifecycle (R506, R508, R510 to R512) -/

/-- The lane's lifecycle state changes (R509, R511, R512): a debug session ends and the fabric access timer is re-enabled; RETIRED overwrites
the customer key with all ones and ends the sessions. -/
def Lane.setLifecycle (l : Lane) (target : Nat) : Lane :=
  let l1 := l.record 0x0A [l.otp.lifecycle, target]
  let l2 := { l1 with otp := { l1.otp with lifecycle := target, partly := false }, sec := { l1.sec with level := 0, ask := none } }
  let l3 := (l2.flag CRU.FAT_CFG_DISABLE false).flag CRU.STATUS_FAT_OFF false
  if target = 4 then
    ({ l3 with otp := { l3.otp with custKey := some (2 ^ 768 - 1), idPriv := BitVec.allOnes 384 } } : Lane).endSession 0 |>.endSession 1
  else l3

/-- The other lanes of the voting set, as this lane last heard of their lifecycle. -/
def Lane.othersIn (l : Lane) (ok : Nat → Bool) : Bool :=
  l.peers.all fun x => !l.xla.vset.get x || ok (l.xla.peers.get x).lifecycle

/-- Programming of the customer key, and on a sealed part of FIELD. -/
def Lane.enrol (l : Lane) (img : CmdImage) (key : Nat) (otpOk : Bool) (from_ : Nat := l.clk.cycles) : Lane :=
  if !otpOk then l.finish img false 8 0x05
  else
    let l1 := { l with otp := { l.otp with custKey := some key } }
    (if l1.otp.sealed then l1.setLifecycle 3 else l1).finishFrom from_ img false 0

/-- KEY_ENROL; blank says that every other lane of the voting set has a blank customer key, otpOk that programming succeeds. A payload
not of the stated format is refused as reason 0x04 is. -/
def Lane.keyEnrol (l : Lane) (img : CmdImage) (pay : Option Payload) (blank otpOk : Bool) : Lane :=
  if l.xla.vset.mask ≠ 7 then l.finish img false 8 0x0A
  else if l.otp.lifecycle ≠ 2 ∨ !(l.othersIn fun c => decide (c = 2)) then l.finish img false 8 0x01
  else if l.xla.mode ≠ .snuffed then l.finish img false 8 0x02
  else if l.otp.custKey.isSome || !blank then l.finish img false 8 0x04
  else match pay with
    | some (.key id true) => l.enrol img id otpOk
    | some _ => l.finish img false 8 0x04
    | none => l.finish img true 0

/-- A transition command is refused, as LCS.TRANS shows. -/
def Lane.transRefused (l : Lane) (img : CmdImage) (reason : Nat) : Lane := (l.wr LCS.TRANS_REASON reason).finish img false 8 reason

/-- Whether a lifecycle state is a source of a transition to the target, on this part. -/
def Otp.sourceOf (o : Otp) (target c : Nat) : Bool :=
  if target = 3 then decide (c = 2) && !o.sealed else decide (target = 4) && (decide (c = 2) || decide (c = 3))

/-- LIFECYCLE_ADVANCE; otpOk says that programming succeeds. -/
def Lane.lifecycleAdvance (l : Lane) (img : CmdImage) (otpOk : Bool) : Lane :=
  let target := (img.args.getD 0 0).toNat
  let l0 := l.wr LCS.TRANS_TARGET target
  let here := fun c => decide (c = target) || l.otp.sourceOf target c
  if target ≠ 3 ∧ target ≠ 4 then l0.transRefused img 0x09
  else if !here l.otp.lifecycle then l0.transRefused img 0x09
  else if l.xla.vset.mask ≠ 7 then l0.transRefused img 0x0A
  else if !l.othersIn here || decide (l.xla.mode ≠ .snuffed) then l0.transRefused img 0x02
  else if !l.sfu.still then l0.transRefused img 0x03
  else if l.otp.lifecycle = target then l0.finish img false 0
  else if target = 3 ∧ l.otp.custKey.isNone then l0.transRefused img 0x04
  else if !otpOk then (({ l0 with otp := { l0.otp with partly := true } } : Lane).fault 0xE5).transRefused img 0x05
  else (l0.setLifecycle target).finish img false 0

/-! ### Debug authentication (R513, R514) -/

/-- A failed attempt: after three within ten minutes attempts are refused. -/
def Lane.debugFails (l : Lane) : Lane :=
  let f := l.clk.now :: within l.clk.now tenMinutes l.sec.fails
  ({ l with sec := { l.sec with fails := f, ask := none, blocked := if 3 ≤ f.length then some l.clk.now else l.sec.blocked } } : Lane).fault 0xE2

/-- The challenge is renewed. -/
def Lane.newChallenge (l : Lane) : Lane :=
  (List.range 8).foldl (fun (n : Lane) i => (n.setWord (SEC.DBG_CHAL_CHAL.at_ i 0) (Config.fresh n.free)).drew) l

/-- The agreement image of a grant of a level at a lane: opcode field 0xFE. -/
def grantImage (l : LaneId) (level : Nat) : CmdImage :=
  { cid := 0, flags := 0, opcode := 0xFE, length := 0, args := [BitVec.ofNat 32 l.code, BitVec.ofNat 32 level], queue := 0, fn := 0, hash := 0 }

/-- DEBUG_SIGNATURE_WRITE: the response for a level, with whether its signature verifies under the key that R509 names. In MAKER no key is
needed; in BLANK none is accepted. -/
def execDebugSignatureWrite (l : LaneId) (t level : Nat) (sigOk : Bool) (s : State) : Host.Outcome State Fault Refusal :=
  let n := (s.lane l).atTick t
  let n1 := n.newChallenge
  .next (s.setLane l
    (if n.otp.lifecycle = 1 ∨ n.sec.blocked.isSome then n
     else if sigOk && decide (n.otp.lifecycle ≠ 0) && (decide (level = 1) || decide (level = 2)) then
       let img := grantImage l level
       ({ n1 with sec := { n1.sec with ask := some level }
                  hif := { n1.hif with authed := n1.hif.authed ++ [{ img := img, since := n1.clk.now }] } } : Lane).sendCtl 3 (.hostCmd img)
     else n1.debugFails))

/-- DEBUG_LOCKOUT_END: ten minutes have passed since the lane began to refuse attempts. -/
def execDebugLockoutEnd (l : LaneId) (t : Nat) (s : State) : Host.Outcome State Fault Refusal :=
  let n := (s.lane l).atTick t
  .next (s.setLane l (match n.sec.blocked with
    | some b => if b + tenMinutes ≤ n.clk.now then { n with sec := { n.sec with blocked := none, fails := [] } } else n
    | none => n))

/-- PROBE_DETACH: the debug session ends. -/
def execProbeDetach (l : LaneId) (t : Nat) (s : State) : Host.Outcome State Fault Refusal :=
  let n := (s.lane l).atTick t
  .next (s.setLane l { n.flag DBG.STATUS_ATTACHED false with sec := { n.sec with level := 0, ask := none } })

end Sys2Proof.Machine
end

