-- ==== Sys2Proof/Machine/Commands.lean ====
section
/-!
DEFINITION. Agreement on commands (R378 to R382) and the class A commands of R372: what every lane of the voting set does with an
agreed image.
What a command asks about other lanes that no message carries, and whether programming of the OTP succeeds, are operands.
-/
namespace Sys2Proof.Machine

open Sys2Proof

/-! ### Agreement (R378, R379, R530) -/

/-- The lanes needed of a voting set of n. -/
def quorum (n : Nat) : Nat := if n = 3 then 2 else n

/-- Whether the STATUS messages of the cycle before the last show an image agreed by the voting set (R378): the lane holds one from
every lane of it (R379), and a quorum lists the image. -/
def Lane.shownAgreed (l : Lane) (img : CmdImage) : Bool :=
  let vs := l.xla.vset.members
  let lists := fun x => match l.xla.statusOld.get x with | some m => m.images.contains img | none => false
  !vs.isEmpty && vs.all (fun x => (l.xla.statusOld.get x).isSome) && decide (quorum vs.length ≤ (vs.filter lists).length)

/-- Whether this lane carries out an image now: at the start of the cycle (R378) it lies in the voting set, it has the image itself or by HOST_CMD,
and it has not
carried it out in this cycle or the last, whose messages list it as well. -/
def Lane.agreedNow (l : Lane) (img : CmdImage) : Bool :=
  decide (l.tick = 0) && l.own.healthy && l.xla.vset.get l.id && l.shownAgreed img &&
    (l.hif.known.contains img || l.hif.authed.any fun p => decide (p.img = img)) &&
    !l.hif.taken.any fun e => decide (e.1 = img) && decide (l.clk.cycles ≤ e.2 + 1)

/-- The image is carried out in this cycle: this lane lists it no longer. -/
def Lane.take (l : Lane) (img : CmdImage) : Lane :=
  l.onHif fun h => { h with
    taken := (img, l.clk.cycles) :: h.taken.filter fun e => decide (l.clk.cycles ≤ e.2 + 1)
    authed := h.authed.map fun p => if p.img = img then { p with seen := true } else p }

/-- Whether a lane of the voting set is under key-off test, as this lane knows (R530): its own test, or a member of the voting set that sends no
agreement frames once the key has been off for DELAY. -/
def Lane.keyoffBusy (l : Lane) : Bool :=
  l.keyoffTesting || (match l.pmu.keyOffAt with
    | some k => !l.pmu.key && decide (k + 600000 * l.rd PMU.KEYOFF_DELAY ≤ l.clk.now) && decide (l.xla.usedN < l.xla.vset.members.length)
    | none => false)

/-- An agreed command of an opcode at the start of a cycle: f says what it does. -/
def Lane.agreedAs (l : Lane) (opcode : Nat) (img : CmdImage) (f : Lane → Lane) : Lane :=
  if decide (img.opcode = opcode) && l.agreedNow img then
    let l1 := l.take img
    if l1.keyoffBusy then
      (if opcode = 0x38 then l1.fault 0xE9 else if opcode = 0x20 then l1.sysRecord 0x08 [(img.args.getD 0 0).toNat, 8, 0x0D] else l1).finish img false 8 0x0D
    else f l1
  else l

/-! ### Drive enable, stops, authority (R45, R47, R132, R316, R328, R332) -/

/-- Condition 1 of R328 with the system mode it leads to: the lanes of R45, at most one twin lane (R69), and SNUFFED as R45 and R47 require; 6 where
two lanes are healthy and a DUPLEX start is not permitted. -/
def Lane.enableMode (l : Lane) (re : Bool) : Nat ⊕ SysMode :=
  let n := l.healthySet.members.length
  let from_ := decide (l.xla.mode = .snuffed) && (if re then l.sfu.cmdStop && l.sfu.still else l.sfu.fromReset)
  if !from_ || decide (2 ≤ l.twinCount) then .inl 1
  else if n = 3 then .inr .triplex
  else if n = 2 then if l.on SFU.CFG_DUPLEX_START then .inr .duplex else .inl 6
  else .inl 1

/-- The first unmet condition of R328 of those after the first, 0 when all hold. -/
def Lane.enableUnmet (l : Lane) : Nat :=
  if !(l.sfu.confirmed || l.sfu.session || l.otp.openDev) then 2
  else if l.inputDemand 1 || l.inputDemand 2 || l.sfu.soWord.getLsbD 6 || l.sfu.soWord.getLsbD 7 || l.faultDemand 0 || l.faultDemand 1 ||
      l.sfu.hostSs1 || l.sfu.hostSto then 3
  else if !l.sfu.still then 4
  else if l.sfu.slpActive && !l.posInside then 5 else 0

/-- A refused drive enable, with its record (R455). -/
def Lane.refuseEnable (l : Lane) (img : CmdImage) (r : Nat) : Lane := (l.sysRecord 0x08 [(img.args.getD 0 0).toNat, 8, r]).finish img false 8 r

/-- Drive enable (ARG0 0) and re-enable (ARG0 1): the evaluation of this cycle judges it (R328). RETIRED, BLANK and MAKER refuse it (R509, R512),
and so does a control cycle longer than 250 µs (R38); no reason is stated there. -/
def Lane.driveEnable (l : Lane) (img : CmdImage) : Lane :=
  let arg := (img.args.getD 0 0).toNat
  if !l.otp.drives || !l.runsPwm || decide (2 ≤ arg) then l.refuseEnable img (Config.openReason 0x20).toNat
  else { l with sfu := { l.sfu with ask := some (decide (arg = 1), img) } }

/-- A drive enable that the evaluation finds waiting: granted for the next cycle start, or refused with the first unmet condition (R328). A stop
that the host demands in the same cycle is a demand too (R326). -/
def Lane.judgeEnable (l : Lane) : Lane :=
  match l.sfu.ask with
  | some (re, img) =>
    let l1 := { l with sfu := { l.sfu with ask := none } }
    match l.enableMode re with
    | .inl r => l1.refuseEnable img r
    | .inr m =>
      if l.enableUnmet ≠ 0 then l1.refuseEnable img l.enableUnmet
      else (({ l1 with sfu := { l1.sfu with enable := some m } } : Lane).sysRecord 0x08 [re.toNat, 0, 0]).finish img false 0
  | none => l

/-- The safety unit's evaluation of the agreed vector and of the host commands agreed before it (R317). -/
def Lane.sfuEvaluate (l : Lane) : Lane :=
  let l1 := l.sfuFunctions.judgeEnable
  { l1 with sfu := { l1.sfu with hostSs1 := false, hostSto := false, sessSs1 := false } }

/-- SFU_EVALUATION, at 2.9 µs; the safety unit lies in the DRV domain (R30). -/
def execSfuEvaluation (l : LaneId) (s : State) : Host.Outcome State Fault Refusal :=
  let n := (s.lane l).atTick 1740
  .next (s.setLane l (n.gated 6 n.sfuEvaluate))

/-- SAFE_STOP and SAFE_TORQUE_OFF: the demand enters this cycle's evaluation (R316). -/
def Lane.hostStop (l : Lane) (img : CmdImage) (sto : Bool) : Lane :=
  ({ l with sfu := { l.sfu with hostSs1 := l.sfu.hostSs1 || !sto, hostSto := l.sfu.hostSto || sto } } : Lane).finish img false 0

/-- A commanded move to a target at a named cycle begins: this lane confirms it by MOVE (R132). -/
def Lane.beginMove (l : Lane) (target : LaneId) (at_ : Word) (img : CmdImage) : Lane :=
  (l.onXla fun x => { x with move := some { target := target, at_ := at_, confirm := Tri.only l.id, img := img } }).sendCtl 3 (.move target.code at_)

/-- AUTH_MOVE: refused in LAST LIGHT and SAFE STOP, for a target that is no candidate, for a cycle less than 4 ahead, or while a move is
pending; no reason is stated for it. -/
def Lane.authMove (l : Lane) (img : CmdImage) : Lane :=
  let at_ := img.args.getD 1 0
  match LaneId.ofCode (img.args.getD 0 0).toNat with
  | some x =>
    if l.candidate x && ahead l.ccn at_ && decide (4 ≤ (at_ - l.ccn).toNat) && l.xla.move.isNone &&
        !(decide (l.xla.mode = .lastLight) || decide (l.xla.mode = .safeStop)) then l.beginMove x at_ img
    else l.finish img false 8 (Config.openReason 0x23).toNat
  | none => l.finish img false 8 (Config.openReason 0x23).toNat

/-- LANE_UPDATE (R520); peerOk says that the named lane, if it is another, shows UPDATE_READY. The AUTHORITY is moved away first;
DESIGN CHOICE: the next candidate (R139) is the first in the authority order other than the lane to be updated, and an update of the AUTHORITY while
another move is pending is refused with reason 2, since R139 states none (log entry 72). -/
def Lane.laneUpdate (l : Lane) (img : CmdImage) (peerOk : Bool) : Lane :=
  match LaneId.ofCode (img.args.getD 0 0).toNat with
  | none => l.finish img false 8 0x02
  | some x =>
    let slow := l.on SEC.UPDATE_CFG_MOVING && decide (l.speedMag ≤ l.rd SEC.UPDATE_CFG_SPEED)
    if l.xla.mode ≠ .triplex ∨ !(l.xla.lst.get x).healthy then l.finish img false 8 0x02
    else if !(if x = l.id then l.updateReady else peerOk) then l.finish img false 8 0x06
    else if !(l.sfu.still || slow) then l.finish img false 8 0x03
    else if l.xla.auth = some x then
      match l.authOrder.find? fun y => decide (y ≠ x) && l.candidate y with
      | some y => if l.xla.move.isNone then l.beginMove y (l.ccn + 4) img else l.finish img false 8 0x02
      | none => l.finish img false 8 0x02
    else (l.onXla fun q => { q with updateReq := some img }).finish img false 0

/-! ### Commissioning and confirmation (R330, R333) -/

/-- A keep-alive of the commissioning session. -/
def Lane.commAlive (l : Lane) : Lane := { l with sfu := { l.sfu with session := true, lastAlive := l.clk.now } }

/-- COMM_OPEN. -/
def Lane.commOpen (l : Lane) (img : CmdImage) : Lane := l.commAlive.finish img false 0

/-- COMM_KEEPALIVE. -/
def Lane.commKeep (l : Lane) (img : CmdImage) : Lane := if l.sfu.session then l.commAlive.finish img false 0 else l.finish img false 8 1

/-- COMM_CLOSE. -/
def Lane.commClose (l : Lane) (img : CmdImage) : Lane := (if l.sfu.session then l.closeSession else l).finish img false 0

/-- CONFIRM_CHECK: the carried value must be the check value of every lane of the voting set, as their STATUS messages show it (R330). LAST_RESULT 1 accepted, 2 value differs, 3 not SNUFFED or not still, 4 not queue 0 of function 0. An accepted command completes when its record is
written, and one that finds the NOR busy is not served (R460). -/
def Lane.confirmCheck (l : Lane) (img : CmdImage) : Lane :=
  let v := img.args.getD 0 0
  let r := if img.queue ≠ 0 ∨ img.fn ≠ 0 then 4
    else if l.xla.mode ≠ .snuffed ∨ !l.sfu.still then 3
    else if v ≠ l.word SFU.CHECK_VALUE_VALUE.key ∨ (l.peers.any fun x => l.xla.vset.get x && decide ((l.xla.peers.get x).check ≠ v)) then 2 else 1
  let l1 := l.wr SFU.CONFIRM_STATUS_LAST_RESULT r
  if r = 1 ∧ l.norBusy then l.finish img false 0xC 0x06
  else if r = 1 then
    let l2 := l1.confirmWith v (some img)
    { l2 with sfu := { l2.sfu with confirmNext := true } }
  else (((l1.bump SFU.EVENTS_REFUSED).sysRecord 0x07 [v.toNat, r]).fault 0xA0).finish img false 8 r

/-! ### Test requests (R533 to R535) -/

/-- A refused test request. -/
def Lane.testRefused (l : Lane) (img : CmdImage) (reason : Nat) : Lane := (l.fault 0xE9).finish img false 8 reason

/-- TEST_REQUEST, test 1: the named lane enters UPDATE at the next cycle start; peerOk says that no slot of the named lane, if it is another,
is VERIFIED, and insvc that INSVC_EN is 1 in every other lane of the VSET. -/
def Lane.testInService (l : Lane) (img : CmdImage) (peerOk insvc : Bool) : Lane :=
  match LaneId.ofCode (img.args.getD 1 0).toNat with
  | none => l.testRefused img 0x0C
  | some x =>
    if !l.otp.selfTest then l.testRefused img 0x01
    else if !l.on BST.CFG_INSVC_EN || !insvc then l.testRefused img 0x0B
    else if l.xla.mode ≠ .triplex ∨ l.xla.lst.get x ≠ .standby then l.testRefused img 0x02
    else if !l.sfu.still then l.testRefused img 0x03
    else if !(if x = l.id then !l.anyVerified else peerOk) then l.testRefused img 0x0E
    else (l.onXla fun q => { q with updateReq := some img }).finish img false 0

/-- What an event of source n would cause (R535), as BST.REHEARSE holds it: the escalation counts the event itself. -/
def Lane.rehearsal (l : Lane) (n : Nat) : Nat :=
  let hist := (l.clk.cycles :: within l.clk.cycles (l.msCycles (l.rd FCL.SRC_CFG_ESC_T n)) (l.src n).hist).take 15
  let (sev, esc) := l.severityOf n 0 hist
  let stop := l.rd FCL.SRC_CFG_STOP n
  let merged := l.on FCL.EPISODE_OPEN && decide (sev ≠ .note) && decide (evRank sev stop ≤ l.fcl.rank)
  let acts := !merged
  let demand := if acts && decide (sev = .major) then stop else 0
  let laneFence := acts && decide (sev = .lane)
  let unitFence := acts && (decide (sev = .minor) || decide (sev = .major)) && (unitOf n).holds
  n * 2 ^ 24 + sev.code * 2 ^ 22 + esc.toNat * 2 ^ 21 + merged.toNat * 2 ^ 20 + demand * 2 ^ 18 + laneFence.toNat * 2 ^ 17
    + unitFence.toNat * 2 ^ 16

/-- TEST_REQUEST, test 2. -/
def Lane.testRehearse (l : Lane) (img : CmdImage) : Lane :=
  let n := (img.args.getD 1 0).toNat
  if l.otp.lifecycle = 4 then l.testRefused img 0x01
  else if (srcInfo n).isNone then l.testRefused img 0x0C
  else (l.setWord BST.REHEARSE_VALUE.key (BitVec.ofNat 32 (l.rehearsal n))).finish img false 0 (l.rehearsal n)

/-- TEST_REQUEST by its ARG0. -/
def Lane.testRequest (l : Lane) (img : CmdImage) (peerOk insvc : Bool) : Lane :=
  match (img.args.getD 0 0).toNat with
  | 1 => l.testInService img peerOk insvc
  | 2 => l.testRehearse img
  | _ => l.testRefused img 0x0C

/-! ### The mailboxes of the part's replies (R383 to R386) -/

/-- The words of a mailbox message: header, payload, CRC (R385). -/
def mailWords (type mseq seg : Nat) (last : Bool) (len : Nat) (payload : List Word) : List Word :=
  let w0 := BitVec.ofNat 32 (type * 2 ^ 24 + mseq % 256 * 2 ^ 16 + seg * 2 ^ 12 + last.toNat * 2 ^ 11 + len)
  let ws := w0 :: (payload ++ List.replicate 14 0).take 14
  ws ++ [crc32c (ws.flatMap wordBytes)]

/-- A word from its first four bytes, and the words of a list of bytes. -/
def leWord (bs : List Byte) : Word := bs.getD 3 0 ++ bs.getD 2 0 ++ bs.getD 1 0 ++ bs.getD 0 0
def leWords (bs : List Byte) : List Word := (List.range (ceilDiv bs.length 4)).map fun i => leWord (bs.drop (4 * i))

/-- The bytes of a number of n bytes, the lowest first. -/
def bytesOf (n v : Nat) : List Byte := (List.range n).map fun i => BitVec.ofNat 8 (v / 2 ^ (8 * i))

/-- The words that mailbox m holds, and whether it is full. -/
def Lane.mailbox (l : Lane) (m : Nat) : List Word := (List.range 16).map fun w => l.word (MBX.DATA_WORD.at_ m w)
def Lane.mailFull (l : Lane) (m : Nat) : Bool := (l.rd MBX.STATUS_FULL).testBit m

/-- Mailbox m becomes full or empty. -/
def Lane.setFull (l : Lane) (m : Nat) (b : Bool) : Lane :=
  l.wr MBX.STATUS_FULL (l.rd MBX.STATUS_FULL - (l.mailFull m).toNat * 2 ^ m + b.toNat * 2 ^ m)

/-- The function whose vector 8 serves mailbox m. -/
def mailFn (m : Nat) : Nat := if m < 2 then 0 else 1

/-- A message of the part is written into mailbox m, or waits until it is emptied. -/
def Lane.sendMail (l : Lane) (m : Nat) (ws : List Word) : Lane :=
  if l.mailFull m then { l with mbx := { l.mbx with queue := l.mbx.queue ++ [(m, ws)] } }
  else
    let l1 := (List.range 16).foldl (fun (n : Lane) w => n.setWord (MBX.DATA_WORD.at_ m w) (ws.getD w 0)) l
    (l1.setFull m true).msix (mailFn m) 8

/-- One segment of a reply, with the sender's counter of mailbox m. -/
def Lane.reply (l : Lane) (m type seg : Nat) (last : Bool) (len : Nat) (payload : List Word) : Lane :=
  let k := Sparse.get 0 l.mbx.seq m
  ({ l with mbx := { l.mbx with seq := Sparse.set 0 l.mbx.seq m ((k + 1) % 256) } } : Lane).sendMail m (mailWords type k seg last len payload)

/-- A reply of up to three segments of 56 bytes. -/
def Lane.replyBytes (l : Lane) (m type : Nat) (bs : List Byte) : Lane :=
  let segs := max 1 (ceilDiv bs.length 56)
  (List.range (min segs 3)).foldl (fun (n : Lane) k =>
    let part := (bs.drop (56 * k)).take 56
    n.reply m type k (decide (k + 1 = segs)) part.length (leWords part)) l

/-- SESSION_REFUSED with its reason. -/
def Lane.sessionRefused (l : Lane) (reason : Nat) : Lane := l.reply 1 0x04 0 true 1 [BitVec.ofNat 32 reason]

/-! ### Sessions and grants (R374, R376, R377, R380, R513) -/

/-- The message with which the session of a function was asked for at this lane. -/
def Lane.openBytes (l : Lane) (fn : Nat) : List Byte :=
  match l.hif.authed.find? fun p => decide (p.img.opcode = 0xFF) && decide (p.img.fn = fn) with
  | some p => (match p.pay with | .opening bs => bs | _ => [])
  | none => []

/-- The info of the key derivation: the ASCII string LGD3T960 session, the lane byte and the function byte (R374). -/
def sessionInfo (x : LaneId) (fn : Nat) : List Byte :=
  [0x4C, 0x47, 0x44, 0x33, 0x54, 0x39, 0x36, 0x30, 0x20, 0x73, 0x65, 0x73, 0x73, 0x69, 0x6F, 0x6E, BitVec.ofNat 8 x.code, BitVec.ofNat 8 fn]

/-- A function's session begins (R374): a new identifier, key pair, nonce and session key, every queue of the function at SEQ 1, and SESSION_ACCEPT in three
segments. The message that asked for it carries, in the order in which R374 lists them, the function, the public key, the nonce and the signature, and
SESSION_ACCEPT the lane's public key, nonce, lane, identifier and signature (DEDUCED, log entry 52). A session that opens
while the customer key is blank is a delivery session (R505). -/
def Lane.openSession (l : Lane) (fn : Nat) : Lane :=
  let id := Config.fresh l.free
  let priv := Config.freshKey l.free
  let nonce := bytesOf 16 (Config.freshNonce l.free).toNat
  let host := (l.openBytes fn).drop 1
  let key := Config.hkdf ((host.drop 33).take 16 ++ nonce) (Config.ecdh priv (host.take 33)) (sessionInfo l.id fn)
  let msg := bytesOf 33 (Config.publicKey priv).toNat ++ nonce ++ BitVec.ofNat 8 l.id.code :: wordBytes id
  let l1 := l.drew.onHif fun h => if fn = 0 then { h with sess0 := some id, key0 := key, delivery := l.otp.custKey.isNone, updated := false }
    else { h with sess1 := some id, key1 := key, updated := false }
  let l2 := (List.range 8).foldl (fun (n : Lane) q => if n.queueFn q = fn then n.setWord (QDM.QP_SEQ_SEQ.at_ q 0) 1 else n) l1
  let l3 := l2.onHif fun h => { h with authed := h.authed.filter fun p => !(decide (p.img.opcode = 0xFF) && decide (p.img.fn = fn)) }
  l3.replyBytes 1 0x02 (msg ++ bytesOf 96 (Config.identitySign l.otp.idPriv (msg ++ host.take 33)).toNat)

/-- SESSION_OPEN_AGREED at this lane: as a lane of the voting set, or outside it where it verified the open itself (R380). A lane that has not
verified it has no key of the host to open with. -/
def Lane.sessionAgreed (l : Lane) (img : CmdImage) : Lane :=
  let mine := l.hif.authed.any fun p => decide (p.img = img) && !p.seen
  if img.opcode = 0xFF ∧ mine ∧ (if l.xla.vset.get l.id then l.agreedNow img else l.shownAgreed img) then (l.take img).openSession img.fn
  else l

/-- DEBUG_GRANT_AGREED: the port opens at the level that this lane asked for; the image names the lane. -/
def Lane.grantAgreed (l : Lane) (img : CmdImage) : Lane :=
  if img.opcode = 0xFE ∧ l.agreedNow img then
    let l1 := (l.take img).onHif fun h =>
      { h with authed := h.authed.filter (fun p => decide (p.img ≠ img)), known := h.known.filter (fun i => decide (i ≠ img)) }
    match l.sec.ask with
    | some k => if img = grantImage l.id k then { l1 with sec := { l1.sec with level := k, ask := none } } else l1
    | none => l1
  else l

/-! ### Carrying out an image -/

/-- What an agreed image does, by its opcode (R372). -/
def Lane.carryOut (l : Lane) (img : CmdImage) (peerOk insvc otpOk : Bool) : Lane :=
  match img.opcode with
  | 0x10 => l.stageOpen img
  | 0x11 => l.stageWrite img (l.ownPayload img)
  | 0x12 => l.stageCheck img
  | 0x13 => l.commitAgreed img
  | 0x14 => l.stageAbort img
  | 0x20 => l.driveEnable img
  | 0x21 => l.hostStop img false
  | 0x22 => l.hostStop img true
  | 0x23 => l.authMove img
  | 0x24 => l.laneUpdate img peerOk
  | 0x28 => l.commOpen img
  | 0x29 => l.commKeep img
  | 0x2A => l.commClose img
  | 0x2B => l.confirmCheck img
  | 0x30 => l.imageWrite img (l.ownPayload img)
  | 0x31 => l.keyEnrol img (l.ownPayload img) peerOk otpOk
  | 0x32 => l.lifecycleAdvance img otpOk
  | 0x38 => l.testRequest img peerOk insvc
  | _ => l

/-- A payload that arrives after its command was agreed takes effect on arrival (R381); the own descriptor stands among the authenticated
ones. -/
def Lane.lateApply (l : Lane) (img : CmdImage) (pay : Payload) (a : Agreed) : Lane :=
  match img.opcode, pay with
  | 0x11, .bundle b =>
    if b.sections.any resetOnly || decide (b.twinMask ≠ 0) then l.finishFrom a.from_ img false 8 2
    else (if l.stage.isOpen then l.stageApply b else l).finishFrom a.from_ img false a.status a.r0 a.r1
  | 0x11, _ => (if l.stage.isOpen then l.stageJunk else l).finishFrom a.from_ img false a.status a.r0 a.r1
  | 0x30, _ => l.imageWrite img (some pay)
  | 0x31, .key id true => l.enrol img id true a.from_
  | _, _ => l.finishFrom a.from_ img false a.status a.r0 a.r1

/-- HOST_COMMAND_AGREED: an image agreed in the STATUS messages of the cycle before the last, whichever its opcode. -/
def execHostCommandAgreed (l : LaneId) (t : Nat) (img : CmdImage) (peer : PeerFacts) (otpOk : Bool) (s : State) : Host.Outcome State Fault Refusal :=
  let n := (s.lane l).atTick t
  .next (s.setLane l
    (if img.opcode = 0xFF then n.sessionAgreed img
     else if img.opcode = 0xFE then n.grantAgreed img
     else n.agreedAs img.opcode img fun m => m.carryOut img peer.ready peer.insvc otpOk))

/-- STAGE_OPEN. -/
def execStageOpen (l : LaneId) (t : Nat) (img : CmdImage) (s : State) : Host.Outcome State Fault Refusal :=
  .next (s.setLane l (((s.lane l).atTick t).agreedAs 0x10 img fun n => n.stageOpen img))

/-- STAGE_WRITE. -/
def execStageWrite (l : LaneId) (t : Nat) (img : CmdImage) (s : State) : Host.Outcome State Fault Refusal :=
  .next (s.setLane l (((s.lane l).atTick t).agreedAs 0x11 img fun n => n.stageWrite img (n.ownPayload img)))

/-- STAGE_CHECK. -/
def execStageCheck (l : LaneId) (t : Nat) (img : CmdImage) (s : State) : Host.Outcome State Fault Refusal :=
  .next (s.setLane l (((s.lane l).atTick t).agreedAs 0x12 img fun n => n.stageCheck img))

/-- COMMIT. -/
def execCommit (l : LaneId) (t : Nat) (img : CmdImage) (s : State) : Host.Outcome State Fault Refusal :=
  .next (s.setLane l (((s.lane l).atTick t).agreedAs 0x13 img fun n => n.commitAgreed img))

/-- STAGE_ABORT. -/
def execStageAbort (l : LaneId) (t : Nat) (img : CmdImage) (s : State) : Host.Outcome State Fault Refusal :=
  .next (s.setLane l (((s.lane l).atTick t).agreedAs 0x14 img fun n => n.stageAbort img))

/-- DRIVE_ENABLE: ARG0 is 0. -/
def execDriveEnable (l : LaneId) (t : Nat) (img : CmdImage) (s : State) : Host.Outcome State Fault Refusal :=
  .next (s.setLane l (if img.args.getD 0 0 = 0 then ((s.lane l).atTick t).agreedAs 0x20 img fun n => n.driveEnable img
    else (s.lane l).atTick t))

/-- DRIVE_REENABLE: ARG0 is 1. -/
def execDriveReenable (l : LaneId) (t : Nat) (img : CmdImage) (s : State) : Host.Outcome State Fault Refusal :=
  .next (s.setLane l (if img.args.getD 0 0 = 1 then ((s.lane l).atTick t).agreedAs 0x20 img fun n => n.driveEnable img
    else (s.lane l).atTick t))

/-- SAFE_STOP. -/
def execSafeStop (l : LaneId) (t : Nat) (img : CmdImage) (s : State) : Host.Outcome State Fault Refusal :=
  .next (s.setLane l (((s.lane l).atTick t).agreedAs 0x21 img fun n => n.hostStop img false))

/-- SAFE_TORQUE_OFF. -/
def execSafeTorqueOff (l : LaneId) (t : Nat) (img : CmdImage) (s : State) : Host.Outcome State Fault Refusal :=
  .next (s.setLane l (((s.lane l).atTick t).agreedAs 0x22 img fun n => n.hostStop img true))

/-- AUTH_MOVE. -/
def execAuthMove (l : LaneId) (t : Nat) (img : CmdImage) (s : State) : Host.Outcome State Fault Refusal :=
  .next (s.setLane l (((s.lane l).atTick t).agreedAs 0x23 img fun n => n.authMove img))

/-- LANE_UPDATE. -/
def execLaneUpdate (l : LaneId) (t : Nat) (img : CmdImage) (peerOk : Bool) (s : State) : Host.Outcome State Fault Refusal :=
  .next (s.setLane l (((s.lane l).atTick t).agreedAs 0x24 img fun n => n.laneUpdate img peerOk))

/-- COMM_OPEN. -/
def execCommOpen (l : LaneId) (t : Nat) (img : CmdImage) (s : State) : Host.Outcome State Fault Refusal :=
  .next (s.setLane l (((s.lane l).atTick t).agreedAs 0x28 img fun n => n.commOpen img))

/-- COMM_KEEPALIVE. -/
def execCommKeepalive (l : LaneId) (t : Nat) (img : CmdImage) (s : State) : Host.Outcome State Fault Refusal :=
  .next (s.setLane l (((s.lane l).atTick t).agreedAs 0x29 img fun n => n.commKeep img))

/-- COMM_CLOSE. -/
def execCommClose (l : LaneId) (t : Nat) (img : CmdImage) (s : State) : Host.Outcome State Fault Refusal :=
  .next (s.setLane l (((s.lane l).atTick t).agreedAs 0x2A img fun n => n.commClose img))

/-- CONFIRM_CHECK. -/
def execConfirmCheck (l : LaneId) (t : Nat) (img : CmdImage) (s : State) : Host.Outcome State Fault Refusal :=
  .next (s.setLane l (((s.lane l).atTick t).agreedAs 0x2B img fun n => n.confirmCheck img))

/-- IMAGE_WRITE. -/
def execImageWrite (l : LaneId) (t : Nat) (img : CmdImage) (s : State) : Host.Outcome State Fault Refusal :=
  .next (s.setLane l (((s.lane l).atTick t).agreedAs 0x30 img fun n => n.imageWrite img (n.ownPayload img)))

/-- KEY_ENROL. -/
def execKeyEnrol (l : LaneId) (t : Nat) (img : CmdImage) (peerOk otpOk : Bool) (s : State) : Host.Outcome State Fault Refusal :=
  .next (s.setLane l (((s.lane l).atTick t).agreedAs 0x31 img fun n => n.keyEnrol img (n.ownPayload img) peerOk otpOk))

/-- LIFECYCLE_ADVANCE. -/
def execLifecycleAdvance (l : LaneId) (t : Nat) (img : CmdImage) (otpOk : Bool) (s : State) : Host.Outcome State Fault Refusal :=
  .next (s.setLane l (((s.lane l).atTick t).agreedAs 0x32 img fun n => n.lifecycleAdvance img otpOk))

/-- TEST_REQUEST_IN_SERVICE: ARG0 is 1. -/
def execTestRequestInService (l : LaneId) (t : Nat) (img : CmdImage) (peer : PeerFacts) (s : State) : Host.Outcome State Fault Refusal :=
  .next (s.setLane l (if img.args.getD 0 0 = 1 then ((s.lane l).atTick t).agreedAs 0x38 img fun n => n.testInService img peer.ready peer.insvc
    else (s.lane l).atTick t))

/-- TEST_REQUEST_REHEARSE: ARG0 is 2. -/
def execTestRequestRehearse (l : LaneId) (t : Nat) (img : CmdImage) (s : State) : Host.Outcome State Fault Refusal :=
  .next (s.setLane l (if img.args.getD 0 0 = 2 then ((s.lane l).atTick t).agreedAs 0x38 img fun n => n.testRehearse img
    else (s.lane l).atTick t))

/-- SESSION_OPEN_AGREED. -/
def execSessionOpenAgreed (l : LaneId) (t : Nat) (img : CmdImage) (s : State) : Host.Outcome State Fault Refusal :=
  .next (s.setLane l (((s.lane l).atTick t).sessionAgreed img))

/-- DEBUG_GRANT_AGREED. -/
def execDebugGrantAgreed (l : LaneId) (t : Nat) (img : CmdImage) (s : State) : Host.Outcome State Fault Refusal :=
  .next (s.setLane l (((s.lane l).atTick t).grantAgreed img))

/-- AGREEMENT_TIMEOUT (R380): an image that has waited for HIF.AGREE_CFG.TIMEOUT is dropped; a session open is refused, and a debug grant counts
as a failed attempt. -/
def execAgreementTimeout (l : LaneId) (t : Nat) (img : CmdImage) (s : State) : Host.Outcome State Fault Refusal :=
  let n := (s.lane l).atTick t
  .next (s.setLane l (match n.hif.authed.find? fun p => decide (p.img = img) && !p.seen with
    | some p =>
      if p.since + 600000 * n.rd HIF.AGREE_CFG_TIMEOUT ≤ n.clk.now then
        let n1 := n.onHif fun h => { h with authed := h.authed.erase p, known := h.known.filter fun i => decide (i ≠ img) }
        match img.opcode with
        | 0xFF => (n1.sessionRefused 2).fault 0xAB
        | 0xFE => n1.debugFails
        | _ => ((n1.pushCompletion img.queue { cid := img.cid, seq := p.seq, status := 7, bytes := p.bytes, irq := p.irq, sqHead := p.sqHead
                                               due := n.clk.cycles }).bump HIF.CMD_ERR_AGREE).fault 0xAA
      else n
    | none => n))

end Sys2Proof.Machine
end

