-- ==== Sys2Proof/Machine/Cores.lean ====
section
/-!
DEFINITION. Core local memories and the comms core's watchdog (R72, R74).
-/
namespace Sys2Proof.Machine

open Sys2Proof

/-- The MEMORY code and the initiator code of a core local memory (R84, R89). -/
def coreMemCodes : CoreMem → Nat × Nat
  | .beacon => (1, 0)
  | .taper n => (2 + n % 4, 1 + n % 4)
  | .comms => (6, 5)

/-- The comms core is reset alone (R72): its ports hold what they last sent. -/
def Lane.resetComms (l : Lane) : Lane := { l with bcn := { l.bcn with commsAt := l.clk.now } }

/-- A double-bit error in a core local memory (R74): a Beacon memory stops the pair as a lockstep mismatch with cause 0x8; a Taper or
comms core is reset and "core memory uncorrectable" is raised. -/
def Lane.coreUe (l : Lane) (mem : CoreMem) (dataMem : Bool) (off : Word) (syn : BitVec 8) : Lane :=
  let l1 := l.recordUe (coreMemCodes mem).2 (coreMemCodes mem).1 dataMem.toNat off.toNat syn
  match mem with
  | .beacon => l1.lockstepOpen 0x01 0x8
  | .taper n => (l1.resetTaper (n % 4)).fault 0x05 off
  | .comms => (l1.fault 0x05 off).resetComms

/-- CORE_LOCAL_MEMORY_ERROR: the upset found at an access. -/
def execCoreLocalMemoryError (l : LaneId) (t : Nat) (mem : CoreMem) (dataMem : Bool) (off : Word) (up : Upset) (s : State) :
    Host.Outcome State Fault Refusal :=
  let n := (s.lane l).atTick t
  .next (s.setLane l (n.gated 0
    (match up with
    | .none => n
    | .single => n.corrected
    | .double syn | .misplaced syn => n.coreUe mem dataMem off syn)))

/-- COMMS_CORE_WATCHDOG: it expires 10 ms (6,000,000 ticks) at the earliest after the comms core left reset, and that core alone is reset
(R72). -/
def execCommsCoreWatchdog (l : LaneId) (t : Nat) (s : State) : Host.Outcome State Fault Refusal :=
  let n := (s.lane l).atTick t
  .next (s.setLane l (n.gated 0 (if n.bcn.commsAt + 6000000 ≤ n.clk.now then (n.fault 0x06).resetComms else n)))

end Sys2Proof.Machine
end

