-- ==== Sys2Proof/Machine/Host.lean ====
section
/-!
DEFINITION. The host's side (chapter 11): mailboxes and their messages, fetching and authenticating descriptors, payload bursts.
-/
namespace Sys2Proof.Machine

open Sys2Proof

/-! ### Mailboxes (R383 to R386, R405) -/

/-- The initiator code of the part's side of a mailbox, and of its sender and receiver; the other side is the host (0xB). -/
def mailCore (m : Nat) : Nat := if m < 2 then 0x6 else 0x5
def mailSender (m : Nat) : Nat := if m = 0 ∨ (2 ≤ m ∧ m ≤ 4) then 0xB else mailCore m
def mailReceiver (m : Nat) : Nat := if m = 0 ∨ (2 ≤ m ∧ m ≤ 4) then mailCore m else 0xB

/-- A write of DATA or POST while the mailbox is full. -/
def Lane.mailReject (l : Lane) : Lane := ((l.bump MBX.REJECT_COUNT).fault 0xAC).busError

/-- A write of MBX.DATA: taken from the sender; the receiver's write has no effect. -/
def Lane.mailData (l : Lane) (ini m w : Nat) (v : Word) : Lane :=
  if l.mailFull m then l.mailReject
  else if ini = mailSender m then (l.setWord (MBX.DATA_WORD.at_ m w) v).busDone 0
  else l.busDone 0

/-- A write of MBX.POST with GO: the mailbox becomes full; its host receiver gets vector 8. -/
def Lane.mailPost (l : Lane) (ini : Nat) (addr : Word) (m : Nat) (v : Word) : Lane :=
  if l.mailFull m then l.mailReject
  else if bitsOf v 0 1 = 0 then l.busDone 0
  else if ini ≠ mailSender m then (l.fault 0x07 (accessInfo addr ini)).busDone 0
  else
    let l1 := l.setFull m true
    (if mailReceiver m = 0xB then l1.msix (mailFn m) 8 else l1).busDone 0

/-- The next message that waits for mailbox m. -/
def Lane.nextMail (l : Lane) (m : Nat) : Lane :=
  match l.mbx.queue.find? fun e => decide (e.1 = m) with
  | some e => ({ l with mbx := { l.mbx with queue := l.mbx.queue.erase e } } : Lane).sendMail m e.2
  | none => l

/-- Mailbox m is emptied: its host sender gets vector 8, and a message of the part that waits for it follows. -/
def Lane.emptyMail (l : Lane) (m : Nat) : Lane :=
  if l.mailFull m then
    let l1 := l.setFull m false
    (if mailSender m = 0xB then l1.msix (mailFn m) 8 else l1).nextMail m
  else l

/-- A write of MBX.ACK with GO by the receiver. -/
def Lane.mailAck (l : Lane) (ini : Nat) (addr : Word) (m : Nat) (v : Word) : Lane :=
  if bitsOf v 0 1 = 0 then l.busDone 0
  else if ini ≠ mailReceiver m then (l.fault 0x07 (accessInfo addr ini)).busDone 0
  else (l.emptyMail m).busDone 0

/-- MAILBOX_DATA_WRITE. -/
def execMailboxDataWrite (l : LaneId) (t ini m w : Nat) (v : Word) (s : State) : Host.Outcome State Fault Refusal :=
  .next (s.setLane l (((s.lane l).atTick t).guardWrite ini (privAddr (MBX.DATA_WORD.at_ (m % 8) (w % 16))) v fun _ _ n =>
    n.mailData ini (m % 8) (w % 16) v))

/-- MAILBOX_POST. -/
def execMailboxPost (l : LaneId) (t ini m : Nat) (v : Word) (s : State) : Host.Outcome State Fault Refusal :=
  let addr := privAddr (MBX.POST_GO.at_ (m % 8) 0)
  .next (s.setLane l (((s.lane l).atTick t).guardWrite ini addr v fun _ _ n => n.mailPost ini addr (m % 8) v))

/-- MAILBOX_ACK. -/
def execMailboxAck (l : LaneId) (t ini m : Nat) (v : Word) (s : State) : Host.Outcome State Fault Refusal :=
  let addr := privAddr (MBX.ACK_GO.at_ (m % 8) 0)
  .next (s.setLane l (((s.lane l).atTick t).guardWrite ini addr v fun _ _ n => n.mailAck ini addr (m % 8) v))

/-- The fields of the message in mailbox m. -/
def Lane.mailType (l : Lane) (m : Nat) : Nat := bitsOf (l.word (MBX.DATA_WORD.at_ m 0)) 24 8
def Lane.mailSeq (l : Lane) (m : Nat) : Nat := bitsOf (l.word (MBX.DATA_WORD.at_ m 0)) 16 8
def Lane.mailSeg (l : Lane) (m : Nat) : Nat := bitsOf (l.word (MBX.DATA_WORD.at_ m 0)) 12 4
def Lane.mailLast (l : Lane) (m : Nat) : Bool := bitsOf (l.word (MBX.DATA_WORD.at_ m 0)) 11 1 = 1
def Lane.mailLen (l : Lane) (m : Nat) : Nat := bitsOf (l.word (MBX.DATA_WORD.at_ m 0)) 0 8

/-- The types that a receiver of the part knows in mailbox m (R386). -/
def mailTypes (m : Nat) : List Nat := if m = 0 then [0x01, 0x03, 0x7F] else [0x20, 0x21, 0x22, 0x7F]

/-- Whether the message in mailbox m is sound: its CRC, a known TYPE, and its segment in order; a LEN beyond the 56 bytes of a segment is not
(DESIGN CHOICE, log entry 52). -/
def Lane.mailSound (l : Lane) (m : Nat) : Bool :=
  decide (crc32c (((l.mailbox m).take 15).flatMap wordBytes) = l.word (MBX.DATA_WORD.at_ m 15)) &&
    (mailTypes m).contains (l.mailType m) && decide (l.mailSeg m = Sparse.get 0 l.mbx.seg m) && decide (l.mailLen m ≤ 56)

/-- The mailbox in which the part answers a message of mailbox m. -/
def replyBox (m : Nat) : Nat := if m = 0 then 1 else m + 3

/-- The receiver of mailbox m awaits segment seg, after the given bytes. -/
def Lane.awaitSeg (l : Lane) (m seg : Nat) (bytes : List Byte) : Lane :=
  { l with mbx := { l.mbx with seg := Sparse.set 0 l.mbx.seg m seg, parts := Sparse.set [] l.mbx.parts m bytes } }

/-- ERROR, with the MSEQ of the rejected message. -/
def Lane.mailError (l : Lane) (m mseq : Nat) : Lane := l.reply (replyBox m) 0x7F 0 true 1 [BitVec.ofNat 32 mseq]

/-- A message that is not sound is emptied, and ERROR with its MSEQ is sent. -/
def Lane.mailBad (l : Lane) (m : Nat) : Lane := ((l.awaitSeg m 0 []).emptyMail m).mailError m (l.mailSeq m)

/-- The payload bytes of the segment in mailbox m. -/
def Lane.mailBytes (l : Lane) (m : Nat) : List Byte := ((((l.mailbox m).drop 1).take 14).flatMap wordBytes).take (l.mailLen m)

/-- The receiver of mailbox m of the part takes a message of a type: f acts after the last segment, on the bytes of all segments. -/
def Lane.mailTake (l : Lane) (m type : Nat) (f : List Byte → Lane → Lane) : Lane :=
  if !(l.mailFull m && (decide (m = 0) || (decide (2 ≤ m) && decide (m ≤ 4)))) then l
  else if !l.mailSound m then l.mailBad m
  else if l.mailType m ≠ type then l
  else
    let bs := Sparse.get [] l.mbx.parts m ++ l.mailBytes m
    if l.mailLast m then f bs ((l.awaitSeg m 0 []).emptyMail m) else (l.awaitSeg m (l.mailSeg m + 1) bs).emptyMail m

/-- The agreement image of a session open: opcode field 0xFF, queue 0, the function, and the hash of the message. -/
def openImage (fn hash : Nat) : CmdImage :=
  { cid := 0, flags := 0, opcode := 0xFF, length := 0, args := [], queue := 0, fn := fn, hash := hash }

/-- Whether Vigil has a host key for a function: the delivery key serves function 0 alone while the customer key is blank (R505); RETIRED has
none (R512). -/
def Lane.hostKeyFor (l : Lane) (fn : Nat) : Bool :=
  decide (l.otp.lifecycle ≠ 4) && (if l.otp.custKey.isNone then decide (fn = 0) else !l.hostKeys.isEmpty)

/-- Vigil verifies a session open, whose message has the given bytes, and submits it for agreement. -/
def Lane.openReceived (l : Lane) (fn hash : Nat) (sigOk : Bool) (bytes : List Byte) : Lane :=
  if !l.hostKeyFor fn then l.sessionRefused 3
  else if !sigOk then (l.sessionRefused 1).fault 0xAB
  else
    let img := openImage fn hash
    (l.onHif fun h => { h with authed := h.authed ++ [{ img := img, pay := .opening bytes, since := l.clk.now }] }).sendCtl 3 (.hostCmd img)

/-- SESSION_OPEN: a segment in mailbox 0; with the last one, the function that the message names, what identifies the message, and whether its
signature verifies. The message has 114 bytes (R386); one of another length is answered with ERROR (DESIGN CHOICE, log entry 52). -/
def execSessionOpen (l : LaneId) (t fn hash : Nat) (sigOk : Bool) (s : State) : Host.Outcome State Fault Refusal :=
  let a := (s.lane l).atTick t
  .next (s.setLane l (a.mailTake 0 0x01 fun bs n =>
    if bs.length ≠ 114 then n.mailError 0 (a.mailSeq 0) else if fn < 2 then n.openReceived fn hash sigOk bs else n))

/-- SESSION_CLOSE: the session with the identifier in the message closes when its CMAC verifies. -/
def execSessionClose (l : LaneId) (t : Nat) (cmacOk : Bool) (s : State) : Host.Outcome State Fault Refusal :=
  .next (s.setLane l (((s.lane l).atTick t).mailTake 0 0x03 fun bs n =>
    let id := some (leWord bs)
    if !cmacOk || decide (bs.length < 4) then n
    else if n.hif.sess0 = id then n.endSession 0
    else if n.hif.sess1 = id then n.endSession 1 else n))

/-- ECHO: returned unchanged in mailbox m + 3. -/
def execEcho (l : LaneId) (t m : Nat) (s : State) : Host.Outcome State Fault Refusal :=
  let n := (s.lane l).atTick t
  .next (s.setLane l (if 2 ≤ m then n.mailTake m 0x20 fun bs k => k.reply (replyBox m) 0x20 0 true (min bs.length 56) (leWords (bs.take 56)) else n))

/-- The network counters latched at the last Wick cycle boundary (R437, R540). DESIGN CHOICE: the spec gives the message no layout, and the model sends
the registers in address order (log entry 52). -/
def Lane.netCounters (l : Lane) : List Word := [l.word STA.NET_WCN_VALUE.key, l.word (STA.NET_FRAMES.at_ 0 0), l.word (STA.NET_FRAMES.at_ 1 0)]

/-- The ISO 11783 address table: of each controller, its address and the state of its claim (R435). DESIGN CHOICE: the spec gives the message no layout
(log entry 52). -/
def Lane.addressTable (l : Lane) : List Word :=
  (List.range 6).map fun n => BitVec.ofNat 32 (l.rd CAN.STATUS_ISO_STATE n * 2 ^ 8 + l.rd CAN.STATUS_ADDR n)

/-- NET_DIAG: network counters. -/
def execNetDiag (l : LaneId) (t m : Nat) (s : State) : Host.Outcome State Fault Refusal :=
  let n := (s.lane l).atTick t
  .next (s.setLane l (if 2 ≤ m then n.mailTake m 0x21 fun _ k => k.replyBytes (replyBox m) 0x21 (k.netCounters.flatMap wordBytes) else n))

/-- ADDR_TABLE: the ISO 11783 address table. -/
def execAddrTable (l : LaneId) (t m : Nat) (s : State) : Host.Outcome State Fault Refusal :=
  let n := (s.lane l).atTick t
  .next (s.setLane l (if 2 ≤ m then n.mailTake m 0x22 fun _ k => k.replyBytes (replyBox m) 0x22 (k.addressTable.flatMap wordBytes) else n))

/-- ERROR: the part takes an ERROR message, which changes nothing else; a message that is not sound is rejected with one. -/
def execError (l : LaneId) (t m : Nat) (s : State) : Host.Outcome State Fault Refusal :=
  .next (s.setLane l (((s.lane l).atTick t).mailTake m 0x7F fun _ n => n))

/-! ### Authentication (R374 to R376, R378, R380 to R382, R505) -/

/-- The opcodes that a delivery session permits. -/
def deliveryOpcodes : List Nat := [0x00, 0x02, 0x03, 0x08, 0x09, 0x0A, 0x30, 0x31, 0x32]

/-- The agreement image of a command. -/
def Lane.imageOf (l : Lane) (q : Nat) (d : Desc) (hash : Nat) : CmdImage :=
  { cid := d.cid, flags := d.flags, opcode := d.opcode, length := d.length, args := d.args, queue := q, fn := l.queueFn q, hash := hash }

/-- Whether the tag of a command of queue q verifies (R375): AES-256-CMAC under the session key over descriptor bytes 0 to 47, the byte q, and the
payload of an In command. -/
def Lane.tagHolds (l : Lane) (q : Nat) (c : Cmd) (data : List Word) : Bool :=
  decide (Config.cmac (l.sessionKey (l.queueFn q))
    (((List.range 12).flatMap fun k => wordBytes (c.raw.getD k 0)) ++ BitVec.ofNat 8 q :: data.flatMap wordBytes) = c.tag)

/-- A class A command that this lane has authenticated: unavailable outside the voting set; completed with the agreed result when it was agreed
before; else submitted for agreement. -/
def Lane.submit (l : Lane) (q : Nat) (c : Cmd) (hash : Nat) : Lane :=
  if !l.own.healthy then l.completeCmd q 0x0B l.own.code
  else
    let img := l.imageOf q c.desc hash
    let p : Pending := { img := img, seq := c.desc.seq, sqHead := l.rd QDM.SQ_PTR_HEAD q, irq := c.desc.flags.testBit 0, bytes := c.bytes
                         pay := c.pay, since := l.clk.now }
    let l1 := l.setQp q { l.qp q with cmd := none }
    match l.hif.agreed.find? fun a => decide (a.img = img) with
    | some a =>
      let l2 := l1.onHif fun h => { h with agreed := h.agreed.erase a, authed := h.authed ++ [{ p with seen := true }] }
      if a.needs then l2.lateApply img c.pay a else l2.finishFrom a.from_ img false a.status a.r0 a.r1
    | none => (l1.onHif fun h => { h with authed := h.authed ++ [p] }).sendCtl 3 (.hostCmd img)

/-- The command in hand of queue q has arrived whole: its tag and SEQ are checked, and it is executed here or submitted. In RESYNC, FENCED and SYNC
each command completes with LANE_UNAVAILABLE (R380). -/
def Lane.authenticate (l : Lane) (q : Nat) (c : Cmd) (tagOk : Bool) (hash : Nat) : Lane :=
  let seq := l.word (QDM.QP_SEQ_SEQ.at_ q 0)
  if (l.session (l.queueFn q)).isNone || !tagOk || decide (seq = 0) then ((l.completeCmd q 5).bump HIF.CMD_ERR_AUTH).fault 0xA8
  else if c.desc.seq ≠ seq then ((l.completeCmd q 6 seq.toNat).bump HIF.CMD_ERR_SEQ).fault 0xA9
  else
    let l1 := l.setWord (QDM.QP_SEQ_SEQ.at_ q 0) (seq + 1)
    if l.own.outside then l1.completeCmd q 0x0B l.own.code
    else if l.hif.delivery && decide (l.queueFn q = 0) && !deliveryOpcodes.contains c.desc.opcode then l1.completeCmd q 8 1
    else match opRow c.desc.opcode with
      | some r => if r.agreed then l1.submit q c hash else l1.setQp q { l1.qp q with cmd := some { c with stage := .ready } }
      | none => l1

/-! ### Fetching (R366, R367, R369, R380) -/

/-- Whether queue q may fetch its next descriptor: the completion of a command handed to agreement does not hold it back (R366). -/
def Lane.mayFetch (l : Lane) (q : Nat) : Bool :=
  decide (q < 8) && l.on QDM.QP_CFG_ENABLE q && l.fnRuns (l.queueFn q) && (l.qp q).cmd.isNone && !(l.qp q).stopping &&
    ((l.qp q).waiting.all fun c => c.late || decide (l.clk.cycles < c.due)) && l.cqRoom q && decide (l.rd QDM.SQ_PTR_HEAD q ≠ l.rd QDM.SQ_PTR_TAIL q)

/-- DESCRIPTOR_FETCH: words 0 to 11 of the descriptor read at the submission head, and its tag; that of an In command is checked after its payload
(R375). -/
def execDescriptorFetch (l : LaneId) (t q : Nat) (ws : List Word) (tag : BitVec 128) (s : State) : Host.Outcome State Fault Refusal :=
  let n := (s.lane l).atTick t
  let d := Desc.ofWords ws
  .next (s.setLane l (n.gated 5
    (if n.mayFetch q then
       let head := n.rd QDM.SQ_PTR_HEAD q
       let c : Cmd := { desc := d, slot := head, raw := ws, tag := tag }
       let n1 := ((n.emit (.hostRead (n.sqSlot q head) 64)).wr QDM.SQ_PTR_HEAD ((head + 1) % n.sqSize q) q).setQp q { n.qp q with cmd := some c }
       if n.hif.updated then n1.completeCmd q 0x0B n.own.code
       else if !descOk d then ((n1.completeCmd q 3).bump HIF.CMD_ERR_FORMAT).fault 0xAE
       else if !n.permitted d.opcode q then n1.completeCmd q 4
       else match opRow d.opcode with
         | some r =>
           if r.pay = .input then n1.setQp q { n1.qp q with cmd := some { c with stage := .input } }
           else n1.authenticate q c (n1.tagHolds q c []) 0
         | none => n1
     else n)))

/-! ### Bursts (R388, R390, R391) -/

/-- The number of bytes of a transfer. -/
def Cmd.total (c : Cmd) : Nat := match c.stage with | .output => 4 * c.data.length | _ => c.desc.length

/-- PAYLOAD_BURST: the next burst of queue q, up to the next 256-byte boundary; hostOk says that the host answered it. With the last burst of
an In command come the words of its payload, its hash, and what it spells. -/
def execPayloadBurst (l : LaneId) (t q : Nat) (hostOk : Bool) (data : List Word) (hash : Nat) (pay : Payload) (s : State) :
    Host.Outcome State Fault Refusal :=
  let n := (s.lane l).atTick t
  .next (s.setLane l (n.gated 5
    (match decide (q < 8) && n.winsBurst q, (n.qp q).cmd with
    | true, some c =>
      let w := c.desc.addr.toNat + c.bytes
      let n1 := n.issueBurst q w
      let toHost := decide (c.stage = .output)
      let size := min (256 - w % 256) (c.total - c.bytes)
      let (kind, host) := n1.translate q w toHost
      if kind ≠ 0 then n1.burstFault q w kind toHost c
      else if !hostOk then (n1.cached w).burstFault q w 6 toHost c
      else
        let c1 := { c with bytes := c.bytes + size }
        let n2 := n1.cached w
        let n3 := if toHost then n2.emit (.hostWrite (BitVec.ofNat 64 host) ((c.data.drop (c.bytes / 4)).take (size / 4)))
          else n2.emit (.hostRead (BitVec.ofNat 64 host) size)
        if c1.bytes < c.total then n3.setQp q { n3.qp q with cmd := some c1 }
        else if toHost then (n3.setQp q { n3.qp q with cmd := some c1 }).completeCmd q 0 c.r0
        else
          let c2 := { c1 with pay := pay }
          (n3.setQp q { n3.qp q with cmd := some c2 }).authenticate q c2 (n3.tagHolds q c2 data) hash
    | _, _ => n)))

end Sys2Proof.Machine
end

