-- ==== Sys2Proof/Machine/Power.lean ====
section
/-!
DEFINITION. Power states and votes (R464 to R481): voters, lane-level entries, drops of domains, wakes, and the key-off requests.
-/
namespace Sys2Proof.Machine

open Sys2Proof

/-! ### Votes (R467, R468, R470) -/

/-- Whether an entry request has withdrawn voter 0, and its target. -/
def Lane.entryTarget (l : Lane) : Nat :=
  match l.pmu.request, l.pmu.accepted, l.pmu.entry with
  | some r, _, _ => r.1
  | none, some k, _ => k
  | none, none, some e => e.target
  | none, none, none => 0

/-- Whether a debug session is open. -/
def Lane.debugOpen (l : Lane) : Bool := decide (l.sec.level ≠ 0) || (decide (l.otp.lifecycle = 1) && l.on DBG.STATUS_ATTACHED)

/-- Whether a start-up test of R308 is pending at input k. -/
def Lane.testPending (l : Lane) (k : Nat) : Bool := l.on SFU.IN_CFG_ENABLE k && l.on SFU.IN_CFG_SINGLE k && !(l.safeIn k).tested

/-- Whether a voter's condition holds (R468). Voter 2 counts the modes in which this lane takes part: a lane in BOOT, SYNC or FENCED may enter BANK
or EMBER in every mode (R469). -/
def Lane.voterHolds (l : Lane) (v : Nat) : Bool :=
  let part := match l.own with | .standby | .authority | .resync | .update => true | _ => false
  match v with
  | 1 => part && !(decide (2 ≤ l.entryTarget) && decide (l.xla.mode = .snuffed))
  | 2 => decide (l.xla.mode ≠ .snuffed) && part
  | 3 => l.gdc.released || l.chopperOn l.clk.now || l.gdc.dump.getLsbD 17
  | 4 => l.on HIF.STATUS_LINK_UP && (l.busMaster 0 || l.busMaster 1)
  | 5 => (List.range 8).any (fun q => l.transfers q || !(l.qp q).waiting.isEmpty) || !l.hif.authed.isEmpty
  | 6 => decide (l.rd MBX.STATUS_FULL ≠ 0)
  | 7 => !l.stm.page.isEmpty || !l.stm.held.isEmpty || l.norBusy || l.on STM.STATUS_NAND_BUSY
  | 8 => l.on WCK.CFG_ENABLE || (List.range 6).any fun n => l.on CAN.CTRL_ENABLE n
  | 9 => (List.range 6).any fun n => decide (l.rd CAN.STATUS_ISO_STATE n = 2)
  | 10 => l.on BST.STATUS_RUNNING
  | 11 => l.debugOpen
  | 12 => l.hif.authed.any fun p => decide (p.img.opcode = 0xFF) || decide (p.img.opcode = 0xFE)
  | 13 => l.stage.isOpen || l.hif.commit.isSome
  | 15 => (l.safeOut 0).on || (l.safeOut 1).on || (List.range 8).any l.testPending
  | _ => false

/-- The domains of a voter that holds the same domains while its condition holds. -/
def voterDomains (v : Nat) : List Nat :=
  match v with
  | 1 => [0, 1, 2, 5, 6]
  | 2 => [0, 1, 2, 6]
  | 3 | 15 => [6]
  | 4 | 5 => [0, 5]
  | 6 | 12 => [0]
  | 7 => [0, 4]
  | 8 => [3, 5]
  | 9 => [0, 3]
  | 10 | 11 => [0, 1, 2, 3, 4, 5, 6]
  | 13 => [0, 1, 2]
  | _ => []

/-- Whether voter v holds domain d. The CPU domain, where KEEP is ignored, is kept in RUN. -/
def Lane.holds (l : Lane) (v d : Nat) : Bool :=
  match v with
  | 0 => decide (l.entryTarget = 0) && (decide (d = 0) || l.on PMU.DOM_CFG_KEEP d)
  | 14 => (l.rd PMU.HOST_VOTE_DOM).testBit d
  | _ => (voterDomains v).contains d && l.voterHolds v

/-- The voters that hold domain d, lowest first. -/
def Lane.votersOf (l : Lane) (d : Nat) : List Nat := (List.range 16).filter fun v => l.holds v d

/-! ### Domain states and accounts (R466, R477) -/

/-- The state of domain d in PMU.DOM_STATE, and the lane with it replaced. -/
def Lane.domState (l : Lane) (d : Nat) : Nat := bitsOf (l.word PMU.DOM_STATE_STATE.key) (2 * d) 2
def Lane.setDom (l : Lane) (d st : Nat) : Lane :=
  l.setWord PMU.DOM_STATE_STATE.key (setBits (l.word PMU.DOM_STATE_STATE.key) (2 * d) 2 st)

/-- The domains that a target stops (R469). -/
def stops (target : Nat) : List Nat := if target = 1 then [0, 1, 2, 3, 4, 6] else [0, 1, 2, 3, 4, 5, 6]

/-- A refusal is counted against the domain that it names. -/
def Lane.countRefused (l : Lane) (d kind number : Nat) : Lane :=
  ((l.wrapInc PMU.DOM_ACCT_REFUSED d).wr PMU.DOM_ACCT_KIND kind d).wr PMU.DOM_ACCT_NUMBER number d

/-- An abandoned entry is counted against a domain. -/
def Lane.countAborted (l : Lane) (point number : Nat) (d : Nat) : Lane :=
  (((l.wrapInc PMU.DOM_ACCT_ABORTED d).wr PMU.DOM_ACCT_POINT point d).wr PMU.DOM_ACCT_KIND 1 d).wr PMU.DOM_ACCT_NUMBER number d

/-- PMU.ENTRY_RESULT of the last lane-level request. -/
def Lane.entryResult (l : Lane) (result target point kind dom number : Nat) : Lane :=
  let l1 := ((l.setWord PMU.ENTRY_RESULT_RESULT.key 0).wr PMU.ENTRY_RESULT_RESULT result).wr PMU.ENTRY_RESULT_TARGET target
  ((l1.wr PMU.ENTRY_RESULT_POINT point).wr PMU.ENTRY_RESULT_KIND kind).wr PMU.ENTRY_RESULT_DOMAIN dom |>.wr PMU.ENTRY_RESULT_NUMBER number

/-- The lane with its power unit replaced by a function of it. -/
def Lane.onPmu (l : Lane) (f : Pmu → Pmu) : Lane := { l with pmu := f l.pmu }

/-! ### Entry of the lane (R470 to R475) -/

/-- A request is refused: every withdrawn vote returns. -/
def Lane.refuseEntry (l : Lane) (target kind dom number : Nat) : Lane :=
  (((l.onPmu fun p => { p with request := none }).entryResult 2 target 0 kind dom number).countRefused dom kind number).fault 0xDD

/-- The shutdown notice (R471): the drive die takes the Snuff action and holds the notice. -/
def Lane.shutdownNotice (l : Lane) : Lane :=
  let l1 := l.snuffDrive
  { l1 with drive := { l1.drive with notice := true } }

/-- The notice clears when the die-to-die interface is re-initialised. -/
def Lane.clearNotice (l : Lane) : Lane := { l with drive := { l.drive with notice := false } }

/-- The step of a drop in progress, 0 for none. -/
def Lane.dropStep (l : Lane) (d : Nat) : Nat := Sparse.get 0 l.pmu.drops d

/-- The domain states that an abandoned entry returns to: a domain whose own drop was in progress is ON. -/
def Lane.savedDoms (l : Lane) : Word :=
  (List.range 7).foldl (fun (w : Word) d => if l.dropStep d ≠ 0 then setBits w (2 * d) 2 0 else w) (l.word PMU.DOM_STATE_STATE.key)

/-- The entry steps begin, in place of the drops in progress. For BANK and EMBER the lane is OFF and outside the voting set. -/
def Lane.startEntry (l : Lane) (target : Nat) : Lane :=
  let l1 := (l.onPmu fun p => { p with request := none, accepted := none, shown := false, drops := [], dropWake := []
                                       entry := some { target := target, saved := l.savedDoms, since := l.clk.now } }).shutdownNotice
  let l2 := (stops target).foldl (fun (n : Lane) d => n.setDom d 3) l1
  if target = 1 then l2 else (l2.goState .off).onXla fun x => { x with vset := x.vset.set l.id false }

/-- A request for entry into a state: DOZE outside SYNC and FENCED is refused; else the open recorder page is programmed and the PMU waits for the
draining voters. A request during another has no effect. -/
def Lane.requestEntry (l : Lane) (target : Nat) : Lane :=
  if l.entryTarget ≠ 0 ∨ target = 0 ∨ l.pmu.power ≠ .run then l
  else if target = 1 ∧ l.own ≠ .sync ∧ l.own ≠ .fenced then l.refuseEntry 1 1 0 0xE
  else (l.onPmu fun p => { p with request := some (target, l.clk.now) }).flushPage

/-- Whether a draining voter still holds a domain that the target stops. -/
def Lane.draining (l : Lane) (target : Nat) : Bool := (stops target).any fun d => [5, 7, 12].any fun v => l.holds v d

/-- The first domain still held of those that the target stops, with its lowest voter. -/
def Lane.stillHeld (l : Lane) (target : Nat) : Option (Nat × Nat) :=
  ((stops target).filterMap fun d => (l.votersOf d).head?.map fun v => (d, v)).head?

/-- The end of the wait: 50 ms (30,000,000 ticks) have passed, or the draining voters have withdrawn. An accepted request for BANK or EMBER ends the
requests of R480. DESIGN CHOICE: a lane that wakes with the key still off begins them anew, with the self-test (log entry 58). -/
def Lane.drainEnd (l : Lane) : Lane :=
  match l.pmu.request with
  | some (target, t0) =>
    if !l.draining target || decide (t0 + 30000000 ≤ l.clk.now) then
      match l.stillHeld target with
      | some (d, v) => l.refuseEntry target 0 d v
      | none => if target = 1 then l.startEntry target
                else
                  let l1 := l.onPmu fun p => { p with keyReq := none, keyTest := false }
                  if l.sec.silent then l1.startEntry target
                  else l1.onPmu fun p => { p with request := none, accepted := some target, shown := false }
    else l
  | none => l

/-- The lane leaves OFF for BOOT with nothing lost (R475, R481); one that is held is FENCED as before (R125). -/
def Lane.quickBoot (l : Lane) : Lane :=
  { l.goState (if l.heldFenced then .fenced else .boot) with boot := { released := l.clk.now, loaded := l.boot.loaded, quick := true } }

/-- A lane-level entry is abandoned at an abort point (R473, R475). -/
def Lane.abandonEntry (l : Lane) (e : Entry) (number : Nat) : Lane :=
  let l1 := (l.onPmu fun p => { p with entry := none }).setWord PMU.DOM_STATE_STATE.key e.saved
  let l2 := (stops e.target).foldl (fun (n : Lane) d => n.countAborted e.step number d) l1
  let l3 := (l2.entryResult 3 e.target e.step 1 0 number).fault 0xDC
  if e.target = 1 then l3.clearNotice else l3.quickBoot

/-- The level of PWR_EN_CORE: it falls 100 µs (60,000 ticks) after PWR_EN_IO at an entry to EMBER, and rises with the wake (R464). -/
def Lane.pwrEnCore (l : Lane) : Bool := match l.pmu.coreOff with | some k => decide (l.clk.now < k) | none => true

/-- Before BANK and EMBER the recorder page is programmed, with the record of the entry itself (R456). A domain that an entry of the lane has completed
for: GATED by DOZE, RETAINED by BANK; EMBER shows the code of RETAINED. -/
def Lane.completeEntry (l : Lane) (e : Entry) : Lane :=
  let st := if e.target = 1 then 1 else 2
  let l0 := l.record 0x0B [0, e.target, 0]
  let l1 := (stops e.target).foldl (fun (n : Lane) d => n.setDom d st) (if e.target = 1 then l0 else l0.flushPage)
  let l2 := l1.entryResult 1 e.target 0 0 0 0
  match e.target with
  | 1 => l2.onPmu fun p => { p with entry := none, power := .doze }
  | 2 => ({ l2 with sec := { l2.sec with level := 0, ask := none } } : Lane).wr PMU.SUPPLY_GOOD (l2.rd PMU.SUPPLY_GOOD % 2) |>.onPmu
      fun p => { p with entry := none, power := .bank, enIo := false }
  | _ => ({ l2 with sec := { l2.sec with level := 0, ask := none } } : Lane).wr PMU.SUPPLY_GOOD 0 |>.onPmu
      fun p => { p with entry := none, power := .ember, enIo := false, coreOff := some (l.clk.now + 60000) }

/-! ### Wakes (R474, R478, R481) -/

/-- PMU.WAKE_STATUS of a wake, with the own record of R455 type 0x0B. -/
def Lane.wakeShown (l : Lane) (src : Nat) (from_ : Nat) : Lane :=
  (((l.wr PMU.WAKE_STATUS_SOURCE src).wr PMU.WAKE_STATUS_FROM from_).wrapInc PMU.WAKE_STATUS_COUNT).record 0x0B [from_, 0, src]

/-- The lane wakes from the state it has reached. From EMBER the core supply is enabled, and the lane restarts once its rails are good (R464). -/
def Lane.wakeUp (l : Lane) (src : Nat) : Lane :=
  match l.pmu.power with
  | .run => l
  | .doze => ((l.wakeShown src 1).setWord PMU.DOM_STATE_STATE.key 0).clearNotice.onPmu fun p => { p with power := .run }
  | .bank => (((l.wakeShown src 2).setWord PMU.DOM_STATE_STATE.key 0).onPmu fun p => { p with power := .run, enIo := true }).quickBoot
  | .ember => if l.pmu.waking then l else (l.wakeShown src 3).onPmu fun p => { p with waking := true, coreOff := none }

/-- Whether a wake source wakes the lane from a power state (R478). -/
def wakes (p : Power) (src : Nat) : Bool :=
  match p with
  | .run => false
  | .doze => decide (1 ≤ src) && decide (src ≤ 7)
  | .bank => [1, 3, 4, 5, 7].contains src
  | .ember => [1, 3, 4].contains src

/-- The power state that an entry leads to. -/
def targetPower (t : Nat) : Power := match t with | 1 => .doze | 2 => .bank | _ => .ember

/-- A wake event: a disabled source has no effect; during an entry it waits for the next abort point or for completion. -/
def Lane.wakeEvent (l : Lane) (src : Nat) : Lane :=
  if !(l.rd PMU.WAKE_CFG_EN).testBit (src - 1) then l
  else match l.pmu.entry with
    | some e =>
      if wakes (targetPower e.target) src && e.wake.isNone then l.onPmu fun p => { p with entry := some { e with wake := some src } } else l
    | none => if wakes l.pmu.power src then l.wakeUp src else l

/-- Whether step 1 of an entry or drop that began at a tick has overrun its bound of 2,048 fabric cycles, 4,096 ticks (R472). -/
def Lane.overran (l : Lane) (step since : Nat) : Bool := decide (step = 1) && decide (since + 4096 < l.clk.now)

/-- A step of the lane's entry ends: at abort points 1 to 3 a pending wake abandons it; step 4 completes it, and a latched event then wakes the
lane. -/
def Lane.entryStep (l : Lane) (e : Entry) : Lane :=
  if l.overran e.step e.since then l
  else if e.step < 4 then
    match e.wake with
    | some w => l.abandonEntry e w
    | none => l.onPmu fun p => { p with entry := some { e with step := e.step + 1 } }
  else
    match e.wake with
    | some w => (l.completeEntry e).wakeUp w
    | none => l.completeEntry e

/-! ### Drops of a domain in RUN (R467, R472 to R477) -/

/-- Whether a vote has arrived since a drop began. -/
def Lane.dropVoted (l : Lane) (d : Nat) : Bool := Sparse.get false l.pmu.dropWake d
/-- The lane with a domain's drop replaced. -/
def Lane.setDrop (l : Lane) (d step : Nat) (voted : Bool) : Lane :=
  l.onPmu fun p => { p with drops := Sparse.set 0 p.drops d step, dropWake := Sparse.set false p.dropWake d voted }

/-- The last vote of a domain is withdrawn: its drop begins. -/
def Lane.voteGone (l : Lane) (d : Nat) : Lane :=
  if decide (1 ≤ d) && decide (d ≤ 6) && decide (l.pmu.power = .run) && decide (l.entryTarget = 0) && decide (l.domState d = 0) &&
      (l.votersOf d).isEmpty then
    let l1 := ((l.onPmu fun p => { p with dropAt := Sparse.set 0 p.dropAt d l.clk.now }).setDrop d 1 false).setDom d 3
    if d = 6 then l1.shutdownNotice else l1
  else l

/-- A domain is ON again; the die-to-die interface of the DRV domain is re-initialised. -/
def Lane.domBack (l : Lane) (d : Nat) : Lane :=
  let l1 := (l.setDrop d 0 false).setDom d 0
  if d = 6 then l1.clearNotice else l1

/-- A drop in progress is abandoned at an abort point, with its cause. -/
def Lane.abandonDrop (l : Lane) (d number : Nat) : Lane := ((l.countAborted (l.dropStep d) number d).domBack d).fault 0xDC

/-- A vote arrives for a domain that is dropping or has dropped. -/
def Lane.voteComes (l : Lane) (d : Nat) : Lane :=
  if decide (d ≤ 6) && decide (l.pmu.power = .run) && !(l.votersOf d).isEmpty then
    if l.dropStep d ≠ 0 then l.setDrop d (l.dropStep d) true
    else if l.domState d = 1 ∨ l.domState d = 2 then l.domBack d else l
  else l

/-- A step of a domain's drop ends. -/
def Lane.dropEnds (l : Lane) (d : Nat) : Lane :=
  let k := l.dropStep d
  if k = 0 ∨ l.overran k (Sparse.get 0 l.pmu.dropAt d) then l
  else if k < 4 then if l.dropVoted d then l.abandonDrop d 8 else l.setDrop d (k + 1) false
  else if l.dropVoted d then l.domBack d
  else (l.setDrop d 0 false).setDom d (if l.on PMU.DOM_CFG_DROP d then 2 else 1)

/-- QUIESCE_TIMEOUT: step 1 of an entry of the lane (d = 7) or of a drop has taken more than 2,048 fabric cycles. -/
def Lane.quiesceLate (l : Lane) (d : Nat) : Lane :=
  if d = 7 then
    match l.pmu.entry with
    | some e => if l.overran e.step e.since then l.abandonEntry e 0xF else l
    | none => l
  else if l.overran (l.dropStep d) (Sparse.get 0 l.pmu.dropAt d) then l.abandonDrop d 0xF else l

/-! ### Key-off (R480) -/

/-- The state that the lane seeks at key-off: 0 none, 2 BANK, 3 EMBER; EMBER after a failed key-off test (R532). -/
def Lane.keyoffState (l : Lane) : Nat := if l.sec.silent then 3 else match l.rd PMU.KEYOFF_STATE with | 2 => 2 | 3 => 3 | _ => 0

/-- A request at key-off, whose repetition is due 100 ms later. -/
def Lane.keyoffRequest (l : Lane) : Lane := (l.onPmu fun p => { p with keyReq := some l.clk.now }).requestEntry l.keyoffState

/-- The key has been off for DELAY: the self-test is due, or where none is permitted requests begin. -/
def Lane.keyoffDue (l : Lane) : Lane :=
  match l.pmu.keyOffAt with
  | some k =>
    if !l.pmu.key && decide (l.keyoffState ≠ 0) && decide (k + 600000 * l.rd PMU.KEYOFF_DELAY ≤ l.clk.now) && !l.pmu.keyTest &&
        l.pmu.keyReq.isNone then
      if l.otp.selfTest then l.onPmu fun p => { p with keyTest := true } else l.keyoffRequest
    else l
  | none => l

/-- Every 100 ms (60,000,000 ticks) the request is repeated, until one is accepted or the key returns. -/
def Lane.keyoffRetry (l : Lane) : Lane :=
  match l.pmu.keyReq with
  | some k => if !l.pmu.key && decide (k + 60000000 ≤ l.clk.now) then l.keyoffRequest else l
  | none => l

end Sys2Proof.Machine
end

