-- ==== Sys2Proof/Machine/View.lean ====
section
/-!
DEFINITION. What a register shows when it is read: the stored word, with the fields that only show state held elsewhere computed
from that state.
-/
namespace Sys2Proof.Machine

open Sys2Proof

/-- A word with a list of fields set. -/
def setFlds (w : Word) (fs : List (Fld × Nat)) : Word := fs.foldl (fun (v : Word) e => setBits v e.1.lo e.1.w e.2) w

/-- The register of a field, in element (i, j), as a field shows it. -/
def Fld.isAt (f : Fld) (k : Nat) (i : Nat := 0) (j : Nat := 0) : Bool := f.at_ i j == k

/-- The number whose bit i says whether p holds of i, for i below n. -/
def maskOf (n : Nat) (p : Nat → Bool) : Nat := natSum ((List.range n).map fun i => if p i then 2 ^ i else 0)

/-! ### Block 0x00 to 0x0F -/

/-- BCN.LS_STATUS.MISMATCH and XLA's state registers (R89, R141). -/
def Lane.viewXla (l : Lane) (k : Nat) (w : Word) : Word :=
  let x := l.xla
  if k = BCN.LS_STATUS_MISMATCH.key then setFlds w [(BCN.LS_STATUS_MISMATCH, l.rd BCN.LS_CLEAR_MISMATCH)]
  else if k = XLA.AUTH_STATE_VSET.key then
    setFlds 0 [(XLA.AUTH_STATE_HELD, x.held.toNat), (XLA.AUTH_STATE_AUTH_LANE, x.authCode), (XLA.AUTH_STATE_SYS_MODE, x.mode.code),
      (XLA.AUTH_STATE_VSET, x.vset.mask), (XLA.AUTH_STATE_LSTATE_C, x.lst.c.code), (XLA.AUTH_STATE_LSTATE_B, x.lst.b.code),
      (XLA.AUTH_STATE_LSTATE_A, x.lst.a.code)]
  else if k = XLA.LANE_ID_LANE.key then
    setFlds 0 [(XLA.LANE_ID_CANDIDATE, (l.candidate l.id).toNat), (XLA.LANE_ID_LANE, l.id.code)]
  else if XLA.LINK_STATUS_PEER.isAt k 0 then setFlds w [(XLA.LINK_STATUS_PEER, (l.peerOf 0).code)]
  else if XLA.LINK_STATUS_PEER.isAt k 1 then setFlds w [(XLA.LINK_STATUS_PEER, (l.peerOf 1).code)]
  else if k = XLA.FENCE_STATUS_TOTAL.key then l.fenceWord
  else w

/-- FCL.SRC_STATUS of source n (R358). -/
def Lane.srcStatus (l : Lane) (n : Nat) : Word :=
  let s := l.src n
  let rec_ := (within l.clk.cycles (l.msCycles (1000 * l.rd FCL.SRC_REC_W n)) s.recov).length
  setFlds 0 [(FCL.SRC_STATUS_EVENTS, s.events), (FCL.SRC_STATUS_RECOVERIES, min 15 rec_), (FCL.SRC_STATUS_LAST_SEV, s.lastSev.code),
    (FCL.SRC_STATUS_MERGED, s.merged.toNat), (FCL.SRC_STATUS_STICKY, s.sticky.toNat), (FCL.SRC_STATUS_ACTIVE, s.active.toNat),
    (FCL.SRC_STATUS_CONDITION, s.level.toNat)]

/-- The fault collector's state registers (R358). -/
def Lane.viewFcl (l : Lane) (k : Nat) (w : Word) : Word :=
  let d := l.fclDemandWord
  if k = FCL.STATUS_ACTIVE_N.key then
    setFlds w [(FCL.STATUS_ACTIVE_N, satN 8 (l.fcl.src.filter fun e => e.2.active).length),
      (FCL.STATUS_STICKY_N, satN 8 (l.fcl.src.filter fun e => e.2.sticky).length), (FCL.STATUS_DEMAND_STO, d / 2),
      (FCL.STATUS_DEMAND_SS1, d), (FCL.STATUS_MAJOR, d / 4), (FCL.STATUS_MINOR, d / 8), (FCL.STATUS_LOADED, l.rd FCL.STATUS_LOADED)]
  else if FCL.ACTIVE_SRC.key ≤ k ∧ k < FCL.ACTIVE_SRC.key + 32 then
    BitVec.ofNat 32 (maskOf 32 fun b => (l.src ((k - FCL.ACTIVE_SRC.key) / 4 * 32 + b)).active)
  else if FCL.STICKY_SRC.key ≤ k ∧ k < FCL.STICKY_SRC.key + 32 then
    BitVec.ofNat 32 (maskOf 32 fun b => (l.src ((k - FCL.STICKY_SRC.key) / 4 * 32 + b)).sticky)
  else if FCL.SRC_STATUS_EVENTS.key ≤ k ∧ k < FCL.SRC_STATUS_EVENTS.key + 1024 then l.srcStatus ((k - FCL.SRC_STATUS_EVENTS.key) / 4)
  else w

/-- The lane's own source address, loaded from OTP (R415). -/
def Lane.viewWck (l : Lane) (k : Nat) (w : Word) : Word :=
  if k = WCK.MAC_LO_ADDR.key then BitVec.ofNat 32 l.otp.mac
  else if k = WCK.MAC_HI_ADDR.key then BitVec.ofNat 32 (l.otp.mac / 2 ^ 32)
  else w

/-- Word i of a number that OTP holds as bytes, the first in the lowest bits. -/
def wordOf (n i : Nat) : Word := BitVec.ofNat 32 (n / 2 ^ (32 * i))

/-- The identity registers, loaded from OTP (R515, R516, R524), by offset. -/
def Lane.viewIdb (l : Lane) (o : Nat) : Word :=
  let i := o / 4
  if o < 0x10 then l.otp.dieLane.getD i 0
  else if o < 0x20 then l.otp.dieDrive.getD (i - 4) 0
  else if o < 0x28 then wordOf l.otp.serial.toNat (i - 8)
  else if o < 0x40 then BitVec.ofNat 32 l.id.code
  else if o < 0x80 then wordOf l.otp.pkgBind.toNat (i - 16)
  else if o < 0x100 then wordOf l.otp.pkgSig.toNat (i - 32)
  else if o < 0x180 then wordOf l.otp.idKey.toNat (i - 64)
  else wordOf l.otp.idCert.toNat (i - 96)

/-- Vigil's and the debug unit's state registers (R522 to R524, R540). -/
def Lane.viewSec (l : Lane) (k : Nat) (w : Word) : Word :=
  if k = SEC.STATUS_SLOT.key then
    setFlds w [(SEC.STATUS_CUST_KEY, l.otp.custKey.isSome.toNat), (SEC.STATUS_DELIVERY, (l.hif.sess0.isSome && l.hif.delivery).toNat),
      (SEC.STATUS_KEY0_REVOKED, l.otp.revoked0.toNat), (SEC.STATUS_UPDATE_READY, l.updateReady.toNat),
      (SEC.STATUS_DBG_LEVEL, l.sec.level), (SEC.STATUS_DBG_FAILS, min 3 (within l.clk.now tenMinutes l.sec.fails).length),
      (SEC.STATUS_DBG_BLOCKED, l.sec.blocked.isSome.toNat)]
  else if k = SEC.CTR_FW.key then setFlds 0 [(SEC.CTR_FW, l.otp.ctrFw), (SEC.CTR_CFG, l.otp.ctrCfg)]
  else if k = LCS.STATE_STATE.key then
    setFlds 0 [(LCS.STATE_SEALED, l.otp.sealed.toNat), (LCS.STATE_PARTIAL, l.otp.partly.toNat), (LCS.STATE_STATE, l.otp.lifecycle)]
  else if k = LCS.PERMIT_SCAN.key then BitVec.ofNat 32 l.otp.permit
  else if k / 0x10000 = 0x08 then l.viewIdb (k % 0x10000)
  else if k = DBG.STATUS_HALTED.key then
    setFlds w [(DBG.STATUS_HALTED, l.bcn.halted.toNat), (DBG.STATUS_REPLAY, l.bcn.replay.length)]
  else if k = DBG.TRACE_STATUS_WRITE_PTR.key then
    setFlds w [(DBG.TRACE_STATUS_WRAPPED, (decide (146 ≤ l.trc.count)).toNat), (DBG.TRACE_STATUS_WRITE_PTR, l.trc.count % 146 * 448)]
  else w

/-! ### Blocks 0x10, 0x11, 0x18, 0x19 -/

/-- The ready entries of a priority that wait for a core. -/
def Lane.readyAt (l : Lane) (prio : Nat) : Nat :=
  satN 8 ((l.pcl.waiting ++ [0, 1, 2, 3].flatMap fun c => (l.core c).queue).filter fun w => decide (w.prio = prio)).length

/-- The Percolator's and the Hopper's state registers (R173, R174). -/
def Lane.viewPcl (l : Lane) (k : Nat) (w : Word) : Word :=
  let c := l.activeCfg
  if k = PCL.STATUS_LOADED.key then
    setFlds w [(PCL.STATUS_ARC_COUNT, (usedArcs c.nodes c.arcs).length), (PCL.STATUS_ATOMIC, (l.computes && l.atomic).toNat),
      (PCL.STATUS_DRAINING, l.pcl.draining.toNat), (PCL.STATUS_BANK, l.pcl.bank), (PCL.STATUS_NODE_COUNT, c.nodes.length)]
  else if k = PCL.READY_P0.key then
    setFlds 0 [(PCL.READY_P3, l.readyAt 3), (PCL.READY_P2, l.readyAt 2), (PCL.READY_P1, l.readyAt 1), (PCL.READY_P0, l.readyAt 0)]
  else if k = PCL.RB_STATUS_USED.key then setFlds w [(PCL.RB_STATUS_USED, l.pcl.rels.length)]
  else if k = PCL.FLOW_CFG_ENABLE.key then setFlds w [(PCL.FLOW_CFG_ENABLE, l.rd PCL.STATUS_LOADED)]
  else if PCL.FLOW_STATUS_PENDING.key ≤ k ∧ k < PCL.FLOW_STATUS_PENDING.key + 64 then
    let f := (k - PCL.FLOW_STATUS_PENDING.key) / 4
    setFlds w [(PCL.FLOW_STATUS_PENDING, (l.pcl.rels.any fun r => decide (r.flow = f)).toNat),
      (PCL.FLOW_STATUS_IN_SERVICE, (l.inService f).toNat)]
  else if PCL.CTX_STATUS_USED.key ≤ k ∧ k < PCL.CTX_STATUS_USED.key + 16 then
    setFlds w [(PCL.CTX_STATUS_USED, (l.core ((k - PCL.CTX_STATUS_USED.key) / 4)).ctx.length)]
  else if PCL.CORE_STATUS_BUSY.key ≤ k ∧ k < PCL.CORE_STATUS_BUSY.key + 16 then
    match (l.core ((k - PCL.CORE_STATUS_BUSY.key) / 4)).run with
    | some r => setFlds 0 [(PCL.CORE_STATUS_BUSY, 1), (PCL.CORE_STATUS_PRIO, r.prio), (PCL.CORE_STATUS_NODE, r.node)]
    | none => 0
  else if k = HOP.STATUS_USED.key then setFlds w [(HOP.STATUS_USED, l.pcl.hop.length)]
  else if k = HOP.LATCH_DATA_VALUE.key then
    let a := l.rd HOP.LATCH_SEL_ARC
    if arcLatched (l.pcl.arc l.pcl.bank a) then (Sparse.get 0 l.pcl.latched (4096 * l.pcl.bank + a)).setWidth 32 else 0
  else w

/-- The committed state of loop slot s in element k of its four status registers (R208). -/
def Lane.viewSlot (l : Lane) (s reg : Nat) : Word :=
  let st := Sparse.get {} l.cen.slots s
  match reg with
  | 0 => setFlds 0 [(CEN.SLOT_STATUS_VALID, st.valid.toNat), (CEN.SLOT_STATUS_SAT_HI, st.satHi.toNat),
      (CEN.SLOT_STATUS_SAT_LO, st.satLo.toNat), (CEN.SLOT_STATUS_INT_HELD, st.intHeld.toNat),
      (CEN.SLOT_STATUS_FE_ACTIVE, st.feActive.toNat), (CEN.SLOT_STATUS_FE_COUNT, st.feCount)]
  | 1 => st.out.setWidth 32
  | 2 => st.err.setWidth 32
  | _ => (round18 st.integ).setWidth 32

/-- The low and the high word of a signed number (R15). -/
def lowWord (x : Int) : Word := BitVec.ofInt 32 x
def highWord (x : Int) : Word := BitVec.ofInt 32 (Int.fdiv x (2 ^ 32))

/-- The committed state of generator g in element reg of its state registers (R209). DESIGN CHOICE: the ramp time of a disabled generator reads 0
(log entry 75). -/
def Lane.viewGen (l : Lane) (g reg : Nat) : Word :=
  let st := Sparse.get {} l.cen.gens g
  match reg with
  | 0 => lowWord (Int.fdiv st.pos 65536)
  | 1 => highWord (Int.fdiv st.pos 65536)
  | 2 => lowWord st.vel
  | 3 => highWord st.vel
  | 4 => lowWord st.acc
  | 5 => highWord st.acc
  | 6 => BitVec.ofNat 32 (if unitEnabled l.regs (8 + g) then ceilDiv (l.rd PGN.AMAX_LIMIT g) (l.rd PGN.JMAX_LIMIT g) else 0)
  | _ => lowWord st.vcap

/-- Byte g of PGN.STATUS. -/
def Lane.genStatus (l : Lane) (g : Nat) : Nat :=
  let st := Sparse.get {} l.cen.gens g
  (unitEnabled l.regs (8 + g)).toNat + 2 * (decide (st.vel ≠ 0)).toNat + 4 * st.arrived.toNat + 8 * st.stopping.toNat
    + 16 * (decide (st.vcap < l.rd PGN.VMAX_LIMIT g)).toNat + 32 * st.preset.toNat

/-- The engine's state registers. -/
def Lane.viewCen (l : Lane) (k : Nat) (w : Word) : Word :=
  if k = CEN.STATUS_LOADED.key then
    setFlds 0 [(CEN.STATUS_LOADED, l.rd CEN.STATUS_LOADED),
      (CEN.STATUS_FE_ACTIVE, maskOf 8 fun s => (Sparse.get {} l.cen.slots s : SlotSt).feActive),
      (CEN.STATUS_ENABLED, maskOf 8 fun s => unitEnabled l.regs s)]
  else if k = CEN.TQ_FRACTION_TAU.key then BitVec.ofNat 32 l.sfu.tau
  else if CEN.SLOT_STATUS_VALID.key ≤ k ∧ k < CEN.SLOT_STATUS_VALID.key + 128 then
    l.viewSlot ((k - CEN.SLOT_STATUS_VALID.key) / 16) ((k - CEN.SLOT_STATUS_VALID.key) % 16 / 4)
  else if k = PGN.STATUS_GEN.key then BitVec.ofNat 32 (natSum ((List.range 4).map fun g => l.genStatus g * 256 ^ g))
  else if k = PGN.RATE_FRACTION_C.key then BitVec.ofNat 32 l.sfu.frac
  else if PGN.POS_LO_POS.key ≤ k ∧ k < PGN.POS_LO_POS.key + 128 then
    l.viewGen ((k - PGN.POS_LO_POS.key) / 32) ((k - PGN.POS_LO_POS.key) % 32 / 4)
  else w

/-! ### Blocks 0x20 to 0x24 -/

/-- The position feedback unit's state registers (R273). -/
def Lane.viewPfb (l : Lane) (k : Nat) (w : Word) : Word :=
  if k = PFB.STATUS_HALL.key then
    setFlds 0 [(PFB.STATUS_SENT, maskOf 2 fun s => (l.sentStatus s).testBit 0), (PFB.STATUS_SSI, maskOf 2 fun s => (l.ssiStatus s).testBit 0),
      (PFB.STATUS_ENC_SPD, maskOf 2 fun e => (l.encStatus e).testBit 1), (PFB.STATUS_ENC_POS, maskOf 2 fun e => (l.encStatus e).testBit 0),
      (PFB.STATUS_HALL, maskOf 2 fun h => (l.hallStatus h).testBit 6)]
  else if k = PFB.LINE_STATE_LINE.key then BitVec.ofNat 32 (maskOf 18 fun i => (l.line i).level.getD false)
  else if k = PFB.CHATTER_LINE.key then BitVec.ofNat 32 (maskOf 18 fun i => (l.line i).chatter.isSome)
  else if k = PFB.STUCK_LINE.key then BitVec.ofNat 32 (maskOf 18 fun i => (l.line i).stuck)
  else if PFB.HALL_STATUS_STATE.isAt k 0 then BitVec.ofNat 32 (l.hallStatus 0)
  else if PFB.HALL_STATUS_STATE.isAt k 1 then BitVec.ofNat 32 (l.hallStatus 1)
  else if PFB.ENC_STATUS_POS_VALID.isAt k 0 then BitVec.ofNat 32 (l.encStatus 0)
  else if PFB.ENC_STATUS_POS_VALID.isAt k 1 then BitVec.ofNat 32 (l.encStatus 1)
  else if PFB.HALL_COUNT_COUNT.isAt k 0 then BitVec.ofNat 32 (l.cnt 0).count
  else if PFB.HALL_COUNT_COUNT.isAt k 1 then BitVec.ofNat 32 (l.cnt 1).count
  else if PFB.ENC_COUNT_COUNT.isAt k 0 then BitVec.ofNat 32 (l.cnt 2).count
  else if PFB.ENC_COUNT_COUNT.isAt k 1 then BitVec.ofNat 32 (l.cnt 3).count
  else if PFB.SSI_STATUS_VALID.isAt k 0 then BitVec.ofNat 32 (l.ssiStatus 0)
  else if PFB.SSI_STATUS_VALID.isAt k 1 then BitVec.ofNat 32 (l.ssiStatus 1)
  else if PFB.SENT_STATUS_VALID.isAt k 0 then BitVec.ofNat 32 (l.sentStatus 0)
  else if PFB.SENT_STATUS_VALID.isAt k 1 then BitVec.ofNat 32 (l.sentStatus 1)
  else if PFB.PRB_STATUS_NEW.isAt k 0 then BitVec.ofNat 32 (l.prbStatus 0)
  else if PFB.PRB_STATUS_NEW.isAt k 1 then BitVec.ofNat 32 (l.prbStatus 1)
  else w

/-- The bits of a safe output in SFU.SO_STATUS. -/
def SafeOut.status (o : SafeOut) : Nat := o.on.toNat + 2 * o.readback.toNat + 4 * o.stuck.toNat + 8 * o.overload.toNat

/-- The safety unit's state registers (R340). -/
def Lane.viewSfu (l : Lane) (k : Nat) (w : Word) : Word :=
  let s := l.sfu
  if k = SFU.STATUS_STOP.key then
    setFlds 0 [(SFU.STATUS_UNCERTIFIED, l.uncertified.toNat), (SFU.STATUS_CONFIRMED, s.confirmed.toNat),
      (SFU.STATUS_COMM_MODE, (!s.confirmed).toNat), (SFU.STATUS_SESSION, s.session.toNat),
      (SFU.STATUS_STOP, (decide (l.xla.mode = .safeStop)).toNat), (SFU.STATUS_LL_SPEED_REQ, (decide (l.xla.mode = .lastLight)).toNat),
      (SFU.STATUS_SLR_ACTIVE, s.slrActive.toNat), (SFU.STATUS_SLP_ACTIVE, s.slpActive.toNat), (SFU.STATUS_STILL, s.still.toNat),
      (SFU.STATUS_DEMAND, s.demand), (SFU.STATUS_TEST_PENDING, maskOf 8 l.testPending)]
  else if k = SFU.INPUT_CONTACTS.key then
    setFlds 0 [(SFU.INPUT_DISC_LATCHED, maskOf 8 fun i => (l.safeIn i).latched), (SFU.INPUT_OWN_DEMAND, l.ownDemand),
      (SFU.INPUT_CONTACTS, maskOf 16 fun i => if i % 2 = 0 then (l.safeIn (i / 2)).a.level else (l.safeIn (i / 2)).b.level)]
  else if k = SFU.SO_STATUS_ON_0.key then BitVec.ofNat 32 ((l.safeOut 0).status + 256 * (l.safeOut 1).status)
  else if k = SFU.STOP_STATUS_ELAPSED.key then
    match s.stopAt with
    | some t0 => setFlds w [(SFU.STOP_STATUS_ELAPSED, satN 19 ((l.clk.now - t0) / 600000))]
    | none => w
  else if k = SFU.LL_TIME_LEFT_MS.key then
    match l.xla.mode, s.llStart with
    | .lastLight, some t0 => BitVec.ofNat 32 (ceilDiv (t0 + 600000000 * l.rd SFU.LL_CFG_TIME - l.clk.now) 600000)
    | _, _ => 0
  else w

/-- The gate-drive control's state registers (R303). -/
def Lane.viewGdc (l : Lane) (k : Nat) (w : Word) : Word :=
  if k = GDC.STATUS_SNUFF.key then BitVec.ofNat 32 l.gdcStatus
  else if k = GDC.TRY_STATUS_ST.key then BitVec.ofNat 32 l.tryStatus
  else if k = GDC.OV_STATUS_TIMER.key then setFlds w [(GDC.OV_STATUS_TIMER, l.ovTimerNow)]
  else w

/-! ### Blocks 0x30 to 0x41 -/

/-- The storage manager's state registers (R459). -/
def Lane.viewStm (l : Lane) (k : Nat) (w : Word) : Word :=
  let m := l.on STM.STATUS_NAND_MOUNTED
  if k = STM.WEAR_MAX.key then
    if m then setFlds 0 [(STM.WEAR_MAX, satN 16 ((l.nand.erases.map fun e => e.2).foldl Nat.max 0)),
      (STM.WEAR_MIN, satN 16 (match l.nand.used.map l.nand.wear with | [] => 0 | a :: as => as.foldl Nat.min a))]
    else 0
  else if k = STM.REC_NEXT_RSN.key then BitVec.ofNat 32 (if m then l.nand.nextRsn else 0)
  else if k = STM.JOURNAL_SEQ.key then BitVec.ofNat 32 (if m then l.nand.journal else 0)
  else if k = STM.REC_STATUS_HELD.key then
    setFlds w [(STM.REC_STATUS_HELD, l.stm.held.length), (STM.REC_STATUS_BUFFERED, min 63 l.stm.page.length)]
  else w

/-- The code of HIF.STATUS.STAGE. -/
def Lane.stageCode (l : Lane) : Nat :=
  match l.hif.commit with
  | some r => if r.stepped then 4 else 3
  | none => if l.stage.isOpen then (if l.stage.checked then 2 else 1) else 0

/-- The host interface's state registers (R403, R404). -/
def Lane.viewHif (l : Lane) (k : Nat) (w : Word) : Word :=
  if k = HIF.STATUS_LINK_UP.key then
    setFlds w [(HIF.STATUS_STAGE, l.stageCode), (HIF.STATUS_SESSION_U, l.hif.sess1.isSome.toNat),
      (HIF.STATUS_SESSION_P, l.hif.sess0.isSome.toNat)]
  else if HIF.SESSION_ID_ID.isAt k 0 then l.hif.sess0.getD 0
  else if HIF.SESSION_ID_ID.isAt k 1 then l.hif.sess1.getD 0
  else if k = QDM.STATUS_ACTIVE.key then
    setFlds w [(QDM.STATUS_HALTED, maskOf 8 fun q => match (l.qp q).cmd with | some c => c.halted | none => false),
      (QDM.STATUS_ACTIVE, maskOf 8 l.transfers)]
  else w

/-! ### The vendor-specific capability in configuration space (R407) -/

/-- The identifiers of the capability's headers: the capability ID, and the VSEC header of ID 0x3960, revision 1 and length 0x18. -/
def vsecCapId : Nat := 0x000B
def vsecHeader : Word := BitVec.ofNat 32 (0x3960 + 1 * 2 ^ 16 + 0x18 * 2 ^ 20)

/-- Lane status, capability offset 0x08: the bits of TWIN, LIFECYCLE, AUTH, SMODE, LSTATE and LANE. -/
def Lane.vsecStatus (l : Lane) : Word :=
  BitVec.ofNat 32 ((l.on BCN.MODE_TWIN).toNat * 2 ^ 20 + l.otp.lifecycle % 8 * 2 ^ 16 + l.xla.authCode * 2 ^ 12 + l.xla.mode.code * 2 ^ 8
    + l.own.code * 2 ^ 4 + l.id.code)

/-- Queue ownership, capability offset 0x10: whether function fn has an open session, and the queue pairs that it owns. OWNED resets to 0x01 in function
0, though QDM.QP_CFG.FUNC resets to 0: a pair beyond 0 counts as owned once its configuration has been written (DEDUCED, log entry 90). -/
def Lane.vsecOwned (l : Lane) (fn : Nat) : Word :=
  BitVec.ofNat 32 ((l.session fn).isSome.toNat * 2 ^ 8 + maskOf 8 fun q =>
    decide (l.queueFn q = fn) && (decide (q = 0) || (l.qp q).configured))

/-- What a configuration read of function fn returns at an offset of the capability; none where the PCI Express Base Specification rules. The registers are
read-only through configuration requests. -/
def Lane.vsecRead (l : Lane) (fn off : Nat) : Option Word :=
  match off with
  | 0x04 => some vsecHeader
  | 0x08 => some l.vsecStatus
  | 0x0C => some l.ccn
  | 0x10 => some (l.vsecOwned fn)
  | 0x14 => some ((l.session fn).getD 0)
  | _ => none

/-- The header of the capability, offset 0x00: its ID; the version and the offset of the next capability are not the spec's. -/
def vsecHead (version next : Nat) : Word := BitVec.ofNat 32 (vsecCapId + version % 16 * 2 ^ 16 + next % 2 ^ 12 * 2 ^ 20)

/-- What the endpoint supports (R359). -/
structure PcieSupport where
  lanes       : Nat
  rates       : List Nat
  functions   : Nat
  maxPayload  : Nat
  maxReadReq  : Nat
  outstanding : Nat
  tagBits     : Nat
  msixVectors : Nat
  ecrc        : Bool
  aspmL0s     : Bool
  aspmL1      : Bool
  intx        : Bool
  msi         : Bool
  sriov       : Bool
  ats         : Bool
  d3hot       : Bool
deriving DecidableEq, Repr

/-- The endpoint of each lane: rates are HIF.STATUS.SPEED codes, 2.5, 5.0 and 8.0 GT/s. -/
def pcieSupport : PcieSupport :=
  { lanes := 1, rates := [1, 2, 3], functions := 2, maxPayload := 256, maxReadReq := 256, outstanding := 32, tagBits := 8, msixVectors := 16, ecrc := true
    aspmL0s := false, aspmL1 := true, intx := false, msi := false, sriov := false, ats := false, d3hot := true }

/-- Sizes of BAR0/1, BAR2/3 and BAR4/5 in bytes (R360). -/
def barSize (bar : Nat) : Nat := match bar with | 0 => 2 ^ 24 | 2 | 4 => 2 ^ 12 | _ => 0

/-- The fabric address behind an offset of the register BAR of function fn: the privileged window, or the unprivileged view (R360). -/
def barRegister (fn off : Nat) : Word := BitVec.ofNat 32 ((if fn = 0 then 0x40000000 else 0x50000000) + off % 2 ^ 24)

/-- What a read of the doorbell BAR returns (R365). -/
def doorbellRead (_off : Nat) : Word := 0

/-- Where the MSI-X table and its pending bits stand in BAR4/5 (R360); their entries are the PCI Express Base Specification's. -/
def msixTableAt : Nat := 0x000
def msixPbaAt : Nat := 0x800

/-- The identity of function fn in its Type 0 header and serial-number capability (R359): vendor and device ID, revision and class code, subsystem ID, and
the Device Serial Number. -/
def Lane.cfgId (l : Lane) (fn : Nat) : Word := BitVec.ofNat 32 (l.otp.vendor.toNat + 2 ^ 16 * (0x3960 + fn))
def cfgClass : Word := BitVec.ofNat 32 (Config.siliconRev.toNat + 2 ^ 8 * 0x0B4000)
def Lane.cfgSubsystem (l : Lane) : BitVec 16 := l.otp.subsystem
def Lane.cfgSerial (l : Lane) : BitVec 64 := l.otp.serial

/-- The power and clock unit's state registers (R493, R494). -/
def Lane.viewPmu (l : Lane) (k : Nat) (w : Word) : Word :=
  if k = PMU.STATUS_KEY.key then
    setFlds w ([(PMU.STATUS_WAKE, l.pmu.wakePin.toNat), (PMU.STATUS_KEY, l.pmu.key.toNat)]
      ++ (match l.pmu.entry with
        | some e => [(PMU.STATUS_TARGET, e.target), (PMU.STATUS_STEP, e.step)]
        | none => []))
  else if k = PMU.RTC_S_SECONDS.key then BitVec.ofNat 32 (l.rtcNow / 32768)
  else if k = PMU.RTC_SUB_FRAC.key then BitVec.ofNat 32 (l.rtcNow % 32768)
  else if PMU.VOTE_VOTERS.key ≤ k ∧ k < PMU.VOTE_VOTERS.key + 28 then
    BitVec.ofNat 32 (maskOf 16 fun v => l.holds v ((k - PMU.VOTE_VOTERS.key) / 4))
  else if k = CRU.CYCLE_NOW_TICKS.key then BitVec.ofNat 32 l.clk.len
  else if k = CRU.RESET_CAUSE_LAST.key then setFlds w [(CRU.RESET_CAUSE_HISTORY, l.rd CRU.RESET_CLEAR_HISTORY)]
  else w

/-- The word that register k shows. -/
def Lane.show (l : Lane) (k : Nat) : Word :=
  let w := l.word k
  match k / 0x10000 with
  | 0x00 | 0x01 => l.viewXla k w
  | 0x02 => l.viewFcl k w
  | 0x04 | 0x06 | 0x08 | 0x0A => l.viewSec k w
  | 0x10 | 0x11 => l.viewPcl k w
  | 0x18 | 0x19 => l.viewCen k w
  | 0x22 => l.viewGdc k w
  | 0x23 => l.viewPfb k w
  | 0x24 => l.viewSfu k w
  | 0x28 => l.viewWck k w
  | 0x30 => l.viewStm k w
  | 0x38 | 0x39 => l.viewHif k w
  | 0x40 | 0x41 => l.viewPmu k w
  | _ => w

/-- The word that a read returns: S18 registers are sign-extended (R14), and write-only fields read as 0. -/
def Lane.readWord (l : Lane) (k : Nat) (r : RegRow) : Word :=
  let w := l.show k &&& ~~~(BitVec.ofNat 32 r.wo)
  if r.sext && w.getLsbD 17 then w ||| 0xFFFC0000 else w

end Sys2Proof.Machine
end

