-- ==== Sys2Proof/Machine/Registers.lean ====
section
/-!
DEFINITION. Register reads and writes (R18 to R22, R562 to R566), accesses that waited for their domain, and the bus writes of the
Beacon main core (R56).
-/
namespace Sys2Proof.Machine

open Sys2Proof

/-- The element of an array field with n elements whose register has key k. -/
def Fld.elem (f : Fld) (n k : Nat) : Option Nat :=
  if f.key ≤ k ∧ (k - f.key) % f.s1 = 0 ∧ (k - f.key) / f.s1 < n then some ((k - f.key) / f.s1) else none

/-- A lane-level entry by a write of PMU.CTRL: the Beacon main core alone may make it (R470). -/
def Lane.ctrlWrite (l : Lane) (ini : Nat) (addr v : Word) : Lane :=
  if bitsOf v 0 2 = 0 then l.busDone 0
  else if ini = 0x0 then (l.requestEntry (bitsOf v 0 2)).busDone 0
  else (l.fault 0x07 (accessInfo addr ini)).busDone 0

/-- A write of PMU.RTC_SET sets the seconds, zeroes the fraction and sets RTC_VALID (R486). -/
def Lane.rtcWrite (l : Lane) (v : Word) : Lane :=
  ((l.onPmu fun p => { p with rtc := v.toNat * 32768, rtcAt := l.clk.now }).flag PMU.STATUS_RTC_VALID true).busDone 0

/-- A write of CRU.FAT_CFG: DISABLE is accepted on an open part in DEVELOP only (R489). -/
def Lane.fatWrite (l : Lane) (ini : Nat) (addr : Word) (k : Nat) (r : RegRow) (v : Word) : Lane :=
  let bad := decide (bitsOf v 31 1 = 1) && !l.otp.openDev
  let l1 := if bad then (if l.locked k then l else l.fault 0x07 (accessInfo addr ini)).plainWrite ini addr k r (setBits v 31 1 0) else l.plainWrite ini addr k r v
  l1.flag CRU.STATUS_FAT_OFF (l1.on CRU.FAT_CFG_DISABLE)

/-- A write of DBG.TRACE_CFG: recording that is enabled anew has no trigger yet (R538). -/
def Lane.traceCfgWrite (l : Lane) (ini : Nat) (addr : Word) (k : Nat) (r : RegRow) (v : Word) : Lane :=
  let l1 := l.plainWrite ini addr k r v
  if !l.on DBG.TRACE_CFG_ENABLE && l1.on DBG.TRACE_CFG_ENABLE then
    { l1.flag DBG.TRACE_STATUS_TRIGGERED false with trc := { l1.trc with left := none } }
  else l1

/-- A write of DBG.TRACE_CCN: the trigger takes only a cycle that lies ahead (R12). -/
def Lane.traceCcnWrite (l : Lane) (ini : Nat) (addr : Word) (k : Nat) (r : RegRow) (v : Word) : Lane :=
  let l1 := l.plainWrite ini addr k r v
  { l1 with trc := { l1.trc with ccnArmed := ahead l1.ccn (l1.word k) } }

/-- A write to a register of the QDM's queue pairs: the ring bases change only while the queue is disabled (R404). -/
def Lane.queueWrite (l : Lane) (ini : Nat) (addr : Word) (k : Nat) (r : RegRow) (v : Word) : Lane :=
  match QDM.QP_CFG_ENABLE.elem 8 k with
  | some q => (l.qpCfgWrite q v).busDone 0
  | none => if 0x390100 ≤ k ∧ l.on QDM.QP_CFG_ENABLE ((k - 0x390100) / 0x40) then l.busDone 0 else l.plainWrite ini addr k r v

/-- A write to a register of the mailboxes (R384). -/
def Lane.mailWrite (l : Lane) (ini : Nat) (addr : Word) (k : Nat) (r : RegRow) (v : Word) : Lane :=
  match MBX.POST_GO.elem 8 k, MBX.ACK_GO.elem 8 k with
  | some m, _ => l.mailPost ini addr m v
  | none, some m => l.mailAck ini addr m v
  | none, none =>
    if MBX.DATA_WORD.key ≤ k then l.mailData ini ((k - MBX.DATA_WORD.key) / 0x40) ((k - MBX.DATA_WORD.key) % 0x40 / 4) v
    else l.plainWrite ini addr k r v

/-- What a write of v to register k does, once the checks have passed. -/
def Lane.regEffect (l : Lane) (ini : Nat) (addr : Word) (k : Nat) (r : RegRow) (v : Word) : Lane :=
  if k % 0x10000 = 0xFC then l.lockWrite ini addr k r v
  else if k / 0x10000 = 0x03 then l.mailWrite ini addr k r v
  else if k / 0x10000 = 0x39 then l.queueWrite ini addr k r v
  else if k = PFB.ARM_INDEX.key then l.armWrite v
  else if k = FCL.INJECT_GO.key then l.injectWrite ini addr v
  else if k = PMU.CTRL_ENTER.key then l.ctrlWrite ini addr v
  else if k = PMU.RTC_SET_SECONDS.key then l.rtcWrite v
  else if k = CRU.FAT_CFG_CYCLES.key then l.fatWrite ini addr k r v
  else if k = DBG.TRACE_CFG_ENABLE.key then l.traceCfgWrite ini addr k r v
  else if k = DBG.TRACE_CCN_CCN.key then l.traceCcnWrite ini addr k r v
  else l.plainWrite ini addr k r v

/-- A write of a register by an initiator. -/
def Lane.regWrite (l : Lane) (ini : Nat) (addr v : Word) : Lane := l.guardWrite ini addr v fun k r n => n.regEffect ini addr k r v

/-- The next trace word from the oldest, and the read pointer past it; the words of a flow trace are the firmware's (R538). -/
def Lane.traceRead (l : Lane) (ini : Nat) : Lane :=
  if l.on DBG.TRACE_CFG_FLOW then (l.drew.readDone ini ((Config.debugWord l.free).setWidth 64))
  else
    let ws := l.trc.recs.flatten
    ({ l with trc := { l.trc with rd := min (l.trc.rd + 1) ws.length } } : Lane).readDone ini (BitVec.ofNat 64 (ws.getD l.trc.rd 0))

/-- What a read of register k does: the word goes to the initiator, and its RC fields clear. -/
def Lane.readEffect (l : Lane) (ini k : Nat) (r : RegRow) : Lane :=
  if k = DBG.TRACE_DATA_WORD.key then l.traceRead ini
  else
    let l1 := if r.rc = 0 then l else l.setWord k (l.word k &&& ~~~(BitVec.ofNat 32 r.rc))
    l1.readDone ini ((l.readWord k r).setWidth 64)

/-- A read of a register by an initiator, with what it does where the checks pass. -/
def Lane.guardRead (l : Lane) (ini : Nat) (addr : Word) (f : Nat → RegRow → Lane → Lane) : Lane :=
  if ini = 0xB ∧ addr.toNat % 4 ≠ 0 then l.unsupported
  else match l.regAccess ini addr false with
    | .ok k r => if l.domOn (blockDomain (k / 0x10000)) then f k r l else l.stall ini addr none
    | .hidden => l.busDone ((Config.hiddenWord (addr.toNat % 0x1000000)).setWidth 64)
    | a => l.refuseAccess ini addr a

/-- A read of a register by an initiator. -/
def Lane.regRead (l : Lane) (ini : Nat) (addr : Word) : Lane := l.guardRead ini addr fun k r n => n.readEffect ini k r

/-- Whether the target of an access that waited has its clock back. -/
def Lane.reachable (l : Lane) (a : Stalled) : Bool :=
  let x := a.addr.toNat
  l.domOn (if inRegs x then blockDomain (x % 0x1000000 / 0x10000) else if inSram x then 0 else if inTable x then 2 else 4)

/-- An access that waited is performed. -/
def Lane.perform (l : Lane) (a : Stalled) : Lane :=
  let x := a.addr.toNat
  match a.wide, a.write with
  | some d, _ => l.sramPut a.ini a.addr d.1 d.2 .none
  | none, some v => if inTable x then l.tablePut a.ini a.addr v else l.regWrite a.ini a.addr v
  | none, none =>
    if inRegs x then l.regRead a.ini a.addr
    else if inSram x then l.sramGet a.ini a.addr .none
    else if inTable x then l.tableLook a.addr .none
    else l.norRead a.ini a.addr

/-- The accesses whose domain has its clock back are performed, oldest first (R488). -/
def Lane.resumeStalled (l : Lane) : Lane :=
  (l.pmu.stalled.filter l.reachable).foldl Lane.perform (l.onPmu fun p => { p with stalled := p.stalled.filter fun a => !l.reachable a })

/-! ### Bus writes of the Beacon main core (R56, R83) -/

/-- The half of a 64-bit bus word that address bit 2 names. -/
def busHalf (w : BusWr) : Word := if w.addr.toNat % 8 < 4 then w.data.setWidth 32 else (w.data >>> 32).setWidth 32

/-- A write to host memory by a core: the window page is translated, and a page that is not mapped for writing ends the write with a bus
error. -/
def Lane.hostMemWrite (l : Lane) (w : BusWr) : Lane :=
  let (k, e) := l.walk w.addr.toNat
  let l := l.walkReads 0x0 w.addr.toNat
  if k ≠ 0 ∨ !e.testBit 0 ∨ !e.testBit 2 then l.busError
  else ((l.cached w.addr.toNat).emit (.hostWrite (BitVec.ofNat 64 (e / 4096 * 4096 + w.addr.toNat % 4096)) [w.data.toNat])).busDone 0

/-- A write that reaches the fabric, by the memory that its address names. -/
def Lane.busWrite (l : Lane) (ini : Nat) (w : BusWr) : Lane :=
  let a := w.addr.toNat
  if inSram a then l.sramPut ini w.addr w.data w.strobe .none
  else if inTable a then (if ini = 0x0 then l.tablePut ini w.addr (busHalf w) else l.violation ini w.addr)
  else if inRegs a then l.regWrite ini w.addr (busHalf w)
  else if a < 0x20000 ∨ (0x60000000 ≤ a ∧ a < 0x70000000) then l.violation ini w.addr
  else if 0x80000000 ≤ a then l.hostMemWrite w
  else l.unmapped ini w.addr

/-- A bus write of the main core against the checker's, and the signatures up to and including it, with the writebacks since the last
write: a mismatch flagged by either copy of the comparator is handled as such and the write is never released (R56, R58, R64). bad0 and bad1 say that
a copy reports the opposite of what it sees. -/
def Lane.coreWrite (l : Lane) (w chk : BusWr) (wbMain wbChk : List (BitVec 64)) (bad0 bad1 : Bool) : Lane :=
  if l.bcn.stopped || l.bcn.halted then l
  else if l.comparing then
    let m := Config.foldWrite (foldBacks l.bcn.sigMain wbMain) w
    let c := Config.foldWrite (foldBacks l.bcn.sigChk wbChk) chk
    let l1 := { l with bcn := { l.bcn with sigMain := m, sigChk := c } }
    let addrBad := decide (w.addr ≠ chk.addr) || decide (w.attr ≠ chk.attr)
    let dataBad := decide (w.data ≠ chk.data) || decide (w.strobe ≠ chk.strobe)
    let bad := addrBad || dataBad || decide (m ≠ c)
    let f0 := bad != bad0
    let f1 := bad != bad1
    if f0 || f1 then l1.lockstepOpen 0x01 (if f0 ≠ f1 then 0x4 else if addrBad then 0x2 else if dataBad then 0x3 else 0x1)
    else l1.busWrite 0x0 w
  else l.busWrite 0x0 w

/-! ### Commands -/

/-- CORE_BUS_WRITE. -/
def execCoreBusWrite (l : LaneId) (t : Nat) (m chk : CoreOut) (bad0 bad1 : Bool) (s : State) :
    Host.Outcome State Fault Refusal :=
  .next (s.setLane l (((s.lane l).atTick t).gated 0 (((s.lane l).atTick t).coreWrite m.wr chk.wr m.wb chk.wb bad0 bad1)))

/-- REGISTER_WRITE. -/
def execRegisterWrite (l : LaneId) (t ini : Nat) (addr v : Word) (s : State) : Host.Outcome State Fault Refusal :=
  .next (s.setLane l (((s.lane l).atTick t).regWrite ini addr v))

/-- REGISTER_READ. -/
def execRegisterRead (l : LaneId) (t ini : Nat) (addr : Word) (s : State) : Host.Outcome State Fault Refusal :=
  .next (s.setLane l (((s.lane l).atTick t).regRead ini addr))

end Sys2Proof.Machine
end

