-- ==== Sys2Proof/Machine/Wake.lean ====
section
/-!
DEFINITION. Resets by source, wake events, power entries and temperature (R464 to R494) as commands, with the STATUS message, which can
wake a lane in DOZE.
-/
namespace Sys2Proof.Machine

open Sys2Proof

/-! ### Resets (R465, R485, R491) -/

/-- The rails whose PMU.SUPPLY.GOOD bit is set in a mask stay good through a reset. -/
def Lane.keepGood (l : Lane) (mask : Nat) : Lane := l.wr PMU.SUPPLY_GOOD mask

/-- A reset of all switched domains finds them ON and the lane in RUN. -/
def Lane.allOn (l : Lane) : Lane :=
  (l.onPmu fun p => { p with power := .run, entry := none, request := none, accepted := none, shown := false, drops := [], dropWake := [] }).setWord
    PMU.DOM_STATE_STATE.key 0

/-- Whether a rail is monitored in a power state (R465): 0 VDD, 1 VDDA, 2 VDDIO, 3 VBAT. In EMBER the core supply is off too. -/
def monitored_ (p : Power) (rail : Nat) : Bool :=
  match p with
  | .run | .doze => decide (rail ≤ 3)
  | .bank => decide (rail = 0) || decide (rail = 3)
  | .ember => decide (rail = 3)

/-- A monitored rail has been below its falling threshold for ns nanoseconds. -/
def Lane.railLow (l : Lane) (rail ns : Nat) : Lane :=
  if !monitored_ l.pmu.power rail then l
  else if ns < 2000 then l.bump PMU.SUPPLY_DIPS
  else if rail = 3 then l.laneReset 1
  else
    let good := l.rd PMU.SUPPLY_GOOD
    (l.laneReset 2).keepGood (good - good / 2 ^ rail % 2 * 2 ^ rail)

/-- SUPPLY_MONITOR_RESET. -/
def execSupplyMonitorReset (l : LaneId) (t rail ns : Nat) (s : State) : Host.Outcome State Fault Refusal :=
  .next (s.setLane l (((s.lane l).atTick t).railLow rail ns))

/-- VBAT_POWER_ON: code 0x1, the wake cell and the RTC included. -/
def execVbatPowerOn (l : LaneId) (t : Nat) (s : State) : Host.Outcome State Fault Refusal :=
  .next (s.setLane l (((s.lane l).atTick t).laneReset 1))

/-- RESET_N: low for ns nanoseconds; at least 1 µs resets the lane. -/
def execResetN (l : LaneId) (t ns : Nat) (s : State) : Host.Outcome State Fault Refusal :=
  let n := (s.lane l).atTick t
  .next (s.setLane l (if 1000 ≤ ns then (n.laneReset 3).keepGood (n.rd PMU.SUPPLY_GOOD) else n))

/-- A reference outside 5 %, a missing reference or a loss of PLL lock resets the lane with code 0x5 (R485); dev is the deviation
measured in units of 0.1 %, none when the reference is missing. -/
def Lane.clockFault (l : Lane) (lockLost : Bool) (dev : Option Int) : Lane :=
  let l1 := match dev with | some d => l.wrS CRU.CLK_MON_DEV (clampInt (-128) 127 d) | none => l
  let off := match dev with | some d => decide (50 < iabs d) | none => true
  let runs := match l.pmu.power with | .run | .doze => true | _ => false
  if runs && (lockLost || off) then
    let l2 := ((l1.fault 0xD9).wrapInc CRU.CLK_MON_FAULTS).flag CRU.STATUS_PLL_LOCK false
    ((if off then l2.flag CRU.STATUS_XTAL_OK false else l2).laneReset 5).allOn
  else l1

/-- CRYSTAL_OR_PLL_FAULT. -/
def execCrystalOrPllFault (l : LaneId) (t : Nat) (lockLost : Bool) (dev : Option Int) (s : State) : Host.Outcome State Fault Refusal :=
  .next (s.setLane l (((s.lane l).atTick t).clockFault lockLost dev))

/-! ### Votes and entries (R467 to R476) -/

/-- DOMAIN_VOTE_WITHDRAWN of domain dom. -/
def execDomainVoteWithdrawn (l : LaneId) (t dom : Nat) (s : State) : Host.Outcome State Fault Refusal :=
  .next (s.setLane l (((s.lane l).atTick t).voteGone dom))

/-- DOMAIN_VOTE_ARRIVES for domain dom. -/
def execDomainVoteArrives (l : LaneId) (t dom : Nat) (s : State) : Host.Outcome State Fault Refusal :=
  .next (s.setLane l (((s.lane l).atTick t).voteComes dom).resumeStalled)

/-- HOST_VOTE_WRITE: voter 14. -/
def execHostVoteWrite (l : LaneId) (t ini : Nat) (v : Word) (s : State) : Host.Outcome State Fault Refusal :=
  .next (s.setLane l (((s.lane l).atTick t).regWrite ini (privAddr PMU.HOST_VOTE_DOM.key) v))

/-- A write of PMU.CTRL.ENTER by an initiator. -/
def Lane.enterBy (l : Lane) (ini target : Nat) : Lane := l.regWrite ini (privAddr PMU.CTRL_ENTER.key) (BitVec.ofNat 32 target)

/-- ENTER_DOZE. -/
def execEnterDoze (l : LaneId) (t ini : Nat) (s : State) : Host.Outcome State Fault Refusal :=
  .next (s.setLane l (((s.lane l).atTick t).enterBy ini 1))

/-- ENTER_BANK. -/
def execEnterBank (l : LaneId) (t ini : Nat) (s : State) : Host.Outcome State Fault Refusal :=
  .next (s.setLane l (((s.lane l).atTick t).enterBy ini 2))

/-- ENTER_EMBER. -/
def execEnterEmber (l : LaneId) (t ini : Nat) (s : State) : Host.Outcome State Fault Refusal :=
  .next (s.setLane l (((s.lane l).atTick t).enterBy ini 3))

/-- ENTRY_DRAIN_WAIT_END. -/
def execEntryDrainWaitEnd (l : LaneId) (t : Nat) (s : State) : Host.Outcome State Fault Refusal :=
  .next (s.setLane l (((s.lane l).atTick t).drainEnd).resumeStalled)

/-- ENTRY_STEP_COMPLETE: of the lane's entry (dom 7) or of a domain's drop. -/
def execEntryStepComplete (l : LaneId) (t dom : Nat) (s : State) : Host.Outcome State Fault Refusal :=
  let n := (s.lane l).atTick t
  .next (s.setLane l (if dom = 7 then (match n.pmu.entry with | some e => (n.entryStep e).resumeStalled | none => n)
    else if dom < 7 then (n.dropEnds dom).resumeStalled else n))

/-- QUIESCE_TIMEOUT: of the lane's entry (dom 7) or of a domain's drop. -/
def execQuiesceTimeout (l : LaneId) (t dom : Nat) (s : State) : Host.Outcome State Fault Refusal :=
  .next (s.setLane l (((s.lane l).atTick t).quiesceLate dom).resumeStalled)

/-! ### Wake events (R478 to R481) -/

/-- Whether a level that has lasted for n units has passed the filter of a WAKE_CFG field, where 0 is stored as 1 (R478). -/
def Lane.filtered (l : Lane) (f : Fld) (n : Nat) : Bool := decide (max 1 (l.rd f) ≤ n)

/-- KEY_ON: the key has been above its on threshold; the key-off delay and its requests end. -/
def execKeyOn (l : LaneId) (h : KeyHeld) (s : State) : Host.Outcome State Fault Refusal :=
  let n := (s.lane l).atTick h.tick
  .next (s.setLane l (if n.filtered PMU.WAKE_CFG_KEY_DEB h.ms && !n.pmu.key then
    ((n.onPmu fun p => { p with key := true, keyOffAt := none, keyTest := false, keyReq := none }).wakeEvent 1).resumeStalled else n))

/-- KEY_OFF: the key has been below its off threshold; the key-off delay begins. -/
def execKeyOff (l : LaneId) (h : KeyHeld) (s : State) : Host.Outcome State Fault Refusal :=
  let n := (s.lane l).atTick h.tick
  .next (s.setLane l (if n.filtered PMU.WAKE_CFG_KEY_DEB h.ms && n.pmu.key then
    ((n.onPmu fun p => { p with key := false, keyOffAt := some n.clk.now }).wakeEvent 2).resumeStalled else n))

/-- RTC_ALARM: the clock has reached the alarm time; 0 disables the alarm. -/
def execRtcAlarm (l : LaneId) (t : Nat) (s : State) : Host.Outcome State Fault Refusal :=
  let n := (s.lane l).atTick t
  let alarm := (n.word PMU.RTC_ALARM_SECONDS.key).toNat
  .next (s.setLane l (if alarm ≠ 0 ∧ alarm ≤ n.rtcNow / 32768 then (n.wakeEvent 3).resumeStalled else n))

/-- PWR_WAKE: the pin has been at a level. -/
def execPwrWake (l : LaneId) (t : Nat) (p : PinHeld) (s : State) : Host.Outcome State Fault Refusal :=
  let n := (s.lane l).atTick t
  let n1 := n.onPmu fun q => { q with wakePin := p.high }
  .next (s.setLane l (if !n.filtered PMU.WAKE_CFG_WAKE_FILT p.us then n
    else if p.high = n.on PMU.WAKE_CFG_WAKE_POL then (n1.wakeEvent 4).resumeStalled else n1))

/-- A reset of the HSI domain that is no lane reset (R491): its LOCK bits stay set, as only a lane reset clears them (R19). Commands that have been handed to agreement take effect as agreed, and their completions are discarded (R363). DESIGN CHOICE: the level-1 table is
cleared, so that it names no table that XTU.STATUS does not count (log entry 89). -/
def Lane.perstReset (l : Lane) : Lane :=
  let l1 := if l.rd XTU.STATUS_POOL_USED = 0 then l else l.zeroArea (8192 * l.rd XTU.BASE_BASE) 2048
  (((l1.resetDom 5).setWord HIF.LOCK_LOCK.key (l.word HIF.LOCK_LOCK.key)).setWord XTU.LOCK_LOCK.key (l.word XTU.LOCK_LOCK.key)).onHif
    fun h => { h with authed := l.hif.authed.map fun p => { p with mute := true }, known := l.hif.known, taken := l.hif.taken
                      agreed := l.hif.agreed, commit := l.hif.commit }

/-- PCIE_PERST: asserted, the HSI domain is reset (R491); deasserted, the lane may wake. -/
def execPciePerst (l : LaneId) (t : Nat) (asserted : Bool) (s : State) : Host.Outcome State Fault Refusal :=
  let n := (s.lane l).atTick t
  .next (s.setLane l (if asserted then n.perstReset else (n.wakeEvent 5).resumeStalled))

/-- DEBUG_ATTACH. -/
def execDebugAttach (l : LaneId) (t : Nat) (s : State) : Host.Outcome State Fault Refusal :=
  .next (s.setLane l ((((s.lane l).atTick t).flag DBG.STATUS_ATTACHED true).wakeEvent 7).resumeStalled)

/-- SUPPLY_RISING_THRESHOLD: a rail is good; in a wake from EMBER VDD enables the other rails, and with all of them the lane restarts
with reset code 0x4 (R464, R481). -/
def Lane.railGood (l : Lane) (rail : Nat) : Lane :=
  if rail < 3 then
    let l1 := l.wr PMU.SUPPLY_GOOD (l.rd PMU.SUPPLY_GOOD ||| 2 ^ rail)
    let l2 := if l1.pmu.waking && decide (rail = 0) then l1.onPmu fun p => { p with enIo := true } else l1
    if l2.pmu.waking && decide (l2.rd PMU.SUPPLY_GOOD = 7) then (l2.laneReset 4).keepGood 7 else l2
  else l

/-- The command of R464. -/
def execSupplyRisingThreshold (l : LaneId) (t rail : Nat) (s : State) : Host.Outcome State Fault Refusal :=
  .next (s.setLane l (((s.lane l).atTick t).railGood rail))

/-- KEYOFF_DELAY_EXPIRY. -/
def execKeyoffDelayExpiry (l : LaneId) (t : Nat) (s : State) : Host.Outcome State Fault Refusal :=
  .next (s.setLane l ((s.lane l).atTick t).keyoffDue)

/-- KEYOFF_ENTRY_RETRY. -/
def execKeyoffEntryRetry (l : LaneId) (t : Nat) (s : State) : Host.Outcome State Fault Refusal :=
  .next (s.setLane l ((s.lane l).atTick t).keyoffRetry)

/-! ### RTC, fabric access timer, temperature (R486 to R490) -/

/-- RTC_SET. -/
def execRtcSet (l : LaneId) (t ini : Nat) (v : Word) (s : State) : Host.Outcome State Fault Refusal :=
  .next (s.setLane l (((s.lane l).atTick t).regWrite ini (privAddr PMU.RTC_SET_SECONDS.key) v))

/-- The fabric access timer of the oldest waiting access has run (R488): a fabric cycle is 2 ticks. -/
def Lane.accessTimeout (l : Lane) : Lane :=
  match l.pmu.stalled with
  | a :: rest =>
    if a.since + 2 * l.rd CRU.FAT_CFG_CYCLES ≤ l.clk.now ∧ !l.on CRU.STATUS_FAT_OFF then
      let l1 := ((l.onPmu fun p => { p with stalled := rest }).bump CRU.FAT_STATUS_COUNT).wr CRU.FAT_STATUS_INITIATOR a.ini
      let l2 := ((l1.setWord CRU.FAT_ADDR_ADDR.key a.addr).fault 0xD8 (accessInfo a.addr a.ini)).busError
      if a.write.isSome then l2.logAbort a.ini a.addr else l2
    else l
  | [] => l

/-- FABRIC_ACCESS_TIMEOUT. -/
def execFabricAccessTimeout (l : LaneId) (t : Nat) (s : State) : Host.Outcome State Fault Refusal :=
  .next (s.setLane l ((s.lane l).atTick t).accessTimeout)

/-- FAT_DISABLE_WRITE: a write of CRU.FAT_CFG. -/
def execFatDisableWrite (l : LaneId) (t ini : Nat) (v : Word) (s : State) : Host.Outcome State Fault Refusal :=
  .next (s.setLane l (((s.lane l).atTick t).regWrite ini (privAddr CRU.FAT_CFG_CYCLES.key) v))

/-- One temperature threshold: its event when a die lies above it, which clears when both lie more than 5 °C below it. -/
def Lane.heat (l : Lane) (n : Nat) (limit hot : Int) : Lane :=
  if limit < hot then (if (l.src n).level then l else l.faultLevel n)
  else if hot < limit - 5 then l.setLevel n false else l

/-- Whether the sensors are read (R490): every 1 ms (600,000 ticks) in RUN and DOZE. -/
def Lane.tempDue (l : Lane) : Bool :=
  (match l.pmu.power with | .run | .doze => true | _ => false) &&
    (match l.pmu.tempAt with | some k => decide (k + 600000 ≤ l.clk.now) | none => true)

/-- The readings of both dies in °C. -/
def Lane.temperatures (l : Lane) (lane drive : Int) : Lane :=
  if l.tempDue then
    let l0 := l.onPmu fun p => { p with tempAt := some l.clk.now }
    let l1 := (l0.wrS PMU.TEMP_LANE (clampInt (-128) 127 lane)).wrS PMU.TEMP_DRIVE (clampInt (-128) 127 drive)
    (l1.heat 0xDA (l.rd PMU.TEMP_CFG_HIGH) (imax lane drive)).heat 0xDB (l.rd PMU.TEMP_CFG_CRIT) (imax lane drive)
  else l

/-- TEMPERATURE_READING. -/
def execTemperatureReading (l : LaneId) (t : Nat) (lane drive : Int) (s : State) : Host.Outcome State Fault Refusal :=
  .next (s.setLane l (((s.lane l).atTick t).temperatures lane drive))

/-! ### STATUS (R102, R478) -/

/-- STATUS_MESSAGE: what the peer reports, and in DOZE a wake when it shows a change of system mode or of the peer's lane state. -/
def execStatusMessage (l : LaneId) (t link : Nat) (h : CtlHdr) (m : StatusMsg) (s : State) : Host.Outcome State Fault Refusal :=
  .next (s.setLane l (((s.lane l).atTick t).control 0x01 link h fun x n =>
    let changed := decide (m.smode ≠ n.xla.mode.code) || decide (LaneState.ofCode m.lstate ≠ n.xla.lst.get x)
    let n1 := n.takeStatus x m
    if changed then (n1.wakeEvent 6).resumeStalled else n1))

end Sys2Proof.Machine
end

