-- ==== Sys2Proof/Machine/Resync.lean ====
section
/-!
DEFINITION. Resynchronisation (R137, R138): JOIN, the transfer of state from the donor, the cut, and the clean period.
An item of a transfer block names state that the donor holds; how blocks are laid out is the part's own (R102). The donor keeps the items
that it has sent, so that a changed one is sent again.
-/
namespace Sys2Proof.Machine

open Sys2Proof

/-! ### JOIN -/

/-- JOIN: the AUTHORITY admits the lane, holds it as RESYNC and says so in its STATUS, or refuses it. JOIN goes to both peers, so that the donor,
whichever it is, meets it too and begins its transfer (log entry 21). -/
def execJoin (l : LaneId) (t link : Nat) (h : CtlHdr) (s : State) : Host.Outcome State Fault Refusal :=
  .next (s.setLane l (((s.lane l).atTick t).control 0x07 link h fun x n =>
    if n.own.healthy && n.admits x then
      let n1 := if n.own = .authority then (n.setPeer x .resync).onXla fun q => { q with admitted := some x } else n
      if n1.donorFor x = n1.id then n1.onXla fun q => { q with donorTo := some x, sent := [] } else n1
    else n))

/-! ### The transfer -/

/-- The configuration that an item carries. -/
def cfgOf (regs : List (Nat × Word)) (nodes : List (Nat × BitVec 128)) (arcs inMap : List (Nat × Word)) (keys : List Nat)
    (params : List (Nat × Option Byte) := []) : Cfg :=
  { regs := regs, nodes := nodes, arcs := arcs, params := params, inMap := inMap, keys := keys }

/-- The 64-bit words of lane SRAM over n bytes from address a. -/
def Lane.wordItems (l : Lane) (a n : Nat) : List XferItem :=
  (wordsOver a n).map fun w => .sramWord w (BitVec.ofNat 64 (l.mem.read w 8))

/-- The persistent state of the active bank's nodes, in the committed and the working copy. -/
def Lane.nodeStateWords (l : Lane) : List XferItem :=
  (l.pcl.nodes.filter fun e => decide (e.1 / 1024 = l.pcl.bank) && ndPersist e.2).flatMap fun e =>
    l.wordItems (l.stateAddr e.2 false) (8 * stateSize (ndOpcode e.2))

/-- The configuration items, which travel when the joining lane's tag differs: the configuration, its parameter areas and tables. -/
def Lane.configItems (l : Lane) : List XferItem :=
  let c := l.activeCfg
  [.config c.regs c.nodes c.arcs c.inMap c.keys] ++ (c.nodes.flatMap fun e => l.wordItems (l.paramAddr e.2) (4 * ndParamLen e.2)) ++
    l.mem.table.map fun e => .tableWord e.1 e.2

/-- A loop slot and a profile generator as items. -/
def slotItem (k : Nat) (work : Bool) (u : SlotSt) : XferItem :=
  .slotState k work u.integ u.dst u.fbPrev u.started u.feCount u.feActive u.out
def genItem (k : Nat) (work : Bool) (u : GenSt) : XferItem :=
  .genState k work u.pos u.vel u.acc u.vcap u.stopping u.arrived u.preset

/-- The control engine's state: every unit in its committed and its working copy. -/
def Lane.unitItems (l : Lane) : List XferItem :=
  ((List.range 8).flatMap fun k =>
    [slotItem k false (Sparse.get {} l.cen.slots k), slotItem k true (Sparse.get {} l.cen.slotsW k)]) ++
  ((List.range 4).flatMap fun k =>
    [genItem k false (Sparse.get {} l.cen.gens k), genItem k true (Sparse.get {} l.cen.gensW k)])

/-- The Percolator's state on the active bank: latched values, pending entries of the release buffer, slow activations and deferred starts. -/
def Lane.flowItems (l : Lane) : List XferItem :=
  ((l.pcl.latched.filter fun e => decide (e.1 / 4096 = l.pcl.bank)).map fun e => .latched (e.1 % 4096) e.2) ++
  ((l.pcl.rels.filter fun r => decide (r.bank = l.pcl.bank) && decide (r.flow ≠ 0)).map fun r =>
    .release r.flow r.arc (some (r.seq, r.valid, r.value))) ++
  (slowFlows.map fun f => .activation f (((l.act f).filter fun a => decide (a.bank = l.pcl.bank)).map fun a =>
    ⟨a.seq, a.nominal, a.start, a.release, a.done, a.dead⟩)) ++
  slowFlows.map fun f => .deferred f (Sparse.get none l.pcl.due f)

/-- What the donor holds at present for lane x (R137): the configuration when the tags differ, the units' and the operators' persistent state, what
slow activations have made and when they stand, the persistence counts with the number of frames that they rest on, staging, confirmation
and session. -/
def Lane.heldItems (l : Lane) (x : LaneId) : List XferItem :=
  (if (l.xla.peers.get x).tag.toNat = l.rd XLA.CFG_TAG_TAG then [] else l.configItems) ++ l.unitItems ++ l.nodeStateWords ++
  .frames l.xla.usedN :: (l.xla.persist.map fun e => .persist e.1 e.2) ++ l.flowItems ++
  [.staging l.stage.isOpen l.stage.checked l.stage.cfg.regs l.stage.cfg.nodes l.stage.cfg.arcs l.stage.cfg.params l.stage.cfg.inMap
      l.stage.cfg.keys l.stage.tag l.stage.reject l.stage.baseBad,
   .confirmed l.sfu.confirmed (l.word SFU.CONFIRMED_VALUE_VALUE.key), .safety l.sfu.session l.sfu.cmdStop l.sfu.fromReset]

/-- The state of the donor for lane x as items: what it holds at present, and for what it has sent and holds no longer, that it is gone. -/
def Lane.xferState (l : Lane) (x : LaneId) : List XferItem :=
  let now := l.heldItems x
  let places := now.map XferItem.place
  now ++ (l.xla.sent.filter fun i => !places.contains i.place).filterMap XferItem.cleared

/-- The joining lane after an item of its donor. -/
def Lane.takeItem (l : Lane) (i : XferItem) : Lane :=
  match i with
  | .sramWord a v => if inSram a then (l.store64 0x9 (word64 a) v.toNat 0xFF).1 else l
  | .tableWord w v => { l with mem := { l.mem with table := Sparse.set 0 l.mem.table w v } }
  | .slotState k work integ dst fbPrev started feCount feActive prevOut =>
    let put := fun (m : Sparse SlotSt) => Sparse.set {} m k { (Sparse.get {} m k : SlotSt) with
      integ := integ, dst := dst, fbPrev := fbPrev, started := started, feCount := feCount, feActive := feActive, out := prevOut }
    { l with cen := if work then { l.cen with slotsW := put l.cen.slotsW } else { l.cen with slots := put l.cen.slots } }
  | .genState k work pos vel acc vcap stopping arrived preset =>
    let put := fun (m : Sparse GenSt) => Sparse.set {} m k { (Sparse.get {} m k : GenSt) with
      pos := pos, vel := vel, acc := acc, vcap := vcap, stopping := stopping, arrived := arrived, preset := preset }
    { l with cen := if work then { l.cen with gensW := put l.cen.gensW } else { l.cen with gens := put l.cen.gens } }
  | .persist k n => l.onXla fun q => { q with persist := Sparse.set 0 q.persist k n }
  | .frames n => l.onXla fun q => { q with usedN := n }
  | .latched a v => l.onPcl fun p => { p with latched := Sparse.set 0 p.latched (4096 * p.bank + a) v }
  | .release flow arc v =>
    let l1 := l.onPcl fun p => { p with rels := p.rels.filter fun r => !(decide (r.flow = flow) && decide (r.arc = arc)) }
    match v with
    | some (seq, valid, value) => l1.addRel ⟨flow, seq, l.pcl.bank, arc, valid, value⟩
    | none => l1
  | .activation flow a => l.setAct flow (a.map fun x =>
      { seq := x.seq, bank := l.pcl.bank, nominal := x.nominal, start := x.start, release := x.release
        done := x.done, dead := x.dead, begun := true, since := l.clk.now, cycles := l.clk.cycles })
  | .deferred flow nominal => l.onPcl fun p => { p with due := Sparse.set none p.due flow nominal }
  | .config regs nodes arcs inMap keys => { l.applyCfg (cfgOf regs nodes arcs inMap keys) with hostKeys := keys }
  | .staging opened checked regs nodes arcs params inMap keys tag reject baseBad =>
    { l with stage := ⟨opened, checked, cfgOf regs nodes arcs inMap keys params, tag, reject, baseBad⟩ }
  | .confirmed on value => { l.setWord SFU.CONFIRMED_VALUE_VALUE.key value with sfu := { l.sfu with confirmed := on } }
  | .safety session cmdStop fromReset =>
    { l with sfu := { l.sfu with session := session, lastAlive := l.clk.now, cmdStop := cmdStop, fromReset := fromReset } }

/-- Whether a cut may follow: no slow activation is in service (R137), and nothing runs on under what a commit has replaced, so that
every pending entry is one of the active bank and travels (R165). -/
def Lane.mayCut (l : Lane) : Bool :=
  !l.pcl.draining && l.cen.old.isEmpty && slowFlows.all fun f => match l.act f with | some a => l.actComplete f a | none => true

/-- What the donor has sent, after a block: the last value of every item. -/
def sentAfter (sent block : List XferItem) : List XferItem :=
  block.foldl (fun s i => i :: s.filter fun j => decide (j.place ≠ i.place)) sent

/-- The items that remain to be sent to lane x: those whose present value is not the last one sent. -/
def Lane.xferLeft (l : Lane) (x : LaneId) : List XferItem := (l.xferState x).filter fun i => !l.xla.sent.contains i

/-- The donor reads the words of lane SRAM of a block; false when one is uncorrectable (R76, R77). -/
def Lane.readBlock (l : Lane) (block : List XferItem) : Lane × Bool :=
  block.foldl (fun (s : Lane × Bool) i => match i with
    | .sramWord a _ => let r := s.1.sramCheck 0x9 a .none
                       (r.1, s.2 && r.2)
    | _ => s) (l, true)

/-- XFER_SEND: the donor's next block, of items that its state holds, with the number of blocks left; or, when nothing remains after it,
the last with the cut at the next cycle, in which no slow flow is in service. The links carry it in the background phase. A block with a word that
is uncorrectable is not sent. -/
def execXferSend (l : LaneId) (t : Nat) (block : List XferItem) (left : Nat) (last : Bool) (s : State) :
    Host.Outcome State Fault Refusal :=
  let n := (s.lane l).atTick t
  .next (s.setLane l (match n.xla.donorTo with
    | some x =>
      let (r, ok) := n.readBlock block
      let n1 := r.onXla fun q => { q with sent := sentAfter q.sent block }
      let done := (n1.xferLeft x).isEmpty
      if decide (n.clk.phase = .background) && n.own.healthy && n.linkUp (n.linkTo x) && block.all (n.xferState x).contains &&
          decide (left = 0) == done then
        (if !ok then r
         else if !last then n1.sendCtl x.code (.xfer block left)
         else if done && n.mayCut then
           (n1.onXla fun q => { q with donorTo := none, sent := [] }).sendCtl x.code (.xferCut block (n.ccn + 1))
         else n)
      else n
    | none => n))

/-- Whether this lane receives its transfer from lane x. -/
def Lane.receives (l : Lane) (x : LaneId) : Bool :=
  decide (l.own = .resync) && decide (l.rd XLA.RESYNC_STATUS_PHASE = 1) && decide (l.rd XLA.RESYNC_STATUS_DONOR = x.code)

/-- A block that reaches a lane that has sent JOIN before the AUTHORITY's STATUS shows it too that it is accepted: it enters RESYNC, with the sender as
its donor (log entry 21). -/
def Lane.awaitTransfer (l : Lane) (x : LaneId) : Lane := if l.seeksJoin then l.beginTransfer x else l

/-- XFER. -/
def execXfer (l : LaneId) (t link : Nat) (h : CtlHdr) (block : List XferItem) (left : Nat) (s : State) :
    Host.Outcome State Fault Refusal :=
  .next (s.setLane l (((s.lane l).atTick t).control 0x08 link h fun x n =>
    let n1 := n.awaitTransfer x
    if n1.receives x then (block.foldl Lane.takeItem n1).wr XLA.RESYNC_STATUS_BLOCKS_LEFT (min left 65535) else n1))

/-- The state is complete: the tag and the check value of the configuration are computed over it. -/
def Lane.transferred (l : Lane) (cut : Word) : Lane :=
  ((((l.showCheck).wr XLA.CFG_TAG_TAG (l.activeCfg.tag l.mem).toNat).wr XLA.RESYNC_STATUS_BLOCKS_LEFT 0)).onXla fun q =>
    { q with cut := some cut }

/-- XFER_CUT: a cut cycle that does not lie ahead is rejected (R12). -/
def execXferCut (l : LaneId) (t link : Nat) (h : CtlHdr) (block : List XferItem) (cut : Word) (s : State) :
    Host.Outcome State Fault Refusal :=
  .next (s.setLane l (((s.lane l).atTick t).control 0x09 link h fun x n =>
    let n1 := n.awaitTransfer x
    if n1.receives x && ahead n1.ccn cut then (block.foldl Lane.takeItem n1).transferred cut else n1))

/-! ### The clean period -/

/-- CUT_CYCLE_START, at the start of the cut cycle: the joining lane computes from here on, and makes the slow releases of this cycle start (R163). -/
def execCutCycleStart (l : LaneId) (s : State) : Host.Outcome State Fault Refusal :=
  let n := (s.lane l).atTick 0
  .next (s.setLane l
    (if decide (n.own = .resync) && decide (n.rd XLA.RESYNC_STATUS_PHASE = 1) && decide (n.xla.cut = some n.ccn) then
       (((n.wr XLA.RESYNC_STATUS_PHASE 2).wr XLA.RESYNC_CLEAN_COUNT 0).onXla fun q => { q with cut := none, accepted := none }).slowReleases
     else n))

/-- The clean cycles that a joining lane needs: one second of them. -/
def Lane.cleanNeeded (l : Lane) : Nat := ceilDiv 600000000 l.cycleLen

/-- CLEAN_PERIOD_COMPLETE: the lane enters STANDBY at the next cycle start. -/
def execCleanPeriodComplete (l : LaneId) (s : State) : Host.Outcome State Fault Refusal :=
  let n := s.lane l
  .next (s.setLane l
    (if decide (n.own = .resync) && decide (n.rd XLA.RESYNC_STATUS_PHASE = 2) && decide (n.cleanNeeded ≤ n.rd XLA.RESYNC_CLEAN_COUNT) then
       n.onXla fun q => { q with joinNext := true }
     else n))

/-- Resynchronisation fails (R138): the lane is fenced with cause 0x7. -/
def Lane.resyncFails (l : Lane) : Lane := l.ownFence 0x14 0x7

/-- TRANSFER_TIMEOUT: 50 ms (30,000,000 ticks) from the acceptance without a cut. -/
def execTransferTimeout (l : LaneId) (t : Nat) (s : State) : Host.Outcome State Fault Refusal :=
  let n := (s.lane l).atTick t
  .next (s.setLane l (match n.xla.accepted with
    | some a => if decide (n.own = .resync) && decide (n.rd XLA.RESYNC_STATUS_PHASE = 1) && decide (a + 30000000 ≤ n.clk.now) then n.resyncFails
                else n
    | none => n))

end Sys2Proof.Machine
end

