-- ==== Sys2Proof/Machine/Cycle.lean ====
section
/-!
DEFINITION. The control cycle: the majority and the commit (R34, R41, R109 to R116), the cycle start with the system mode (R43 to R47), authority
migration and moves (R129 to R133), and the initial start (R135).
-/
namespace Sys2Proof.Machine

open Sys2Proof

/-! ### The committed tokens (R41, R157, R220, R538) -/

/-- Whether this lane commits the token of output index j. -/
def Lane.commitsToken (l : Lane) (j : Nat) : Bool := decide (l.rd XLA.OUT_CFG_OWNER j = l.id.code) || decide (l.rd XLA.OUT_CFG_OWNER j = 3)

/-- A committed token is written to its target (R141). -/
def Lane.applyToken (l : Lane) (j : Nat) (v : Val) : Lane :=
  match l.rd XLA.OUT_CFG_CLASS j with
  | 1 => l.wr CMU.CMD_WORD v.toNat 0
  | 2 => l.wr CMU.CMD_WORD v.toNat 1
  | 3 => l.wr GDC.CHOP_CMD_WORD v.toNat
  | 4 => { l with sfu := { l.sfu with soWord := v } }
  | 5 => l.wickToken (l.rd XLA.OUT_CFG_INDEX j) v
  | 6 => l.canToken (l.rd XLA.OUT_CFG_INDEX j) v
  | _ => l

/-- The token values of an output frame. -/
def Lane.tokensOf (l : Lane) (f : OutFrame) : Sparse Val :=
  (List.range (l.rd XLA.VEC_CFG_OUT_COUNT)).foldl (fun m j => Sparse.set 0 m j (f.tokens.getD j 0)) []

/-- The model words that committed tokens give every lane's bridges: owner 3 addresses every lane. -/
def Lane.modelWords (l : Lane) (toks : Sparse Val) : Sparse Val :=
  (List.range (l.rd XLA.VEC_CFG_OUT_COUNT)).foldl (fun m j =>
    let c := l.rd XLA.OUT_CFG_CLASS j
    let o := l.rd XLA.OUT_CFG_OWNER j
    if c = 1 ∨ c = 2 then
      [LaneId.a, LaneId.b, LaneId.c].foldl (fun m x =>
        if o = x.code ∨ o = 3 then Sparse.set 0 m (2 * x.code + (c - 1)) (Sparse.get 0 toks j) else m) m
    else m) []

/-- A number of 18-bit values packed into words, the first value lowest. -/
def packVals (vs : List Val) : Nat := vs.foldr (fun v n => v.toNat + 262144 * n) 0

/-- The vector trace record of a committing cycle (R538): CCN, header, 128 agreed values, 64 committed tokens, digest. The buffer holds the last
146; when the oldest goes, the read pointer moves with it. -/
def Lane.traceRecord (l : Lane) : Lane :=
  if l.on DBG.TRACE_CFG_ENABLE && !l.on DBG.TRACE_CFG_FLOW && decide (l.trc.left ≠ some 0) then
    let n := packVals (((List.range 128).map fun k => Sparse.get 0 l.xla.agreed k) ++ (List.range 64).map fun j => Sparse.get 0 l.xla.majority j)
    let words := [l.ccn.toNat, (Config.debugWord l.free).toNat] ++ ((List.range 108).map fun i => n / 2 ^ (32 * i) % 2 ^ 32)
      ++ [l.rd XLA.DIGEST_LO_DIGEST, l.rd XLA.DIGEST_HI_DIGEST]
    let full := decide (146 ≤ l.trc.recs.length)
    let c := l.trc.count + 1
    let t : Trace := { recs := (if full then l.trc.recs.drop 1 else l.trc.recs) ++ [words], left := l.trc.left.map fun k => k - 1, count := c
                       rd := if full then l.trc.rd - 112 else l.trc.rd, ccnArmed := l.trc.ccnArmed }
    (({ l.drew with trc := t } : Lane).wr DBG.TRACE_STATUS_WRITE_PTR (448 * (c % 146))).flag DBG.TRACE_STATUS_WRAPPED (decide (146 ≤ c))
  else l

/-! ### Commit and hold (R109 to R114, R137, R145, R164) -/

/-- The digest of the last committing cycle (R113). -/
def Lane.showDigest (l : Lane) (d : BitVec 64) : Lane :=
  (l.wr XLA.DIGEST_LO_DIGEST (d.toNat % 2 ^ 32)).wr XLA.DIGEST_HI_DIGEST (d.toNat / 2 ^ 32)

/-- The fast activation releases its latched values and persistent state, unless it can no longer complete (R162); what nodes that ended after
the hand-over have sent into the Hopper is discarded. -/
def Lane.releaseFast (l : Lane) : Lane :=
  match l.act 0 with
  | some a => if a.dead then l.dropFast.missFast a else (l.dropFast.release 0 a).setAct 0 none
  | none => l

/-- The fast activation of a hold cycle releases nothing. -/
def Lane.discardFast (l : Lane) : Lane :=
  match l.act 0 with
  | some a => (l.dropFast.discard 0 a).setAct 0 none
  | none => l

/-- The slow flows due in this cycle start at a commit and are deferred at a hold. -/
def Lane.slowStarts (l : Lane) (commits : Bool) : Lane := slowFlows.foldl (fun (n : Lane) f => n.slowStart commits f) l

/-- The commit of a majority frame at 5.5 µs: the tokens of this lane's targets, and what a committing cycle does in each unit. A drive die
that is not due for the Snuff action is released with the first commit. -/
def Lane.commitFrame (l : Lane) (f : OutFrame) : Lane :=
  let toks := l.tokensOf f
  let l1 := l.onXla fun x => { x with majority := toks, committed := true }
  let l2 := (List.range (l.rd XLA.VEC_CFG_OUT_COUNT)).foldl (fun (n : Lane) j =>
    if n.commitsToken j then n.applyToken j (Sparse.get 0 toks j) else n) l1
  let l3 := (l2.showDigest f.digest).releaseFast
  let l4 := ({ l3 with wck := { l3.wck with since := 0 } } : Lane).canEvents l.can
  let l5 := ((l4.newModel (l4.modelWords toks)).slowStarts true).windowSearch
  let l6 := ((l5.driveOuts.closeAtCommit).raiseCounters).traceRecord
  if !l6.snuffDue && l6.drive.snuff && !l6.drive.release then l6.releaseDrive else l6

/-- A hold cycle (R112): registers, duties and committed state stay, and due slow flows are deferred. -/
def Lane.holdCycle (l : Lane) : Lane := (((l.discardFast).slowStarts false).holdModel).windowSearch

/-- The hold cycle counted: a migration hold cycle, or a hold under R109. -/
def Lane.countHold (l : Lane) : Lane :=
  if l.xla.migration then l.bump XLA.HOLD_COUNT_MIGRATION else l.bump XLA.HOLD_COUNT_COMMIT

/-- "No majority" (R111): the part enters SAFE STOP from TRIPLEX and DUPLEX. -/
def Lane.foundNoMajority (l : Lane) : Lane :=
  match l.xla.mode with
  | .triplex | .duplex => l.onXla fun x => { x with noMaj := true }
  | _ => l

/-- The fault source of a minority by its fence cause (R110, R115). -/
def minoritySource (cause : Nat) : Nat := match cause with | 2 => 0x10 | 3 => 0x11 | _ => 0x15

/-- The fence cause of a peer whose frame differs from the committed one. -/
def Lane.peerMinority (l : Lane) (x : LaneId) (f : OutFrame) : Nat :=
  match l.xla.oframe.get x with
  | some o => if l.tokensOf o ≠ l.tokensOf f then 0x2 else if o.digest ≠ f.digest then 0x3 else 0x9
  | none => 0x2

/-- The majority at a lane of the voting set. -/
def Lane.vote (l : Lane) : Lane :=
  let l0 := if l.flowsRest then l else l.countMissing fun x => (l.xla.oframe.get x).isSome
  match l0.verdict with
  | (.commit f, out) =>
    let l1 := l0.commitFrame f
    (match out with
     | some (x, true) => l1.setPeer x .resync
     | some (x, false) => l1.losePeer x (l1.peerMinority x f)
     | none => l1)
  | (.hold, _) => let l1 := l0.holdCycle.countHold
                  if l0.xla.statusLost then l1.enterFrameLost else l1
  | (.noMajority, _) => l0.holdCycle.countHold.foundNoMajority
  | (.minority c, _) => l0.ownFence (minoritySource c) c
  | (.frameLost, _) => l0.holdCycle.countHold.enterFrameLost

/-- Whether this lane's tokens and digest are those of a vote. -/
def Lane.sameAs (l : Lane) (v : Vote) : Bool :=
  l.xla.computed && decide (l.tokensOf v.out = l.xla.tokens) && decide (v.out.digest = l.xla.digest)

/-- The majority at a joining lane in its clean period (R137, R138): a committing cycle of the others counts when its own result is equal, and
any difference ends the resynchronisation. It writes nothing to its hardware. -/
def Lane.cleanCheck (l : Lane) : Lane :=
  match l.seenMajority with
  | none => l.holdCycle
  | some v =>
    if l.sameAs v then
      let l1 := ((l.bump XLA.RESYNC_CLEAN_COUNT).onXla fun x => { x with majority := l.tokensOf v.out, committed := true }).releaseFast
      ((l1.newModel (l1.modelWords (l.tokensOf v.out))).slowStarts true).windowSearch
    else l.resyncFails

/-- The majority by lane state; the background phase follows. -/
def Lane.majority (l : Lane) : Lane :=
  let l1 := if l.own.healthy then l.vote else if l.computes then l.cleanCheck else l
  let l2 := { l1 with clk := { l1.clk with phase := .background } }
  if l2.computes then l2.pump.sendReady else l2

/-- MAJORITY_COMMIT: peers are evaluated at 5.35 µs, and the commit completes by 5.5 µs. -/
def execMajorityCommit (l : LaneId) (s : State) : Host.Outcome State Fault Refusal :=
  let n := ((s.lane l).atTick 3210).evalPeers
  .next (s.setLane l (n.atTick 3300).majority)

/-! ### The cycle timer (R33, R95, R97, R130) -/

/-- The length of the cycle that starts and its trim against the configured length. The AUTHORITY applies none; a lane that met no marker of
it in the past cycle, or that had no reference in a migration hold cycle, has no offset; a cycle without a reference keeps the previous
length (R130). -/
def Lane.nextLen (l : Lane) (hold : Bool) : Nat × Int :=
  let cfg := l.cycleLen
  let off := match l.reference with
    | some au => if au = l.id ∨ l.xla.migration then 0 else (l.xla.markOff.get au).getD 0
    | none => 0
  let c := clampInt (-((cfg / 1500 : Nat) : Int)) ((cfg / 1500 : Nat) : Int) off
  if hold then (l.clk.len, (l.clk.len : Int) - cfg) else (((cfg : Int) - c).toNat, -c)

/-- Whether the lane counts cycle numbers: at every cycle start (R11); a lane in OFF has none. -/
def Lane.countsCcn (l : Lane) : Bool := decide (l.own ≠ .off)

/-- What a lane sends at its cycle start: the toggle and the marker in the states of R95, and the heartbeat to its drive die (R28). -/
def Lane.announceStart (l : Lane) : Lane := (if l.own.beats then (l.emit .pulse).emit .marker else l).emit .heartbeat

/-- A new cycle of the lane's timebase: its length, the CCN, the toggle, the marker and the heartbeat. -/
def Lane.tickOver (l : Lane) (hold : Bool) : Lane :=
  let (len, trim) := l.nextLen hold
  let ran := match l.pmu.power with | .run => l.clk.len | _ => 0
  let l1 := { l with clk := l.clk.start (l.clk.base + l.clk.len) len, nand := { l.nand with runTicks := l.nand.runTicks + ran } }
  let l2 := (if l.countsCcn then l1.setWord XLA.CCN_CCN.key (l.ccn + 1) else l1).wrS XLA.ALIGN_TRIM trim
  let l3 := if l.own = .authority then l2.wrS XLA.ALIGN_OFFSET 0 else l2
  (l3.feedChecker .cycleStart).announceStart

/-! ### Authority (R127 to R133, R457) -/

/-- Whether a remaining lane reports that the CLAIMs do not agree at it (R131): then the part stops, whatever this lane received. -/
def Lane.claimBadSeen (l : Lane) : Bool :=
  l.peers.any fun x => l.remaining.contains x && (match l.xla.status.get x with | some m => m.claimBad | none => false)

/-- Whether the AUTHORITY of the coming cycle is lost. -/
def Lane.authGone (l : Lane) : Bool :=
  match (if l.xla.migration then l.claimed else l.xla.auth) with
  | some au => decide (au ≠ l.id) && !(l.xla.lst.get au).healthy
  | none => false

/-- Whether the coming cycle is a migration hold cycle (R129). -/
def Lane.authLost (l : Lane) : Bool := l.computes && l.authGone

/-- The first candidate in the authority order. -/
def Lane.firstCandidate (l : Lane) : Option LaneId := l.authOrder.find? l.candidate

/-- The system records held join the open page, restored (R457). -/
def Lane.takeHeld (l : Lane) : Lane :=
  l.stm.held.foldl (fun (n : Lane) r => n.buffer { r with restored := true }) { l with stm := { l.stm with held := [] } }

/-- Lane x is AUTHORITY from the cycle that starts; an AUTHORITY still healthy becomes STANDBY. Shared safe outputs go with it (R313). -/
def Lane.newAuthority (l : Lane) (x : LaneId) (commanded : Bool) : Lane :=
  let old := l.xla.authCode
  let l1 := if x = l.id then l.goState .authority else if l.own = .authority then l.goState .standby else l
  let st := fun (y : LaneId) => if y = l.id then l1.xla.lst.get y else if y = x then LaneState.authority
    else if l1.xla.lst.get y = .authority then LaneState.standby else l1.xla.lst.get y
  let l2 := l1.onXla fun q => { q with auth := some x, alignRun := Tri.all 0, lst := ⟨st .a, st .b, st .c⟩ }
  let l3 := ((((l2.wrapInc XLA.MIG_STATUS_COUNT).wr XLA.MIG_STATUS_FROM old).wr XLA.MIG_STATUS_TO x.code).flag XLA.MIG_STATUS_COMMANDED
    commanded).wr XLA.MIG_CCN_CCN l.ccn.toNat
  let l4 := if x = l.id then (l3.takeHeld.postAll).wrS XLA.ALIGN_OFFSET 0 else l3
  ((l4.sysRecord 0x04 [(l4.word XLA.MIG_STATUS_COUNT.key).toNat, l4.ccn.toNat]).laneEvent).driveOuts

/-- A migration completes (R129): the claimed lane is AUTHORITY; without one there is none, which is a lane event (R362). -/
def Lane.takeOver (l : Lane) (c : Option LaneId) : Lane :=
  match c with
  | some x => l.newAuthority x false
  | none => (l.onXla fun q => { q with auth := none }).laneEvent

/-- A migration hold cycle begins: a lane of the voting set sends CLAIM. -/
def Lane.sendClaim (l : Lane) : Lane :=
  if l.own.healthy then
    let c := (l.firstCandidate.map LaneId.code).getD 3
    (l.onXla fun q => { q with claims := q.claims.set l.id (some c) }).sendCtl 3 (.claim c)
  else l

/-- A commanded move at its cycle (R132): carried out with every confirmation and a target that is still a candidate. The lane that an update
named then enters UPDATE at the next cycle start (R520). DESIGN CHOICE: R132 does not say who knows that a confirmation is missing; each lane judges by
the confirmations that it received itself (log entry 30). -/
def Lane.applyMove (l : Lane) (m : MoveReq) : Lane :=
  let l1 := l.onXla fun q => { q with move := none }
  if l.xla.vset.members.all m.confirm.get && l.candidate m.target && !l.xla.migration then
    let l2 := l1.newAuthority m.target true
    (if m.img.opcode = 0x24 then l2.onXla fun q => { q with updateReq := some m.img } else l2).finish m.img false 0
  else l1.finish m.img false 8 (if m.img.opcode = 0x24 then 0x02 else (Config.openReason 0x23).toNat)

/-- AUTHORITY_MOVE_APPLY, at the start of the named cycle. -/
def execAuthorityMoveApply (l : LaneId) (s : State) : Host.Outcome State Fault Refusal :=
  let n := (s.lane l).atTick 0
  .next (s.setLane l (match n.xla.move with
    | some m => if decide (m.at_ = n.ccn) && n.own.healthy then n.applyMove m else n
    | none => n))

/-! ### The system mode (R43 to R47, R111, R131, R317) -/

/-- What a cycle start makes of the system mode: it stays, changes with a trigger (R455), a stop begins, or a stop ends. -/
inductive ModeMove where
  | stay
  | to (m : SysMode) (trigger : Nat)
  | stop (c : StopCause)
  | ended (code : Nat)
deriving DecidableEq, Repr

/-- The system mode of the coming cycle (R45, R46); claimBad: the CLAIMs of a migration hold cycle do not agree. A demand of the same cycle as a
lane loss or a LAST LIGHT expiry gives one stop, not commanded, with the STO that it may demand (R326). -/
def Lane.modeMove (l : Lane) (claimBad : Bool) : ModeMove :=
  let lost := (l.peers.filter fun x => l.xla.lostNow.get x).length
  let n := l.remaining.length
  let failed := ModeMove.stop ⟨6, false, match l.sfu.toStop with | some c => c.sto | none => false⟩
  let twinLeft := decide (n ≤ 1) && l.on BCN.MODE_TWIN
  match l.xla.mode, l.sfu.toStop with
  | .snuffed, _ => match l.sfu.enable with
    | some m => if lost = 0 then .to m 0 else .stay
    | none => .stay
  | .triplex, c =>
    if l.xla.noMaj || l.xla.claimFail || claimBad || decide (2 ≤ lost) then failed
    else match c with
      | some c => .stop c
      | none => if lost = 1 then .to .duplex l.xla.lossCause else .stay
  | .duplex, c =>
    if l.xla.noMaj || l.xla.claimFail || claimBad || decide (2 ≤ lost) || twinLeft then failed
    else match c with
      | some c => .stop c
      | none =>
        if n ≤ 1 then .to .lastLight l.xla.lossCause
        else if n = 3 then .to .triplex 0 else .stay
  | .lastLight, some c => .stop (if l.sfu.llDone then ⟨5, false, c.sto⟩ else c)
  | .lastLight, none => if l.sfu.llDone then .stop ⟨5, false, false⟩ else .stay
  | .safeStop, _ => if l.sfu.endCode = 0 then .stay else .ended l.sfu.endCode

/-- The system mode becomes m, with its record and the lane event. "Service required" is raised in DUPLEX and ends with TRIPLEX (R44). -/
def Lane.setMode (l : Lane) (m : SysMode) (trigger : Nat) : Lane :=
  if l.xla.mode = m then l
  else
    let l1 := if m = .duplex then l.emit .serviceRequired else l
    let l2 := l1.onXla fun x => { x with mode := m, service := decide (m ≠ .triplex) && (x.service || decide (m = .duplex)) }
    (l2.sysRecord 0x02 [l.xla.mode.code, m.code, l.xla.vset.mask, trigger]).laneEvent

/-- SAFE STOP begins; it can trigger the trace (R538). -/
def Lane.enterStop (l : Lane) (c : StopCause) : Lane :=
  let l1 := (l.setMode .safeStop (c.kind + 0x10)).beginStop c
  if l1.rd DBG.TRACE_CFG_TRIG = 3 then l1.trigger else l1

/-- SAFE STOP ends in SNUFFED, with its record (R455) taken as it ends. -/
def Lane.leaveStop (l : Lane) (code : Nat) : Lane :=
  let f := SFU.STOP_STATUS_ELAPSED
  let l1 := l.endStop code
  let w := setBits (l1.word f.key) f.lo f.w (bitsOf (l.show f.key) f.lo f.w)
  ((l1.sysRecord 0x06 [w.toNat, l1.rd SFU.STOP_CCN_CCN]).setMode .snuffed (l1.rd SFU.STOP_STATUS_KIND + 0x10)).onXla fun x =>
    { x with noMaj := false, claimFail := false }

/-- No healthy lane remains, as a lane outside the voting set sees it (R45, R46): what still runs ends in SNUFFED, by way of SAFE STOP where the
lanes were lost together in TRIPLEX or DUPLEX. -/
def Lane.lastLost (l : Lane) : Lane :=
  let ends := fun (n : Lane) => ({ n.setMode .snuffed n.xla.lossCause with sfu := { n.sfu with stop := none, cmdStop := false } } : Lane)
  if !l.remaining.isEmpty then l
  else match l.xla.mode with
    | .snuffed => l
    | .lastLight | .safeStop => ends l
    | .triplex | .duplex => ends (l.setMode .safeStop 0x16)

/-- The system mode at a cycle start. A joining lane follows the AUTHORITY's report but for the stops that it finds itself; a lane that does not
compute follows it while a healthy lane remains. -/
def Lane.stepMode (l : Lane) (m : ModeMove) : Lane :=
  let l1 := if l.own.healthy then (match m with
      | .stay => l
      | .to mode trigger => { l.setMode mode trigger with sfu := if l.xla.mode = .snuffed then
          { l.sfu with fromReset := false, cmdStop := false } else l.sfu }
      | .stop c => l.enterStop c
      | .ended code => l.leaveStop code)
    else if l.computes then (match m with
      | .stop c => l.enterStop c
      | .ended code => l.leaveStop code
      | _ => l)
    else l.lastLost
  { l1 with sfu := { l1.sfu with enable := none, toStop := none, endCode := 0 } }

/-! ### Joining, UPDATE, power entry -/

/-- A lane whose confirmation record is missing or different rewrites it when the set is confirmed (R331). -/
def Lane.repairRecord (l : Lane) : Lane :=
  if l.sfu.confirmed && !l.recordOk then
    ((l.writeConfirmation (checkValue l.regs)).wrapInc SFU.CONFIRM_STATUS_REPAIRED).fault 0xA1
  else l

/-- The clean period is complete: the lane is STANDBY and joins the voting set. PHASE shows it for one cycle. -/
def Lane.joinVset (l : Lane) : Lane :=
  if l.xla.joinNext && decide (l.own = .resync) then
    let l1 := ((((l.goState .standby).wr XLA.RESYNC_STATUS_PHASE 3).restartStats).flag STA.STATUS_PARTIAL true).onXla fun q => { q with joinNext := false }
    ({ l1 with staPartial := true } : Lane).repairRecord
  else if l.rd XLA.RESYNC_STATUS_PHASE = 3 then (l.wr XLA.RESYNC_STATUS_PHASE 0).wr XLA.RESYNC_STATUS_DONOR 3
  else l

/-- A test occasion begins with a partition (R527, R541). -/
def Lane.beginTest (l : Lane) (occasion part : Nat) : Lane :=
  let l1 := (((l.setWord BST.STATUS_OCCASION.key 0).wr BST.STATUS_OCCASION occasion).wr BST.STATUS_PART part).flag BST.STATUS_RUNNING true
  l1.setWord BST.CCN_VALUE.key l.ccn

/-- The lane enters UPDATE (R139, R377, R520, R533): the Snuff action, the open recorder page, the end of its sessions; then the reload by
reset code 0x7, or the in-service test from partition 6. -/
def Lane.enterUpdate (l : Lane) (img : CmdImage) : Lane :=
  let l1 := (((l.goState .update).onXla fun x => { x with vset := x.vset.set l.id false }).snuffDrive).flushPage
  let l2 := ((l1.endSession 0).endSession 1).onHif fun h => { h with updated := true }
  if img.opcode = 0x24 then (l2.laneReset 7).allOn else l2.beginTest 3 6

/-- The lane that an update or in-service test names. -/
def updateTarget (img : CmdImage) : Option LaneId := LaneId.ofCode ((img.args.getD (if img.opcode = 0x24 then 0 else 1) 0).toNat)

/-- An accepted update or test takes effect at the cycle start: the named lane enters UPDATE, and the others count it as lost. -/
def Lane.stepUpdate (l : Lane) : Lane :=
  match l.xla.updateReq with
  | some img =>
    let l1 := l.onXla fun q => { q with updateReq := none }
    (match updateTarget img, l.own.healthy with
     | some x, true => if x = l.id then l1.enterUpdate img else (l1.onXla fun q => { q with lossCause := 0 }).setPeer x .update
     | _, _ => l1)
  | none => l

/-! ### The cycle start -/

/-- Whether this lane committed the past cycle and lacks the STATUS message of a healthy peer of its voting set (R379). -/
def Lane.lacksStatus (l : Lane) : Bool :=
  l.own.healthy && l.xla.committed &&
    l.peers.any fun x => l.xla.vset.get x && (l.xla.lst.get x).healthy && (l.xla.status.get x).isNone

/-- The units at a cycle start: slow nodes are suspended, slow releases, fences that lift, the episode, SSI frames of the cycle before (R275), arming
(R257), network values,
the CCN trigger, and the safety unit. -/
def Lane.stepUnits (l : Lane) (rb0 rb1 : Bool) : Lane :=
  let l1 := [0, 1, 2, 3].foldl Lane.suspendCore { l with clk := { l.clk with phase := .sampling } }
  let l2 := if l1.computes then l1.slowReleases else l1
  let l3 := (l2.liftFences).closeAtStart
  let l3 := (l3.flag PFB.SSI_STATUS_NEW false 0).flag PFB.SSI_STATUS_NEW false 1
  let a := l3.pfb.armReq
  let l4 := ((l3.wr PFB.ARM_INDEX (l3.rd PFB.ARM_INDEX ||| a % 4)).wr PFB.ARM_PROBE (l3.rd PFB.ARM_PROBE ||| a / 4))
  let l5 := ({ l4 with pfb := { l4.pfb with armReq := 0 } } : Lane).netCycleStart.raiseOvers
  let l6 := if decide (l5.rd DBG.TRACE_CFG_TRIG = 1) && l5.trc.ccnArmed && decide (l5.word DBG.TRACE_CCN_CCN.key = l5.ccn) then l5.trigger else l5
  let l7 := { l6 with sfu := { l6.sfu with confirmed := l6.sfu.confirmed || l6.sfu.confirmNext, confirmNext := false } }
  ((l7.readback 0 rb0).readback 1 rb1).sfuCycleStart

/-- The cycle start of a lane: rb0 and rb1 are the readbacks of its safe outputs. A lane in OFF, or whose XLA island is stopped (R532), has
none; an accepted entry into BANK or EMBER that STATUS has shown begins instead (R470). -/
def Lane.cycleStart (l : Lane) (rb0 rb1 : Bool) : Lane :=
  if decide (l.own = .off) || l.sec.silent then l
  else
    match l.pmu.accepted, l.pmu.shown with
    | some target, true => ({ l with clk := l.clk.start (l.clk.base + l.clk.len) l.clk.len } : Lane).startEntry target
    | _, _ =>
      let hold := l.authLost
      let takes := l.xla.migration && l.computes && !hold
      let claimBad := takes && (l.claimed.isNone || l.claimBadSeen)
      let l1 := (l.tickOver (hold || (l.authGone && !l.xla.refLost))).onXla fun x => { x.newCycle with
        statusLost := l.lacksStatus, commitHold := false, migration := hold, tookOver := takes, refLost := l.authGone }
      let l2 := if takes then l1.takeOver l.claimed else l1
      let l3 := ((l2.stepMode (l.modeMove claimBad)).joinVset).stepUnits rb0 rb1
      (if hold then l3.sendClaim else l3).stepUpdate

/-- CYCLE_START. -/
def execCycleStart (l : LaneId) (rb0 rb1 : Bool) (s : State) : Host.Outcome State Fault Refusal :=
  .next (s.setLane l ((s.lane l).cycleStart rb0 rb1))

/-! ### The initial start (R135, R331) -/

/-- The initial start at the named instant. DESIGN CHOICE: R47 asks a reset of all three lanes after a fault path, which no lane can know of a lane that
is held or off; a start counts as one from reset (log entry 86). CCN 0, the authority-elect AUTHORITY and the matching lanes STANDBY in SNUFFED; the set
is confirmed when at least two of the lanes that start hold a record equal to the check value. -/
def Lane.initialStart (l : Lane) (at_ : Nat) (elect : LaneId) : Lane :=
  let ms := l.matching
  let st := fun (x : LaneId) => if x = elect then LaneState.authority
    else if x = l.id ∨ ms.contains x then LaneState.standby else l.xla.lst.get x
  let l1 := { l with clk := l.clk.start at_ l.cycleLen }
  let l2 := (l1.setWord XLA.CCN_CCN.key 0).onXla fun x => { x.newCycle with
    mode := .snuffed, auth := some elect, startAt := none, held := false
    lst := ⟨if l.id = .a then x.lst.a else st .a, if l.id = .b then x.lst.b else st .b, if l.id = .c then x.lst.c else st .c⟩ }
  let ok := (if l.recordOk then 1 else 0) + (ms.filter fun x => (l.xla.peers.get x).recordOk).length
  let yes := decide (2 ≤ ok)
  let l3 := ({ l2 with sfu := { l2.sfu with confirmed := yes, fromReset := true } } : Lane).setWord SFU.CONFIRMED_VALUE_VALUE.key
    (if yes then checkValue l.regs else 0)
  (((l3.goState (st l.id)).repairRecord).stepUnits false false).announceStart

/-- INITIAL_START: the instant named in SYNC_START has come. A lane that is held (R60, R125) or stopped or halted does not start. -/
def execInitialStart (l : LaneId) (s : State) : Host.Outcome State Fault Refusal :=
  let n := s.lane l
  .next (s.setLane l (match n.xla.startAt, n.elect with
    | some at_, some e => if n.own = .sync ∧ !n.heldFenced ∧ !n.bcn.stopped ∧ !n.bcn.halted then n.initialStart at_ e else n
    | _, _ => n))

end Sys2Proof.Machine
end

