-- ==== Sys2Proof/Machine/Test.lean ====
section
/-!
DEFINITION. Self-test and the debug port (chapter 16): the LBIST occasions, the test access port, the debug protocol and trace.
-/
namespace Sys2Proof.Machine

open Sys2Proof

/-! ### LBIST (R525 to R532) -/

/-- The partition tested after p: power-up 7, 0, 1, …, 6; key-off and in-service 6, 5, …, 0; on demand one alone. -/
def nextPart (occasion p : Nat) : Option Nat :=
  match occasion with
  | 1 => if p = 7 then some 0 else if p < 6 then some (p + 1) else none
  | 2 | 3 => if p = 0 then none else some (p - 1)
  | _ => none

/-- The power-up test is due (R500, R527, R528): 52 + 18 × L ms after the reset release, in BOOT, after reset codes 0x1 to 0x7, in resident firmware,
whose image carries the expected signatures (R525). -/
def Lane.powerUpDue (l : Lane) : Bool :=
  decide (l.own = .boot) && l.boot.loaded && !l.boot.quick && l.otp.selfTest && decide (l.rd CRU.RESET_CAUSE_LAST ≠ 8) &&
    decide (l.rd BST.STATUS_OCCASION = 0) && decide (l.boot.released + 600000 * (52 + 18 * l.id.code) = l.clk.now)

/-- LBIST_POWER_UP_START. -/
def execLbistPowerUpStart (l : LaneId) (t : Nat) (s : State) : Host.Outcome State Fault Refusal :=
  let n := (s.lane l).atTick t
  .next (s.setLane l (if n.powerUpDue then n.beginTest 1 7 else n))

/-- The key-off test starts (R529, R471): the shutdown notice goes before partition 6, its first. -/
def Lane.keyoffTestStart (l : Lane) : Lane :=
  if l.pmu.keyTest && !l.pmu.key && decide (l.xla.mode = .snuffed) && decide (l.ccn.toNat % 8192 = 2048 * l.id.code) &&
      !l.on BST.STATUS_RUNNING then
    ((l.onPmu fun p => { p with keyTest := false }).shutdownNotice).beginTest 2 6
  else l

/-- KEYOFF_TEST_START, at a cycle start. -/
def execKeyoffTestStart (l : LaneId) (s : State) : Host.Outcome State Fault Refusal :=
  .next (s.setLane l ((s.lane l).atTick 0).keyoffTestStart)

/-- A test occasion has ended without a failure. -/
def Lane.testEnds (l : Lane) (occasion : Nat) : Lane :=
  let l1 := l.flag BST.STATUS_RUNNING false
  match occasion with
  | 2 => ((l1.wrapInc BST.COUNT_KEYOFF).onXla fun x => { x with testOver := true }).keyoffRequest
  | 3 => ((l1.wrapInc BST.COUNT_INSVC).laneReset 7).allOn
  | _ => l1

/-- A partition passes (R529, R531): after partition 6 of a key-off test the die-to-die interface is initialised again; the key's return
abandons the rest. -/
def Lane.partPassed (l : Lane) (occasion p : Nat) : Lane :=
  let l1 := (l.wr BST.STATUS_TESTED (l.rd BST.STATUS_TESTED ||| 2 ^ p)).wr BST.STATUS_PASSED (l.rd BST.STATUS_PASSED ||| 2 ^ p)
  let l2 := if occasion = 2 ∧ p = 6 then l1.initDriveLink else l1
  if occasion = 2 ∧ l.pmu.key then
    ((l2.flag BST.STATUS_RUNNING false).flag BST.STATUS_ABANDONED true).onXla fun x => { x with testOver := true }
  else match nextPart occasion p with
    | some q => l2.wr BST.STATUS_PART q
    | none => l2.testEnds occasion

/-- A partition fails (R532): the signatures are kept; at power-up the lane stays in BOOT; after a key-off test it is silent and off, and
requests EMBER while the key is off; in service it stays in UPDATE. -/
def Lane.partFailed (l : Lane) (occasion p : Nat) (sig exp : BitVec 64) : Lane :=
  let l1 := ((l.wr BST.STATUS_TESTED (l.rd BST.STATUS_TESTED ||| 2 ^ p)).flag BST.STATUS_FAILED true).flag BST.STATUS_RUNNING false
  let l2 := ((((l1.wr BST.SIG_LO_SIG (sig.toNat % 2 ^ 32)).wr BST.SIG_HI_SIG (sig.toNat / 2 ^ 32)).wr BST.EXP_LO_SIG (exp.toNat % 2 ^ 32)).wr
    BST.EXP_HI_SIG (exp.toNat / 2 ^ 32)).fault 0xE8 (BitVec.ofNat 32 p)
  match occasion with
  | 1 => l2.snuffDrive
  | 3 => let l3 := l2.snuffDrive; { l3 with sec := { l3.sec with stuck := true } }
  | 2 =>
    let l3 := (l2.flushPage.snuffDrive).goState .off
    let l4 := ({ l3 with sec := { l3.sec with silent := true } } : Lane).onXla fun x => { x with vset := x.vset.set l.id false }
    if l4.pmu.key then l4 else l4.keyoffRequest
  | _ => l2

/-- LBIST_PARTITION_COMPLETE: the MISR of the partition under test, and its expected signature. -/
def execLbistPartitionComplete (l : LaneId) (t : Nat) (sig exp : BitVec 64) (s : State) : Host.Outcome State Fault Refusal :=
  let n := (s.lane l).atTick t
  let o := n.rd BST.STATUS_OCCASION
  let p := n.rd BST.STATUS_PART
  .next (s.setLane l
    (if n.on BST.STATUS_RUNNING then (if sig = exp then n.partPassed o p else n.partFailed o p sig exp) else n))

/-! ### The test access port (R536) -/

/-- The instruction that is selected; one that is not available selects the bypass register, as IEEE 1149.1 has it. -/
def Lane.selectTap (l : Lane) (i : Tap) : Lane :=
  let ok := match i with | .sample | .extest => decide (l.otp.lifecycle = 1) | _ => true
  { l with tap := if ok then i else .bypass }

/-- The identification code. -/
def idcode : Word :=
  BitVec.ofNat 32 (2 ^ 28 * Config.siliconRev.toNat + 4096 * 0x3960 + 2 * Config.manufacturer.toNat + 1)

/-- BYPASS. -/
def execBypass (l : LaneId) (t : Nat) (s : State) : Host.Outcome State Fault Refusal :=
  .next (s.setLane l (((s.lane l).atTick t).selectTap .bypass))

/-- IDCODE. -/
def execIdcode (l : LaneId) (t : Nat) (s : State) : Host.Outcome State Fault Refusal :=
  .next (s.setLane l ((((s.lane l).atTick t).selectTap .idcode).emit (.tdo idcode)))

/-- SAMPLE/PRELOAD. -/
def execSamplePreload (l : LaneId) (t : Nat) (s : State) : Host.Outcome State Fault Refusal :=
  .next (s.setLane l (((s.lane l).atTick t).selectTap .sample))

/-- EXTEST. -/
def execExtest (l : LaneId) (t : Nat) (s : State) : Host.Outcome State Fault Refusal :=
  .next (s.setLane l (((s.lane l).atTick t).selectTap .extest))

/-! ### The debug protocol (R83, R85 to R88, R491, R527, R537) -/

/-- A fabric read by the debug port. -/
def Lane.gdpRead (l : Lane) (addr : Word) (up : Upset) : Lane :=
  let a := addr.toNat
  if inSram a then l.sramGet 0xD addr up
  else if inTable a then l.tableLook addr up
  else if inRegs a then l.regRead 0xD addr
  else if a < 0x20000 ∨ (0x60000000 ≤ a ∧ a < 0x70000000) ∨ 0x80000000 ≤ a then l.violation 0xD addr
  else l.unmapped 0xD addr

/-- A fabric write by the debug port, of one word. -/
def Lane.gdpWrite (l : Lane) (addr v : Word) : Lane :=
  let high := decide (4 ≤ addr.toNat % 8)
  let data := BitVec.ofNat 64 (if high then v.toNat * 2 ^ 32 else v.toNat)
  if inTable addr.toNat then l.violation 0xD addr
  else if 0x80000000 ≤ addr.toNat then l.violation 0xD addr
  else l.busWrite 0xD { addr := addr, data := data, strobe := if high then 0xF0 else 0x0F }

/-- A debug reset (R491): the scope of code 0x6 or of 0x7. DESIGN CHOICE: a lane that votes or rejoins leaves the voting set first, with the cause of
the debug halt (log entry 83). -/
def Lane.debugReset (l : Lane) (full : Bool) : Lane :=
  let l1 := if l.own.fenceable then l.leaveVset 0xA true else l
  if full then (l1.laneReset 8).allOn else l1.laneReset 8 [0, 1, 2]

/-- A halt request (R88). -/
def Lane.gdpHalt (l : Lane) : Lane :=
  if l.haltAccepted then (l.dbgAct .halt).emit (.probe true) else ((l.wrapInc DBG.STATUS_REFUSED).fault 0xEA).emit (.probe false)

/-- A read of a register or local memory word of the main core (R86): what a debugger wrote there, else what the core holds, which is free. It enters
neither signature. -/
def Lane.gdpCoreRead (l : Lane) (target : Nat) : Lane :=
  match Sparse.get none l.bcn.core target with
  | some v => (l.busDone (v.setWidth 64)).emit (.probe true)
  | none => (l.drew.busDone ((Config.coreWord l.free).setWidth 64)).emit (.probe true)

/-- The level that a request needs (R537). -/
def gdpNeeds (r : GdpReq) : Nat :=
  match r with
  | .exchange => 0
  | .read _ _ | .trace => 1
  | _ => 2

/-- A request within the granted level. -/
def Lane.gdpServe (l : Lane) (r : GdpReq) : Lane :=
  match r with
  | .exchange => l.emit (.probe true)
  | .read addr up => (l.gdpRead addr up).emit (.probe true)
  | .trace => (l.regRead 0xD (privAddr DBG.TRACE_DATA_WORD.key)).emit (.probe true)
  | .halt => l.gdpHalt
  | .resume => (if l.bcn.halted then l.dbgAct .resume else l).emit (.probe true)
  | .step => (if l.bcn.halted then l.dbgAct .step else l).emit (.probe true)
  | .coreWrite target val => (l.dbgAct (.write target val)).emit (.probe true)
  | .coreRead target => l.gdpCoreRead target
  | .write addr v => (l.gdpWrite addr v).emit (.probe true)
  | .reset full => (l.debugReset full).emit (.probe true)
  | .test part =>
    if decide (l.otp.lifecycle = 1) && decide (part < 8) && !l.on BST.STATUS_RUNNING then (l.beginTest 4 part).emit (.probe true)
    else l.dbgRefused 0

/-- The address of a request, which a refusal reports (R343); 0 for one without an address. -/
def gdpAddr (r : GdpReq) : Word :=
  match r with
  | .read a _ | .write a _ => a
  | _ => 0

/-- GDP_REQUEST: beyond the granted level, an error response and "access violation". -/
def execGdpRequest (l : LaneId) (t : Nat) (req : GdpReq) (s : State) : Host.Outcome State Fault Refusal :=
  let n := ((s.lane l).atTick t).selectTap .gdp
  .next (s.setLane l (if gdpNeeds req ≤ n.dbgLevel then n.gdpServe req else n.dbgRefused (gdpAddr req)))

/-- TRACE_DATA_READ by an initiator (R538). -/
def execTraceDataRead (l : LaneId) (t ini : Nat) (s : State) : Host.Outcome State Fault Refusal :=
  .next (s.setLane l (((s.lane l).atTick t).regRead ini (privAddr DBG.TRACE_DATA_WORD.key)))

end Sys2Proof.Machine
end

