-- ==== Sys2Proof/Machine/Dispatch.lean ====
section
/-!
DEFINITION. One arm per command: each calls that command's meaning.
-/
namespace Sys2Proof.Machine

open Sys2Proof

/-- The effect of a command on everything but the queue. -/
def exec (i : Instr) (s : State) : Host.Outcome State Fault Refusal :=
  match i with
  | .cycleStart l rb0 rb1 => Sys2Proof.Machine.execCycleStart l rb0 rb1 s
  | .episodeClose l t => Sys2Proof.Machine.execEpisodeClose l t s
  | .inputVectorClose l => Sys2Proof.Machine.execInputVectorClose l s
  | .agreementFrame l t link f => Sys2Proof.Machine.execAgreementFrame l t link f s
  | .inputAgreement l => Sys2Proof.Machine.execInputAgreement l s
  | .sourceInjection l => Sys2Proof.Machine.execSourceInjection l s
  | .sfuEvaluation l => Sys2Proof.Machine.execSfuEvaluation l s
  | .lastLightExpiry l t => Sys2Proof.Machine.execLastLightExpiry l t s
  | .fastFlowDeadlineCheck l => Sys2Proof.Machine.execFastFlowDeadlineCheck l s
  | .outputExchange l => Sys2Proof.Machine.execOutputExchange l s
  | .outputFrame l t link f => Sys2Proof.Machine.execOutputFrame l t link f s
  | .majorityCommit l => Sys2Proof.Machine.execMajorityCommit l s
  | .statusSend l => Sys2Proof.Machine.execStatusSend l s
  | .statusMessage l t link h m => Sys2Proof.Machine.execStatusMessage l t link h m s
  | .fenceMessage l t link h cause => Sys2Proof.Machine.execFenceMessage l t link h cause s
  | .claim l t link h named => Sys2Proof.Machine.execClaim l t link h named s
  | .move l t link h target at_ => Sys2Proof.Machine.execMove l t link h target at_ s
  | .authorityMoveApply l => Sys2Proof.Machine.execAuthorityMoveApply l s
  | .commitReady l t link h at_ tag => Sys2Proof.Machine.execCommitReady l t link h at_ tag s
  | .commitApply l => Sys2Proof.Machine.execCommitApply l s
  | .hostCmd l t link h img => Sys2Proof.Machine.execHostCmd l t link h img s
  | .hostCommandAgreed l t img peer otpOk => Sys2Proof.Machine.execHostCommandAgreed l t img peer otpOk s
  | .agreementTimeout l t img => Sys2Proof.Machine.execAgreementTimeout l t img s
  | .join l t link h => Sys2Proof.Machine.execJoin l t link h s
  | .xferSend l t block left last => Sys2Proof.Machine.execXferSend l t block left last s
  | .xfer l t link h block left => Sys2Proof.Machine.execXfer l t link h block left s
  | .xferCut l t link h block cut => Sys2Proof.Machine.execXferCut l t link h block cut s
  | .cutCycleStart l => Sys2Proof.Machine.execCutCycleStart l s
  | .cleanPeriodComplete l => Sys2Proof.Machine.execCleanPeriodComplete l s
  | .transferTimeout l t => Sys2Proof.Machine.execTransferTimeout l t s
  | .syncStartDecision l t start => Sys2Proof.Machine.execSyncStartDecision l t start s
  | .syncStart l t link h start => Sys2Proof.Machine.execSyncStart l t link h start s
  | .initialStart l => Sys2Proof.Machine.execInitialStart l s
  | .cycleMarkerReceive l link arr => Sys2Proof.Machine.execCycleMarkerReceive l link arr s
  | .pulseToggleReceive l link off => Sys2Proof.Machine.execPulseToggleReceive l link off s
  | .linkBlockLockLost l t link => Sys2Proof.Machine.execLinkBlockLockLost l t link s
  | .linkTrainingComplete l t link latency => Sys2Proof.Machine.execLinkTrainingComplete l t link latency s
  | .lockstepWindowCompare l t wbMain wbChk bad0 bad1 => Sys2Proof.Machine.execLockstepWindowCompare l t wbMain wbChk bad0 bad1 s
  | .coreBusWrite l t m chk bad0 bad1 => Sys2Proof.Machine.execCoreBusWrite l t m chk bad0 bad1 s
  | .comparatorRehearsal l t flag0 flag1 => Sys2Proof.Machine.execComparatorRehearsal l t flag0 flag1 s
  | .laneSramRead l t ini addr up => Sys2Proof.Machine.execLaneSramRead l t ini addr up s
  | .laneSramWrite l t ini addr data strobe up => Sys2Proof.Machine.execLaneSramWrite l t ini addr data strobe up s
  | .sramScrub l t up => Sys2Proof.Machine.execSramScrub l t up s
  | .coreLocalMemoryError l t mem dataMem off up => Sys2Proof.Machine.execCoreLocalMemoryError l t mem dataMem off up s
  | .commsCoreWatchdog l t => Sys2Proof.Machine.execCommsCoreWatchdog l t s
  | .debugHaltRequest l t => Sys2Proof.Machine.execDebugHaltRequest l t s
  | .debugResume l t => Sys2Proof.Machine.execDebugResume l t s
  | .debugSingleStep l t => Sys2Proof.Machine.execDebugSingleStep l t s
  | .debugCoreWrite l t target val => Sys2Proof.Machine.execDebugCoreWrite l t target val s
  | .breakpointHit l t watch idx => Sys2Proof.Machine.execBreakpointHit l t watch idx s
  | .replayQueueDrain l t => Sys2Proof.Machine.execReplayQueueDrain l t s
  | .taperCoreUnresponsive l t core => Sys2Proof.Machine.execTaperCoreUnresponsive l t core s
  | .nodePreemption l t core => Sys2Proof.Machine.execNodePreemption l t core s
  | .pclTableScrub l t bank arcTable entry up => Sys2Proof.Machine.execPclTableScrub l t bank arcTable entry up s
  | .pass l t core => Sys2Proof.Machine.execPass l t core s
  | .const l t core => Sys2Proof.Machine.execConst l t core s
  | .add l t core => Sys2Proof.Machine.execAdd l t core s
  | .sub l t core => Sys2Proof.Machine.execSub l t core s
  | .mul l t core => Sys2Proof.Machine.execMul l t core s
  | .mac l t core => Sys2Proof.Machine.execMac l t core s
  | .div l t core => Sys2Proof.Machine.execDiv l t core s
  | .abs l t core => Sys2Proof.Machine.execAbs l t core s
  | .neg l t core => Sys2Proof.Machine.execNeg l t core s
  | .scale l t core => Sys2Proof.Machine.execScale l t core s
  | .min l t core => Sys2Proof.Machine.execMin l t core s
  | .max l t core => Sys2Proof.Machine.execMax l t core s
  | .limit l t core => Sys2Proof.Machine.execLimit l t core s
  | .sqrt l t core => Sys2Proof.Machine.execSqrt l t core s
  | .atan2 l t core => Sys2Proof.Machine.execAtan2 l t core s
  | .sincos l t core => Sys2Proof.Machine.execSincos l t core s
  | .cmp l t core => Sys2Proof.Machine.execCmp l t core s
  | .select l t core => Sys2Proof.Machine.execSelect l t core s
  | .bits l t core => Sys2Proof.Machine.execBits l t core s
  | .logic l t core => Sys2Proof.Machine.execLogic l t core s
  | .edge l t core => Sys2Proof.Machine.execEdge l t core s
  | .debounce l t core => Sys2Proof.Machine.execDebounce l t core s
  | .counter l t core => Sys2Proof.Machine.execCounter l t core s
  | .timer l t core => Sys2Proof.Machine.execTimer l t core s
  | .lpf1 l t core => Sys2Proof.Machine.execLpf1 l t core s
  | .biquad l t core => Sys2Proof.Machine.execBiquad l t core s
  | .ratelim l t core => Sys2Proof.Machine.execRatelim l t core s
  | .deadband l t core => Sys2Proof.Machine.execDeadband l t core s
  | .movavg l t core => Sys2Proof.Machine.execMovavg l t core s
  | .integ l t core => Sys2Proof.Machine.execInteg l t core s
  | .deriv l t core => Sys2Proof.Machine.execDeriv l t core s
  | .delay l t core => Sys2Proof.Machine.execDelay l t core s
  | .lut1 l t core => Sys2Proof.Machine.execLut1 l t core s
  | .lut2 l t core => Sys2Proof.Machine.execLut2 l t core s
  | .steermap l t core => Sys2Proof.Machine.execSteermap l t core s
  | .rangechk l t core => Sys2Proof.Machine.execRangechk l t core s
  | .xchk l t core => Sys2Proof.Machine.execXchk l t core s
  | .plaus l t core => Sys2Proof.Machine.execPlaus l t core s
  | .validor l t core => Sys2Proof.Machine.execValidor l t core s
  | .stuck l t core => Sys2Proof.Machine.execStuck l t core s
  | .bridgecmd l t core => Sys2Proof.Machine.execBridgecmd l t core s
  | .safeout l t core => Sys2Proof.Machine.execSafeout l t core s
  | .sigenc l t core => Sys2Proof.Machine.execSigenc l t core s
  | .sigdec l t core => Sys2Proof.Machine.execSigdec l t core s
  | .agechk l t core => Sys2Proof.Machine.execAgechk l t core s
  | .mux4 l t core => Sys2Proof.Machine.execMux4 l t core s
  | .statemach l t core => Sys2Proof.Machine.execStatemach l t core s
  | .poly l t core => Sys2Proof.Machine.execPoly l t core s
  | .loopSlotPassage l t slot => Sys2Proof.Machine.execLoopSlotPassage l t slot s
  | .profileGeneratorPassage l t gen => Sys2Proof.Machine.execProfileGeneratorPassage l t gen s
  | .tableMemoryWrite l t ini addr data => Sys2Proof.Machine.execTableMemoryWrite l t ini addr data s
  | .tableMemoryScrub l t up => Sys2Proof.Machine.execTableMemoryScrub l t up s
  | .pwmPeriodBoundary l t b => Sys2Proof.Machine.execPwmPeriodBoundary l t b s
  | .startTimeout l t b => Sys2Proof.Machine.execStartTimeout l t b s
  | .currentSample l b cu cw cv => Sys2Proof.Machine.execCurrentSample l b cu cw cv s
  | .deferredSectorChange l t b => Sys2Proof.Machine.execDeferredSectorChange l t b s
  | .fastConversion l t conv => Sys2Proof.Machine.execFastConversion l t conv s
  | .slowConversion l t code => Sys2Proof.Machine.execSlowConversion l t code s
  | .offsetCalibrationComplete l t ch => Sys2Proof.Machine.execOffsetCalibrationComplete l t ch s
  | .chopperDeferredChange l t => Sys2Proof.Machine.execChopperDeferredChange l t s
  | .overvoltageTimerExpiry l t => Sys2Proof.Machine.execOvervoltageTimerExpiry l t s
  | .lineEdgeAccepted l t lines levels => Sys2Proof.Machine.execLineEdgeAccepted l t lines levels s
  | .lineGlitchRejected l t line => Sys2Proof.Machine.execLineGlitchRejected l t line s
  | .glitchWindowEnd l t => Sys2Proof.Machine.execGlitchWindowEnd l t s
  | .chatterClear l t line => Sys2Proof.Machine.execChatterClear l t line s
  | .pfbVectorLatch l => Sys2Proof.Machine.execPfbVectorLatch l s
  | .ssiTransactionStart l t port high => Sys2Proof.Machine.execSsiTransactionStart l t port high s
  | .ssiFrameComplete l t port raw => Sys2Proof.Machine.execSsiFrameComplete l t port raw s
  | .sentFrameReceived l t recv sync ivs => Sys2Proof.Machine.execSentFrameReceived l t recv sync ivs s
  | .pfbArmWrite l t ini v => Sys2Proof.Machine.execPfbArmWrite l t ini v s
  | .shootThroughCommand l t leg byDie => Sys2Proof.Machine.execShootThroughCommand l t leg byDie s
  | .desaturationTrip l t x => Sys2Proof.Machine.execDesaturationTrip l t x s
  | .hardShortTrip l t x => Sys2Proof.Machine.execHardShortTrip l t x s
  | .retryWaitExpiry l t unit => Sys2Proof.Machine.execRetryWaitExpiry l t unit s
  | .vgdUndervoltage l t => Sys2Proof.Machine.execVgdUndervoltage l t s
  | .vgdLockoutClear l t => Sys2Proof.Machine.execVgdLockoutClear l t s
  | .vgdFirstRise l t => Sys2Proof.Machine.execVgdFirstRise l t s
  | .driveDieVbusComparator l t above => Sys2Proof.Machine.execDriveDieVbusComparator l t above s
  | .adaptiveEdgeMeasured l t k on time => Sys2Proof.Machine.execAdaptiveEdgeMeasured l t k on time s
  | .driveDieUpdate l t heartbeat crcOk => Sys2Proof.Machine.execDriveDieUpdate l t heartbeat crcOk s
  | .snuffCommand l t => Sys2Proof.Machine.execSnuffCommand l t s
  | .snuffRelease l t => Sys2Proof.Machine.execSnuffRelease l t s
  | .autonomousSnuff l t => Sys2Proof.Machine.execAutonomousSnuff l t s
  | .safetyInputSample l levelA levelB => Sys2Proof.Machine.execSafetyInputSample l levelA levelB s
  | .safeOutputTestPulse l t out => Sys2Proof.Machine.execSafeOutputTestPulse l t out s
  | .safeOutputTestPulseEnd l t out below => Sys2Proof.Machine.execSafeOutputTestPulseEnd l t out below s
  | .safeOutputCurrentLimit l t out => Sys2Proof.Machine.execSafeOutputCurrentLimit l t out s
  | .commissioningSessionLost l t => Sys2Proof.Machine.execCommissioningSessionLost l t s
  | .faultEvent l t src info level => Sys2Proof.Machine.execFaultEvent l t src info level s
  | .faultRecovery l t src => Sys2Proof.Machine.execFaultRecovery l t src s
  | .injectSourceEvent l t ini src => Sys2Proof.Machine.execInjectSourceEvent l t ini src s
  | .injectSignatureFlip l t ini => Sys2Proof.Machine.execInjectSignatureFlip l t ini s
  | .injectSramSingleBit l t ini => Sys2Proof.Machine.execInjectSramSingleBit l t ini s
  | .injectSramDoubleBit l t ini => Sys2Proof.Machine.execInjectSramDoubleBit l t ini s
  | .injectTableDoubleBit l t ini => Sys2Proof.Machine.execInjectTableDoubleBit l t ini s
  | .functionLevelReset l t fn => Sys2Proof.Machine.execFunctionLevelReset l t fn s
  | .pcieLinkDown l t => Sys2Proof.Machine.execPcieLinkDown l t s
  | .pciePowerStateChange l t fn d3hot bme => Sys2Proof.Machine.execPciePowerStateChange l t fn d3hot bme s
  | .sqTail l t fn q v => Sys2Proof.Machine.execSqTail l t fn q v s
  | .cqHead l t fn q v => Sys2Proof.Machine.execCqHead l t fn q v s
  | .resume l t fn q token => Sys2Proof.Machine.execResume l t fn q token s
  | .cancel l t fn q token => Sys2Proof.Machine.execCancel l t fn q token s
  | .descriptorFetch l t q d tagOk => Sys2Proof.Machine.execDescriptorFetch l t q d tagOk s
  | .payloadBurst l t q hostOk tagOk hash pay => Sys2Proof.Machine.execPayloadBurst l t q hostOk tagOk hash pay s
  | .completionPost l t q => Sys2Proof.Machine.execCompletionPost l t q s
  | .completionWaitTimeout l t q => Sys2Proof.Machine.execCompletionWaitTimeout l t q s
  | .qpEnableWrite l t ini q v => Sys2Proof.Machine.execQpEnableWrite l t ini q v s
  | .nop l t q => Sys2Proof.Machine.execNop l t q s
  | .resultRead l t q => Sys2Proof.Machine.execResultRead l t q s
  | .statsRead l t q => Sys2Proof.Machine.execStatsRead l t q s
  | .recorderRead l t q lost => Sys2Proof.Machine.execRecorderRead l t q lost s
  | .map l t q => Sys2Proof.Machine.execMap l t q s
  | .unmap l t q => Sys2Proof.Machine.execUnmap l t q s
  | .fence l t q => Sys2Proof.Machine.execFence l t q s
  | .stageOpen l t img => Sys2Proof.Machine.execStageOpen l t img s
  | .stageWrite l t img => Sys2Proof.Machine.execStageWrite l t img s
  | .stageCheck l t img => Sys2Proof.Machine.execStageCheck l t img s
  | .commit l t img => Sys2Proof.Machine.execCommit l t img s
  | .stageAbort l t img => Sys2Proof.Machine.execStageAbort l t img s
  | .driveEnable l t img => Sys2Proof.Machine.execDriveEnable l t img s
  | .driveReenable l t img => Sys2Proof.Machine.execDriveReenable l t img s
  | .safeStop l t img => Sys2Proof.Machine.execSafeStop l t img s
  | .safeTorqueOff l t img => Sys2Proof.Machine.execSafeTorqueOff l t img s
  | .authMove l t img => Sys2Proof.Machine.execAuthMove l t img s
  | .laneUpdate l t img peerOk => Sys2Proof.Machine.execLaneUpdate l t img peerOk s
  | .commOpen l t img => Sys2Proof.Machine.execCommOpen l t img s
  | .commKeepalive l t img => Sys2Proof.Machine.execCommKeepalive l t img s
  | .commClose l t img => Sys2Proof.Machine.execCommClose l t img s
  | .confirmCheck l t img => Sys2Proof.Machine.execConfirmCheck l t img s
  | .imageWrite l t img => Sys2Proof.Machine.execImageWrite l t img s
  | .keyEnrol l t img peerOk otpOk => Sys2Proof.Machine.execKeyEnrol l t img peerOk otpOk s
  | .lifecycleAdvance l t img otpOk => Sys2Proof.Machine.execLifecycleAdvance l t img otpOk s
  | .testRequestInService l t img peer => Sys2Proof.Machine.execTestRequestInService l t img peer s
  | .testRequestRehearse l t img => Sys2Proof.Machine.execTestRequestRehearse l t img s
  | .mailboxDataWrite l t ini m w v => Sys2Proof.Machine.execMailboxDataWrite l t ini m w v s
  | .mailboxPost l t ini m v => Sys2Proof.Machine.execMailboxPost l t ini m v s
  | .mailboxAck l t ini m v => Sys2Proof.Machine.execMailboxAck l t ini m v s
  | .sessionOpen l t fn hash sigOk => Sys2Proof.Machine.execSessionOpen l t fn hash sigOk s
  | .sessionOpenAgreed l t img => Sys2Proof.Machine.execSessionOpenAgreed l t img s
  | .sessionClose l t cmacOk => Sys2Proof.Machine.execSessionClose l t cmacOk s
  | .echo l t m => Sys2Proof.Machine.execEcho l t m s
  | .netDiag l t m => Sys2Proof.Machine.execNetDiag l t m s
  | .addrTable l t m => Sys2Proof.Machine.execAddrTable l t m s
  | .error l t m => Sys2Proof.Machine.execError l t m s
  | .ptpSyncMessage l t port off => Sys2Proof.Machine.execPtpSyncMessage l t port off s
  | .ptpSyncTimeout l t => Sys2Proof.Machine.execPtpSyncTimeout l t s
  | .wickBoundary l t w => Sys2Proof.Machine.execWickBoundary l t w s
  | .wickSlotTransmit l t d slot => Sys2Proof.Machine.execWickSlotTransmit l t d slot s
  | .wickDataFrame l t port e w => Sys2Proof.Machine.execWickDataFrame l t port e w s
  | .announce l t port e w => Sys2Proof.Machine.execAnnounce l t port e w s
  | .ack l t port e w => Sys2Proof.Machine.execAck l t port e w s
  | .confirm l t port e w => Sys2Proof.Machine.execConfirm l t port e w s
  | .wickControlSubwindow l t => Sys2Proof.Machine.execWickControlSubwindow l t s
  | .bestEffortFrame l t port e bytes => Sys2Proof.Machine.execBestEffortFrame l t port e bytes s
  | .ethernetLinkChange l t port up => Sys2Proof.Machine.execEthernetLinkChange l t port up s
  | .canTxBufferDue l t n buf => Sys2Proof.Machine.execCanTxBufferDue l t n buf s
  | .canFrameTransmitted l t n => Sys2Proof.Machine.execCanFrameTransmitted l t n s
  | .canFrameReceived l t n f => Sys2Proof.Machine.execCanFrameReceived l t n f s
  | .canErrorStateChange l t n tec rec => Sys2Proof.Machine.execCanErrorStateChange l t n tec rec s
  | .canBusOffRecovery l t n => Sys2Proof.Machine.execCanBusOffRecovery l t n s
  | .addressClaimContention l t n addr name => Sys2Proof.Machine.execAddressClaimContention l t n addr name s
  | .addressClaimRequest l t n => Sys2Proof.Machine.execAddressClaimRequest l t n s
  | .addressClaimSettled l t n => Sys2Proof.Machine.execAddressClaimSettled l t n s
  | .xspiOperationComplete l t op => Sys2Proof.Machine.execXspiOperationComplete l t op s
  | .xspiTimeout l t cs reader => Sys2Proof.Machine.execXspiTimeout l t cs reader s
  | .norWindowRead l t ini addr => Sys2Proof.Machine.execNorWindowRead l t ini addr s
  | .storageMount l t norDev nor nand => Sys2Proof.Machine.execStorageMount l t norDev nor nand s
  | .recorderPageProgram l t => Sys2Proof.Machine.execRecorderPageProgram l t s
  | .nandScrub l t block worst total bad good => Sys2Proof.Machine.execNandScrub l t block worst total bad good s
  | .staticWearLevel l t => Sys2Proof.Machine.execStaticWearLevel l t s
  | .supplyMonitorReset l t rail ns => Sys2Proof.Machine.execSupplyMonitorReset l t rail ns s
  | .vbatPowerOn l t => Sys2Proof.Machine.execVbatPowerOn l t s
  | .resetN l t ns => Sys2Proof.Machine.execResetN l t ns s
  | .crystalOrPllFault l t lockLost dev => Sys2Proof.Machine.execCrystalOrPllFault l t lockLost dev s
  | .bootSequence l t otpOk => Sys2Proof.Machine.execBootSequence l t otpOk s
  | .laneReady l t => Sys2Proof.Machine.execLaneReady l t s
  | .domainVoteWithdrawn l t dom => Sys2Proof.Machine.execDomainVoteWithdrawn l t dom s
  | .domainVoteArrives l t dom => Sys2Proof.Machine.execDomainVoteArrives l t dom s
  | .hostVoteWrite l t ini v => Sys2Proof.Machine.execHostVoteWrite l t ini v s
  | .enterDoze l t ini => Sys2Proof.Machine.execEnterDoze l t ini s
  | .enterBank l t ini => Sys2Proof.Machine.execEnterBank l t ini s
  | .enterEmber l t ini => Sys2Proof.Machine.execEnterEmber l t ini s
  | .entryDrainWaitEnd l t => Sys2Proof.Machine.execEntryDrainWaitEnd l t s
  | .entryStepComplete l t dom => Sys2Proof.Machine.execEntryStepComplete l t dom s
  | .quiesceTimeout l t dom => Sys2Proof.Machine.execQuiesceTimeout l t dom s
  | .keyOn l h => Sys2Proof.Machine.execKeyOn l h s
  | .keyOff l h => Sys2Proof.Machine.execKeyOff l h s
  | .rtcAlarm l t => Sys2Proof.Machine.execRtcAlarm l t s
  | .pwrWake l t p => Sys2Proof.Machine.execPwrWake l t p s
  | .pciePerst l t asserted => Sys2Proof.Machine.execPciePerst l t asserted s
  | .debugAttach l t => Sys2Proof.Machine.execDebugAttach l t s
  | .keyoffDelayExpiry l t => Sys2Proof.Machine.execKeyoffDelayExpiry l t s
  | .keyoffEntryRetry l t => Sys2Proof.Machine.execKeyoffEntryRetry l t s
  | .rtcSet l t ini v => Sys2Proof.Machine.execRtcSet l t ini v s
  | .fabricAccessTimeout l t => Sys2Proof.Machine.execFabricAccessTimeout l t s
  | .fatDisableWrite l t ini v => Sys2Proof.Machine.execFatDisableWrite l t ini v s
  | .temperatureReading l t lane drive => Sys2Proof.Machine.execTemperatureReading l t lane drive s
  | .debugSignatureWrite l t level sigOk => Sys2Proof.Machine.execDebugSignatureWrite l t level sigOk s
  | .debugGrantAgreed l t img => Sys2Proof.Machine.execDebugGrantAgreed l t img s
  | .debugLockoutEnd l t => Sys2Proof.Machine.execDebugLockoutEnd l t s
  | .lbistPowerUpStart l t => Sys2Proof.Machine.execLbistPowerUpStart l t s
  | .keyoffTestStart l => Sys2Proof.Machine.execKeyoffTestStart l s
  | .lbistPartitionComplete l t sig exp => Sys2Proof.Machine.execLbistPartitionComplete l t sig exp s
  | .bypass l t => Sys2Proof.Machine.execBypass l t s
  | .idcode l t => Sys2Proof.Machine.execIdcode l t s
  | .samplePreload l t => Sys2Proof.Machine.execSamplePreload l t s
  | .extest l t => Sys2Proof.Machine.execExtest l t s
  | .gdpRequest l t req => Sys2Proof.Machine.execGdpRequest l t req s
  | .traceDataRead l t ini => Sys2Proof.Machine.execTraceDataRead l t ini s
  | .statisticsBoundary l t => Sys2Proof.Machine.execStatisticsBoundary l t s
  | .gdcLockWrite l t ini v => Sys2Proof.Machine.execGdcLockWrite l t ini v s
  | .blockLockSet l t ini blk => Sys2Proof.Machine.execBlockLockSet l t ini blk s
  | .registerWrite l t ini addr v => Sys2Proof.Machine.execRegisterWrite l t ini addr v s
  | .registerRead l t ini addr => Sys2Proof.Machine.execRegisterRead l t ini addr s
  | .unmappedAccess l t ini addr w => Sys2Proof.Machine.execUnmappedAccess l t ini addr w s
  | .probeDetach l t => Sys2Proof.Machine.execProbeDetach l t s
  | .pcieLinkUp l t speed => Sys2Proof.Machine.execPcieLinkUp l t speed s
  | .supplyRisingThreshold l t rail => Sys2Proof.Machine.execSupplyRisingThreshold l t rail s

end Sys2Proof.Machine
end

