-- ==== Sys2Proof/Safety.lean ====
section
/-!
DEFINITION. What counts as a safe run, in the terms that claims use: the lane a command names, what it means that a command completes, the
states that steps reach, and the conditions that every step keeps.
-/
namespace Sys2Proof

/-- The lane that a command names. -/
def Instr.lane (i : Instr) : LaneId :=
  match i with
  | .cycleStart l _ _ => l
  | .episodeClose l _ => l
  | .inputVectorClose l => l
  | .agreementFrame l _ _ _ => l
  | .inputAgreement l => l
  | .sourceInjection l => l
  | .sfuEvaluation l => l
  | .lastLightExpiry l _ => l
  | .fastFlowDeadlineCheck l => l
  | .outputExchange l => l
  | .outputFrame l _ _ _ => l
  | .majorityCommit l => l
  | .statusSend l => l
  | .statusMessage l _ _ _ _ => l
  | .fenceMessage l _ _ _ _ => l
  | .claim l _ _ _ _ => l
  | .move l _ _ _ _ _ => l
  | .authorityMoveApply l => l
  | .commitReady l _ _ _ _ _ => l
  | .commitApply l => l
  | .hostCmd l _ _ _ _ => l
  | .hostCommandAgreed l _ _ _ _ => l
  | .agreementTimeout l _ _ => l
  | .join l _ _ _ => l
  | .xferSend l _ _ _ _ => l
  | .xfer l _ _ _ _ _ => l
  | .xferCut l _ _ _ _ _ => l
  | .cutCycleStart l => l
  | .cleanPeriodComplete l => l
  | .transferTimeout l _ => l
  | .syncStartDecision l _ _ => l
  | .syncStart l _ _ _ _ => l
  | .initialStart l => l
  | .cycleMarkerReceive l _ _ => l
  | .pulseToggleReceive l _ _ => l
  | .linkBlockLockLost l _ _ => l
  | .linkTrainingComplete l _ _ _ => l
  | .lockstepWindowCompare l _ _ _ _ _ => l
  | .coreBusWrite l _ _ _ _ _ => l
  | .comparatorRehearsal l _ _ _ => l
  | .laneSramRead l _ _ _ _ => l
  | .laneSramWrite l _ _ _ _ _ _ => l
  | .sramScrub l _ _ => l
  | .coreLocalMemoryError l _ _ _ _ _ => l
  | .commsCoreWatchdog l _ => l
  | .debugHaltRequest l _ => l
  | .debugResume l _ => l
  | .debugSingleStep l _ => l
  | .debugCoreWrite l _ _ _ => l
  | .breakpointHit l _ _ _ => l
  | .replayQueueDrain l _ => l
  | .taperCoreUnresponsive l _ _ => l
  | .nodePreemption l _ _ => l
  | .pclTableScrub l _ _ _ _ _ => l
  | .pass l _ _ => l
  | .const l _ _ => l
  | .add l _ _ => l
  | .sub l _ _ => l
  | .mul l _ _ => l
  | .mac l _ _ => l
  | .div l _ _ => l
  | .abs l _ _ => l
  | .neg l _ _ => l
  | .scale l _ _ => l
  | .min l _ _ => l
  | .max l _ _ => l
  | .limit l _ _ => l
  | .sqrt l _ _ => l
  | .atan2 l _ _ => l
  | .sincos l _ _ => l
  | .cmp l _ _ => l
  | .select l _ _ => l
  | .bits l _ _ => l
  | .logic l _ _ => l
  | .edge l _ _ => l
  | .debounce l _ _ => l
  | .counter l _ _ => l
  | .timer l _ _ => l
  | .lpf1 l _ _ => l
  | .biquad l _ _ => l
  | .ratelim l _ _ => l
  | .deadband l _ _ => l
  | .movavg l _ _ => l
  | .integ l _ _ => l
  | .deriv l _ _ => l
  | .delay l _ _ => l
  | .lut1 l _ _ => l
  | .lut2 l _ _ => l
  | .steermap l _ _ => l
  | .rangechk l _ _ => l
  | .xchk l _ _ => l
  | .plaus l _ _ => l
  | .validor l _ _ => l
  | .stuck l _ _ => l
  | .bridgecmd l _ _ => l
  | .safeout l _ _ => l
  | .sigenc l _ _ => l
  | .sigdec l _ _ => l
  | .agechk l _ _ => l
  | .mux4 l _ _ => l
  | .statemach l _ _ => l
  | .poly l _ _ => l
  | .loopSlotPassage l _ _ => l
  | .profileGeneratorPassage l _ _ => l
  | .tableMemoryWrite l _ _ _ _ => l
  | .tableMemoryScrub l _ _ => l
  | .pwmPeriodBoundary l _ _ => l
  | .startTimeout l _ _ => l
  | .currentSample l _ _ _ _ => l
  | .deferredSectorChange l _ _ => l
  | .fastConversion l _ _ => l
  | .slowConversion l _ _ => l
  | .offsetCalibrationComplete l _ _ => l
  | .chopperDeferredChange l _ => l
  | .overvoltageTimerExpiry l _ => l
  | .lineEdgeAccepted l _ _ _ => l
  | .lineGlitchRejected l _ _ => l
  | .glitchWindowEnd l _ => l
  | .chatterClear l _ _ => l
  | .pfbVectorLatch l => l
  | .ssiTransactionStart l _ _ _ => l
  | .ssiFrameComplete l _ _ _ => l
  | .sentFrameReceived l _ _ _ _ => l
  | .pfbArmWrite l _ _ _ => l
  | .shootThroughCommand l _ _ _ => l
  | .desaturationTrip l _ _ => l
  | .hardShortTrip l _ _ => l
  | .retryWaitExpiry l _ _ => l
  | .vgdUndervoltage l _ => l
  | .vgdLockoutClear l _ => l
  | .vgdFirstRise l _ => l
  | .driveDieVbusComparator l _ _ => l
  | .adaptiveEdgeMeasured l _ _ _ _ => l
  | .driveDieUpdate l _ _ _ => l
  | .snuffCommand l _ => l
  | .snuffRelease l _ => l
  | .autonomousSnuff l _ => l
  | .safetyInputSample l _ _ => l
  | .safeOutputTestPulse l _ _ => l
  | .safeOutputTestPulseEnd l _ _ _ => l
  | .safeOutputCurrentLimit l _ _ => l
  | .commissioningSessionLost l _ => l
  | .faultEvent l _ _ _ _ => l
  | .faultRecovery l _ _ => l
  | .injectSourceEvent l _ _ _ => l
  | .injectSignatureFlip l _ _ => l
  | .injectSramSingleBit l _ _ => l
  | .injectSramDoubleBit l _ _ => l
  | .injectTableDoubleBit l _ _ => l
  | .functionLevelReset l _ _ => l
  | .pcieLinkDown l _ => l
  | .pciePowerStateChange l _ _ _ _ => l
  | .sqTail l _ _ _ _ => l
  | .cqHead l _ _ _ _ => l
  | .resume l _ _ _ _ => l
  | .cancel l _ _ _ _ => l
  | .descriptorFetch l _ _ _ _ => l
  | .payloadBurst l _ _ _ _ _ _ => l
  | .completionPost l _ _ => l
  | .completionWaitTimeout l _ _ => l
  | .qpEnableWrite l _ _ _ _ => l
  | .nop l _ _ => l
  | .resultRead l _ _ => l
  | .statsRead l _ _ => l
  | .recorderRead l _ _ _ => l
  | .map l _ _ => l
  | .unmap l _ _ => l
  | .fence l _ _ => l
  | .stageOpen l _ _ => l
  | .stageWrite l _ _ => l
  | .stageCheck l _ _ => l
  | .commit l _ _ => l
  | .stageAbort l _ _ => l
  | .driveEnable l _ _ => l
  | .driveReenable l _ _ => l
  | .safeStop l _ _ => l
  | .safeTorqueOff l _ _ => l
  | .authMove l _ _ => l
  | .laneUpdate l _ _ _ => l
  | .commOpen l _ _ => l
  | .commKeepalive l _ _ => l
  | .commClose l _ _ => l
  | .confirmCheck l _ _ => l
  | .imageWrite l _ _ => l
  | .keyEnrol l _ _ _ _ => l
  | .lifecycleAdvance l _ _ _ => l
  | .testRequestInService l _ _ _ => l
  | .testRequestRehearse l _ _ => l
  | .mailboxDataWrite l _ _ _ _ _ => l
  | .mailboxPost l _ _ _ _ => l
  | .mailboxAck l _ _ _ _ => l
  | .sessionOpen l _ _ _ _ => l
  | .sessionOpenAgreed l _ _ => l
  | .sessionClose l _ _ => l
  | .echo l _ _ => l
  | .netDiag l _ _ => l
  | .addrTable l _ _ => l
  | .error l _ _ => l
  | .ptpSyncMessage l _ _ _ => l
  | .ptpSyncTimeout l _ => l
  | .wickBoundary l _ _ => l
  | .wickSlotTransmit l _ _ _ => l
  | .wickDataFrame l _ _ _ _ => l
  | .announce l _ _ _ _ => l
  | .ack l _ _ _ _ => l
  | .confirm l _ _ _ _ => l
  | .wickControlSubwindow l _ => l
  | .bestEffortFrame l _ _ _ _ => l
  | .ethernetLinkChange l _ _ _ => l
  | .canTxBufferDue l _ _ _ => l
  | .canFrameTransmitted l _ _ => l
  | .canFrameReceived l _ _ _ => l
  | .canErrorStateChange l _ _ _ _ => l
  | .canBusOffRecovery l _ _ => l
  | .addressClaimContention l _ _ _ _ => l
  | .addressClaimRequest l _ _ => l
  | .addressClaimSettled l _ _ => l
  | .xspiOperationComplete l _ _ => l
  | .xspiTimeout l _ _ _ => l
  | .norWindowRead l _ _ _ => l
  | .storageMount l _ _ _ _ => l
  | .recorderPageProgram l _ => l
  | .nandScrub l _ _ _ _ _ _ => l
  | .staticWearLevel l _ => l
  | .supplyMonitorReset l _ _ _ => l
  | .vbatPowerOn l _ => l
  | .resetN l _ _ => l
  | .crystalOrPllFault l _ _ _ => l
  | .bootSequence l _ _ => l
  | .laneReady l _ => l
  | .domainVoteWithdrawn l _ _ => l
  | .domainVoteArrives l _ _ => l
  | .hostVoteWrite l _ _ _ => l
  | .enterDoze l _ _ => l
  | .enterBank l _ _ => l
  | .enterEmber l _ _ => l
  | .entryDrainWaitEnd l _ => l
  | .entryStepComplete l _ _ => l
  | .quiesceTimeout l _ _ => l
  | .keyOn l _ => l
  | .keyOff l _ => l
  | .rtcAlarm l _ => l
  | .pwrWake l _ _ => l
  | .pciePerst l _ _ => l
  | .debugAttach l _ => l
  | .keyoffDelayExpiry l _ => l
  | .keyoffEntryRetry l _ => l
  | .rtcSet l _ _ _ => l
  | .fabricAccessTimeout l _ => l
  | .fatDisableWrite l _ _ _ => l
  | .temperatureReading l _ _ _ => l
  | .debugSignatureWrite l _ _ _ => l
  | .debugGrantAgreed l _ _ => l
  | .debugLockoutEnd l _ => l
  | .lbistPowerUpStart l _ => l
  | .keyoffTestStart l => l
  | .lbistPartitionComplete l _ _ _ => l
  | .bypass l _ => l
  | .idcode l _ => l
  | .samplePreload l _ => l
  | .extest l _ => l
  | .gdpRequest l _ _ => l
  | .traceDataRead l _ _ => l
  | .statisticsBoundary l _ => l
  | .gdcLockWrite l _ _ _ => l
  | .blockLockSet l _ _ _ => l
  | .registerWrite l _ _ _ _ => l
  | .registerRead l _ _ _ => l
  | .unmappedAccess l _ _ _ _ => l
  | .probeDetach l _ => l
  | .pcieLinkUp l _ _ => l
  | .supplyRisingThreshold l _ _ => l

namespace Machine

/-- The command completes: exec answers a next state, in which lane l is v and every other lane and the queue are as before. -/
def Completes (c : Instr) (s : State) (l : LaneId) (v : Lane) : Prop := exec c s = .next (s.setLane l v)

/-- The state that n steps reach: each step takes one waiting command. -/
def runSteps : Nat → State → Host.Outcome State Fault Refusal
  | 0, s => .next s
  | n + 1, s =>
    match step s with
    | .next t => runSteps n t
    | .fault e => .fault e
    | .refused e => .refused e

/-- Each lane carries the letter of its position, which XLA.LANE_ID shows (R141). -/
def State.lettersKept (s : State) : Bool := decide (s.laneA.id = .a) && decide (s.laneB.id = .b) && decide (s.laneC.id = .c)

/-- No leg of a lane's bridges has both switches on at a tick (R283). -/
def Lane.legsApart (l : Lane) (now : Nat) : Bool :=
  (List.range 6).all fun k => !(l.gate now (2 * k) && l.gate now (2 * k + 1))

/-- A state is safe: letters are kept and no lane drives both switches of a leg. -/
def State.safe (s : State) : Bool :=
  s.lettersKept && [LaneId.a, LaneId.b, LaneId.c].all fun x => (s.lane x).legsApart (s.lane x).clk.now

end Machine

end Sys2Proof
end

