-- ==== Sys2Proof/Certificates/Slice0/Obligations.lean ====
section
/-!
DEFINITION. The statements for the provers, from the numbered rules of the spec.
-/
open Sys2Proof Sys2Proof.Machine

/-- For every command c and state s with c at the front of its queue and the commands cs behind it, step s is exec of c on s with the queue
cs. The queue is the model's own (notes/assumptions/1.md). -/
def Obligations.StepTakesFrontCommand : Prop :=
  ∀ (c : Instr) (cs : List Instr) (s : State), s.pending = c :: cs → step s = exec c { s with pending := cs }

/-- For every state with an empty queue, step answers that state unchanged. This is the model's choice (notes/assumptions/2.md): the spec
gives the part no step without a command or event. -/
def Obligations.EmptyQueueIdles : Prop :=
  ∀ s : State, s.pending = [] → step s = .next s

/-- For every command c, every state s and every next state t of exec c s: the queue of t is that of s, and every lane other than the one
that c names is in t what it is in s. -/
def Obligations.CommandsActOnTheirOwnLane : Prop :=
  ∀ (c : Instr) (s t : State), exec c s = .next t →
    t.pending = s.pending ∧ (∀ x : LaneId, x ≠ c.lane → t.lane x = s.lane x)

/-- For every command c and every state s there is a state t with exec c s = next t. A command whose condition is unmet leaves the units as
they were, and a failed access ends with a bus error in the state, as the spec says; neither is a stop. What each command does is said by
the statements of its family. -/
def Obligations.EveryCommandCompletes : Prop :=
  ∀ (c : Instr) (s : State), ∃ t : State, exec c s = .next t

/-- For every state s, running as many steps as s has commands waiting ends in a next state with an empty queue, and every shorter run of n
steps ends in a next state whose queue is that of s without its first n commands: commands are taken first in, first out, each once. -/
def Obligations.QueueDrainsInAsManySteps : Prop :=
  ∀ (s : State) (n : Nat), n ≤ s.pending.length →
    ∃ t : State, runSteps n s = .next t ∧ t.pending = s.pending.drop n

/-- State.reset is safe in the sense of State.safe: laneA, laneB and laneC carry the letters A, B and C, which XLA.LANE_ID shows, and no
lane drives both switches of a leg. -/
def Obligations.ResetIsSafe : Prop :=
  State.reset.safe = true ∧ State.reset.pending = []

/-- For every lane state and each of the six legs of its two bridges: at no tick are the gate outputs of both switches of the leg on; and
while what the switches are commanded to do stays as it is, outside the Snuff action, a switch that is on at tick t2 after the other switch
of its leg was on at tick t1 comes on later than t1 plus the DEADTIME of its bridge. -/
def Obligations.NoLegConductsTwice : Prop :=
  ∀ (l : Lane) (k : Nat), k < 6 →
    (∀ now, ¬(l.gate now (2 * k) = true ∧ l.gate now (2 * k + 1) = true)) ∧
    (∀ (sw t1 t2 : Nat), sw = 2 * k ∨ sw = 2 * k + 1 → l.drive.snuff = false → l.changedAt (sw / 6) ≤ t1 → t1 < t2 → t2 < endless →
      l.gate t1 sw = true → l.gate t2 (sw ^^^ 1) = true → t1 + l.rd GDC.BR_CFG_DEADTIME (sw / 6) < t2)

/-- For every state s in which each lane carries the letter of its position, and every next state t of step s, t is safe: its lanes carry
the letters of their positions (XLA.LANE_ID, fixed by the die's position), and no lane's gate outputs turn on both switches of a leg at the
tick the lane stands at, whatever the commands, drive latches, holds, shorts and patterns in force. -/
def Obligations.EveryStepIsSafe : Prop :=
  ∀ s t : State, s.lettersKept = true → step s = .next t → t.safe = true

/-- After reset every lane is in state BOOT with an empty voting set, no AUTHORITY, system mode SNUFFED, cycle length 12,000 ticks and its
drive die in the Snuff action; no lane holds a FIELD lifecycle: an LGD3T960-Q ships in DEVELOP. Where the spec leaves a point of this open,
it is the model's choice: notes/assumptions/5.md. -/
def Obligations.ResetValues : Prop :=
  ∀ x : LaneId,
    (State.reset.lane x).own = .boot ∧ (State.reset.lane x).xla.mode = .snuffed ∧ (State.reset.lane x).xla.vset = Tri.all false ∧
    (State.reset.lane x).xla.auth = none ∧ (State.reset.lane x).cycleLen = 12000 ∧ (State.reset.lane x).drive.snuff = true ∧
    (State.reset.lane x).mem.sram = [] ∧ (State.reset.lane x).otp.lifecycle = 2

/-- INPUT_VECTOR_CLOSE at tick 1,200 (2.0 us): late AUTHORITY markers are judged, and a lane that computes forms its vector, keeps its
agreement frame and sends it; another lane does no more. INPUT_AGREEMENT at 1,620 (2.7 us): a lane that computes forms the agreed vector and
notes a peer's SAFE STOP. SOURCE_INJECTION at 1,740 (2.9 us): the fast flow is activated with the current CCN as nominal start and release
and every slow flow is injected; while the flows rest the fast flow is not activated and the slow flows are injected as resting.
SFU_EVALUATION at 1,740 evaluates the safety unit. FAST_FLOW_DEADLINE_CHECK at 2,880 (4.8 us): a fast activation with all its sink tokens
that is not dead stays; any other is discarded with source 0x20; with no fast activation nothing happens. OUTPUT_EXCHANGE at 2,940 (4.9 us):
what is left of flow 0 is dropped, and the activation's tokens are handed over, or, when it is dead, it is discarded with source 0x20.
MAJORITY_COMMIT evaluates the peers at 3,210 (5.35 us) and takes the majority at 3,300 (5.5 us). STATUS_SEND, 900 ticks (1.5 us) before the
end of the configured cycle, in a lane that beats: the lane keeps and sends its STATUS message to both peers and evaluates its declarations;
another lane sends none. Where the spec leaves a point of this open, it is the model's choice: notes/assumptions/11.md, 28.md. -/
def Obligations.CyclePhasesComplete : Prop :=
  (∀ s l, let n := ((s.lane l).atTick 1200).judgeLate
    (n.computes = true →
      let v := n.showAfe.formVector 0 (n.rd XLA.VEC_CFG_VAL_COUNT)
      Completes (.inputVectorClose l) s l ((v.2.onXla fun x => { x with aframe := x.aframe.set n.id (some (v.2.agreeFrame v.1)) }).emit
        (.agree (v.2.agreeFrame v.1)))) ∧
    (n.computes = false → Completes (.inputVectorClose l) s l n)) ∧
  (∀ s l, let n := (s.lane l).atTick 1620
    (n.computes = true → Completes (.inputAgreement l) s l n.agree.sharesStop) ∧
    (n.computes = false → Completes (.inputAgreement l) s l n)) ∧
  (∀ s l, let n := (s.lane l).atTick 1740; let n1 : Lane := { n with clk := { n.clk with phase := .fast } }
    (n.computes = true → n.flowsRest = false →
      Completes (.sourceInjection l) s l
        (slowFlows.foldl (fun (m : Lane) f => m.slowInject false f) (n1.activate 0 n.ccn n.ccn)).pump) ∧
    (n.computes = true → n.flowsRest = true →
      Completes (.sourceInjection l) s l (slowFlows.foldl (fun (m : Lane) f => m.slowInject true f) n1).pump) ∧
    (n.computes = false → Completes (.sourceInjection l) s l n)) ∧
  (∀ s l, let n := (s.lane l).atTick 1740
    (n.domOn 6 = true → Completes (.sfuEvaluation l) s l n.sfuEvaluate) ∧ (n.domOn 6 = false → Completes (.sfuEvaluation l) s l n)) ∧
  (∀ s l, let n := (s.lane l).atTick 2880
    (∀ a, n.act 0 = some a → n.sinksPlaced a = true ∧ a.dead = false → Completes (.fastFlowDeadlineCheck l) s l n) ∧
    (∀ a, n.act 0 = some a → n.sinksPlaced a = false ∨ a.dead = true →
      Completes (.fastFlowDeadlineCheck l) s l (((n.discard 0 a).setAct 0 none).fault 0x20)) ∧
    (n.act 0 = none → Completes (.fastFlowDeadlineCheck l) s l n)) ∧
  (∀ s l, let n := (s.lane l).atTick 2940
    let n1 := ({ n with clk := { n.clk with phase := .exchange } } : Lane).dropWork fun f _ => decide (f = 0)
    (∀ a, n.computes = true → n.act 0 = some a → a.dead = false → Completes (.outputExchange l) s l (n1.handOver a)) ∧
    (∀ a, n.computes = true → n.act 0 = some a → a.dead = true →
      Completes (.outputExchange l) s l (((n1.discard 0 a).setAct 0 none).fault 0x20)) ∧
    (n.computes = true → n.act 0 = none → Completes (.outputExchange l) s l n1) ∧
    (n.computes = false → Completes (.outputExchange l) s l n)) ∧
  (∀ s l, Completes (.majorityCommit l) s l ((((s.lane l).atTick 3210).evalPeers).atTick 3300).majority) ∧
  (∀ s l, let n := (s.lane l).atTick ((s.lane l).cycleLen - 900)
    (n.own.beats = true → ∃ v : Lane, Completes (.statusSend l) s l v ∧ v.pmu.shown = v.pmu.accepted.isSome ∧
      v = { ((n.onXla fun x => { x with status := x.status.set l (some n.statusMsg) }).sendCtl 3 (.status n.statusMsg)).declarations with
              pmu := v.pmu }) ∧
    (n.own.beats = false → Completes (.statusSend l) s l n))

/-- CYCLE_START in a lane that is neither OFF nor silent and has no power entry that a STATUS message has shown: the timer advances (keeping
the past length in a migration hold cycle and in the first cycle that its AUTHORITY is gone), the agreement unit opens the new cycle and
notes whether this is a migration hold cycle; after a migration hold cycle in which the AUTHORITY is not lost again the claimed lane takes
over; then the system mode steps, a missing CLAIM of that cycle or one that another lane shows as missing counting, a completed joiner is
let in, the units run their cycle start, a lane in a migration hold cycle sends its CLAIM, and an accepted update is carried out. With a
shown power entry the timer advances by the past length and the entry starts. A lane that is OFF or silent does nothing. EPISODE_CLOSE:
after a commit of this cycle the open episode closes as at a commit, otherwise as at a cycle start. LAST_LIGHT_EXPIRY, with the DRV domain
ON: in LAST LIGHT, once LL_TIME seconds (600,000,000 ticks each) have run, the expiry is marked; before, nothing happens. Where the spec
leaves a point of this open, it is the model's choice: notes/assumptions/27.md, 28.md. -/
def Obligations.CycleStartCompletes : Prop :=
  (∀ s l rb0 rb1, let n := s.lane l
    (n.own ≠ .off → n.sec.silent = false → n.pmu.accepted = none ∨ n.pmu.shown = false →
      let hold := n.authLost
      let takes := n.xla.migration && n.computes && !hold
      let n1 := (n.tickOver (hold || (n.authGone && !n.xla.refLost))).onXla fun x => { x.newCycle with
        statusLost := n.lacksStatus, commitHold := false, migration := hold, tookOver := takes, refLost := n.authGone }
      let n2 := if takes then n1.takeOver n.claimed else n1
      let n3 := ((n2.stepMode (n.modeMove (takes && (n.claimed.isNone || n.claimBadSeen)))).joinVset).stepUnits rb0 rb1
      Completes (.cycleStart l rb0 rb1) s l (if hold then n3.sendClaim else n3).stepUpdate) ∧
    (∀ target, n.own ≠ .off → n.sec.silent = false → n.pmu.accepted = some target → n.pmu.shown = true →
      Completes (.cycleStart l rb0 rb1) s l
        (({ n with clk := n.clk.start (n.clk.base + n.clk.len) n.clk.len } : Lane).startEntry target)) ∧
    (n.own = .off ∨ n.sec.silent = true → Completes (.cycleStart l rb0 rb1) s l n)) ∧
  (∀ s l t, (s.lane l).xla.committed = true → Completes (.episodeClose l t) s l ((s.lane l).atTick t).closeAtCommit) ∧
  (∀ s l t, (s.lane l).xla.committed = false → Completes (.episodeClose l t) s l ((s.lane l).atTick t).closeAtStart) ∧
  (∀ s l t t0, let n := (s.lane l).atTick t
    n.domOn 6 = true → n.xla.mode = .lastLight → n.sfu.llStart = some t0 →
    (t0 + 600000000 * n.rd SFU.LL_CFG_TIME ≤ n.clk.now →
      Completes (.lastLightExpiry l t) s l { n with sfu := { n.sfu with llDone := true } }) ∧
    (n.clk.now < t0 + 600000000 * n.rd SFU.LL_CFG_TIME → Completes (.lastLightExpiry l t) s l n)) ∧
  (∀ s l t, let n := (s.lane l).atTick t
    n.domOn 6 = false ∨ n.xla.mode ≠ .lastLight ∨ n.sfu.llStart = none → Completes (.lastLightExpiry l t) s l n)

/-- The cycle timer of a lane that counts cycles (tickOver, which CYCLE_START runs first), in a cycle with a reference: the new cycle's base
is the old base plus the past length, its tick is 0 and the phase is sampling; the CCN rises by one modulo 2^32; a lane in a state of R95
toggles its pulse, then sends a marker and the heartbeat to its drive die, and another lane sends the heartbeat alone; the new length
differs from the configured length by at most the configured length divided by 1,500 (whole ticks), and for a follower outside a migration
hold cycle whose measured offset from its reference, the AUTHORITY, lies in that range it is the configured length less that offset. Where
the spec leaves a point of this open, it is the model's choice: notes/assumptions/24.md. -/
def Obligations.CycleStartAdvancesTime : Prop :=
  ∀ l : Lane, l.countsCcn = true →
    (l.tickOver false).clk.base = l.clk.base + l.clk.len ∧ (l.tickOver false).tick = 0 ∧ (l.tickOver false).clk.phase = .sampling ∧
    (l.tickOver false).ccn = l.ccn + 1 ∧ (l.own.beats = true → (l.tickOver false).out = .heartbeat :: .marker :: .pulse :: l.out) ∧
    (l.own.beats = false → (l.tickOver false).out = .heartbeat :: l.out) ∧
    ((l.tickOver false).clk.len : Int) ≤ l.cycleLen + (l.cycleLen / 1500 : Nat) ∧
    (l.cycleLen : Int) - (l.cycleLen / 1500 : Nat) ≤ (l.tickOver false).clk.len ∧
    (∀ (au : LaneId) (off : Int), l.reference = some au → au ≠ l.id → l.xla.migration = false → l.xla.markOff.get au = some off →
      -((l.cycleLen / 1500 : Nat) : Int) ≤ off → off ≤ ((l.cycleLen / 1500 : Nat) : Int) →
      ((l.tickOver false).clk.len : Int) = l.cycleLen - off)

/-- AGREEMENT_FRAME on a link that is up: a frame with a COUNT of the format, a CRC that verifies, type 1 and the receiver's CCN is heard
from its sender and taken; in a STANDBY or AUTHORITY lane and by tick 1,620 it is kept as the sender's frame of the cycle and its twin bit
is noted, while output frames, the system mode, registers and memories stay; where it shows that the lane was left out of a healthy peer's
voting set that it holds itself in (R123), the lane is fenced with source 0x1E and cause 4, without FENCE. At a lane in SYNC a valid frame
of an AUTHORITY is taken whatever its CCN, and the lane takes over its CCN. A frame that is neither is discarded and counted on its link.
OUTPUT_FRAME on a link that is up: a frame with a COUNT of the format, a CRC that verifies, type 2 and the low 8 bits of the receiver's CCN
is heard, and kept when it came by tick 3,210; any other is discarded and counted. A link that is not up carries neither. Where the spec
leaves a point of this open, it is the model's choice: notes/assumptions/25.md, 26.md. -/
def Obligations.FramesReceivedComplete : Prop :=
  (∀ s l t link f, let n := (s.lane l).atTick t; let x := n.peerOf link
    n.linkUp link = true → f.crcOk = true → f.type = 1 → f.ccn = n.ccn → n.own = .standby ∨ n.own = .authority → t ≤ 1620 → n.leftOut f = false →
    ∃ v : Lane, Completes (.agreementFrame l t link f) s l v ∧ v.xla.aframe.get x = some f ∧ v.xla.linkHeard.get x = true ∧
      v.xla.twins.get x = f.twin ∧ v.xla.oframe = n.xla.oframe ∧ v.xla.mode = n.xla.mode ∧ v.regs = n.regs ∧ v.mem = n.mem) ∧
  (∀ s l t link f, let n := (s.lane l).atTick t; let x := n.peerOf link
    n.linkUp link = true → f.crcOk = true → f.type = 1 → f.ccn = n.ccn → n.own = .standby ∨ n.own = .authority → t ≤ 1620 → n.leftOut f = true →
    Completes (.agreementFrame l t link f) s l
      (((((n.hear link).report x f.lstate).onXla fun q => { q with twins := q.twins.set x f.twin }).onXla fun q =>
        { q with aframe := q.aframe.set x (some f) }).ownFence 0x1E 0x4 (BitVec.ofNat 32 n.id.code) false)) ∧
  (∀ s l t link f, let n := (s.lane l).atTick t
    n.linkUp link = true → f.crcOk = true → f.type = 1 → f.ccn = n.ccn → n.own ≠ .sync →
    Completes (.agreementFrame l t link f) s l ((n.hear link).takeAgree (n.peerOf link) f)) ∧
  (∀ s l t link (f : AgreeFrame), let n := (s.lane l).atTick t
    n.linkUp link = true → f.crcOk = true → f.type = 1 → n.own = .sync → LaneState.ofCode f.lstate = .authority →
    Completes (.agreementFrame l t link f) s l (((n.setWord XLA.CCN_CCN.key f.ccn).hear link).takeAgree (n.peerOf link) f)) ∧
  (∀ s l t link (f : AgreeFrame), let n := (s.lane l).atTick t
    n.linkUp link = true →
    f.crcOk = false ∨ f.type ≠ 1 ∨ (f.ccn ≠ n.ccn ∧ (n.own ≠ .sync ∨ LaneState.ofCode f.lstate ≠ .authority)) →
    Completes (.agreementFrame l t link f) s l (n.bump XLA.LINK_ERR_DISCARDED link)) ∧
  (∀ s l t link (f : AgreeFrame), ((s.lane l).atTick t).linkUp link = false → Completes (.agreementFrame l t link f) s l ((s.lane l).atTick t)) ∧
  (∀ s l t link (f : OutFrame), let n := (s.lane l).atTick t; let x := n.peerOf link
    n.linkUp link = true → f.crcOk = true → f.type = 2 → f.ccnLo = n.ccn.setWidth 8 → t ≤ 3210 →
    Completes (.outputFrame l t link f) s l
      (n.onXla fun q => { q with linkHeard := q.linkHeard.set x true, oframe := q.oframe.set x (some f) })) ∧
  (∀ s l t link (f : OutFrame), let n := (s.lane l).atTick t; let x := n.peerOf link
    n.linkUp link = true → f.crcOk = true → f.type = 2 → f.ccnLo = n.ccn.setWidth 8 → 3210 < t →
    Completes (.outputFrame l t link f) s l (n.onXla fun q => { q with linkHeard := q.linkHeard.set x true })) ∧
  (∀ s l t link (f : OutFrame), let n := (s.lane l).atTick t
    n.linkUp link = true → f.crcOk = false ∨ f.type ≠ 2 ∨ f.ccnLo ≠ n.ccn.setWidth 8 →
    Completes (.outputFrame l t link f) s l (n.bump XLA.LINK_ERR_DISCARDED link)) ∧
  (∀ s l t link (f : OutFrame), ((s.lane l).atTick t).linkUp link = false → Completes (.outputFrame l t link f) s l ((s.lane l).atTick t))

/-- A control message of R102 that arrives on a link that is up and is valid at its receiver under its message code (CRC, type 3, the
receiver's CCN, addressed to it or to all) marks its sender as heard on the link path. STATUS (0x01) is taken, and one that shows another
system mode or another state of its sender than the receiver holds is also a wake event of source 6, after which stalled accesses that have
become reachable are served. FENCE (0x02): the sender is noted as fenced and lost with the cause. CLAIM (0x03): in a migration hold cycle
the named lane is kept for the sender, in another cycle nothing more happens. MOVE (0x04): a pending move with the same target and cycle is
confirmed by the sender; without a pending move nothing more happens, nor with another target or cycle. COMMIT_READY (0x05): the cycle and
tag are kept for the sender. HOST_CMD (0x06): an image not yet known becomes known, and a known one stays. SYNC_START (0x0A): a lane in SYNC
whose authority-elect is the sender takes the start instant; any other lane does not. Where the spec leaves a point of this open, it is the
model's choice: notes/assumptions/25.md, 46.md. -/
def Obligations.ControlMessagesComplete : Prop :=
  ∀ s l t link h, let n := (s.lane l).atTick t; let x := n.peerOf link
    n.linkUp link = true →
    (∀ m : StatusMsg, n.ctlOk 0x01 h = true → m.smode = n.xla.mode.code → LaneState.ofCode m.lstate = n.xla.lst.get x →
      Completes (.statusMessage l t link h m) s l ((n.hear link).takeStatus x m)) ∧
    (∀ m : StatusMsg, n.ctlOk 0x01 h = true → m.smode ≠ n.xla.mode.code ∨ LaneState.ofCode m.lstate ≠ n.xla.lst.get x →
      Completes (.statusMessage l t link h m) s l (((n.hear link).takeStatus x m).wakeEvent 6).resumeStalled) ∧
    (∀ cause, n.ctlOk 0x02 h = true → Completes (.fenceMessage l t link h cause) s l
      (((n.hear link).onXla fun q => { q with fenceRx := q.fenceRx.set x true }).losePeer x cause)) ∧
    (∀ named, n.ctlOk 0x03 h = true → n.xla.migration = true →
      Completes (.claim l t link h named) s l ((n.hear link).onXla fun q => { q with claims := q.claims.set x (some named) })) ∧
    (∀ named, n.ctlOk 0x03 h = true → n.xla.migration = false → Completes (.claim l t link h named) s l (n.hear link)) ∧
    (∀ target at_ q, n.ctlOk 0x04 h = true → n.xla.move = some q → q.target.code = target → q.at_ = at_ →
      Completes (.move l t link h target at_) s l
        ((n.hear link).onXla fun y => { y with move := some { q with confirm := q.confirm.set x true } })) ∧
    (∀ target at_, n.ctlOk 0x04 h = true → (∀ q, n.xla.move = some q → q.target.code ≠ target ∨ q.at_ ≠ at_) →
      Completes (.move l t link h target at_) s l (n.hear link)) ∧
    (∀ at_ tag, n.ctlOk 0x05 h = true → Completes (.commitReady l t link h at_ tag) s l
      ((n.hear link).onXla fun q => { q with ready := q.ready.set x (some (at_, tag)) })) ∧
    (∀ img, n.ctlOk 0x06 h = true → n.hif.known.contains img = false →
      Completes (.hostCmd l t link h img) s l ((n.hear link).onHif fun y => { y with known := img :: y.known })) ∧
    (∀ img, n.ctlOk 0x06 h = true → n.hif.known.contains img = true → Completes (.hostCmd l t link h img) s l (n.hear link)) ∧
    (∀ start, n.ctlOk 0x0A h = true → n.own = .sync → (n.hear link).elect = some x →
      Completes (.syncStart l t link h start) s l ((n.hear link).onXla fun q => { q with startAt := some start })) ∧
    (∀ start, n.ctlOk 0x0A h = true → n.own ≠ .sync ∨ (n.hear link).elect ≠ some x →
      Completes (.syncStart l t link h start) s l (n.hear link))

/-- For each of the ten control messages of R102 with its message code: on a link that is up, a message that is not valid at its receiver (a
CRC that does not verify, a type other than 3, a CCN other than the receiver's outside the synchronisation of SYNC, another lane's address)
is counted as discarded on its link, with no other effect; on a link that is not up it has no effect at all. That a message addressed to
another lane is discarded and counted is the model's choice (notes/assumptions/72.md), and so is that a lane not synchronised yet takes a
frame of any CCN (notes/assumptions/85.md). Where the spec leaves a point of this open, it is the model's choice: notes/assumptions/72.md.
-/
def Obligations.InvalidControlMessagesAreDiscarded : Prop :=
  ∀ s l t link h, let n := (s.lane l).atTick t
    ∀ (c : Instr) (code : Nat), ((∃ m, c = .statusMessage l t link h m ∧ code = 0x01) ∨ (∃ x, c = .fenceMessage l t link h x ∧ code = 0x02) ∨
      (∃ x, c = .claim l t link h x ∧ code = 0x03) ∨ (∃ x y, c = .move l t link h x y ∧ code = 0x04) ∨
      (∃ x y, c = .commitReady l t link h x y ∧ code = 0x05) ∨ (∃ x, c = .hostCmd l t link h x ∧ code = 0x06) ∨
      (c = .join l t link h ∧ code = 0x07) ∨ (∃ b k, c = .xfer l t link h b k ∧ code = 0x08) ∨
      (∃ b k, c = .xferCut l t link h b k ∧ code = 0x09) ∨ (∃ x, c = .syncStart l t link h x ∧ code = 0x0A)) →
    (n.linkUp link = true → h.crcOk code = false ∨ h.type ≠ 3 ∨ (h.ccn ≠ n.ccn ∧ n.unsynced = false) ∨ (h.dest ≠ 3 ∧ h.dest ≠ n.id.code) →
      Completes c s l (n.bump XLA.LINK_ERR_DISCARDED link)) ∧
    (n.linkUp link = false → Completes c s l n)

/-- AUTHORITY_MOVE_APPLY at the named cycle in a healthy lane carries out or refuses the pending move. COMMIT_APPLY in a healthy lane at the
start of M: with no reason against it a one-step commit is done, a two-step commit applies its first step, marks this cycle as a hold and is
done at the start of M + 1, in both cases after a pending schedule-mode switch has been settled as agreed when the staged configuration
changes the schedule; with a reason it fails. At a lane that is not healthy the commit is dropped. HOST_COMMAND_AGREED at a cycle start at
which a class A image is agreed here and the key-off test does not occupy the lane: it is taken and carried out. AGREEMENT_TIMEOUT, once
HIF.AGREE_CFG.TIMEOUT ms have run since the lane authenticated a command not yet seen agreed: the command leaves the authenticated set and
its image the known ones, it completes NOT_AGREED (status 7) on its queue, is counted, and raises source 0xAA. SYNC_START_DECISION at the
authority-elect in SYNC with no start named, when both other lanes match, or 78,000,000 ticks (130 ms) after lane ready: a later start
instant is kept and sent to both lanes. INITIAL_START in SYNC, in a lane that is neither held FENCED, stopped nor halted, at the instant
named with an authority-elect: the part starts. Where the spec leaves a point of this open, it is the model's choice:
notes/assumptions/30.md, 46.md. -/
def Obligations.AuthorityAndStartComplete : Prop :=
  (∀ s l m, let n := (s.lane l).atTick 0
    n.xla.move = some m → m.at_ = n.ccn → n.own.healthy = true → Completes (.authorityMoveApply l) s l (n.applyMove m)) ∧
  (∀ s l r, let n := (s.lane l).atTick 0
    let n1 := if n.modeSwitch n.stage.cfg then n.settleSwitch true else n
    n.hif.commit = some r → n.own.healthy = true →
    (r.stepped = false → n.ccn = r.m → r.twoStep = false → n.commitVerdict r = 0 → Completes (.commitApply l) s l (n1.commitDone r)) ∧
    (r.stepped = false → n.ccn = r.m → r.twoStep = true → n.commitVerdict r = 0 → Completes (.commitApply l) s l
      (((n1.applyStep1 n.stage.cfg).onXla fun x => { x with commitHold := true }).onHif fun h => { h with commit := some { r with stepped := true } })) ∧
    (r.stepped = true → n.ccn = r.m + 1 → Completes (.commitApply l) s l (n.commitDone r)) ∧
    (r.stepped = false → n.ccn = r.m → n.commitVerdict r ≠ 0 →
      Completes (.commitApply l) s l (((n.onHif fun h => { h with commit := none }).settleSwitch false).commitFails r.img (n.commitVerdict r)))) ∧
  (∀ s l r, let n := (s.lane l).atTick 0
    n.hif.commit = some r → n.own.healthy = false → Completes (.commitApply l) s l (n.onHif fun h => { h with commit := none })) ∧
  (∀ s l t img p i o, let n := (s.lane l).atTick t
    img.opcode ≠ 0xFF → img.opcode ≠ 0xFE → n.agreedNow img = true → (n.take img).keyoffBusy = false →
    Completes (.hostCommandAgreed l t img ⟨p, i⟩ o) s l ((n.take img).carryOut img p i o)) ∧
  (∀ s l t img p, let n := (s.lane l).atTick t
    n.hif.authed.find? (fun p => decide (p.img = img) && !p.seen) = some p → p.since + 600000 * n.rd HIF.AGREE_CFG_TIMEOUT ≤ n.clk.now →
    img.opcode ≠ 0xFF → img.opcode ≠ 0xFE →
    Completes (.agreementTimeout l t img) s l
      ((((n.onHif fun h => { h with authed := h.authed.erase p, known := h.known.filter fun i => decide (i ≠ img) }).pushCompletion img.queue
        { cid := img.cid, seq := p.seq, status := 7, bytes := p.bytes, irq := p.irq, sqHead := p.sqHead, due := n.clk.cycles }).bump
          HIF.CMD_ERR_AGREE).fault 0xAA)) ∧
  (∀ s l t start, let n := (s.lane l).atTick t
    n.own = .sync → n.elect = some l → n.xla.startAt = none → n.clk.now < start →
    n.matching.length = 2 ∨ (∃ r, n.xla.readyAt = some r ∧ r + 78000000 ≤ n.clk.now) →
    Completes (.syncStartDecision l t start) s l ((n.onXla fun x => { x with startAt := some start }).sendCtl 3 (.syncStart start))) ∧
  (∀ s l at_ e, let n := s.lane l
    n.xla.startAt = some at_ → n.elect = some e → n.own = .sync → n.heldFenced = false → n.bcn.stopped = false → n.bcn.halted = false →
    Completes (.initialStart l) s l (n.initialStart at_ e))

/-- JOIN, valid and on a link that is up, at a healthy lane that admits its sender: the AUTHORITY holds the sender as in RESYNC, to be shown
so in its STATUS, and the lane that is the donor serves it from then on with nothing yet sent; at another lane the sender is only heard.
XFER_SEND in the background phase, at a healthy donor whose link to the joining lane is up, of a block of items of its present state, with a
count of 0 left just when nothing unsent is left: the block's words of lane SRAM are read; with an uncorrectable one nothing is sent; else
the block is noted and sent, and as the last block, when nothing is left and the slow activations allow the cut, it is sent with the next
cycle as the cut and the donor is done. XFER, valid, at a lane that seeks to join or is in PHASE 1 with the sender as donor: the transfer
begins if it has not, its items are taken, and BLOCKS_LEFT shows the count, 65,535 at most. XFER_CUT with a cut cycle 1 to 2^31 - 1 cycles
ahead does the same and keeps the cut. CUT_CYCLE_START at that cycle: PHASE becomes 2 with a clean count of 0, and the slow releases of this
cycle start are made. CLEAN_PERIOD_COMPLETE with a clean count of ceil(1 s / cycle length) or more: the lane is to join at the next cycle
start. TRANSFER_TIMEOUT 30,000,000 ticks (50 ms) or more after the acceptance, in PHASE 1: source 0x14 and a fence with cause 0x7.
CUT_CYCLE_START in another phase or cycle does nothing. Where the spec leaves a point of this open, it is the model's choice:
notes/assumptions/21.md, 29.md. -/
def Obligations.JoinAndTransferComplete : Prop :=
  (∀ s l t link h, let n := (s.lane l).atTick t; let x := n.peerOf link
    n.linkUp link = true → n.ctlOk 0x07 h = true →
    (n.own.healthy = true → (n.hear link).admits x = true →
      let n1 := if n.own = .authority then ((n.hear link).setPeer x .resync).onXla fun q => { q with admitted := some x } else n.hear link
      (n1.donorFor x = n1.id → Completes (.join l t link h) s l (n1.onXla fun q => { q with donorTo := some x, sent := [] })) ∧
      (n1.donorFor x ≠ n1.id → Completes (.join l t link h) s l n1)) ∧
    (n.own.healthy = false ∨ (n.hear link).admits x = false → Completes (.join l t link h) s l (n.hear link))) ∧
  (∀ s l t b k x, let n := (s.lane l).atTick t
    n.xla.donorTo = some x → n.clk.phase = .background → n.own.healthy = true → n.linkUp (n.linkTo x) = true →
    b.all (n.xferState x).contains = true →
    let n1 := (n.readBlock b).1.onXla fun q => { q with sent := sentAfter q.sent b }
    (k = 0 ↔ n1.xferLeft x = []) →
    ((n.readBlock b).2 = false → Completes (.xferSend l t b k false) s l (n.readBlock b).1) ∧
    ((n.readBlock b).2 = true → Completes (.xferSend l t b k false) s l (n1.sendCtl x.code (.xfer b k))) ∧
    ((n.readBlock b).2 = true → n1.xferLeft x = [] → n.mayCut = true → Completes (.xferSend l t b k true) s l
      ((n1.onXla fun q => { q with donorTo := none, sent := [] }).sendCtl x.code (.xferCut b (n.ccn + 1))))) ∧
  (∀ s l t link h b k, let n := (s.lane l).atTick t; let n1 := (n.hear link).awaitTransfer (n.peerOf link)
    n.linkUp link = true → n.ctlOk 0x08 h = true → n1.receives (n.peerOf link) = true →
    Completes (.xfer l t link h b k) s l ((b.foldl Lane.takeItem n1).wr XLA.RESYNC_STATUS_BLOCKS_LEFT (min k 65535))) ∧
  (∀ s l t link h b c, let n := (s.lane l).atTick t; let n1 := (n.hear link).awaitTransfer (n.peerOf link)
    n.linkUp link = true → n.ctlOk 0x09 h = true → n1.receives (n.peerOf link) = true → ahead n1.ccn c = true →
    Completes (.xferCut l t link h b c) s l ((b.foldl Lane.takeItem n1).transferred c)) ∧
  (∀ s l, let n := (s.lane l).atTick 0
    (n.own = .resync → n.rd XLA.RESYNC_STATUS_PHASE = 1 → n.xla.cut = some n.ccn →
      Completes (.cutCycleStart l) s l
        (((n.wr XLA.RESYNC_STATUS_PHASE 2).wr XLA.RESYNC_CLEAN_COUNT 0).onXla fun q => { q with cut := none, accepted := none }).slowReleases) ∧
    (n.own ≠ .resync ∨ n.rd XLA.RESYNC_STATUS_PHASE ≠ 1 ∨ n.xla.cut ≠ some n.ccn → Completes (.cutCycleStart l) s l n)) ∧
  (∀ s l, let n := s.lane l
    n.own = .resync → n.rd XLA.RESYNC_STATUS_PHASE = 2 → ceilDiv 600000000 n.cycleLen ≤ n.rd XLA.RESYNC_CLEAN_COUNT →
    Completes (.cleanPeriodComplete l) s l (n.onXla fun q => { q with joinNext := true })) ∧
  (∀ s l t a, let n := (s.lane l).atTick t
    n.xla.accepted = some a → n.own = .resync → n.rd XLA.RESYNC_STATUS_PHASE = 1 → a + 30000000 ≤ n.clk.now →
    Completes (.transferTimeout l t) s l (((n.fault 0x14).homeFenced 0x14).fence 0x7))

/-- CYCLE_MARKER_RECEIVE: the first marker of a sender in a cycle on a link that is up has its offset (arrival less the link's latency) kept
for the sender; in a migration hold cycle, or while the AUTHORITY is lost, nothing more; otherwise a marker of the AUTHORITY is taken as the
lane's offset, the run of out-of-range cycles of the lane observed is counted, and the alignment is judged. On a link that is not up, or
after another marker of the sender in this cycle, nothing happens. PULSE_TOGGLE_RECEIVE: a toggle within 300 ticks (500 ns) of the
receiver's own cycle start counts as heard on the pulse path, another does not. LINK_BLOCK_LOCK_LOST of a link that has block lock clears
BLOCK_LOCK, TRAINED and UP, and raises source 0x1B + link as a condition. LINK_TRAINING_COMPLETE of a link not trained, in a lane that is
not OFF, sets BLOCK_LOCK, TRAINED and UP, stores the measured latency and ends the condition; once both links have trained, the bar on JOIN
is lifted. Where the spec leaves a point of this open, it is the model's choice: notes/assumptions/24.md. -/
def Obligations.MarkersAndLinksComplete : Prop :=
  (∀ s l link arr, let n := s.lane l; let x := n.peerOf link; let off := arr - (n.rd XLA.LINK_STATUS_LATENCY link : Int)
    let n1 := n.onXla fun q => { q with markOff := q.markOff.set x (some off) }
    (n.linkUp link = true → n.xla.markOff.get x = none → n.xla.migration = false → n.reference = some x →
      Completes (.cycleMarkerReceive l link arr) s l (((n1.takeMarker x off).runsOfOthers x).judgeAlign)) ∧
    (n.linkUp link = true → n.xla.markOff.get x = none → n.xla.migration = false → n.reference.isSome = true → n.reference ≠ some x →
      Completes (.cycleMarkerReceive l link arr) s l ((n1.runsOfOthers x).judgeAlign)) ∧
    (n.linkUp link = true → n.xla.markOff.get x = none → n.xla.migration = true ∨ n.reference = none → Completes (.cycleMarkerReceive l link arr) s l n1) ∧
    (n.linkUp link = false ∨ (n.xla.markOff.get x).isSome = true → Completes (.cycleMarkerReceive l link arr) s l n)) ∧
  (∀ s l link off, let n := s.lane l; iabs off ≤ 300 →
    Completes (.pulseToggleReceive l link off) s l (n.onXla fun q => { q with pulseHeard := q.pulseHeard.set (n.peerOf link) true })) ∧
  (∀ s l link off, 300 < iabs off → Completes (.pulseToggleReceive l link off) s l (s.lane l)) ∧
  (∀ s l t link, let n := (s.lane l).atTick t; link < 2 → n.on XLA.LINK_STATUS_BLOCK_LOCK link = true →
    Completes (.linkBlockLockLost l t link) s l
      ((((n.flag XLA.LINK_STATUS_BLOCK_LOCK false link).flag XLA.LINK_STATUS_TRAINED false link).flag XLA.LINK_STATUS_UP false link).faultLevel
        (0x1B + link))) ∧
  (∀ s l t link lat, let n := (s.lane l).atTick t; link < 2 → n.own ≠ .off → n.on XLA.LINK_STATUS_TRAINED link = false →
    let n1 := ((((n.flag XLA.LINK_STATUS_BLOCK_LOCK true link).flag XLA.LINK_STATUS_TRAINED true link).flag XLA.LINK_STATUS_UP true link).wr
      XLA.LINK_STATUS_LATENCY lat link).setLevel (0x1B + link) false
    Completes (.linkTrainingComplete l t link lat) s l (if n1.trainedBoth then n1.onXla fun x => { x with noJoin := false } else n1))

/-- For every lane, value index k, values used vs and previous agreed value: a VOTED value of three lanes is one of the three, and lies
between any two of them, so that one lane cannot move it outside the range of the other two; of two lanes within TOL it is floor((a + b) /
2), beyond TOL the previous value; an OWN value is the owner's, or the previous value when the owner was not used; in a DISCRETE value of
three lanes every bit on which two lanes agree has their value; of two lanes it is the AND or, with DUP_RULE, the OR; a single lane's value
stands; with no lane used the previous value stands, in every class. -/
def Obligations.AgreedValueFollowsItsClass : Prop :=
  (∀ (l : Lane) (k : Nat) (x y z : LaneId) (a b c prev : Val), l.rd XLA.VAL_CFG_CLASS k = 0 →
    let v := l.agreeValue k [(x, a), (y, b), (z, c)] prev
    (v = a ∨ v = b ∨ v = c) ∧ imin (s18 a) (s18 b) ≤ s18 v ∧ s18 v ≤ imax (s18 a) (s18 b) ∧
      imin (s18 a) (s18 c) ≤ s18 v ∧ s18 v ≤ imax (s18 a) (s18 c) ∧ imin (s18 b) (s18 c) ≤ s18 v ∧ s18 v ≤ imax (s18 b) (s18 c)) ∧
  (∀ (l : Lane) (k : Nat) (x y : LaneId) (a b prev : Val), l.rd XLA.VAL_CFG_CLASS k = 0 →
    (iabs (s18 a - s18 b) ≤ l.rd XLA.VAL_CFG_TOL k → s18 (l.agreeValue k [(x, a), (y, b)] prev) = (s18 a + s18 b) / 2) ∧
    (l.rd XLA.VAL_CFG_TOL k < iabs (s18 a - s18 b) → l.agreeValue k [(x, a), (y, b)] prev = prev)) ∧
  (∀ (l : Lane) (k : Nat) (vs : List (LaneId × Val)) (prev : Val), l.rd XLA.VAL_CFG_CLASS k = 1 →
    (∀ before e after, vs = before ++ e :: after → (∀ d ∈ before, d.1.code ≠ l.rd XLA.VAL_CFG_OWNER k) →
      e.1.code = l.rd XLA.VAL_CFG_OWNER k → l.agreeValue k vs prev = e.2) ∧
    ((∀ e ∈ vs, e.1.code ≠ l.rd XLA.VAL_CFG_OWNER k) → l.agreeValue k vs prev = prev)) ∧
  (∀ (l : Lane) (k : Nat) (x y z : LaneId) (a b c prev : Val) (i : Nat), l.rd XLA.VAL_CFG_CLASS k = 2 →
    let v := l.agreeValue k [(x, a), (y, b), (z, c)] prev
    (a.getLsbD i = b.getLsbD i → v.getLsbD i = a.getLsbD i) ∧ (a.getLsbD i = c.getLsbD i → v.getLsbD i = a.getLsbD i) ∧
      (b.getLsbD i = c.getLsbD i → v.getLsbD i = b.getLsbD i)) ∧
  (∀ (l : Lane) (k : Nat) (x y : LaneId) (a b prev : Val), l.rd XLA.VAL_CFG_CLASS k = 2 →
    l.agreeValue k [(x, a), (y, b)] prev = if l.on XLA.VAL_CFG_DUP_RULE k then a ||| b else a &&& b) ∧
  (∀ (l : Lane) (k : Nat) (x : LaneId) (a prev : Val), l.rd XLA.VAL_CFG_CLASS k ≠ 1 → l.agreeValue k [(x, a)] prev = a) ∧
  (∀ (l : Lane) (k : Nat) (prev : Val), l.agreeValue k [] prev = prev)

/-- For votes a, b, c of three lanes: when the verdict is to commit a frame, that frame is one of the three, and at least two of the votes
carry its tokens, digest and configuration tag, so no value of a single lane is ever committed. When two votes are equal in everything that
is voted, both their lanes commit that common value, and the third lane commits it too or is in minority (fenced with cause 0x2, 0x3 or 0x9,
or sent to RESYNC when it alone held). -/
def Obligations.CommittedFrameHasTwoLanes : Prop :=
  (∀ (n : Nat) (me : LaneId) (a b c : Vote) (f : OutFrame) (o : Option (LaneId × Bool)),
    verdict3 n me a b c = (.commit f, o) →
    ∃ u v : Vote, ((u = a ∧ v = b) ∨ (u = a ∧ v = c) ∨ (u = b ∧ v = c)) ∧ (f = u.out ∨ f = v.out) ∧ sameVote n u v = true) ∧
  (∀ (n : Nat) (a b c : Vote), a.id ≠ b.id → a.id ≠ c.id → b.id ≠ c.id → sameVote n a b = true →
    (∀ me, me = a.id ∨ me = b.id → ∃ f o, verdict3 n me a b c = (.commit f, o) ∧ (f = a.out ∨ f = b.out)) ∧
    ((sameVote n a c = true ∧ verdict3 n c.id a b c = (.commit a.out, none)) ∨
      verdict3 n c.id a b c = (.frameLost, none) ∨ ∃ k, (k = 0x2 ∨ k = 0x3 ∨ k = 0x9) ∧ verdict3 n c.id a b c = (.minority k, none)))

/-- What a cycle start decides for the system mode: SNUFFED is left only for the mode that a granted enable names, and not when a lane was
lost in the same cycle; TRIPLEX moves only to DUPLEX, on the loss of exactly one lane, or to SAFE STOP; DUPLEX moves only to TRIPLEX, with
three healthy lanes, to LAST LIGHT, with at most one, or to SAFE STOP; LAST LIGHT moves only to SAFE STOP; SAFE STOP only ends. In TRIPLEX
and DUPLEX, no majority, CLAIMs that failed here or at a peer, or two lanes lost in one cycle lead to SAFE STOP; a lane in twin mode is
never the one that remains in LAST LIGHT. -/
def Obligations.ModeMovesAreListed : Prop :=
  ∀ (l : Lane) (bad : Bool),
    let lost := (l.peers.filter fun x => l.xla.lostNow.get x).length
    (l.xla.mode = .snuffed → l.modeMove bad = .stay ∨ ∃ m, l.sfu.enable = some m ∧ lost = 0 ∧ l.modeMove bad = .to m 0) ∧
    (l.xla.mode = .triplex → l.modeMove bad = .stay ∨ (lost = 1 ∧ ∃ k, l.modeMove bad = .to .duplex k) ∨ ∃ c, l.modeMove bad = .stop c) ∧
    (l.xla.mode = .duplex → l.modeMove bad = .stay ∨ (l.remaining.length = 3 ∧ l.modeMove bad = .to .triplex 0) ∨
      (l.remaining.length ≤ 1 ∧ l.on BCN.MODE_TWIN = false ∧ ∃ k, l.modeMove bad = .to .lastLight k) ∨ ∃ c, l.modeMove bad = .stop c) ∧
    (l.xla.mode = .lastLight → l.modeMove bad = .stay ∨ ∃ c, l.modeMove bad = .stop c) ∧
    (l.xla.mode = .safeStop → l.modeMove bad = .stay ∨ l.modeMove bad = .ended l.sfu.endCode) ∧
    (l.xla.mode = .triplex ∨ l.xla.mode = .duplex → l.xla.noMaj = true ∨ l.xla.claimFail = true ∨ bad = true ∨ 2 ≤ lost → ∃ c, l.modeMove bad = .stop c)

/-- In a lane whose CPU domain is ON. LOCKSTEP_WINDOW_COMPARE of a comparing pair, 2 cycles after the end of a 128-cycle window, with no
signature flip armed: both cores' writebacks are folded into the signature registers; equal signatures restart both registers, unequal ones
are a mismatch of cause 1 with source 0x01, and a difference that one comparator copy alone reports is one of cause 4. CORE_BUS_WRITE of a
comparing pair that is not halted, with comparator copies that work: both writes are folded in; when address, attributes, data, strobes and
signatures agree, the main core's write is released to the fabric; a difference in address or attributes is a mismatch of cause 2, one in
data or strobes of cause 3, one of the signatures alone of cause 1, and the write is not released. COMPARATOR_REHEARSAL at a multiple of
600,000 core cycles: the bit position moves on modulo 64; when both copies flag, it is counted as passed; a copy that does not is marked as
failed, with cause 5 (copy 0), 6 (copy 1) or 7 (both) and source 0x02. In twin mode the main core's write reaches the fabric uncompared. A
stopped or halted pair writes nothing. Where the spec leaves a point of this open, it is the model's choice: notes/assumptions/69.md. -/
def Obligations.LockstepComplete : Prop :=
  (∀ s l t wa wc, let n := (s.lane l).atTick t
    n.domOn 0 = true → n.comparing = true → 128 ≤ n.coreCount → n.coreCount % 128 = 2 → n.bcn.flip = false →
    let m := foldBacks n.bcn.sigMain wa; let c := foldBacks n.bcn.sigChk wc
    (m = c → Completes (.lockstepWindowCompare l t wa wc false false) s l
      { n with bcn := { n.bcn with sigMain := Config.sigStart, sigChk := Config.sigStart } }) ∧
    (m ≠ c → Completes (.lockstepWindowCompare l t wa wc false false) s l (n.lockstepFail 0x01 0x1 m c)) ∧
    Completes (.lockstepWindowCompare l t wa wc true false) s l (n.lockstepFail 0x01 0x4 m c) ∧
    Completes (.lockstepWindowCompare l t wa wc false true) s l (n.lockstepFail 0x01 0x4 m c)) ∧
  (∀ s l t (w chk : BusWr) wa wc, let n := (s.lane l).atTick t
    n.domOn 0 = true → n.comparing = true → n.bcn.halted = false →
    let m := Config.foldWrite (foldBacks n.bcn.sigMain wa) w; let c := Config.foldWrite (foldBacks n.bcn.sigChk wc) chk
    let n1 := { n with bcn := { n.bcn with sigMain := m, sigChk := c } }
    (w = chk → m = c → Completes (.coreBusWrite l t ⟨w, wa⟩ ⟨chk, wc⟩ false false) s l (n1.busWrite 0x0 w)) ∧
    (w.addr ≠ chk.addr ∨ w.attr ≠ chk.attr → Completes (.coreBusWrite l t ⟨w, wa⟩ ⟨chk, wc⟩ false false) s l (n1.lockstepOpen 0x01 0x2)) ∧
    (w.addr = chk.addr → w.attr = chk.attr → w.data ≠ chk.data ∨ w.strobe ≠ chk.strobe →
      Completes (.coreBusWrite l t ⟨w, wa⟩ ⟨chk, wc⟩ false false) s l (n1.lockstepOpen 0x01 0x3)) ∧
    (w = chk → m ≠ c → Completes (.coreBusWrite l t ⟨w, wa⟩ ⟨chk, wc⟩ false false) s l (n1.lockstepOpen 0x01 0x1))) ∧
  (∀ s l t w c wa wc, let n := (s.lane l).atTick t
    n.domOn 0 = true →
    (n.on BCN.MODE_LOCKSTEP = false → n.bcn.stopped = false → n.bcn.halted = false →
      Completes (.coreBusWrite l t ⟨w, wa⟩ ⟨c, wc⟩ false false) s l (n.busWrite 0x0 w)) ∧
    (n.bcn.stopped = true ∨ n.bcn.halted = true → Completes (.coreBusWrite l t ⟨w, wa⟩ ⟨c, wc⟩ false false) s l n)) ∧
  (∀ s l t, let n := (s.lane l).atTick t
    n.domOn 0 = true → n.comparing = true → 0 < n.coreCount → n.coreCount % 600000 = 0 →
    Completes (.comparatorRehearsal l t true true) s l
      ((n.wr BCN.RH_STATUS_BIT_POS ((n.rd BCN.RH_STATUS_BIT_POS + 1) % 64)).wrapInc BCN.RH_STATUS_PASS_COUNT) ∧
    Completes (.comparatorRehearsal l t false true) s l
      (((n.wr BCN.RH_STATUS_BIT_POS ((n.rd BCN.RH_STATUS_BIT_POS + 1) % 64)).flag BCN.RH_STATUS_FAIL_0 true).lockstepOpen 0x02 0x5) ∧
    Completes (.comparatorRehearsal l t true false) s l
      (((n.wr BCN.RH_STATUS_BIT_POS ((n.rd BCN.RH_STATUS_BIT_POS + 1) % 64)).flag BCN.RH_STATUS_FAIL_1 true).lockstepOpen 0x02 0x6) ∧
    Completes (.comparatorRehearsal l t false false) s l
      ((((n.wr BCN.RH_STATUS_BIT_POS ((n.rd BCN.RH_STATUS_BIT_POS + 1) % 64)).flag BCN.RH_STATUS_FAIL_0 true).flag
        BCN.RH_STATUS_FAIL_1 true).lockstepOpen 0x02 0x7))

/-- LANE_SRAM_READ, permitted, with the CPU domain ON, of a word that holds no stored error: it answers the 64-bit word that holds the
address, with memories and registers unchanged; a single-bit error found with it is corrected, counted and written back, and the same word
answered; a double-bit error is recorded with its syndrome and ends with a bus error, and so does a word read at a wrong address. Outside
lane SRAM, LANE_SRAM_READ and LANE_SRAM_WRITE are unmapped accesses. SRAM_SCRUB with the CPU domain ON, when no word has been scrubbed yet
or twice SCRUB_INTERVAL ticks have run since the last: the scrubber's position moves on by one word modulo 786,432, the pass is counted at
the last word, and the word is checked as initiator 0xF; before that nothing is read. TABLE_MEMORY_SCRUB with the CEN domain ON does so over
262,144 words after TBL_SCRUB.INTERVAL ticks, for unit 0xF. CORE_LOCAL_MEMORY_ERROR with the CPU domain ON: a single-bit error is corrected;
a double-bit error in the local memory of Taper core k is recorded, resets that core and raises source 0x05; in the comms core's it is
recorded, raises 0x05 and resets that core; in a Beacon memory it is recorded and stops the pair with cause 0x8. COMMS_CORE_WATCHDOG with
the CPU domain ON, 6,000,000 ticks (10 ms) or more after the comms core last left reset: source 0x06, and the comms core is reset; earlier
it does nothing. Where the spec leaves a point of this open, it is the model's choice: notes/assumptions/36.md. -/
def Obligations.MemoryErrorsComplete : Prop :=
  (∀ s l t ini addr, let n := (s.lane l).atTick t; let d := BitVec.ofNat 64 (n.mem.read (word64 addr.toNat) 8)
    inSram addr.toNat = true → n.sramRight ini addr.toNat false = true → n.domOn 0 = true →
    (n.mem.err (word64 addr.toNat) = 0 →
      (∃ v : Lane, Completes (.laneSramRead l t ini addr .none) s l v ∧ v.bus = .done d ∧ v.mem = n.mem ∧ v.regs = n.regs) ∧
      (ini ≠ 0 → Completes (.laneSramRead l t ini addr .single) s l (((n.wordWritten (word64 addr.toNat)).corrected).busDone d))) ∧
    (∀ syn, Completes (.laneSramRead l t ini addr (.double syn)) s l (n.sramUe ini (word64 addr.toNat) syn).busError ∧
      Completes (.laneSramRead l t ini addr (.misplaced syn)) s l
        ((n.recordUe ini 0 0 (word64 addr.toNat) syn).fault 0x03 (BitVec.ofNat 32 (word64 addr.toNat))).busError)) ∧
  (∀ s l t ini addr up data strobe, let n := (s.lane l).atTick t
    inSram addr.toNat = false → Completes (.laneSramRead l t ini addr up) s l (n.unmapped ini addr) ∧
      Completes (.laneSramWrite l t ini addr data strobe up) s l (n.unmapped ini addr)) ∧
  (∀ s l t up, let n := (s.lane l).atTick t; let k := n.bcn.scrubAt
    let n1 : Lane := { n with bcn := { n.bcn with scrubAt := (k + 1) % 786432, scrubTick := some n.clk.now } }
    n.domOn 0 = true →
    (n.bcn.scrubTick = none ∨ (∃ a, n.bcn.scrubTick = some a ∧ a + 2 * n.rd BCN.SRAM_CTRL_SCRUB_INTERVAL ≤ n.clk.now) →
      Completes (.sramScrub l t up) s l
        ((if k + 1 = 786432 then n1.wrapInc BCN.SCRUB_PASS_COUNT else n1).sramCheck 0xF (0x10000000 + 8 * k) up).1) ∧
    (∀ a, n.bcn.scrubTick = some a → n.clk.now < a + 2 * n.rd BCN.SRAM_CTRL_SCRUB_INTERVAL → Completes (.sramScrub l t up) s l n)) ∧
  (∀ s l t up, let n := (s.lane l).atTick t; let k := n.cen.scrubAt
    let n1 : Lane := { n with cen := { n.cen with scrubAt := (k + 1) % 262144, scrubTick := some n.clk.now } }
    n.domOn 2 = true →
    (n.cen.scrubTick = none ∨ (∃ a, n.cen.scrubTick = some a ∧ a + n.rd CEN.TBL_SCRUB_INTERVAL ≤ n.clk.now) →
      Completes (.tableMemoryScrub l t up) s l ((if k + 1 = 262144 then n1.wrapInc CEN.TBL_SCRUB_PASSES else n1).tableMeet 0xF k up).1) ∧
    (∀ a, n.cen.scrubTick = some a → n.clk.now < a + n.rd CEN.TBL_SCRUB_INTERVAL → Completes (.tableMemoryScrub l t up) s l n)) ∧
  (∀ s l t off syn, let n := (s.lane l).atTick t
    n.domOn 0 = true →
    (∀ mem dataMem, Completes (.coreLocalMemoryError l t mem dataMem off .single) s l n.corrected) ∧
    (∀ k dataMem, k < 4 → Completes (.coreLocalMemoryError l t (.taper k) dataMem off (.double syn)) s l
      (((n.recordUe (1 + k) (2 + k) dataMem.toNat off.toNat syn).resetTaper k).fault 0x05 off)) ∧
    (∀ dataMem, Completes (.coreLocalMemoryError l t .comms dataMem off (.double syn)) s l
      ((n.recordUe 5 6 dataMem.toNat off.toNat syn).fault 0x05 off).resetComms) ∧
    (∀ dataMem, Completes (.coreLocalMemoryError l t .beacon dataMem off (.double syn)) s l
      ((n.recordUe 0 1 dataMem.toNat off.toNat syn).lockstepOpen 0x01 0x8))) ∧
  (∀ s l t, let n := (s.lane l).atTick t
    n.domOn 0 = true →
    (n.bcn.commsAt + 6000000 ≤ n.clk.now → Completes (.commsCoreWatchdog l t) s l (n.fault 0x06).resetComms) ∧
    (n.clk.now < n.bcn.commsAt + 6000000 → Completes (.commsCoreWatchdog l t) s l n))

/-- For every permitted write to an address in lane SRAM with the CPU domain ON, whose 64-bit word holds no stored error and meets none: it
completes; byte i of the word reads as byte i of the data where strobe bit i is set and as before elsewhere; every byte outside the word
reads as before; registers, table memory and all other state of the lane are unchanged, but for the response on the bus and, when an
injection of a lane SRAM error is armed, the error placed in that word and the injection's end. -/
def Obligations.SramWriteStoresItsBytes : Prop :=
  ∀ s l t ini addr data strobe, let n := (s.lane l).atTick t
    inSram addr.toNat = true → n.sramRight ini addr.toNat true = true → n.domOn 0 = true → n.mem.err (word64 addr.toNat) = 0 →
    ∃ v : Lane, Completes (.laneSramWrite l t ini addr data strobe .none) s l v ∧ v.bus = .done 0 ∧
      (∀ i, i < 8 → v.mem.byte (word64 addr.toNat + i) =
        if strobe.getLsbD i then data.extractLsb' (8 * i) 8 else n.mem.byte (word64 addr.toNat + i)) ∧
      (∀ b, b < word64 addr.toNat ∨ word64 addr.toNat + 8 ≤ b → v.mem.byte b = n.mem.byte b) ∧
      (∀ w, v.mem.err w = if w = word64 addr.toNat ∧ n.fcl.armed = 2 then 1 else if w = word64 addr.toNat ∧ n.fcl.armed = 3 then 2 else n.mem.err w) ∧
      v.fcl.armed = (if n.fcl.armed = 2 ∨ n.fcl.armed = 3 then 0 else n.fcl.armed) ∧
      v = { n with mem := { n.mem with sram := v.mem.sram, sramErr := v.mem.sramErr }, fcl := { n.fcl with armed := v.fcl.armed }
                   bus := .done 0 }

/-- With the CPU domain ON: a full write of a 64-bit word of lane SRAM by an initiator that may write it, with no injection of a lane SRAM
error armed, followed by a read of any address in that word by any initiator that may read it, at any ticks, completes both times, and the
read answers the data written. -/
def Obligations.SramKeepsWhatIsWritten : Prop :=
  ∀ s l t t' ini ini' addr addr' data, let n := s.lane l
    inSram addr.toNat = true → inSram addr'.toNat = true → word64 addr'.toNat = word64 addr.toNat → n.domOn 0 = true →
    n.sramRight ini addr.toNat true = true → n.sramRight ini' addr'.toNat false = true → n.fcl.armed ≠ 2 → n.fcl.armed ≠ 3 →
    ∃ s1 s2 : State, exec (.laneSramWrite l t ini addr data 0xFF .none) s = .next s1 ∧
      exec (.laneSramRead l t' ini' addr' .none) s1 = .next s2 ∧ (s2.lane l).bus = .done data

/-- With the CEN domain ON, a write to table memory by the Beacon main core (initiator 0), the transfer engine (8) or the host (0xB), in
open staging, at a word that neither the active nor a draining configuration names, with no table injection armed, stores the low 18 bits of
the data and clears a stored error; outside open staging, or at a named word, it ends with a bus error and source 0x07 and no other effect.
A write by another initiator than these, Vigil among them, ends so as well, whatever the domain. An address outside table memory is
unmapped. Where the spec leaves a point of this open, it is the model's choice: notes/assumptions/75.md. -/
def Obligations.TableMemoryWritesComplete : Prop :=
  (∀ s l t ini addr data, let n := (s.lane l).atTick t; let w := (addr.toNat - 0x20000000) / 4
    inTable addr.toNat = true → ini = 0 ∨ ini = 0x8 ∨ ini = 0xB → n.domOn 2 = true →
    (n.stage.isOpen = true → n.referenced w = false → n.fcl.armed ≠ 4 →
      Completes (.tableMemoryWrite l t ini addr data) s l
        (({ n with mem := { n.mem with table := Sparse.set 0 n.mem.table w (data.setWidth 18), tableErr := Sparse.set 0 n.mem.tableErr w 0 } }
          : Lane).busDone 0)) ∧
    (n.stage.isOpen = false ∨ n.referenced w = true →
      Completes (.tableMemoryWrite l t ini addr data) s l ((n.fault 0x07 (accessInfo addr ini)).busError))) ∧
  (∀ s l t ini addr data, let n := (s.lane l).atTick t
    inTable addr.toNat = true →
    (ini ≠ 0 ∧ ini ≠ 0x8 ∧ ini ≠ 0xB →
      Completes (.tableMemoryWrite l t ini addr data) s l ((n.fault 0x07 (accessInfo addr ini)).busError))) ∧
  (∀ s l t ini addr data, inTable addr.toNat = false →
    Completes (.tableMemoryWrite l t ini addr data) s l (((s.lane l).atTick t).unmapped ini addr))

/-- DEBUG_HALT_REQUEST: one that R88 accepts, at level 2, halts the pair through the replay queue and is answered; below level 2 it is
refused with source 0x07; one that R88 refuses is counted, raises source 0xEA and is answered as refused. R88 refuses in BLANK, at the
AUTHORITY of a FIELD part, and at a STANDBY lane of it outside TRIPLEX; it accepts in MAKER and in DEVELOP without SEALED. DEBUG_RESUME and
DEBUG_SINGLE_STEP at level 2 act on a halted pair through the replay queue, and DEBUG_CORE_WRITE at level 2 does so in any case; below level
2 each is refused with source 0x07. BREAKPOINT_HIT with the CPU domain ON, of one of 8 breakpoints or 4 watchpoints that is set, in a pair
that is not halted, halts it through the queue; a hit of one that is not set does nothing. REPLAY_QUEUE_DRAIN with the CPU domain ON: the
oldest entry, 2 or more core cycles after the main core took it, leaves the queue and acts on the checker core, and the oldest stalled
action is let in at that tick; so does each entry behind it that is as old; a younger entry stays, and an empty queue does nothing. Where
the spec leaves a point of this open, it is the model's choice: notes/assumptions/20.md, 73.md. -/
def Obligations.DebugComplete : Prop :=
  (∀ s l t, let n := (s.lane l).atTick t
    (n.haltAccepted = true → 2 ≤ n.dbgLevel → Completes (.debugHaltRequest l t) s l ((n.dbgAct .halt).emit (.probe true))) ∧
    (n.haltAccepted = true → n.dbgLevel < 2 → Completes (.debugHaltRequest l t) s l ((n.fault 0x07 (accessInfo 0 0xD)).emit (.probe false))) ∧
    (n.haltAccepted = false →
      Completes (.debugHaltRequest l t) s l (((n.wrapInc DBG.STATUS_REFUSED).fault 0xEA).emit (.probe false)))) ∧
  (∀ l : Lane, (l.otp.lifecycle = 0 → l.haltAccepted = false) ∧ (l.otp.lifecycle = 1 → l.haltAccepted = true) ∧
    (l.otp.lifecycle = 3 → l.own = .authority → l.haltAccepted = false) ∧
    (l.otp.lifecycle = 3 → l.own = .standby → (l.haltAccepted = true ↔ l.xla.mode = .triplex)) ∧
    (l.otp.lifecycle = 2 → l.otp.sealed = false → l.haltAccepted = true)) ∧
  (∀ s l t, let n := (s.lane l).atTick t
    2 ≤ n.dbgLevel → n.bcn.halted = true →
    Completes (.debugResume l t) s l (n.dbgAct .resume) ∧ Completes (.debugSingleStep l t) s l (n.dbgAct .step)) ∧
  (∀ s l t target val, let n := (s.lane l).atTick t
    2 ≤ n.dbgLevel → Completes (.debugCoreWrite l t target val) s l (n.dbgAct (.write target val))) ∧
  (∀ s l t target val, let n := (s.lane l).atTick t; let r := (n.fault 0x07 (accessInfo 0 0xD)).emit (.probe false)
    n.dbgLevel < 2 → Completes (.debugResume l t) s l r ∧ Completes (.debugSingleStep l t) s l r ∧
      Completes (.debugCoreWrite l t target val) s l r) ∧
  (∀ s l t watch idx, let n := (s.lane l).atTick t
    n.domOn 0 = true → n.bcn.halted = false → idx < (if watch then 4 else 8) →
    ((Sparse.get none n.bcn.breaks (if watch then 8 + idx else idx)).isSome = true →
      Completes (.breakpointHit l t watch idx) s l (n.dbgAct (.hit watch idx))) ∧
    ((Sparse.get none n.bcn.breaks (if watch then 8 + idx else idx)) = none → Completes (.breakpointHit l t watch idx) s l n)) ∧
  (∀ s l t, let n := (s.lane l).atTick t
    n.domOn 0 = true →
    (∀ a at_ rest, n.bcn.replay = (a, at_) :: rest → at_ + 2 ≤ n.clk.now →
      let m := ({ n with bcn := { n.bcn with replay := rest, stalled := n.bcn.stalled.drop 1 } } : Lane).chkEffect a
      (n.bcn.stalled = [] → n.drainOne = m) ∧ (∀ b bs, n.bcn.stalled = b :: bs → n.drainOne = m.dbgTake b (at_ + 2)) ∧
      (rest = [] → n.bcn.stalled = [] → Completes (.replayQueueDrain l t) s l m) ∧
      Completes (.replayQueueDrain l t) s l
        ((List.range (rest.length + n.bcn.stalled.length)).foldl (fun (k : Lane) _ => k.drainOne) n.drainOne)) ∧
    (∀ a at_ rest, n.bcn.replay = (a, at_) :: rest → n.clk.now < at_ + 2 → Completes (.replayQueueDrain l t) s l n) ∧
    (n.bcn.replay = [] → Completes (.replayQueueDrain l t) s l n))

/-- The PCL domain of a lane is ON, and its core c runs the node w, whose OPCODE is code. -/
def runsOp (n : Lane) (c : Nat) (w : Work) (code : Nat) : Prop := n.domOn 1 = true ∧ (n.core c).run = some w ∧ ndOpcode (n.pcl.node w.bank w.node) = code

/-- For each of the 24 operators of codes 0x00 to 0x17 (PASS to TIMER): with the PCL domain ON, when Taper core c runs a node whose OPCODE
is the operator's code, the operator's command on core c completes that node (completeNode) with the operator's function. Where the spec
leaves a point of this open, it is the model's choice: notes/assumptions/34.md. -/
def Obligations.ArithmeticOperatorsComplete : Prop :=
  ∀ s l t c w, let n := (s.lane l).atTick t
    (runsOp n c w 0x00 → Completes (.pass l t c) s l (n.completeNode c w opPass)) ∧
    (runsOp n c w 0x01 → Completes (.const l t c) s l (n.completeNode c w opConst)) ∧
    (runsOp n c w 0x02 → Completes (.add l t c) s l (n.completeNode c w opAdd)) ∧
    (runsOp n c w 0x03 → Completes (.sub l t c) s l (n.completeNode c w opSub)) ∧
    (runsOp n c w 0x04 → Completes (.mul l t c) s l (n.completeNode c w opMul)) ∧
    (runsOp n c w 0x05 → Completes (.mac l t c) s l (n.completeNode c w opMac)) ∧
    (runsOp n c w 0x06 → Completes (.div l t c) s l (n.completeNode c w opDiv)) ∧
    (runsOp n c w 0x07 → Completes (.abs l t c) s l (n.completeNode c w opAbs)) ∧
    (runsOp n c w 0x08 → Completes (.neg l t c) s l (n.completeNode c w opNeg)) ∧
    (runsOp n c w 0x09 → Completes (.scale l t c) s l (n.completeNode c w opScale)) ∧
    (runsOp n c w 0x0A → Completes (.min l t c) s l (n.completeNode c w opMin)) ∧
    (runsOp n c w 0x0B → Completes (.max l t c) s l (n.completeNode c w opMax)) ∧
    (runsOp n c w 0x0C → Completes (.limit l t c) s l (n.completeNode c w opLimit)) ∧
    (runsOp n c w 0x0D → Completes (.sqrt l t c) s l (n.completeNode c w opSqrt)) ∧
    (runsOp n c w 0x0E → Completes (.atan2 l t c) s l (n.completeNode c w opAtan2)) ∧
    (runsOp n c w 0x0F → Completes (.sincos l t c) s l (n.completeNode c w opSincos)) ∧
    (runsOp n c w 0x10 → Completes (.cmp l t c) s l (n.completeNode c w opCmp)) ∧
    (runsOp n c w 0x11 → Completes (.select l t c) s l (n.completeNode c w opSelect)) ∧
    (runsOp n c w 0x12 → Completes (.bits l t c) s l (n.completeNode c w opBits)) ∧
    (runsOp n c w 0x13 → Completes (.logic l t c) s l (n.completeNode c w opLogic)) ∧
    (runsOp n c w 0x14 → Completes (.edge l t c) s l (n.completeNode c w opEdge)) ∧
    (runsOp n c w 0x15 → Completes (.debounce l t c) s l (n.completeNode c w opDebounce)) ∧
    (runsOp n c w 0x16 → Completes (.counter l t c) s l (n.completeNode c w opCounter)) ∧
    (runsOp n c w 0x17 → Completes (.timer l t c) s l (n.completeNode c w opTimer))

/-- For each of the 24 operators of codes 0x18 to 0x2F (LPF1 to POLY; LUT1, LUT2 and STEERMAP with every list of upsets that their table
reads meet): with the PCL domain ON, when Taper core c runs a node whose OPCODE is the operator's code, the operator's command on core c
completes that node (completeNode) with the operator's function. Where the spec leaves a point of this open, it is the model's choice:
notes/assumptions/34.md. -/
def Obligations.FilterAndCheckOperatorsComplete : Prop :=
  ∀ s l t c w, let n := (s.lane l).atTick t
    (runsOp n c w 0x18 → Completes (.lpf1 l t c) s l (n.completeNode c w opLpf1)) ∧
    (runsOp n c w 0x19 → Completes (.biquad l t c) s l (n.completeNode c w opBiquad)) ∧
    (runsOp n c w 0x1A → Completes (.ratelim l t c) s l (n.completeNode c w opRatelim)) ∧
    (runsOp n c w 0x1B → Completes (.deadband l t c) s l (n.completeNode c w opDeadband)) ∧
    (runsOp n c w 0x1C → Completes (.movavg l t c) s l (n.completeNode c w opMovavg)) ∧
    (runsOp n c w 0x1D → Completes (.integ l t c) s l (n.completeNode c w opInteg)) ∧
    (runsOp n c w 0x1E → Completes (.deriv l t c) s l (n.completeNode c w opDeriv)) ∧
    (runsOp n c w 0x1F → Completes (.delay l t c) s l (n.completeNode c w opDelay)) ∧
    (runsOp n c w 0x20 → ∀ hits, Completes (.lut1 l t ⟨c, hits⟩) s l (n.completeNode c w opLut1 hits)) ∧
    (runsOp n c w 0x21 → ∀ hits, Completes (.lut2 l t ⟨c, hits⟩) s l (n.completeNode c w opLut2 hits)) ∧
    (runsOp n c w 0x22 → ∀ hits, Completes (.steermap l t ⟨c, hits⟩) s l (n.completeNode c w opSteermap hits)) ∧
    (runsOp n c w 0x23 → Completes (.rangechk l t c) s l (n.completeNode c w opRangechk)) ∧
    (runsOp n c w 0x24 → Completes (.xchk l t c) s l (n.completeNode c w opXchk)) ∧
    (runsOp n c w 0x25 → Completes (.plaus l t c) s l (n.completeNode c w opPlaus)) ∧
    (runsOp n c w 0x26 → Completes (.validor l t c) s l (n.completeNode c w opValidor)) ∧
    (runsOp n c w 0x27 → Completes (.stuck l t c) s l (n.completeNode c w opStuck)) ∧
    (runsOp n c w 0x28 → Completes (.bridgecmd l t c) s l (n.completeNode c w opBridgecmd)) ∧
    (runsOp n c w 0x29 → Completes (.safeout l t c) s l (n.completeNode c w opSafeout)) ∧
    (runsOp n c w 0x2A → Completes (.sigenc l t c) s l (n.completeNode c w opSigenc)) ∧
    (runsOp n c w 0x2B → Completes (.sigdec l t c) s l (n.completeNode c w opSigdec)) ∧
    (runsOp n c w 0x2C → Completes (.agechk l t c) s l (n.completeNode c w opAgechk)) ∧
    (runsOp n c w 0x2D → Completes (.mux4 l t c) s l (n.completeNode c w opMux4)) ∧
    (runsOp n c w 0x2E → Completes (.statemach l t c) s l (n.completeNode c w opStatemach)) ∧
    (runsOp n c w 0x2F → Completes (.poly l t c) s l (n.completeNode c w opPoly))

/-- With the PCL domain ON. NODE_PREEMPTION of a core with a node waiting to pre-empt it: when that node may run, the running node becomes
the core's newest context, the pre-emption is counted, and the new node starts; when it may not run, it waits or starts by the rules of a
freed core and the core goes on. TAPER_CORE_UNRESPONSIVE of a core that has run a node for more than its worst case plus MARGIN: the core is
reset, what is ready is dispatched, and source 0x22 is raised; before, nothing happens. PCL_TABLE_SCRUB of an entry of the node or arc
table: without an error nothing changes, a single-bit error is counted with source 0x25, and a double-bit error is recorded with its bank,
table and entry with source 0x24. With the CEN domain ON, LOOP_SLOT_PASSAGE of one of 8 slots and PROFILE_GENERATOR_PASSAGE of one of 4
generators run the unit's passage for the activation that passageOf finds (of the lowest flow whose activation has the unit enabled in that
flow with a token on every wired port); when it finds none, nothing happens. Where the spec leaves a point of this open, it is the model's
choice: notes/assumptions/33.md, 74.md, 75.md. -/
def Obligations.PercolatorCommandsComplete : Prop :=
  (∀ s l t c r w, let n := (s.lane l).atTick t; let k := (n.core c).tally n.clk.now; let ctx := { r with ready := n.clk.now } :: k.ctx
    let n1 := n.setCore c { k with preempt := none }
    n.domOn 1 = true → (n.core c).run = some r → (n.core c).preempt = some w →
    (n1.mayRun w = true → Completes (.nodePreemption l t c) s l
      ((n1.setCore c { k with run := none, preempt := none, ctx := ctx, preempts := k.preempts + 1, ctxMax := max k.ctxMax ctx.length
                              busy := k.busy + (n.clk.now - r.start) }).startNode c w)) ∧
    (n1.mayRun w = false → Completes (.nodePreemption l t c) s l (n1.startOrWait c w))) ∧
  (∀ s l t c w, let n := (s.lane l).atTick t; let limit := w.start + wcetOf (ndOpcode (n.pcl.node w.bank w.node)) + n.rd PCL.SUPERVISE_MARGIN
    n.domOn 1 = true → (n.core c).run = some w → c < 4 →
    (limit < n.clk.now → Completes (.taperCoreUnresponsive l t c) s l (((n.resetTaper c).pump).fault 0x22)) ∧
    (n.clk.now ≤ limit → Completes (.taperCoreUnresponsive l t c) s l n)) ∧
  (∀ s l t bank arcTable entry syn, let n := (s.lane l).atTick t
    n.domOn 1 = true →
    Completes (.pclTableScrub l t bank arcTable entry .none) s l n ∧
    Completes (.pclTableScrub l t bank arcTable entry .single) s l ((n.bump PCL.TBL_CE_COUNT_COUNT).fault 0x25) ∧
    Completes (.pclTableScrub l t bank arcTable entry (.double syn)) s l
      (((((n.wr PCL.TBL_ERR_ENTRY entry).flag PCL.TBL_ERR_TABLE arcTable).wr PCL.TBL_ERR_BANK bank).flag PCL.TBL_ERR_UE true).fault
        0x24 (BitVec.ofNat 32 entry))) ∧
  (∀ s l t slot hits, let n := (s.lane l).atTick t
    n.domOn 2 = true → slot < 8 →
    (∀ flow a, n.passageOf slot = some (flow, a) → Completes (.loopSlotPassage l t ⟨slot, hits⟩) s l (n.slotPassage slot flow a hits)) ∧
    (n.passageOf slot = none → Completes (.loopSlotPassage l t ⟨slot, hits⟩) s l n)) ∧
  (∀ s l t gen, let n := (s.lane l).atTick t
    n.domOn 2 = true → gen < 4 →
    (∀ flow a, n.passageOf (8 + gen) = some (flow, a) → Completes (.profileGeneratorPassage l t gen) s l (n.genPassage gen flow a)) ∧
    (n.passageOf (8 + gen) = none → Completes (.profileGeneratorPassage l t gen) s l n))

/-- For every lane, core c that runs node w, and operator function f that reads no table: what completing the node leaves differs from the
lane before only in the Percolator (cores, tokens, waiting nodes, release buffer, the activation's count) and in lane SRAM; every byte
outside the node's working copy (from stateAddr, 4 bytes for each state word delivered) reads as before, and every byte when the node keeps
no persistent state. Registers, agreement state, gate drive, faults, queues and sent messages are unchanged. That holds where lane SRAM
stores no error and no injection of one is armed. Whatever is stored and armed: when the read of the parameters or the state meets an
uncorrectable word, or the node keeps no state, nothing is stored, and beyond what that read does to the lane only the Percolator and the
counter of free values change. -/
def Obligations.NodeCompletionFrame : Prop :=
  ∀ (n : Lane) (c : Nat) (w : Work) (f : OpFn), (∀ p st a m, (f p st a m).reads = []) →
    let d := n.pcl.node w.bank w.node
    let r := f (n.mem.words (n.paramAddr d) (ndParamLen d)) (n.mem.words (n.stateAddr d false) (stateSize (ndOpcode d))) w.args n.mem
    let v := n.completeNode c w f; let m := n.nodeLoad c d
    (n.mem.sramErr = [] → n.fcl.armed ≠ 2 → n.fcl.armed ≠ 3 →
      v = { n with pcl := v.pcl, mem := { n.mem with sram := v.mem.sram } } ∧
      (∀ b, (ndPersist d = false ∨ b < n.stateAddr d true ∨ n.stateAddr d true + 4 * r.st.length ≤ b) → v.mem.byte b = n.mem.byte b)) ∧
    (m.2 = false ∨ ndPersist d = false → v = { m.1 with pcl := v.pcl, free := v.free })

/-- For a node of a running activation with one arc on output 0 and none on output 1, where that arc ends in an output index or is latched,
and an operator that reads no table: after the node completes, the release buffer is the buffer before with one entry more, which names the
node's flow, SEQ, bank and arc and carries the operator's output 0 with its VALID bit; nothing is released early or lost. That holds where
lane SRAM stores no error and no injection of one is armed. When the read of the parameters or the state meets an uncorrectable word and the
activation still runs after it, the entry carries a free value with VALID 0: the spec names no value for it, and that the node delivers one
is the model's choice (notes/assumptions/35.md). -/
def Obligations.NodeResultReachesItsSink : Prop :=
  ∀ (n : Lane) (c : Nat) (w : Work) (f : OpFn), (∀ p st a m, (f p st a m).reads = []) →
    let d := n.pcl.node w.bank w.node
    let r := f (n.mem.words (n.paramAddr d) (ndParamLen d)) (n.mem.words (n.stateAddr d false) (stateSize (ndOpcode d))) w.args n.mem
    let arc := n.pcl.arc w.bank (ndOutBase d 0)
    let m := n.nodeLoad c d
    ndOutCnt d 0 = 1 → ndOutCnt d 1 = 0 → arcLatched arc = true ∨ arcKind arc = 1 →
    (n.mem.sramErr = [] → n.fcl.armed ≠ 2 → n.fcl.armed ≠ 3 → n.actIs w.flow w.seq = true →
      (n.completeNode c w f).pcl.rels = n.pcl.rels ++ [⟨w.flow, w.seq, w.bank, ndOutBase d 0, r.o0.1, r.o0.2⟩]) ∧
    (m.2 = false → m.1.actIs w.flow w.seq = true → m.1.pcl.node w.bank w.node = d → m.1.pcl.arc w.bank (ndOutBase d 0) = arc →
      (n.completeNode c w f).pcl.rels = m.1.pcl.rels ++ [⟨w.flow, w.seq, w.bank, ndOutBase d 0, false, BitVec.ofInt 18 (Config.openValue m.1.free)⟩])

/-- For all valid S18 inputs a, b and c: PASS delivers a; ADD, SUB, NEG and ABS deliver the exact result held between the least and the
greatest S18 code, so that -(-2) and abs(-2) give the greatest; MIN and MAX deliver the smaller and the larger; MUL and MAC deliver the
multiple of 2^-16 nearest to the exact result, ties toward plus infinity, saturated; DIV by a divisor other than 0 does so with the exact
quotient, and by 0 its output is invalid; SQRT delivers the U18 code nearest to the square root. LIMIT with lo <= hi delivers a value within
lo and hi, and a itself when it lies there, with the flag then clear, and set otherwise. In each but the division by 0 the output is valid.
-/
def Obligations.ArithmeticSaturates : Prop :=
  ∀ (x y z : Val) (p st : List Word) (m : Memory),
    let a := s18 x; let b := s18 y; let c := s18 z
    let tok := fun v : Val => (⟨0, 0, true, v⟩ : Tok)
    let A := [tok x]; let B := [tok x, tok y]; let C := [tok x, tok y, tok z]
    let sat := clampInt (-131072) 131071
    let near := fun (v num den : Int) => 2 * den * v ≤ 2 * num + den ∧ 2 * num + den < 2 * den * (v + 1)
    (opPass p st A m).o0 = (true, x) ∧
    ((opAdd p st B m).o0.1 = true ∧ s18 (opAdd p st B m).o0.2 = sat (a + b)) ∧
    ((opSub p st B m).o0.1 = true ∧ s18 (opSub p st B m).o0.2 = sat (a - b)) ∧
    ((opNeg p st A m).o0.1 = true ∧ s18 (opNeg p st A m).o0.2 = sat (-a)) ∧
    ((opAbs p st A m).o0.1 = true ∧ s18 (opAbs p st A m).o0.2 = if a < 0 then sat (-a) else a) ∧
    ((opMin p st B m).o0.1 = true ∧ s18 (opMin p st B m).o0.2 = if a ≤ b then a else b) ∧
    ((opMax p st B m).o0.1 = true ∧ s18 (opMax p st B m).o0.2 = if a ≤ b then b else a) ∧
    ((opMul p st B m).o0.1 = true ∧ ∃ v, near v (a * b) 65536 ∧ s18 (opMul p st B m).o0.2 = sat v) ∧
    ((opMac p st C m).o0.1 = true ∧ ∃ v, near v (a * b + c * 65536) 65536 ∧ s18 (opMac p st C m).o0.2 = sat v) ∧
    (b ≠ 0 → (opDiv p st B m).o0.1 = true ∧ ∃ v, near v (if b < 0 then -(a * 65536) else a * 65536) (iabs b) ∧
      s18 (opDiv p st B m).o0.2 = sat v) ∧
    (b = 0 → (opDiv p st B m).o0.1 = false) ∧
    ((opSqrt p st A m).o0.1 = true ∧ let r := (opSqrt p st A m).o0.2.toNat
      (2 * r - 1) * (2 * r - 1) ≤ 4 * (x.toNat * 65536) ∧ 4 * (x.toNat * 65536) < (2 * r + 1) * (2 * r + 1)) ∧
    (pS p 0 ≤ pS p 1 → (opLimit p st A m).o0.1 = true ∧ pS p 0 ≤ s18 (opLimit p st A m).o0.2 ∧ s18 (opLimit p st A m).o0.2 ≤ pS p 1 ∧
      (pS p 0 ≤ a → a ≤ pS p 1 → (opLimit p st A m).o0 = (true, x) ∧ (opLimit p st A m).o1 = (true, 0)) ∧
      (a < pS p 0 ∨ pS p 1 < a → (opLimit p st A m).o1 = (true, 1)))

/-- For all parameters, state words and input tokens: with valid inputs COUNTER (from a count within its limit) and TIMER deliver at most
their limit and set their state to what they deliver, TIMER's second output being 1 just at the limit; RATELIM after its first activation
moves its output by at most rise upward and fall downward, and DEBOUNCE changes its level only to the level of its input bit. With any
invalid input COUNTER, TIMER, RATELIM, DEBOUNCE, EDGE, CMP, INTEG, LPF1, BIQUAD, DERIV, RANGECHK, XCHK, PLAUS, STUCK and STATEMACH keep
their state words and clear VALID on both outputs. -/
def Obligations.StatefulOperatorsKeepTheirBounds : Prop :=
  ∀ (p st : List Word) (a : List Tok) (m : Memory),
    (allOk a = true →
      ((opCounter p st a m).o0.1 = true ∧ ((stW st 0).toNat % 262144 ≤ pU p 0 →
        (opCounter p st a m).o0.2.toNat ≤ pU p 0 ∧ (opCounter p st a m).st = [mkW (opCounter p st a m).o0.2.toNat])) ∧
      ((opTimer p st a m).o0.2.toNat ≤ pU p 0 ∧ (opTimer p st a m).st = [mkW (opTimer p st a m).o0.2.toNat] ∧
        ((opTimer p st a m).o1 = (true, 1) ↔ (opTimer p st a m).o0.2.toNat = pU p 0)) ∧
      (startedBit ≤ (stW st 0).toNat →
        let out := signedOf 18 ((stW st 0).toNat % 262144); let o := s18 (opRatelim p st a m).o0.2
        out - pU p 1 ≤ o ∧ o ≤ out + pU p 0 ∧ (out ≤ argS a 0 → argS a 0 ≤ out + pU p 0 → o = argS a 0)) ∧
      ((opDebounce p st a m).o0 = (true, flagVal ((stW st 0).toNat.testBit 14)) ∨ (opDebounce p st a m).o0 = (true, flagVal (argBit a 0 0)))) ∧
    (allOk a = false → ∀ op ∈ [opCounter, opTimer, opRatelim, opDebounce, opEdge, opCmp, opInteg, opLpf1, opBiquad, opDeriv, opRangechk,
        opXchk, opPlaus, opStuck, opStatemach],
      (op p st a m).st = st ∧ (op p st a m).o0.1 = false ∧ (op p st a m).o1.1 = false)

/-- For every configuration, state, table contents, inputs and torque fraction, when the effective limits of the slot satisfy lo <= hi and
lie in S18: the passage's output lies within lo and hi, the integrator lies within lo and hi, the derivative acts on the feedback alone, so
that two passages that differ only in the reference leave the same derivative state, and in SNUFFED the integrator is 0 held within the
limits. -/
def Obligations.SlotOutputWithinLimits : Prop :=
  ∀ (r : Sparse Word) (m : Memory) (k tau : Nat) (snuffed : Bool) (st : SlotSt) (ref ref' fb ff x : Int),
    let hi := effLimit r k tau (cfgRdS r CEN.SLOT_OHI_VALUE k)
    let lo := effLimit r k tau (cfgRdS r CEN.SLOT_OLO_VALUE k)
    let v := slotStep r m k tau snuffed st ref fb ff x
    (-131072 : Int) ≤ lo → lo ≤ hi → hi ≤ 131071 →
    lo ≤ s18 v.out ∧ s18 v.out ≤ hi ∧ lo * 65536 ≤ v.integ ∧ v.integ ≤ hi * 65536 ∧
    (slotStep r m k tau snuffed st ref' fb ff x).dst = v.dst ∧
    (snuffed = true → v.integ = clampInt (lo * 65536) (hi * 65536) 0) ∧
    v.valid = true ∧ v.fbPrev = fb ∧ v.feCount = st.feCount

/-- For every configuration and state within A40 and a passage outside SNUFFED without a preset: the velocity ceiling is at least the
commanded ceiling and falls by at most AMAX; the velocity's magnitude is at most the ceiling when that is not negative; unless the generator
stops or arrives, its acceleration changes by at most JMAX; on arrival the position is the target and velocity and acceleration are 0. A
preset passage sets velocity and acceleration to 0 and the position to the preset when port 3 is wired and valid. -/
def Obligations.ProfileGeneratorKeepsItsLimits : Prop :=
  ∀ (r : Sparse Word) (g : Nat) (snuffed wired : Bool) (c : Nat) (st : GenSt) (target scale ctl preset : Out),
    let vlim : Int := cfgRd r PGN.VMAX_LIMIT g * imin (imin (if scale.1 then u18 scale.2 else 0) c) 65536 / 65536
    let v := genStep r g snuffed wired c st target scale ctl preset
    (snuffed = false → (ctl.1 && ctl.2.getLsbD 1) = false → -549755813888 ≤ st.acc → st.acc ≤ 549755813887 →
      vlim ≤ v.vcap ∧ st.vcap - cfgRd r PGN.AMAX_LIMIT g ≤ v.vcap ∧ (v.vcap = vlim ∨ v.vcap = st.vcap - cfgRd r PGN.AMAX_LIMIT g) ∧
      (0 ≤ v.vcap → iabs v.vel ≤ v.vcap) ∧
      (v.vel ≠ 0 → iabs (v.acc - st.acc) ≤ cfgRd r PGN.JMAX_LIMIT g) ∧
      (v.arrived = true → v.pos = s18 target.2 * 65536 ∧ v.vel = 0 ∧ v.acc = 0 ∧ v.stopping = false)) ∧
    (snuffed = true ∨ (ctl.1 && ctl.2.getLsbD 1) = true →
      v.vel = 0 ∧ v.acc = 0 ∧ v.vcap = vlim ∧ (wired = true → preset.1 = true → v.pos = s18 preset.2 * 65536))

/-- With the DRV domain ON. PWM_PERIOD_BOUNDARY of bridge 0 or 1 under a control cycle of at most 250 us (150,000 ticks), at a boundary tick
of the bridge: the boundary applies the command in force; under a longer cycle, or at another tick, nothing runs. START_TIMEOUT of a start
sequence in progress that has run TIMEOUT ms, while no entry 1 to 3 of R214 holds: the sequence ends, the bridge takes its disable action
with an applied duty of 0, the time-out is counted and source 0x40 + bridge raised; before TIMEOUT ms nothing happens. CURRENT_SAMPLE
samples bridge 0 or 1 at its t_s with the codes converted. DEFERRED_SECTOR_CHANGE at the tick kept with a deferred sector applies that
sector. FAST_CONVERSION and SLOW_CONVERSION take the codes converted. OFFSET_CALIBRATION_COMPLETE of channel 0 to 3 after 1,024 calibration
conversions: the sum and count are cleared and the channel marked as tried; when the rounded mean lies within CAL_LIMIT of 8,192 it becomes
the channel's OFFSET and CAL_DONE is set, otherwise source 0x42 + channel is raised; with another count nothing happens.
CHOPPER_DEFERRED_CHANGE at the tick kept with a deferred change makes it. OVERVOLTAGE_TIMER_EXPIRY once T_OV1 us (600 ticks each) have run
since the overvoltage timer started declares the chopper faulty; before, nothing happens. Where the spec leaves a point of this open, it is
the model's choice: notes/assumptions/37.md, 38.md, 76.md. -/
def Obligations.CommutationComplete : Prop :=
  (∀ s l t b, let n := (s.lane l).atTick t
    n.domOn 6 = true →
    (n.cycleLen ≤ 150000 → b < 2 → n.isBoundary b t = true → Completes (.pwmPeriodBoundary l t b) s l (n.boundary b)) ∧
    (150000 < n.cycleLen ∨ n.isBoundary b t = false → Completes (.pwmPeriodBoundary l t b) s l n)) ∧
  (∀ s l t b t0, let n := (s.lane l).atTick t
    n.domOn 6 = true → b < 2 → (n.bridge b).startAt = some t0 →
    (t0 + 600000 * n.rd CMU.START_CFG_TIMEOUT b ≤ n.clk.now → n.rd CMU.APPLIED_START b ≠ 0 → n.topEntry b = 0 →
      Completes (.startTimeout l t b) s l
        (((((((n.note b).setBridge b { n.bridge b with startAt := none, timedOut := true, pat := n.disablePat b }).wr CMU.APPLIED_START 0 b).wr
          CMU.APPLIED_DUTY 0 b).wrapInc CMU.START_COUNT_TIMEOUTS b).followStatus b).fault (0x40 + b))) ∧
    (n.clk.now < t0 + 600000 * n.rd CMU.START_CFG_TIMEOUT b → Completes (.startTimeout l t b) s l n)) ∧
  (∀ s l b cu cw cv, let n := (s.lane l).atTick ((s.lane l).bridge b).ts
    n.domOn 6 = true → b < 2 → Completes (.currentSample l b cu cw cv) s l (n.sample b cu cw cv)) ∧
  (∀ s l t b sec at_, let n := (s.lane l).atTick t
    n.domOn 6 = true → (n.bridge b).deferred = some (sec, at_) →
    (n.clk.now = at_ → Completes (.deferredSectorChange l t b) s l (n.applySector b sec)) ∧
    (n.clk.now ≠ at_ → Completes (.deferredSectorChange l t b) s l n)) ∧
  (∀ s l t conv code, let n := (s.lane l).atTick t
    n.domOn 6 = true →
    Completes (.fastConversion l t conv) s l (n.fastConv (fun x => decide (n.omega x = some 0)) conv) ∧
    Completes (.slowConversion l t code) s l (n.slowConv code)) ∧
  (∀ s l t ch, let n := (s.lane l).atTick t; let mean := (roundDiv (Sparse.get 0 n.afe.calSum ch : Nat) 1024).toNat
    let n1 : Lane := { n with afe := { n.afe with calN := Sparse.set 0 n.afe.calN ch 0, calSum := Sparse.set 0 n.afe.calSum ch 0
                                                  calTried := Sparse.set false n.afe.calTried ch true } }
    n.domOn 6 = true → ch < 4 →
    (Sparse.get 0 n.afe.calN ch = 1024 → iabs ((mean : Int) - 8192) ≤ n.rd AFE.CTRL_CAL_LIMIT →
      Completes (.offsetCalibrationComplete l t ch) s l
        ((n1.wr AFE.FAST_CAL_OFFSET mean ch).wr AFE.STATUS_CAL_DONE (n.rd AFE.STATUS_CAL_DONE ||| 2 ^ ch))) ∧
    (Sparse.get 0 n.afe.calN ch = 1024 → (n.rd AFE.CTRL_CAL_LIMIT : Int) < iabs ((mean : Int) - 8192) →
      Completes (.offsetCalibrationComplete l t ch) s l (n1.fault (0x42 + ch))) ∧
    (Sparse.get 0 n.afe.calN ch ≠ 1024 → Completes (.offsetCalibrationComplete l t ch) s l n)) ∧
  (∀ s l t on at_, let n := (s.lane l).atTick t
    n.domOn 6 = true → n.gdc.deferred = some (on, at_) →
    (n.clk.now = at_ → Completes (.chopperDeferredChange l t) s l (n.chopSet on)) ∧
    (n.clk.now ≠ at_ → Completes (.chopperDeferredChange l t) s l n)) ∧
  (∀ s l t t0, let n := (s.lane l).atTick t
    n.domOn 6 = true → n.gdc.ovSince = some t0 →
    (t0 + 600 * n.rd GDC.OV_TIME_T_OV1 ≤ n.clk.now → Completes (.overvoltageTimerExpiry l t) s l n.chopFault) ∧
    (n.clk.now < t0 + 600 * n.rd GDC.OV_TIME_T_OV1 → Completes (.overvoltageTimerExpiry l t) s l n))

/-- For every settling time, guard time and list of edges, when the search of R221 finds an interval, that interval lies within ticks 0 to
1,080 of the cycle, it is not empty, and every sample start t in it keeps clear of every edge e between -SETTLE and 1,200 + GUARD: t is at
most e - 120 - GUARD or at least e + SETTLE. When it finds none, there is no such start among 0 to 1,080; and no other admissible interval
of starts is longer than the one it chose. -/
def Obligations.SampleWindowAvoidsEdges : Prop :=
  ∀ (settle guard : Nat) (edges : List Int),
    let clear := fun (t : Int) => 0 ≤ t ∧ t ≤ 1080 ∧
      ∀ e ∈ edges, -(settle : Int) ≤ e → e ≤ 1200 + guard → t ≤ e - 120 - guard ∨ e + settle ≤ t
    (∀ iv, longest (admissible settle guard edges) = some iv →
      iv.1 ≤ iv.2 ∧ (∀ t, iv.1 ≤ t → t ≤ iv.2 → clear t) ∧
      (∀ x y : Int, x ≤ y → (∀ t, x ≤ t → t ≤ y → clear t) → y - x ≤ iv.2 - iv.1)) ∧
    (longest (admissible settle guard edges) = none → ∀ t, ¬ clear t)

/-- For every b below 2^32, the Gray code b XOR (b / 2) decodes to b. A count step up followed by one down (and down followed by up) gives
the count back, and a count within 0 to MODULUS - 1 (or, with MODULUS 0, below 2^32) stays there. For a duty below 16,384 and a minimum
pulse of at most the period p, the on-time is at most p, it is 0 or at least the minimum pulse, and the remainder of the period is 0 or at
least the minimum pulse. -/
def Obligations.CountsAndCodesAreExact : Prop :=
  (∀ b : Nat, b < 2 ^ 32 → grayToBin (b ^^^ b / 2) = b) ∧
  (∀ (m n : Nat) (up : Bool), n < (if m = 0 then 2 ^ 32 else m) →
    cntStep m n up < (if m = 0 then 2 ^ 32 else m) ∧ cntStep m (cntStep m n up) (!up) = n) ∧
  (∀ duty p m : Nat, duty < 16384 → m ≤ p →
    onTime duty p m ≤ p ∧ (onTime duty p m = 0 ∨ m ≤ onTime duty p m) ∧ (onTime duty p m = p ∨ m ≤ p - onTime duty p m))

/-- With the DRV domain ON. LINE_EDGE_ACCEPTED of the lines named takes their levels, inverted where LINE_CFG.INVERT says so (lineSample).
LINE_GLITCH_REJECTED of an established line adds one to its glitches; of another line it does nothing. GLITCH_WINDOW_END at the end of a
window (a multiple of 75,000 samples after the DRV domain left reset) judges the 18 lines in turn, and the validity of each position is
dated; at another tick nothing happens. CHATTER_CLEAR of a chattering line CLEAR_MS ms (600,000 ticks each) or more after its last event
ends its chatter; before, nothing happens. PFB_VECTOR_LATCH latches the vector at the tick that LATCH_CFG names. SSI_TRANSACTION_START of an
enabled port at its start tick: a transaction runs from now and remembers whether the line idled low; at another tick nothing starts.
SSI_FRAME_COMPLETE of a running transaction, after its last bit has been sampled, takes the frame; before, nothing happens.
SENT_FRAME_RECEIVED of an enabled receiver takes the frame; a disabled one takes none. PFB_ARM_WRITE, a permitted write to PFB.ARM whose
register's domain is ON, asks for the indices and probes of its low 4 bits at the next cycle start and is answered. Where the spec leaves a
point of this open, it is the model's choice: notes/assumptions/39.md, 77.md. -/
def Obligations.FeedbackComplete : Prop :=
  (∀ s l t lines levels, let n := (s.lane l).atTick t
    n.domOn 6 = true → Completes (.lineEdgeAccepted l t lines levels) s l (n.lineSample lines (n.inverted levels))) ∧
  (∀ s l t i, let n := (s.lane l).atTick t
    n.domOn 6 = true → i < 18 →
    ((n.line i).level.isSome = true →
      Completes (.lineGlitchRejected l t i) s l (n.setLine i { n.line i with glitches := (n.line i).glitches + 1 })) ∧
    ((n.line i).level = none → Completes (.lineGlitchRejected l t i) s l n)) ∧
  (∀ s l t, let n := (s.lane l).atTick t
    n.domOn 6 = true →
    (n.windowEnds = true → Completes (.glitchWindowEnd l t) s l (n.keepValid ((List.range 18).foldl Lane.glitchEnd n) fun _ => n.sampleNo)) ∧
    (n.windowEnds = false → Completes (.glitchWindowEnd l t) s l n)) ∧
  (∀ s l t i c, let n := (s.lane l).atTick t
    n.domOn 6 = true → (n.line i).chatter = some c →
    (c + 600000 * n.rd PFB.CHATTER_CFG_CLEAR_MS ≤ n.clk.now →
      Completes (.chatterClear l t i) s l (n.keepValid (n.chatterEnd i) fun _ => n.sampleNo)) ∧
    (n.clk.now < c + 600000 * n.rd PFB.CHATTER_CFG_CLEAR_MS → Completes (.chatterClear l t i) s l n)) ∧
  (∀ s l, let n := (s.lane l).atTick (s.lane l).latchTick
    n.domOn 6 = true → Completes (.pfbVectorLatch l) s l n.vectorLatch) ∧
  (∀ s l t p high, let n := (s.lane l).atTick t
    n.domOn 6 = true → p < 2 → n.groupOn (4 + p) = true →
    (n.ssiStarts p t = true → Completes (.ssiTransactionStart l t p high) s l
      { n with pfb := { n.pfb with ssi := Sparse.set {} n.pfb.ssi p { running := true, idleBad := !high, startAt := n.clk.now } } }) ∧
    (n.ssiStarts p t = false → Completes (.ssiTransactionStart l t p high) s l n)) ∧
  (∀ s l t p raw, let n := (s.lane l).atTick t
    n.domOn 6 = true → p < 2 → (Sparse.get {} n.pfb.ssi p).running = true →
    (n.ssiSampleAt p (n.ssiBits p) ≤ n.clk.now → Completes (.ssiFrameComplete l t p raw) s l (n.ssiFrame p raw)) ∧
    (n.clk.now < n.ssiSampleAt p (n.ssiBits p) → Completes (.ssiFrameComplete l t p raw) s l n)) ∧
  (∀ s l t p sync ivs, let n := (s.lane l).atTick t
    n.domOn 6 = true → p < 2 →
    (n.groupOn (6 + p) = true → Completes (.sentFrameReceived l t p sync ivs) s l (n.sentFrame p sync ivs)) ∧
    (n.groupOn (6 + p) = false → Completes (.sentFrameReceived l t p sync ivs) s l n)) ∧
  (∀ s l t ini v k r, let n := (s.lane l).atTick t
    n.regAccess ini (privAddr PFB.ARM_INDEX.key) true = .ok k r → n.domOn (blockDomain (k / 0x10000)) = true →
    Completes (.pfbArmWrite l t ini v) s l
      { n with pfb := { n.pfb with armReq := n.pfb.armReq ||| v.toNat % 16 }, bus := .done 0 })

/-- SHOOT_THROUGH_COMMAND on one of the six legs, with the DRV domain ON, by the lane die or the drive die, takes its effect.
DESATURATION_TRIP of a watched switch 0 to 12 with a drain voltage above 200 + 100 x DS_THR mV, BLANK after it came to be watched, is a trip
of kind 3; HARD_SHORT_TRIP above 4,500 mV and 60 ticks (100 ns) after is a trip of kind 4; an unwatched switch does not trip.
RETRY_WAIT_EXPIRY with the DRV domain ON, of a unit whose wait of RETRY_CFG.WAIT is over, marks it for resumption; a unit that does not wait
is left alone. VGD_FIRST_RISE notes the switches and releases the gates. VGD_UNDERVOLTAGE of a risen VGD outside a lockout locks out,
latching when three tries have been made, and, with the interface up and no shutdown notice, raises source 0x84 as a condition.
VGD_LOCKOUT_CLEAR of a lockout that has not latched, its wait over, ends it as a try and clears the condition. DRIVE_DIE_VBUS_COMPARATOR
requests or releases the chopper. ADAPTIVE_EDGE_MEASURED of driver 0 to 2, with the DRV domain ON, moves its step (adaptive).
DRIVE_DIE_UPDATE with the DRV domain ON: an update or heartbeat whose CRC verifies is noted with its tick, another is discarded and counted
with source 0x8B. SNUFF_COMMAND acts in SNUFFED, in a lane that is not healthy and with a halted pair, and not otherwise. SNUFF_RELEASE at a
period boundary, when a release is due, ends the Snuff action. AUTONOMOUS_SNUFF with the interface up and updates or heartbeats missing puts
the drive die into the Snuff action of itself, ends start sequences, and is noted as seen unless a notice stood. Where the spec leaves a
point of this open, it is the model's choice: notes/assumptions/42.md, 72.md, 76.md. -/
def Obligations.DriveDieComplete : Prop :=
  (∀ s l t leg byDie, let n := (s.lane l).atTick t
    n.domOn 6 = true → leg < 6 → Completes (.shootThroughCommand l t leg byDie) s l (n.shootThrough leg byDie)) ∧
  (∀ s l t sw mv, let n := (s.lane l).atTick t
    let ds := if sw < 12 then n.rd GDC.BR_CFG_DS_THR (sw / 6) else n.rd GDC.CH_CFG_DS_THR
    (sw < 13 → n.watched sw = true → 200 + 100 * ds < mv → n.watchedSince sw + n.blankTicks sw ≤ n.clk.now →
      Completes (.desaturationTrip l t ⟨sw, mv⟩) s l (n.trip 3 sw)) ∧
    (sw < 13 → n.watched sw = true → 4500 < mv → n.watchedSince sw + 60 ≤ n.clk.now → Completes (.hardShortTrip l t ⟨sw, mv⟩) s l (n.trip 4 sw)) ∧
    (n.watched sw = false → Completes (.desaturationTrip l t ⟨sw, mv⟩) s l n ∧ Completes (.hardShortTrip l t ⟨sw, mv⟩) s l n)) ∧
  (∀ s l t u, let n := (s.lane l).atTick t
    n.domOn 6 = true →
    (n.prot u = .waiting → n.waitOver (Sparse.get 0 n.drive.waitAt u) = true →
      Completes (.retryWaitExpiry l t u) s l { n with drive := { n.drive with resume := Sparse.set false n.drive.resume u true } }) ∧
    (n.prot u ≠ .waiting → Completes (.retryWaitExpiry l t u) s l n)) ∧
  (∀ s l t, let n := (s.lane l).atTick t; let m := n.noteAll
    Completes (.vgdFirstRise l t) s l { m with drive := { m.drive with vgdRisen := true } } ∧
    (let n1 : Lane := { m with drive := { m.drive with uvlo := true, uvAt := n.clk.now, uvLatch := n.drive.uvLatch || decide (3 ≤ (n.tries 3).length) } }
     n.drive.vgdRisen = true → n.drive.uvlo = false →
      (n.drive.notice = false → n.gdc.linkUp = true →
        Completes (.vgdUndervoltage l t) s l (((n1.tripInfo 5 0).setLevel 0x84 true).driveFault 0x84)) ∧
      (n.drive.notice = true ∨ n.gdc.linkUp = false → Completes (.vgdUndervoltage l t) s l n1)) ∧
    (n.drive.vgdRisen = false → Completes (.vgdUndervoltage l t) s l n) ∧
    (n.drive.uvlo = true → n.drive.uvLatch = false → n.waitOver n.drive.uvAt = true →
      Completes (.vgdLockoutClear l t) s l ((({ m with drive := { m.drive with uvlo := false } } : Lane).addTry 3).setLevel 0x84 false)) ∧
    (n.drive.uvlo = false ∨ n.drive.uvLatch = true → Completes (.vgdLockoutClear l t) s l n)) ∧
  (∀ s l t above, let m := ((s.lane l).atTick t).note 2
    Completes (.driveDieVbusComparator l t above) s l { m with drive := { m.drive with vbusReq := above } }) ∧
  (∀ s l t k on time, let n := (s.lane l).atTick t
    n.domOn 6 = true → k < 3 → Completes (.adaptiveEdgeMeasured l t k on time) s l (n.adaptive k on time)) ∧
  (∀ s l t, let n := (s.lane l).atTick t
    n.domOn 6 = true →
    Completes (.driveDieUpdate l t true true) s l { n with drive := { n.drive with lastBeat := n.clk.now } } ∧
    Completes (.driveDieUpdate l t false true) s l { n with drive := { n.drive with lastUpd := n.clk.now } } ∧
    ∀ hb, Completes (.driveDieUpdate l t hb false) s l ((n.bump GDC.DRV_ERR_DISCARDED).fault 0x8B)) ∧
  (∀ s l t, let n := (s.lane l).atTick t; let m := n.noteAll
    (n.xla.mode = .snuffed ∨ n.own.healthy = false ∨ n.bcn.halted = true → Completes (.snuffCommand l t) s l n.snuffDrive) ∧
    (n.xla.mode ≠ .snuffed → n.own.healthy = true → n.bcn.halted = false → Completes (.snuffCommand l t) s l n) ∧
    (n.releaseDue t = true →
      Completes (.snuffRelease l t) s l
        { m with drive := { m.drive with snuff := false, release := false }, gdc := { m.gdc with released := true } }) ∧
    (n.releaseDue t = false → Completes (.snuffRelease l t) s l n)) ∧
  (∀ s l t, let n := (s.lane l).atTick t; let m := (if n.drive.snuff then n else n.noteAll).endStarts
    n.drive.linkUp = true → n.drive.auto_ = false → n.updatesMissing = true →
      Completes (.autonomousSnuff l t) s l
        { m with drive := { m.drive with snuff := true, auto_ := true, autoSeen := !n.drive.notice, release := false
                                         snuffAt := if n.drive.snuff then n.drive.snuffAt else n.clk.now }
                 gdc := { m.gdc with released := false } })

/-- For every lane, tick and bridge switch sw below 12. Before VGD's first rise, under a lockout or its latch, with the unit latched off or
waiting after a trip, and for a leg in the rest of a shoot-through period, the output is low. Otherwise, in the Snuff action it is low until
the wait of the drive die has passed, and then on just for the switches of the short of its side, and for them once that wait has passed
since the leg's other switch turned off. Otherwise, under the overvoltage hold, it is on only for the switches of the short that the hold
took, and for them once the deadtime has passed. Otherwise it is on only within an on-time that the pattern of the bridge's period asks for,
and there once the deadtime has passed and no on-time of the leg's other switch holds the tick. The chopper output is low when its unit is
held off in one of these ways and under the overvoltage hold. Where the spec leaves a point of this open, it is the model's choice:
notes/assumptions/76.md. -/
def Obligations.GateOutputsFollowTheFirstEntry : Prop :=
  ∀ (l : Lane) (now sw : Nat), sw < 12 → now < endless →
    let b := sw / 6; let leg := sw % 6 / 2; let high := decide (sw % 2 = 0)
    let held := fun u => !l.drive.vgdRisen || l.drive.uvlo || l.drive.uvLatch || (l.prot u).latched || decide (l.prot u = .waiting)
    let off := held b || l.drive.legsOff.testBit (3 * b + leg)
    let asked := fun h => (l.patternOn b leg h).any fun e =>
      decide ((l.bridge b).from_ + e.1 ≤ now) && (decide (e.2 = endless) || decide (now < (l.bridge b).from_ + e.2))
    (off = true → l.gate now sw = false) ∧
    (off = false → l.drive.snuff = true → now < l.drive.snuffAt + l.snuffWait b → l.gate now sw = false) ∧
    (off = false → l.drive.snuff = true → l.drive.snuffAt + l.snuffWait b ≤ now → 
      l.gate now sw = (shortSwitch (l.snuffAct b) high && decide (l.deadUntil now sw ≤ now))) ∧
    (off = false → l.drive.snuff = false → l.drive.ovHold = true →
      l.gate now sw = (shortSwitch (1 + l.drive.ovSide / 2 ^ b % 2) high && decide (l.deadUntil now sw ≤ now))) ∧
    (off = false → l.drive.snuff = false → l.drive.ovHold = false →
      l.gate now sw = (asked high && !asked (!high) && decide (l.deadUntil now sw ≤ now))) ∧
    (held 2 = true ∨ l.drive.ovHold = true → l.gate now 12 = false)

/-- With the DRV domain ON. SAFETY_INPUT_SAMPLE, at tick 600 (1.0 us): each of the 8 safety inputs takes the levels at its two contacts.
SAFE_OUTPUT_TEST_PULSE of output 0 or 1, on and not in a test, with TEST_INT not 0 and TEST_INT x 100 ms (60,000,000 ticks each) run since
the last: a pulse starts now; for an output that is off nothing happens. SAFE_OUTPUT_TEST_PULSE_END of a pulse that has run PULSE x 10 us
(6,000 ticks each): the pulse ends, and a readback that is not below the threshold makes the output stuck on; before that the pulse goes on.
SAFE_OUTPUT_CURRENT_LIMIT of an output that is on makes it overloaded; of one that is off it does nothing. COMMISSIONING_SESSION_LOST of a
session whose last keep-alive lies 250 ms (150,000,000 ticks) or more back closes the session and raises source 0x9F; before, or with no
session, it does nothing. Where the spec leaves a point of this open, it is the model's choice: notes/assumptions/44.md. -/
def Obligations.SafetyCommandsComplete : Prop :=
  (∀ s l la lb, let n := (s.lane l).atTick 600
    n.domOn 6 = true → Completes (.safetyInputSample l la lb) s l
      ((List.range 8).foldl (fun m k => m.sampleInput k (la.getD k .low) (lb.getD k .low)) n)) ∧
  (∀ s l t o, let n := (s.lane l).atTick t
    n.domOn 6 = true → o < 2 →
    ((n.safeOut o).on = true → (n.safeOut o).pulse = false → n.rd SFU.SO_CFG_TEST_INT o ≠ 0 →
      (n.safeOut o).testAt + n.rd SFU.SO_CFG_TEST_INT o * 60000000 ≤ n.clk.now →
      Completes (.safeOutputTestPulse l t o) s l (n.setSafeOut o { n.safeOut o with pulse := true, testAt := n.clk.now })) ∧
    ((n.safeOut o).on = false → Completes (.safeOutputTestPulse l t o) s l n)) ∧
  (∀ s l t o, let n := (s.lane l).atTick t
    n.domOn 6 = true → (n.safeOut o).pulse = true →
    ((n.safeOut o).testAt + 6000 * n.rd SFU.SO_CFG_PULSE o ≤ n.clk.now →
      Completes (.safeOutputTestPulseEnd l t o true) s l (n.setSafeOut o { n.safeOut o with pulse := false }) ∧
      Completes (.safeOutputTestPulseEnd l t o false) s l ((n.setSafeOut o { n.safeOut o with pulse := false }).soStuck o)) ∧
    (∀ below, n.clk.now < (n.safeOut o).testAt + 6000 * n.rd SFU.SO_CFG_PULSE o →
      Completes (.safeOutputTestPulseEnd l t o below) s l n)) ∧
  (∀ s l t o, let n := (s.lane l).atTick t
    n.domOn 6 = true →
    ((n.safeOut o).on = true → Completes (.safeOutputCurrentLimit l t o) s l (n.soOverload o)) ∧
    ((n.safeOut o).on = false → Completes (.safeOutputCurrentLimit l t o) s l n)) ∧
  (∀ s l t, let n := (s.lane l).atTick t
    n.domOn 6 = true →
    (n.sfu.session = true → n.sfu.lastAlive + 150000000 ≤ n.clk.now →
      Completes (.commissioningSessionLost l t) s l (n.closeSession.fault 0x9F)) ∧
    (n.sfu.session = false ∨ n.clk.now < n.sfu.lastAlive + 150000000 → Completes (.commissioningSessionLost l t) s l n))

/-- FAULT_EVENT: an event of a source is raised with its INFO word (fault); as a condition that appears it also sets the source's level, and
the end of a condition only clears it. Before, source 0x23 writes the Hopper's slot number, a free syndrome and UE into HOP.ERR_INFO, and
source 0x25 is counted in HOP.ECC_COUNT. FAULT_RECOVERY: a source that may recover (active, not sticky, level clear, quiet for QUIET ms, and
not the one that fenced the lane) leaves the fault state with its demand, its fence being marked to lift; at its K-th recovery within W
seconds (K not 0) it becomes sticky instead, and so does the log entry of an open episode that it opened; a source that may not recover
stays. A permitted write of FCL.INJECT in MAKER (INJECT_SOURCE_EVENT, INJECT_SIGNATURE_FLIP, INJECT_SRAM_SINGLE_BIT, INJECT_SRAM_DOUBLE_BIT,
INJECT_TABLE_DOUBLE_BIT), the register's domain being ON, raises an injected event of the named source, arms the flip of a signature bit, or
arms an error of the next lane SRAM or table write; in every other lifecycle state it raises 0x07. In both cases the write is answered.
Where the spec leaves a point of this open, it is the model's choice: notes/assumptions/45.md. -/
def Obligations.FaultCommandsComplete : Prop :=
  (∀ s l t src info, let n := (s.lane l).atTick t
    let m := if src = 0x23 then
        (((n.drew.wr HOP.ERR_INFO_SLOT info.toNat).wr HOP.ERR_INFO_SYNDROME (Config.syndrome n.free).toNat).flag HOP.ERR_INFO_UE true)
      else if src = 0x25 then n.bump HOP.ECC_COUNT_COUNT else n
    Completes (.faultEvent l t src info none) s l (m.fault src info) ∧
    Completes (.faultEvent l t src info (some true)) s l ((m.setLevel src true).fault src info) ∧
    Completes (.faultEvent l t src info (some false)) s l (m.setLevel src false)) ∧
  (∀ s l t src, let n := (s.lane l).atTick t; let k := n.rd FCL.SRC_REC_K src
    let recent := within n.clk.cycles (n.msCycles (1000 * n.rd FCL.SRC_REC_W src)) (n.src src).recov
    (n.mayRecover src = false → Completes (.faultRecovery l t src) s l n) ∧
    (n.mayRecover src = true → (k = 0 ∨ recent.length + 1 < k) → Completes (.faultRecovery l t src) s l
      (n.setSrc src { n.src src with active := false, demand := 0, lift := (n.src src).fence, recov := n.clk.cycles :: recent })) ∧
    (n.mayRecover src = true → k ≠ 0 → k ≤ recent.length + 1 →
      let m := n.setSrc src { n.src src with sticky := true }
      Completes (.faultRecovery l t src) s l
        (if n.on FCL.EPISODE_OPEN = true ∧ n.rd FCL.EPISODE_SOURCE = src then m.flag FCL.LOG0_STICKY true (n.rd FCL.EPISODE_ENTRY) else m))) ∧
  (∀ s l t ini src k r, let n := (s.lane l).atTick t
    n.regAccess ini (privAddr FCL.INJECT_GO.key) true = .ok k r → n.domOn (blockDomain (k / 0x10000)) = true → n.otp.lifecycle = 1 → src < 256 →
    Completes (.injectSourceEvent l t ini src) s l ((n.fault src 0 true).busDone 0) ∧
    Completes (.injectSignatureFlip l t ini) s l (({ n with bcn := { n.bcn with flip := true } } : Lane).busDone 0) ∧
    Completes (.injectSramSingleBit l t ini) s l (({ n with fcl := { n.fcl with armed := 2 } } : Lane).busDone 0) ∧
    Completes (.injectSramDoubleBit l t ini) s l (({ n with fcl := { n.fcl with armed := 3 } } : Lane).busDone 0) ∧
    Completes (.injectTableDoubleBit l t ini) s l (({ n with fcl := { n.fcl with armed := 4 } } : Lane).busDone 0)) ∧
  (∀ s l t ini src k r, let n := (s.lane l).atTick t; let v := ((n.fault 0x07 (accessInfo (privAddr FCL.INJECT_GO.key) ini)).busDone 0)
    n.regAccess ini (privAddr FCL.INJECT_GO.key) true = .ok k r → n.domOn (blockDomain (k / 0x10000)) = true → n.otp.lifecycle ≠ 1 →
    Completes (.injectSourceEvent l t ini src) s l v ∧ Completes (.injectSignatureFlip l t ini) s l v ∧
    Completes (.injectSramSingleBit l t ini) s l v ∧ Completes (.injectSramDoubleBit l t ini) s l v ∧
    Completes (.injectTableDoubleBit l t ini) s l v)

/-- For every lane that is not FENCED already, every cause below 16 and either way of leaving: the lane's own state becomes FENCED, its own
bit of the voting set clears and no other bit changes, its drive die is in the Snuff action and no longer released, XLA.FENCE_STATUS shows
the cause and one fence more (saturating at 255), XLA.FENCE_CCN shows the cycle, the FENCE message with the cause is sent exactly when the
lane announces it (no such message having been sent before), its memories are unchanged, and with two earlier counted fences within ten
minutes a counted fence (causes 1 to 9) holds the lane. -/
def Obligations.LeavingTheVotingSet : Prop :=
  ∀ (l : Lane) (cause : Nat) (announce : Bool), cause < 16 → l.own ≠ .fenced → (∀ h, Emit.control h (.fence cause) ∉ l.out) →
    let v := l.leaveVset cause announce
    v.own = .fenced ∧ v.xla.vset.get l.id = false ∧ (∀ x, x ≠ l.id → v.xla.vset.get x = l.xla.vset.get x) ∧
    v.drive.snuff = true ∧ v.drive.release = false ∧ v.gdc.released = false ∧
    v.rd XLA.FENCE_STATUS_LAST_CAUSE = cause ∧ v.rd XLA.FENCE_STATUS_TOTAL = min (l.rd XLA.FENCE_STATUS_TOTAL + 1) 255 ∧
    v.rd XLA.FENCE_CCN_CCN = l.ccn.toNat ∧ ((∃ h, Emit.control h (.fence cause) ∈ v.out) ↔ announce = true) ∧ v.mem = l.mem ∧
    (1 ≤ cause → cause ≤ 9 → 2 ≤ (within l.clk.now tenMinutes l.xla.fences).length → v.heldFenced = true)

/-- For every lane, every listed source and INFO word, when the event's severity is NOTE: the episode registers, the count of merged events,
the fault log and the rank, times and marks of the open episode stay as they were, for the source itself too; the source's own count rises
(saturating), and it keeps the INFO word and enters no fault state. Where no trace trigger waits for the source, nothing else changes but
the FCL's count of all events: no other register, unit, memory, agreement state or gate drive, and nothing is sent. -/
def Obligations.NoteEventsOnlyCount : Prop :=
  ∀ (l : Lane) (n : Nat) (info : Word) (inj : Bool),
    (srcInfo n).isSome = true →
    let hist := (l.clk.cycles :: within l.clk.cycles (l.msCycles (l.rd FCL.SRC_CFG_ESC_T n)) (l.src n).hist).take 15
    (l.severityOf n info hist).1 = .note →
    let v := l.fault n info inj
    v.word FCL.EPISODE_OPEN.key = l.word FCL.EPISODE_OPEN.key ∧ v.word FCL.EPISODE_CCN_CCN.key = l.word FCL.EPISODE_CCN_CCN.key ∧
    v.word FCL.MERGE_COUNT_COUNT.key = l.word FCL.MERGE_COUNT_COUNT.key ∧ v.rd FCL.STATUS_LOG_NEXT = l.rd FCL.STATUS_LOG_NEXT ∧
    (∀ e, v.word (FCL.LOG0_VALID.at_ e 0) = l.word (FCL.LOG0_VALID.at_ e 0)) ∧
    v.fcl.rank = l.fcl.rank ∧ v.fcl.openedAt = l.fcl.openedAt ∧ v.fcl.reactAt = l.fcl.reactAt ∧ v.fcl.epFenced = l.fcl.epFenced ∧
    (v.src n).mergedEp = (l.src n).mergedEp ∧ (v.src n).reacted = (l.src n).reacted ∧
    (v.src n).active = (l.src n).active ∧ (v.src n).fence = (l.src n).fence ∧ (v.src n).demand = (l.src n).demand ∧
    (v.src n).events = satN 16 ((l.src n).events + 1) ∧ (v.src n).info = info ∧ (∀ k, k ≠ n → v.src k = l.src k) ∧
    (l.rd DBG.TRACE_CFG_TRIG ≠ 2 →
      v = { l with regs := v.regs, fcl := { l.fcl with src := v.fcl.src } } ∧ ∀ k, k ≠ FCL.EVENT_COUNT_COUNT.key → v.word k = l.word k)

/-- With the HSI domain ON, q below 8. SQ_TAIL and CQ_HEAD: a value inside the ring written by the queue's function is taken. RESUME and
CANCEL with the token of a halted transfer: RESUME restarts it, CANCEL completes it with status 2. DESCRIPTOR_FETCH of a queue that may
fetch: the entry is read from its slot and the head moves on; after an update the command completes with status 0x0B; else a malformed
command completes with status 3, is counted and raises 0xAE; one not permitted on the queue completes with status 4; an In command waits for
its payload; another is authenticated with its CMAC tag. Where the queue may not fetch nothing happens. PAYLOAD_BURST of the queue that
wins: a sound, translated In burst reads up to the next 256-byte boundary or the end and moves the count on, and the last has the command
authenticated over its payload; one whose translation faults, or that the host refuses (kind 6), halts the queue. COMPLETION_POST of a due
completion with room, function running and PCIe not fenced writes it in its slot, moves the tail on, turning the phase where it wraps, and
interrupts where asked; without room it waits. COMPLETION_WAIT_TIMEOUT of one that has waited 1 ms (600,000 ticks) for room raises 0xAF
once. QP_ENABLE_WRITE, permitted, outside a host access, sets up, starts or stops the queue. PCIE_LINK_DOWN of a link that is up stops both
functions and raises condition 0xB0; PCIE_LINK_UP at speed 1 to 3 shows the link and its speed and clears it, and at another does nothing.
FUNCTION_LEVEL_RESET of function 0 or 1 stops it, disables its queues, clears its bus mastering and D3hot, and ends function 0's session.
PCIE_POWER_STATE_CHANGE takes both bits and stops the function in D3hot or without bus mastering. With the domain not ON the fetch, the
burst, the post, the two link events and the doorbells do nothing. Where the spec leaves a point of this open, it is the model's choice:
notes/assumptions/49.md, 78.md. -/
def Obligations.QueueCommandsComplete : Prop :=
  (∀ s l t fn q v, let n := (s.lane l).atTick t
    n.domOn 5 = true → q < 8 → n.queueFn q = fn →
    (v < n.sqSize q → Completes (.sqTail l t fn q v) s l (n.wr QDM.SQ_PTR_TAIL v q)) ∧
    (v < n.cqSize q → Completes (.cqHead l t fn q v) s l (n.wr QDM.CQ_PTR_HEAD v q))) ∧
  (∀ s l t fn q token c, let n := (s.lane l).atTick t; let m := n.setWord (QDM.QP_STATUS_TOKEN.at_ q 0) 0
    n.domOn 5 = true → q < 8 → n.queueFn q = fn → (n.qp q).cmd = some c → c.halted = true → n.word (QDM.QP_STATUS_TOKEN.at_ q 0) = token → token ≠ 0 →
    Completes (.resume l t fn q token) s l (m.setQp q { m.qp q with cmd := some { c with halted := false } }) ∧
    Completes (.cancel l t fn q token) s l ((m.setQp q { m.qp q with cmd := some { c with halted := false } }).completeCmd q 2)) ∧
  (∀ s l t q ws tag r, let n := (s.lane l).atTick t; let head := n.rd QDM.SQ_PTR_HEAD q; let d := Desc.ofWords ws
    let c : Cmd := { desc := d, slot := head, raw := ws, tag := tag }
    let n1 := ((n.emit (.hostRead (n.sqSlot q head) 64)).wr QDM.SQ_PTR_HEAD ((head + 1) % n.sqSize q) q).setQp q { n.qp q with cmd := some c }
    n.domOn 5 = true →
    (n.mayFetch q = false → Completes (.descriptorFetch l t q ws tag) s l n) ∧
    (n.mayFetch q = true → n.hif.updated = true → Completes (.descriptorFetch l t q ws tag) s l (n1.completeCmd q 0x0B n.own.code)) ∧
    (n.mayFetch q = true → n.hif.updated = false →
    (descOk d = false → Completes (.descriptorFetch l t q ws tag) s l (((n1.completeCmd q 3).bump HIF.CMD_ERR_FORMAT).fault 0xAE)) ∧
    (descOk d = true → n.permitted d.opcode q = false → Completes (.descriptorFetch l t q ws tag) s l (n1.completeCmd q 4)) ∧
    (descOk d = true → n.permitted d.opcode q = true → opRow d.opcode = some r → r.pay = .input →
      Completes (.descriptorFetch l t q ws tag) s l (n1.setQp q { n1.qp q with cmd := some { c with stage := .input } })) ∧
    (descOk d = true → n.permitted d.opcode q = true → opRow d.opcode = some r → r.pay ≠ .input →
      Completes (.descriptorFetch l t q ws tag) s l (n1.authenticate q c (n1.tagHolds q c []) 0)))) ∧
  (∀ s l t q data hash pay c, let n := (s.lane l).atTick t; let w := c.desc.addr.toNat + c.bytes; let m := n.issueBurst q w
    let size := min (256 - w % 256) (c.desc.length - c.bytes); let c1 := { c with bytes := c.bytes + size }
    let n3 := (m.cached w).emit (.hostRead (BitVec.ofNat 64 (m.translate q w false).2) size); let c2 := { c1 with pay := pay }
    n.domOn 5 = true → q < 8 → n.winsBurst q = true → (n.qp q).cmd = some c → c.stage = .input → (m.translate q w false).1 = 0 →
    (c.bytes + size < c.desc.length →
      Completes (.payloadBurst l t q true data hash pay) s l (n3.setQp q { n3.qp q with cmd := some c1 })) ∧
    (c.desc.length ≤ c.bytes + size → Completes (.payloadBurst l t q true data hash pay) s l
      ((n3.setQp q { n3.qp q with cmd := some c2 }).authenticate q c2 (n3.tagHolds q c2 data) hash))) ∧
  (∀ s l t q hostOk data hash pay c, let n := (s.lane l).atTick t; let w := c.desc.addr.toNat + c.bytes; let out := decide (c.stage = .output)
    let m := n.issueBurst q w
    n.domOn 5 = true → q < 8 → n.winsBurst q = true → (n.qp q).cmd = some c →
    ((m.translate q w out).1 ≠ 0 →
      Completes (.payloadBurst l t q hostOk data hash pay) s l (m.burstFault q w (m.translate q w out).1 out c)) ∧
    ((m.translate q w out).1 = 0 → Completes (.payloadBurst l t q false data hash pay) s l ((m.cached w).burstFault q w 6 out c))) ∧
  (∀ s l t q c cs, let n := (s.lane l).atTick t; let tail := (n.rd QDM.CQ_PTR_TAIL q + 1) % n.cqSize q
    let n2 := (n.emit (.completion q (n.cqSlot q (n.rd QDM.CQ_PTR_TAIL q)) (c.words (n.on QDM.CQ_PTR_PHASE q) n.id n.xla.authCode n.ccn))).wr QDM.CQ_PTR_TAIL tail q
    let n3 := if tail = 0 then n2.flag QDM.CQ_PTR_PHASE (!n.on QDM.CQ_PTR_PHASE q) q else n2
    let n4 := n3.setQp q { n.qp q with waiting := cs, raised := false }
    n.domOn 5 = true → q < 8 → (n.qp q).waiting = c :: cs →
    (n.cqRoom q = true → n.postable c = true → n.fnRuns (n.queueFn q) = true → n.fenced (.port .pcie) = false →
      (c.irq = true ∨ c.status = 1 → Completes (.completionPost l t q) s l ((n4.msix (n.queueFn q) q).stopQueue q)) ∧
      (c.irq = false → c.status ≠ 1 → Completes (.completionPost l t q) s l (n4.stopQueue q))) ∧
    (n.cqRoom q = false → Completes (.completionPost l t q) s l n)) ∧
  (∀ s l t q c cs, let n := (s.lane l).atTick t
    n.domOn 5 = true → (n.qp q).waiting = c :: cs → (n.qp q).raised = false → n.cqRoom q = false → c.since + 600000 ≤ n.clk.now →
    Completes (.completionWaitTimeout l t q) s l ((n.setQp q { n.qp q with raised := true }).fault 0xAF)) ∧
  (∀ s l t ini q v k r, let n := (s.lane l).atTick t; let addr := privAddr (QDM.QP_CFG_ENABLE.at_ q 0)
    ini ≠ 0xB → n.regAccess ini addr true = .ok k r → n.domOn (blockDomain (k / 0x10000)) = true →
    Completes (.qpEnableWrite l t ini q v) s l ((n.qpCfgWrite q v).busDone 0)) ∧
  (∀ s l t, let n := (s.lane l).atTick t
    n.domOn 5 = true →
    (n.on HIF.STATUS_LINK_UP = true → Completes (.pcieLinkDown l t) s l (n.linkLost.faultLevel 0xB0)) ∧
    (∀ speed, 1 ≤ speed → speed ≤ 3 →
      Completes (.pcieLinkUp l t speed) s l (((n.flag HIF.STATUS_LINK_UP true).wr HIF.STATUS_SPEED speed).setLevel 0xB0 false)) ∧
    (∀ speed, speed = 0 ∨ 4 ≤ speed → Completes (.pcieLinkUp l t speed) s l n) ∧
    (∀ fn, fn < 2 → let bme := if fn = 0 then HIF.STATUS_BME_P else HIF.STATUS_BME_U
      let noD3 := if n.hif.d3.testBit fn then n.hif.d3 - 2 ^ fn else n.hif.d3
      let n1 := (List.range 8).foldl (fun (m : Lane) q => if m.queueFn q = fn then m.flag QDM.QP_CFG_ENABLE false q else m) (n.stopFn fn)
      let n2 := (n1.flag bme false).onHif fun h => { h with d3 := if h.d3.testBit fn then h.d3 - 2 ^ fn else h.d3 }
      Completes (.functionLevelReset l t fn) s l (if fn = 0 then n2.endSession 0 else n2) ∧
      ∀ d3hot on, let p := (n.flag bme on).onHif fun h => { h with d3 := noD3 + if d3hot then 2 ^ fn else 0 }
        (d3hot = true ∨ on = false → Completes (.pciePowerStateChange l t fn d3hot on) s l (p.stopFn fn)) ∧
        (d3hot = false → on = true → Completes (.pciePowerStateChange l t fn d3hot on) s l p))) ∧
  (∀ s l t, let n := (s.lane l).atTick t
    n.domOn 5 = false →
    (∀ fn q v token, Completes (.sqTail l t fn q v) s l n ∧ Completes (.cqHead l t fn q v) s l n ∧
      Completes (.resume l t fn q token) s l n ∧ Completes (.cancel l t fn q token) s l n) ∧
    (∀ q ws tag, Completes (.descriptorFetch l t q ws tag) s l n) ∧
    (∀ q ok data hash pay, Completes (.payloadBurst l t q ok data hash pay) s l n) ∧
    (∀ q, Completes (.completionPost l t q) s l n) ∧
    Completes (.pcieLinkDown l t) s l n ∧ ∀ speed, Completes (.pcieLinkUp l t speed) s l n)

/-- For a queue whose command is authenticated (ready), not halted and of the opcode in hand. NOP and FENCE complete with SUCCESS. UNMAP
clears the pages named by its arguments and completes with SUCCESS. MAP of the entries of its payload: it completes with SUCCESS and their
number where all of them are mapped, and with REFUSED, the number mapped and reason 1 where the table pool is exhausted. RESULT_READ takes
the last majority values of its 1 to 64 agreed outputs from ARG0 on, 0 for an index that is no output of class 7; STATS_READ takes the
boundary's CCN, its number and the statistics words of its selection; RECORDER_READ, with the STO domain ON, takes the words of the records
from ARG0 on, at most ARG1 of them, where the NAND is mounted, and completes with status 0x0C, reason 2, where it is not. The words taken,
cut to the words LENGTH holds, are written to host memory before the command completes; with no word to write it completes at once
(RECORDER_READ with the number of records as its result). Where the queue has no command in hand none of the seven does anything. Where the
spec leaves a point of this open, it is the model's choice: notes/assumptions/47.md, 49.md. -/
def Obligations.LocalCommandsComplete : Prop :=
  (∀ s l t q c, let n := (s.lane l).atTick t
    let writes := fun (ws : List Nat) (r0 : Nat) => let data := ws.take (c.desc.length / 4)
      if data.isEmpty then n.completeCmd q 0 r0 else n.setQp q { n.qp q with cmd := some { c with stage := .output, data := data, r0 := r0 } }
    (n.qp q).cmd = some c → c.stage = .ready → c.halted = false →
    (c.desc.opcode = 0x00 → Completes (.nop l t q) s l (n.completeCmd q 0)) ∧
    (c.desc.opcode = 0x0A → Completes (.fence l t q) s l (n.completeCmd q 0)) ∧
    (c.desc.opcode = 0x09 → Completes (.unmap l t q) s l
      ((n.unmapRun (min (c.desc.args.getD 1 0).toNat 524288) ((c.desc.args.getD 0 0).toNat / 4096)).completeCmd q 0)) ∧
    (∀ es n1 k, c.desc.opcode = 0x08 → c.pay = .mapPages es →
      (n.mapAll es = (n1, k, true) → Completes (.map l t q) s l (n1.completeCmd q 0 k)) ∧
      (n.mapAll es = (n1, k, false) → Completes (.map l t q) s l (n1.completeCmd q 8 k 1))) ∧
    (c.desc.opcode = 0x02 → Completes (.resultRead l t q) s l (writes ((List.range (min (c.desc.args.getD 1 0).toNat 64)).map fun i =>
      let j := (c.desc.args.getD 0 0).toNat + i
      if j < n.rd XLA.VEC_CFG_OUT_COUNT ∧ n.rd XLA.OUT_CFG_CLASS j = 7 then (Sparse.get 0 n.xla.majority j).toNat else 0) 0)) ∧
    (c.desc.opcode = 0x03 → Completes (.statsRead l t q) s l (writes
      ([(n.word STA.BOUNDARY_CCN_VALUE.key).toNat, n.rd STA.STATUS_SEQ] ++ n.statWords (c.desc.args.getD 0 0).toNat) 0)) ∧
    (∀ lost, c.desc.opcode = 0x04 → n.domOn 4 = true →
      let rs := n.readRecords (c.desc.args.getD 0 0).toNat (c.desc.args.getD 1 0).toNat lost
      (n.on STM.STATUS_NAND_MOUNTED = false → Completes (.recorderRead l t q lost) s l (n.completeCmd q 0x0C 2)) ∧
      (n.on STM.STATUS_NAND_MOUNTED = true → Completes (.recorderRead l t q lost) s l
        (writes (rs.flatMap fun r => r.words (LaneId.code l)) rs.length)))) ∧
  (∀ s l t q lost, let n := (s.lane l).atTick t
    (n.qp q).cmd = none → Completes (.nop l t q) s l n ∧ Completes (.fence l t q) s l n ∧ Completes (.unmap l t q) s l n ∧
    Completes (.map l t q) s l n ∧ Completes (.resultRead l t q) s l n ∧ Completes (.statsRead l t q) s l n ∧
    Completes (.recorderRead l t q lost) s l n)

/-- For a lane that is to carry an image out: at a cycle start (tick 0) it is healthy and in its voting set, the STATUS messages of the
cycle before the last show the image agreed, the lane knows it and has not taken it. Outside a key-off test the row of the image's opcode
takes the image and has the command's own effect: STAGE_OPEN (0x10), STAGE_WRITE (0x11, with the lane's own payload), STAGE_CHECK (0x12),
COMMIT (0x13), STAGE_ABORT (0x14), SAFE_STOP (0x21), SAFE_TORQUE_OFF (0x22), AUTH_MOVE (0x23), LANE_UPDATE (0x24), COMM_OPEN (0x28),
COMM_KEEPALIVE (0x29), COMM_CLOSE (0x2A), CONFIRM_CHECK (0x2B), IMAGE_WRITE (0x30), KEY_ENROL (0x31), LIFECYCLE_ADVANCE (0x32), DRIVE_ENABLE
(0x20, ARG0 0), DRIVE_REENABLE (0x20, ARG0 1), TEST_REQUEST_IN_SERVICE (0x38, ARG0 1) and TEST_REQUEST_REHEARSE (0x38, ARG0 2). During a
key-off test each of them completes the image with REFUSED, reason 0x0D, and has no other effect, but that the two test requests raise
source 0xE9 and the two drive enables leave a recorder record. For a lane that is not to carry the image out, none of the twenty does
anything. Where the spec leaves a point of this open, it is the model's choice: notes/assumptions/46.md, 47.md. -/
def Obligations.AgreedCommandsComplete : Prop :=
  (∀ s l t img p w o, let n := (s.lane l).atTick t
    n.agreedNow img = true → (n.take img).keyoffBusy = false →
    (img.opcode = 0x10 → Completes (.stageOpen l t img) s l ((n.take img).stageOpen img)) ∧
    (img.opcode = 0x11 → Completes (.stageWrite l t img) s l ((n.take img).stageWrite img ((n.take img).ownPayload img))) ∧
    (img.opcode = 0x12 → Completes (.stageCheck l t img) s l ((n.take img).stageCheck img)) ∧
    (img.opcode = 0x13 → Completes (.commit l t img) s l ((n.take img).commitAgreed img)) ∧
    (img.opcode = 0x14 → Completes (.stageAbort l t img) s l ((n.take img).stageAbort img)) ∧
    (img.opcode = 0x21 → Completes (.safeStop l t img) s l ((n.take img).hostStop img false)) ∧
    (img.opcode = 0x22 → Completes (.safeTorqueOff l t img) s l ((n.take img).hostStop img true)) ∧
    (img.opcode = 0x23 → Completes (.authMove l t img) s l ((n.take img).authMove img)) ∧
    (img.opcode = 0x24 → Completes (.laneUpdate l t img p) s l ((n.take img).laneUpdate img p)) ∧
    (img.opcode = 0x28 → Completes (.commOpen l t img) s l ((n.take img).commOpen img)) ∧
    (img.opcode = 0x29 → Completes (.commKeepalive l t img) s l ((n.take img).commKeep img)) ∧
    (img.opcode = 0x2A → Completes (.commClose l t img) s l ((n.take img).commClose img)) ∧
    (img.opcode = 0x2B → Completes (.confirmCheck l t img) s l ((n.take img).confirmCheck img)) ∧
    (img.opcode = 0x30 → Completes (.imageWrite l t img) s l ((n.take img).imageWrite img ((n.take img).ownPayload img))) ∧
    (img.opcode = 0x31 → Completes (.keyEnrol l t img p o) s l ((n.take img).keyEnrol img ((n.take img).ownPayload img) p o)) ∧
    (img.opcode = 0x32 → Completes (.lifecycleAdvance l t img o) s l ((n.take img).lifecycleAdvance img o)) ∧
    (img.opcode = 0x20 → img.args.getD 0 0 = 0 → Completes (.driveEnable l t img) s l ((n.take img).driveEnable img)) ∧
    (img.opcode = 0x20 → img.args.getD 0 0 = 1 → Completes (.driveReenable l t img) s l ((n.take img).driveEnable img)) ∧
    (img.opcode = 0x38 → img.args.getD 0 0 = 1 → Completes (.testRequestInService l t img ⟨p, w⟩) s l ((n.take img).testInService img p w)) ∧
    (img.opcode = 0x38 → img.args.getD 0 0 = 2 → Completes (.testRequestRehearse l t img) s l ((n.take img).testRehearse img))) ∧
  (∀ s l t img p w o, let n := (s.lane l).atTick t
    n.agreedNow img = true → (n.take img).keyoffBusy = true →
    (img.opcode = 0x10 → Completes (.stageOpen l t img) s l ((n.take img).finish img false 8 0x0D)) ∧
    (img.opcode = 0x11 → Completes (.stageWrite l t img) s l ((n.take img).finish img false 8 0x0D)) ∧
    (img.opcode = 0x12 → Completes (.stageCheck l t img) s l ((n.take img).finish img false 8 0x0D)) ∧
    (img.opcode = 0x13 → Completes (.commit l t img) s l ((n.take img).finish img false 8 0x0D)) ∧
    (img.opcode = 0x14 → Completes (.stageAbort l t img) s l ((n.take img).finish img false 8 0x0D)) ∧
    (img.opcode = 0x21 → Completes (.safeStop l t img) s l ((n.take img).finish img false 8 0x0D)) ∧
    (img.opcode = 0x22 → Completes (.safeTorqueOff l t img) s l ((n.take img).finish img false 8 0x0D)) ∧
    (img.opcode = 0x23 → Completes (.authMove l t img) s l ((n.take img).finish img false 8 0x0D)) ∧
    (img.opcode = 0x24 → Completes (.laneUpdate l t img p) s l ((n.take img).finish img false 8 0x0D)) ∧
    (img.opcode = 0x28 → Completes (.commOpen l t img) s l ((n.take img).finish img false 8 0x0D)) ∧
    (img.opcode = 0x29 → Completes (.commKeepalive l t img) s l ((n.take img).finish img false 8 0x0D)) ∧
    (img.opcode = 0x2A → Completes (.commClose l t img) s l ((n.take img).finish img false 8 0x0D)) ∧
    (img.opcode = 0x2B → Completes (.confirmCheck l t img) s l ((n.take img).finish img false 8 0x0D)) ∧
    (img.opcode = 0x30 → Completes (.imageWrite l t img) s l ((n.take img).finish img false 8 0x0D)) ∧
    (img.opcode = 0x31 → Completes (.keyEnrol l t img p o) s l ((n.take img).finish img false 8 0x0D)) ∧
    (img.opcode = 0x32 → Completes (.lifecycleAdvance l t img o) s l ((n.take img).finish img false 8 0x0D)) ∧
    (img.opcode = 0x20 → img.args.getD 0 0 = 0 → Completes (.driveEnable l t img) s l (((n.take img).sysRecord 0x08 [0, 8, 0x0D]).finish img false 8 0x0D)) ∧
    (img.opcode = 0x20 → img.args.getD 0 0 = 1 → Completes (.driveReenable l t img) s l (((n.take img).sysRecord 0x08 [1, 8, 0x0D]).finish img false 8 0x0D)) ∧
    (img.opcode = 0x38 → img.args.getD 0 0 = 1 → Completes (.testRequestInService l t img ⟨p, w⟩) s l (((n.take img).fault 0xE9).finish img false 8 0x0D)) ∧
    (img.opcode = 0x38 → img.args.getD 0 0 = 2 → Completes (.testRequestRehearse l t img) s l (((n.take img).fault 0xE9).finish img false 8 0x0D))) ∧
  (∀ s l t img p w o, let n := (s.lane l).atTick t
    n.agreedNow img = false →
    Completes (.stageOpen l t img) s l n ∧
    Completes (.stageWrite l t img) s l n ∧
    Completes (.stageCheck l t img) s l n ∧
    Completes (.commit l t img) s l n ∧
    Completes (.stageAbort l t img) s l n ∧
    Completes (.safeStop l t img) s l n ∧
    Completes (.safeTorqueOff l t img) s l n ∧
    Completes (.authMove l t img) s l n ∧
    Completes (.laneUpdate l t img p) s l n ∧
    Completes (.commOpen l t img) s l n ∧
    Completes (.commKeepalive l t img) s l n ∧
    Completes (.commClose l t img) s l n ∧
    Completes (.confirmCheck l t img) s l n ∧
    Completes (.imageWrite l t img) s l n ∧
    Completes (.keyEnrol l t img p o) s l n ∧
    Completes (.lifecycleAdvance l t img o) s l n ∧
    Completes (.driveEnable l t img) s l n ∧
    Completes (.driveReenable l t img) s l n ∧
    Completes (.testRequestInService l t img ⟨p, w⟩) s l n ∧
    Completes (.testRequestRehearse l t img) s l n)

/-- m below 8, w below 16, the register's domain ON, the access permitted and for the host aligned. MAILBOX_DATA_WRITE stores the word for
the sender while the mailbox is empty; on a full mailbox it is counted, raises 0xAC and ends with a bus error (for the host, noted as a
completer abort). MAILBOX_POST of 1 by the sender of an empty mailbox makes it full, and signals vector 8 to a host receiver. MAILBOX_ACK of
1 by the receiver empties it. For a full mailbox m with a sound last segment of the row's own type, which is emptied: ECHO (type 0x20, m 2
to 4) is returned unchanged in the reply mailbox, and an earlier segment of one is kept for its last; NET_DIAG (0x21) and ADDR_TABLE (0x22),
m 2 to 4, are answered with a message of their type that carries the network counters and the address table; ERROR (0x7F, m 0 or 2 to 4) is
only taken; SESSION_CLOSE (0x03, m 0), its CMAC verified, ends the session of function 0 whose identifier it names; SESSION_OPEN (0x01, m 0)
of 114 bytes for function 0 or 1 that has a host key, its signature verified, is submitted for agreement by a HOST_CMD message to both
peers, is refused with reason 1 and raises 0xAB where it does not verify, and with reason 3 without a host key; one of another length is
answered with ERROR. A segment that is not sound is answered with ERROR and emptied. Of a mailbox that is not full, none of these six rows
takes anything. SESSION_OPEN_AGREED of an agreed open image that this lane verified, the lane being in its voting set, opens the session;
for one that is not verified here it does nothing. Where the spec leaves a point of this open, it is the model's choice:
notes/assumptions/52.md. -/
def Obligations.MailboxAndSessionComplete : Prop :=
  (∀ s l t ini m w v k r, let n := (s.lane l).atTick t
    m < 8 → w < 16 → ini ≠ 0xB ∨ (privAddr (MBX.DATA_WORD.at_ m w)).toNat % 4 = 0 → n.regAccess ini (privAddr (MBX.DATA_WORD.at_ m w)) true = .ok k r →
    n.domOn (blockDomain (k / 0x10000)) = true →
    (n.mailFull m = true → Completes (.mailboxDataWrite l t ini m w v) s l
      ((((n.bump MBX.REJECT_COUNT).fault 0xAC).busError).logAbort ini (privAddr (MBX.DATA_WORD.at_ m w)))) ∧
    (n.mailFull m = false → ini = mailSender m →
      Completes (.mailboxDataWrite l t ini m w v) s l ((n.setWord (MBX.DATA_WORD.at_ m w) v).busDone 0))) ∧
  (∀ s l t m k r, let n := (s.lane l).atTick t
    m < 8 → n.regAccess (mailSender m) (privAddr (MBX.POST_GO.at_ m 0)) true = .ok k r → n.domOn (blockDomain (k / 0x10000)) = true →
    (mailSender m ≠ 0xB ∨ (privAddr (MBX.POST_GO.at_ m 0)).toNat % 4 = 0) → n.mailFull m = false →
    Completes (.mailboxPost l t (mailSender m) m 1) s l
      ((if mailReceiver m = 0xB then (n.setFull m true).msix (mailFn m) 8 else n.setFull m true).busDone 0)) ∧
  (∀ s l t m k r, let n := (s.lane l).atTick t
    m < 8 → n.regAccess (mailReceiver m) (privAddr (MBX.ACK_GO.at_ m 0)) true = .ok k r → n.domOn (blockDomain (k / 0x10000)) = true →
    (mailReceiver m ≠ 0xB ∨ (privAddr (MBX.ACK_GO.at_ m 0)).toNat % 4 = 0) →
    Completes (.mailboxAck l t (mailReceiver m) m 1) s l ((n.emptyMail m).busDone 0)) ∧
  (∀ s l t m, let n := (s.lane l).atTick t; let bs := Sparse.get [] n.mbx.parts m ++ n.mailBytes m
    let e := (n.awaitSeg m 0 []).emptyMail m
    n.mailFull m = true → n.mailSound m = true → n.mailLast m = true →
    (2 ≤ m → m ≤ 4 → n.mailType m = 0x20 →
      Completes (.echo l t m) s l (e.reply (replyBox m) 0x20 0 true (min bs.length 56) (leWords (bs.take 56)))) ∧
    (2 ≤ m → m ≤ 4 → n.mailType m = 0x21 → Completes (.netDiag l t m) s l (e.replyBytes (replyBox m) 0x21 (e.netCounters.flatMap wordBytes))) ∧
    (2 ≤ m → m ≤ 4 → n.mailType m = 0x22 → Completes (.addrTable l t m) s l (e.replyBytes (replyBox m) 0x22 (e.addressTable.flatMap wordBytes))) ∧
    (m = 0 ∨ 2 ≤ m ∧ m ≤ 4 → n.mailType m = 0x7F → Completes (.error l t m) s l e) ∧
    (m = 0 → n.mailType 0 = 0x03 → 4 ≤ bs.length → e.hif.sess0 = some (leWord bs) →
      Completes (.sessionClose l t true) s l (e.endSession 0)) ∧
    (∀ fn hash ok, m = 0 → n.mailType 0 = 0x01 → bs.length ≠ 114 →
      Completes (.sessionOpen l t fn hash ok) s l (e.mailError 0 (n.mailSeq 0))) ∧
    (∀ fn hash, m = 0 → n.mailType 0 = 0x01 → bs.length = 114 → fn < 2 →
      (e.hostKeyFor fn = true → Completes (.sessionOpen l t fn hash true) s l
        ((e.onHif fun h => { h with authed := h.authed ++ [{ img := openImage fn hash, pay := .opening bs, since := e.clk.now }] }).sendCtl 3
          (.hostCmd (openImage fn hash)))) ∧
      (e.hostKeyFor fn = true → Completes (.sessionOpen l t fn hash false) s l ((e.sessionRefused 1).fault 0xAB)) ∧
      (e.hostKeyFor fn = false → ∀ ok, Completes (.sessionOpen l t fn hash ok) s l (e.sessionRefused 3)))) ∧
  (∀ s l t m type, let n := (s.lane l).atTick t
    n.mailFull m = true → n.mailSound m = true → n.mailLast m = false → n.mailType m = type → type = 0x20 → 2 ≤ m → m ≤ 4 →
    Completes (.echo l t m) s l ((n.awaitSeg m (n.mailSeg m + 1) (Sparse.get [] n.mbx.parts m ++ n.mailBytes m)).emptyMail m)) ∧
  (∀ s l t m, let n := (s.lane l).atTick t
    n.mailFull m = false → Completes (.echo l t m) s l n ∧ Completes (.netDiag l t m) s l n ∧ Completes (.addrTable l t m) s l n ∧
    Completes (.error l t m) s l n ∧
    (m = 0 → ∀ fn hash ok, Completes (.sessionClose l t ok) s l n ∧ Completes (.sessionOpen l t fn hash ok) s l n)) ∧
  (∀ s l t m, let n := (s.lane l).atTick t
    n.mailFull m = true → m = 0 ∨ 2 ≤ m ∧ m ≤ 4 → n.mailSound m = false → Completes (.error l t m) s l (n.mailBad m)) ∧
  (∀ s l t img, let n := (s.lane l).atTick t
    img.opcode = 0xFF → (n.hif.authed.any fun p => decide (p.img = img) && !p.seen) = true → n.xla.vset.get n.id = true → n.agreedNow img = true →
    Completes (.sessionOpenAgreed l t img) s l ((n.take img).openSession img.fn)) ∧
  (∀ s l t img, let n := (s.lane l).atTick t
    (n.hif.authed.any fun p => decide (p.img = img) && !p.seen) = false → Completes (.sessionOpenAgreed l t img) s l n)

/-- For every lane: (a) opcode 0x20 hands a request to the safety unit's evaluation only for ARG0 0 (a plain enable) or 1 (a re-enable),
where the part's life-cycle state drives and the control cycle lets PWM run. (b) When the evaluation of a cycle leaves a pending enable
where its functions left none, a request stood, and, judged on the demands that this evaluation itself has just agreed: the system mode is
SNUFFED; for a plain enable it stands so from reset, for a re-enable after a commanded stop; the machine is at standstill; the safety
parameters are confirmed, or a commissioning session is open, or the part is an open one; no stop demand of an input, the graph, a fault or
the host is agreed; the position is within the limits while the position function acts; at most one lane is in twin mode; and the mode
granted is TRIPLEX with three healthy lanes, or DUPLEX with two where the configuration permits that start. -/
def Obligations.DriveEnableNeedsItsConditions : Prop :=
  (∀ (l : Lane) (img i : CmdImage) (re : Bool),
    l.sfu.ask = none → (l.driveEnable img).sfu.ask = some (re, i) →
    i = img ∧ l.otp.drives = true ∧ l.runsPwm = true ∧ (img.args.getD 0 0).toNat = re.toNat) ∧
  (∀ (l : Lane) (m : SysMode), let n := l.sfuFunctions
    n.sfu.enable = none → l.sfuEvaluate.sfu.enable = some m →
    ∃ re img, n.sfu.ask = some (re, img) ∧ n.xla.mode = .snuffed ∧ n.sfu.still = true ∧ n.twinCount ≤ 1 ∧
      (re = false → n.sfu.fromReset = true) ∧ (re = true → n.sfu.cmdStop = true) ∧
      (n.sfu.confirmed = true ∨ n.sfu.session = true ∨ n.otp.openDev = true) ∧
      n.inputDemand 1 = false ∧ n.inputDemand 2 = false ∧ n.faultDemand 0 = false ∧ n.faultDemand 1 = false ∧
      n.sfu.soWord.getLsbD 6 = false ∧ n.sfu.soWord.getLsbD 7 = false ∧ n.sfu.hostSs1 = false ∧ n.sfu.hostSto = false ∧
      (n.sfu.slpActive = true → n.posInside = true) ∧
      ((m = .triplex ∧ n.healthySet.members.length = 3) ∨
        (m = .duplex ∧ n.healthySet.members.length = 2 ∧ n.on SFU.CFG_DUPLEX_START = true)))

/-- On a running network (enabled, the NET domain ON, the lane neither BOOT nor OFF). PTP_SYNC_MESSAGE on a port that sends and receives
(enabled, its link up, not fenced) notes the offset: beyond SYNC_LIMIT x 10 ns it loses synchronisation; within it the third Sync in a row
or a later one synchronises and clears condition 0xBA. PTP_SYNC_TIMEOUT, with the domain ON, three Sync intervals after the last, of a
synchronised lane: it loses synchronisation with condition 0xBA. WICK_BOUNDARY begins cycle w. WICK_SLOT_TRANSMIT at the offset of a valid
slot of the lane's own, the lane synchronised for sending and healthy, sends the snapshot of its message. A recognised frame that arrives is
noted; the lane's own returning frame is not taken; one outside every window of its direction is counted as missed; inside its window
WICK_DATA_FRAME (valid, kind 0), ANNOUNCE, ACK and CONFIRM (sound, kinds 1 to 3) forward it with HOPS one less and take it, and a data frame
that is not valid is forwarded only. WICK_CONTROL_SUBWINDOW in the lane's own sub-window sends the CONFIRM that is due, else the ACK, else
the ANNOUNCE, out of both ports. BEST_EFFORT_FRAME of at most 1,522 bytes, neither Wick nor 802.1AS (which goes no further), is sent at once
where it fits and none waits, queued up to 16,384 bytes otherwise, and else dropped, counted, with 0xBE. ETHERNET_LINK_CHANGE of port 0 or
1, enabled, the NET domain ON: a link that comes up is shown and clears its condition; one that goes down is counted with condition 0xBC +
port. On a network that does not run, the ten rows before do nothing, but PTP_SYNC_TIMEOUT. Where the spec leaves a point of this open, it
is the model's choice: notes/assumptions/53.md, 79.md. -/
def Obligations.WickCommandsComplete : Prop :=
  (∀ s l t port off, let n := (s.lane l).atTick t
    let l1 : Lane := { n.setWord WCK.SYNC_OFFSET_VALUE.key (BitVec.ofInt 32 (clampInt (-2147483648) 2147483647 off)) with
                         wck := { n.wck with syncAt := some n.clk.now } }
    port < 2 → n.wickRuns = true → n.portSends port = true →
    (10 * n.rd WCK.PTP_SYNC_LIMIT < off.natAbs → Completes (.ptpSyncMessage l t port off) s l l1.syncLost) ∧
    (off.natAbs ≤ 10 * n.rd WCK.PTP_SYNC_LIMIT → 2 ≤ n.wck.syncRun → Completes (.ptpSyncMessage l t port off) s l
      ((({ l1 with wck := { l1.wck with syncRun := 3 } } : Lane).flag WCK.STATUS_SYNCED true).setLevel 0xBA false))) ∧
  (∀ s l t a, let n := (s.lane l).atTick t; let l1 := (n.flag WCK.STATUS_SYNCED false).flag WCK.STATUS_TX_EN false
    n.domOn 3 = true → n.wck.syncAt = some a → a * 2 ^ n.rd WCK.PTP_SYNC_EXP + 3 * 600000000 ≤ n.clk.now * 2 ^ n.rd WCK.PTP_SYNC_EXP → n.on WCK.STATUS_SYNCED = true →
    Completes (.ptpSyncTimeout l t) s l
      (({ l1 with wck := { l1.wck with syncRun := 0, syncAll := false, txOk := false } } : Lane).faultLevel 0xBA)) ∧
  (∀ s l t w, let n := (s.lane l).atTick t
    n.wickRuns = true → Completes (.wickBoundary l t w) s l (n.wickBoundary w)) ∧
  (∀ s l t d slot, let n := (s.lane l).atTick t; let m := 2 * n.rd WCK.STATUS_MODE + d; let g := n.rd WCK.SLOT_MSG m slot
    let len := n.rd WCK.MSG_CFG_LEN g
    n.wickAt = 2 * n.rd WCK.SLOT_OFFSET m slot → d < 2 → n.wickRuns = true → n.wck.txOk = true → n.own.healthy = true → n.portSends d = true → n.on WCK.SLOT_VALID m slot = true →
    n.rd WCK.SLOT_OWNER m slot = n.rd WCK.CFG_NODE → n.on WCK.MSG_CFG_ENABLE g = true →
    Completes (.wickSlotTransmit l t d slot) s l
      (n.emit (.wick d (n.wickFrame 0 slot d len (Sparse.get 0 n.wck.snap g % 2 ^ (8 * len)))))) ∧
  (∀ s l t port f, let n := (s.lane l).atTick t; let n1 := n.noteFrame port f; let m := n1.forwardWick f
    port < 2 → f.dir < 2 → n.wickRuns = true → n.portSends port = true → n.isWick f.toEthHdr = true →
    (f.node = n.rd WCK.CFG_NODE → Completes (.wickDataFrame l t port f.toEthHdr f.toWickHdr) s l n1 ∧ Completes (.announce l t port f.toEthHdr f.toWickHdr) s l n1 ∧
      Completes (.ack l t port f.toEthHdr f.toWickHdr) s l n1 ∧ Completes (.confirm l t port f.toEthHdr f.toWickHdr) s l n1) ∧
    (f.node ≠ n.rd WCK.CFG_NODE → n.inAnyWindow f.dir n.wickAt = false →
      let v := (n1.bump WCK.MISSED_HI f.dir).netCount (4 + f.dir)
      Completes (.wickDataFrame l t port f.toEthHdr f.toWickHdr) s l v ∧ Completes (.announce l t port f.toEthHdr f.toWickHdr) s l v ∧
      Completes (.ack l t port f.toEthHdr f.toWickHdr) s l v ∧ Completes (.confirm l t port f.toEthHdr f.toWickHdr) s l v) ∧
    (f.node ≠ n.rd WCK.CFG_NODE → n.inAnyWindow f.dir n.wickAt = true →
      (inSlotWindow n.regs (n.rd WCK.STATUS_MODE) f.dir f.slot n.wickAt = true →
        (n.dataValid f = true → f.kind = 0 → Completes (.wickDataFrame l t port f.toEthHdr f.toWickHdr) s l (m.takeData port f)) ∧
        (n.dataValid f = false → Completes (.wickDataFrame l t port f.toEthHdr f.toWickHdr) s l m)) ∧
      (inSubWindow n.regs f.node n.wickAt = true →
        (ctlSound f 1 = true → Completes (.announce l t port f.toEthHdr f.toWickHdr) s l (m.takeAnnounce f)) ∧
        (ctlSound f 2 = true → Completes (.ack l t port f.toEthHdr f.toWickHdr) s l (m.takeAck f)) ∧
        (ctlSound f 3 = true → Completes (.confirm l t port f.toEthHdr f.toWickHdr) s l (m.takeConfirm f))))) ∧
  (∀ s l t sw, let n := (s.lane l).atTick t
    n.wickRuns = true → inSubWindow n.regs (n.rd WCK.CFG_NODE) n.wickAt = true → n.wck.switch = some sw →
    (sw.confirmDue = true → n.word WCK.WCN_VALUE.key + 1 = n.word WCK.SW_WCN_VALUE.key →
      Completes (.wickControlSubwindow l t) s l { n.sendControl 3 sw.node with wck := { n.wck with switch := some { sw with confirmDue := false } } }) ∧
    (sw.confirmDue = false → sw.ackDue = true →
      Completes (.wickControlSubwindow l t) s l { n.sendControl 2 sw.node with wck := { n.wck with switch := some { sw with ackDue := false } } }) ∧
    (sw.confirmDue = false → sw.ackDue = false → sw.annDue = true → (n.word WCK.WCN_VALUE.key - sw.annWcn).toNat < 0x80000000 →
      Completes (.wickControlSubwindow l t) s l { n.sendControl 1 sw.node with wck := { n.wck with switch := some { sw with annDue := false } } })) ∧
  (∀ s l t port e bytes, let n := (s.lane l).atTick t; let q := 1 - port; let l1 := n.drainQueue 64 q n.wickAt; let y := l1.beStart q n.wickAt
    port < 2 → n.wickRuns = true → n.portSends port = true → n.on WCK.PORT_CFG_BE_BREAK q = false → bytes ≤ 1522 →
    n.isWick e = false → e.etherType ≠ ptpEtherType →
    (l1.wck.queue q = [] → l1.portSends q = true → l1.beFits q y bytes = true →
      Completes (.bestEffortFrame l t port e bytes) s l (l1.beSend q y bytes)) ∧
    (l1.wck.queue q ≠ [] ∨ l1.portSends q = false ∨ l1.beFits q y bytes = false → queueBytes (l1.wck.queue q) + bytes ≤ 16384 →
      Completes (.bestEffortFrame l t port e bytes) s l ((l1.setQueue q (l1.wck.queue q ++ [(false, bytes)])).bump WCK.BE_COUNT_LO)) ∧
    (l1.wck.queue q ≠ [] → 16384 < queueBytes (l1.wck.queue q) + bytes →
      Completes (.bestEffortFrame l t port e bytes) s l ((l1.bump WCK.BE_COUNT_HI).fault 0xBE))) ∧
  (∀ s l t port e bytes, let n := (s.lane l).atTick t
    e.etherType = ptpEtherType ∨ n.isWick e = true ∨ 1522 < bytes → Completes (.bestEffortFrame l t port e bytes) s l n) ∧
  (∀ s l t p, let n := (s.lane l).atTick t; let f := if p = 0 then WCK.STATUS_EAST_UP else WCK.STATUS_WEST_UP
    p < 2 → n.on WCK.PORT_CFG_ENABLE p = true → n.domOn 3 = true →
    Completes (.ethernetLinkChange l t p true) s l (((n.flag WCK.PORT_STATUS_LINK true p).flag f true).setLevel (0xBC + p) false) ∧
    (n.on WCK.PORT_STATUS_LINK p = true → Completes (.ethernetLinkChange l t p false) s l
      ((((n.flag WCK.PORT_STATUS_LINK false p).flag f false).wrapInc WCK.PORT_STATUS_DOWNS p).faultLevel (0xBC + p)))) ∧
  (∀ s l t, let n := (s.lane l).atTick t
    n.wickRuns = false →
    (∀ port off, Completes (.ptpSyncMessage l t port off) s l n) ∧ (∀ w, Completes (.wickBoundary l t w) s l n) ∧
    (∀ d slot, Completes (.wickSlotTransmit l t d slot) s l n) ∧
    (∀ port e w, Completes (.wickDataFrame l t port e w) s l n ∧ Completes (.announce l t port e w) s l n ∧
      Completes (.ack l t port e w) s l n ∧ Completes (.confirm l t port e w) s l n) ∧
    Completes (.wickControlSubwindow l t) s l n ∧ ∀ port e bytes, Completes (.bestEffortFrame l t port e bytes) s l n)

/-- For a controller i below 6 that is on (enabled, the NET domain ON). CAN_TX_BUFFER_DUE of an enabled buffer below 32 that has more
periods behind it than were taken becomes due with its snapshot. CAN_FRAME_TRANSMITTED of a controller that may send (in normal mode, not
bus-off, not fenced): the due buffer that wins arbitration is sent, leaves its buffer, and TEC goes down by one; with none due nothing
happens. CAN_FRAME_RECEIVED, not bus-off, not fenced, an FD frame only with FD enabled: REC goes down by one; a remote frame is counted and
discarded, a data frame is stored with its time in the lowest filter that matches, and counted there; one that matches none is discarded.
CAN_ERROR_STATE_CHANGE of a controller that is not bus-off takes both counters: TEC above 255 is bus-off, counted, with condition 0xC0 + i
in place of 0xC6 + i; a counter above 127 in an error-active one is error passive with condition 0xC6 + i; both at or below 127 are error
active and clear it. CAN_BUS_OFF_RECOVERY of a bus-off one with AUTO_REC, or enabled anew since, clears its counters and the condition;
without either it stays. With the comms core running, the controller not fenced and ISO set: ADDRESS_CLAIM_CONTENTION for the address the
lane claims or holds, with a higher NAME, is answered with the lane's claim; with a lower or equal one the lane, counting it, claims its
next alternative, or ends with Cannot Claim Address (254) and 0xCC. ADDRESS_CLAIM_REQUEST is answered with the claim. ADDRESS_CLAIM_SETTLED
250 ms (150,000,000 ticks) after a claim: the address is claimed and shown. Of a controller that is not on none of the eight does anything.
Where the spec leaves a point of this open, it is the model's choice: notes/assumptions/54.md. -/
def Obligations.CanCommandsComplete : Prop :=
  (∀ s l t i buf, let n := (s.lane l).atTick t; let times := n.canTimes i buf
    n.canOn i = true → buf < 32 → n.on CAN.TXB_CFG_ENABLE i buf = true →
    (Sparse.get 0 n.can.times (32 * i + buf) < times →
      Completes (.canTxBufferDue l t i buf) s l
        (({ n with can := { n.can with times := Sparse.set 0 n.can.times (32 * i + buf) times } } : Lane).canDue i buf n.heldContent)) ∧
    (times ≤ Sparse.get 0 n.can.times (32 * i + buf) → Completes (.canTxBufferDue l t i buf) s l n)) ∧
  (∀ s l t i, let n := (s.lane l).atTick t
    n.canTalks i = true →
    (n.canNext i = none → Completes (.canFrameTransmitted l t i) s l n) ∧
    (∀ b, n.canNext i = some b →
      let f : CanFrame :=
        { ide := n.on CAN.TXB_ID_IDE i b, id := n.canId i b, remote := false, fdf := n.on CAN.TXB_CFG_FDF i b
          brs := n.on CAN.TXB_CFG_BRS i b, dlc := n.rd CAN.TXB_CFG_DLC i b
          payload := (Sparse.get none n.can.due (32 * i + b)).getD 0 % 2 ^ (8 * frameBytes (n.on CAN.TXB_CFG_FDF i b) (n.rd CAN.TXB_CFG_DLC i b)) }
      let a1 := (n.wr CAN.STATUS_TEC (n.rd CAN.STATUS_TEC i - 1) i).emit (.can i f)
      Completes (.canFrameTransmitted l t i) s l { a1 with can := { a1.can with due := Sparse.set none a1.can.due (32 * i + b) none } })) ∧
  (∀ s l t i f, let n := (s.lane l).atTick t; let a0 := n.wr CAN.STATUS_REC (n.rd CAN.STATUS_REC i - 1) i
    n.canOn i = true → n.rd CAN.STATUS_STATE i ≠ 2 → (f.fdf = true → n.on CAN.CTRL_FD i = true) →
    n.fenced (.port (.can i)) = false →
    (f.remote = true → Completes (.canFrameReceived l t i f) s l (a0.bump CAN.ERR_REMOTE i)) ∧
    (f.remote = false → n.canFilter i f = none → Completes (.canFrameReceived l t i f) s l a0) ∧
    (∀ r, f.remote = false → n.canFilter i f = some r → Completes (.canFrameReceived l t i f) s l
      { a0.wrapInc CAN.RXF_STATUS_FRAMES i r with can := { n.can with
          rx := Sparse.set 0 n.can.rx (32 * i + r) (f.payload % 2 ^ (8 * frameBytes f.fdf f.dlc))
          rxAt := Sparse.set none n.can.rxAt (32 * i + r) (some n.clk.now) } })) ∧
  (∀ s l t i tec rec, let n := (s.lane l).atTick t
    let a1 := fun st => ((n.wr CAN.STATUS_TEC (satN 8 tec) i).wr CAN.STATUS_REC (satN 7 rec) i).wr CAN.STATUS_STATE st i
    n.canOn i = true →
    (n.rd CAN.STATUS_STATE i ≠ 2 → 255 < tec → Completes (.canErrorStateChange l t i tec rec) s l
      ((((a1 2).bump CAN.ERR_BUS_OFF i).setLevel (0xC6 + i) false).faultLevel (0xC0 + i))) ∧
    (n.rd CAN.STATUS_STATE i = 0 → tec ≤ 255 → 127 < tec ∨ 127 < rec →
      Completes (.canErrorStateChange l t i tec rec) s l ((a1 1).faultLevel (0xC6 + i))) ∧
    (n.rd CAN.STATUS_STATE i ≠ 2 → tec ≤ 127 → rec ≤ 127 →
      Completes (.canErrorStateChange l t i tec rec) s l ((a1 0).setLevel (0xC6 + i) false)) ∧
    (n.rd CAN.STATUS_STATE i = 2 → n.on CAN.CTRL_AUTO_REC i = true ∨ Sparse.get false n.can.recover i = true → Completes (.canBusOffRecovery l t i) s l
      (((((n.wr CAN.STATUS_STATE 0 i).wr CAN.STATUS_TEC 0 i).wr CAN.STATUS_REC 0 i).setRecover i false).setLevel (0xC0 + i) false)) ∧
    (n.on CAN.CTRL_AUTO_REC i = false → Sparse.get false n.can.recover i = false → Completes (.canBusOffRecovery l t i) s l n)) ∧
  (∀ s l t i name, let n := (s.lane l).atTick t; let c := n.iso i; let a1 := n.bump CAN.ERR_ADDR_LOST i
    n.canOn i = true → n.commsRuns = true → n.on CAN.CTRL_ISO i = true → n.fenced (.port (.can i)) = false → n.rd CAN.STATUS_ISO_STATE i = 1 ∨ n.rd CAN.STATUS_ISO_STATE i = 2 →
    (n.isoName i < name → Completes (.addressClaimContention l t i c.cand name) s l (n.isoSend i c.cand)) ∧
    (∀ x, name ≤ n.isoName i → n.isoNext i c.alt = some x →
      Completes (.addressClaimContention l t i c.cand name) s l (a1.isoClaim i x (c.alt + 1))) ∧
    (name ≤ n.isoName i → n.isoNext i c.alt = none → Completes (.addressClaimContention l t i c.cand name) s l
      (((((a1.wr CAN.STATUS_ISO_STATE 3 i).wr CAN.STATUS_ADDR 254 i).setIso i { cand := 254, alt := c.alt }).isoSend i 254).fault 0xCC)) ∧
    Completes (.addressClaimRequest l t i) s l (n.isoSend i c.cand) ∧
    (n.rd CAN.STATUS_ISO_STATE i = 1 → c.claimAt + 150000000 ≤ n.clk.now →
      Completes (.addressClaimSettled l t i) s l ((n.wr CAN.STATUS_ISO_STATE 2 i).wr CAN.STATUS_ADDR c.cand i))) ∧
  (∀ s l t i, let n := (s.lane l).atTick t
    n.canOn i = false →
    (∀ buf, Completes (.canTxBufferDue l t i buf) s l n) ∧ Completes (.canFrameTransmitted l t i) s l n ∧
    (∀ f, Completes (.canFrameReceived l t i f) s l n) ∧ (∀ tec rec, Completes (.canErrorStateChange l t i tec rec) s l n) ∧
    Completes (.canBusOffRecovery l t i) s l n ∧ (∀ a name, Completes (.addressClaimContention l t i a name) s l n) ∧
    Completes (.addressClaimRequest l t i) s l n ∧ Completes (.addressClaimSettled l t i) s l n)

/-- For every state, lane l, tick, port and data frame f, with n the lane at that tick and v lane l after WICK_DATA_FRAME: the frames that
await publication are those of n unless the frame's checks against its slot hold (dataValid), its kind is data and the frame came inside the
window of its slot; the published payloads, the input snapshots and the outgoing payloads never change. The lane sends nothing but at most
the frame itself with HOPS one less; it sends nothing if the frame names the lane's own node, came outside its window, has HOPS 1 or 0, or
is not recognised as a frame of the network. -/
def Obligations.WickFramesAreTakenOnlyWhenValid : Prop :=
  ∀ (s t' : State) (l : LaneId) (t port : Nat) (f : WickFrame), exec (.wickDataFrame l t port f.toEthHdr f.toWickHdr) s = .next t' →
    let n := (s.lane l).atTick t; let v := t'.lane l
    let inside := inSlotWindow n.regs (n.rd WCK.STATUS_MODE) (f.dir % 2) f.slot n.wickAt
    (inside = false ∨ n.dataValid f = false ∨ f.kind ≠ 0 → v.wck.arrived = n.wck.arrived) ∧
    v.wck.pub = n.wck.pub ∧ v.wck.atStart = n.wck.atStart ∧ v.wck.buf = n.wck.buf ∧ v.wck.snap = n.wck.snap ∧
    (v.out = n.out ∨ v.out = .wick (f.dir % 2) { f with hops := f.hops - 1 } :: n.out) ∧
    (inside = false ∨ f.node = n.rd WCK.CFG_NODE ∨ f.hops ≤ 1 ∨ n.isWick f.toEthHdr = false → v.out = n.out)

/-- With the STO domain ON. XSPI_OPERATION_COMPLETE ends the NOR program in progress, the STM's own before that of IMAGE_WRITE, and NOR_BUSY
with the last: a failure is counted, raises 0xD3 and completes its command with status 0x0C, reason 1, a directory copy or confirmation
record written being taken back; a success completes the command with SUCCESS, a slot that is whole and passes turning to state 2 (new). Of
a NAND read with the NAND mounted it counts the read, the corrected bits and, where uncorrectable or above 16 bits, the sector, with 0xD1;
above SCRUB_THR the block is to be moved. Of a failed operation on a block not in use it enters the block as bad and raises 0xD2.
XSPI_TIMEOUT on chip select 0 or 1 is counted and raises 0xD0: a waiting reader gets a bus error; a NOR program beyond its limit fails with
status 0x0C, reason 4, one within it goes on; a waiting RECORDER_READ completes so. STORAGE_MOUNT with neither device up takes the contents,
mounts the devices that answer and leaves the others. RECORDER_PAGE_PROGRAM programs the open page when it is due (full, or FLUSH_MS after
its first record). NAND_SCRUB of a block that is due a read reads it, enters it in the pass, and moves it to a fresh block when its worst
sector is above SCRUB_THR, a fresh block whose program fails being retired first; STATIC_WEAR_LEVEL, unless a page is due, moves the used
block of the lowest erase count when it lies more than WL_DELTA below the highest. NOR_WINDOW_READ inside the window, not of the host: while
the NOR is busy it fails, counted; beyond the capacity it fails; else it returns the eight bytes of the aligned double word. With the domain
not ON the five others do nothing. Where the spec leaves a point of this open, it is the model's choice: notes/assumptions/55.md, 81.md. -/
def Obligations.StorageCommandsComplete : Prop :=
  (∀ s l t j, let n := (s.lane l).atTick t
    n.domOn 4 = true → n.stm.sysOps = [] → n.stm.norOp = some j →
    let l1 : Lane := { n.flag STM.STATUS_NOR_BUSY false with stm := { n.stm with norOp := none } }
    let w := written (norSlot n.nor j.slot) j
    Completes (.xspiOperationComplete l t (.norDone false)) s l (((l1.bump STM.NOR_ERR_FAILS).fault 0xD3).finish j.img false 0xC 1) ∧
    (j.image = none → Completes (.xspiOperationComplete l t (.norDone true)) s l
      (({ l1 with nor := norSetSlot n.nor j.slot w } : Lane).finish j.img false 0)) ∧
    (j.image.isSome = true → slotWhole n.otp w = true → (slotReject n.otp w).1 = 0 →
      Completes (.xspiOperationComplete l t (.norDone true)) s l
        ((({ l1 with nor := norSetSlot n.nor j.slot w } : Lane).slotState j.slot 2).finish j.img false 0))) ∧
  (∀ s l t op rest, let n := (s.lane l).atTick t
    let l1 := n.flag STM.STATUS_NOR_BUSY (!rest.isEmpty || n.stm.norOp.isSome)
    let l2 : Lane := { l1 with stm := { l1.stm with sysOps := rest, opAt := n.clk.now } }
    let bad := (l2.bump STM.NOR_ERR_FAILS).fault 0xD3
    n.domOn 4 = true → n.stm.sysOps = op :: rest →
    (∀ k, op = .dir k → Completes (.xspiOperationComplete l t (.norDone true)) s l l2 ∧
      Completes (.xspiOperationComplete l t (.norDone false)) s l (bad.dirFails k)) ∧
    (∀ img, op = .conf (some img) → Completes (.xspiOperationComplete l t (.norDone true)) s l (l2.finish img false 0) ∧
      Completes (.xspiOperationComplete l t (.norDone false)) s l (bad.confFails.finish img false 0xC 1))) ∧
  (∀ s l t b c, let n := (s.lane l).atTick t
    n.domOn 4 = true →
    (n.on STM.STATUS_NAND_MOUNTED = true →
    let l1 : Lane := { n with nand := { n.nand with reads := Sparse.set 0 n.nand.reads b (Sparse.get 0 n.nand.reads b + 1) } }
    let good := (l1.bump STM.ECC_COUNT_CORRECTED 0 0 c).bump STM.ECC_COUNT_UNCORRECTABLE 0 0 0
    (c ≤ 16 → c ≤ n.rd STM.NAND_CFG_SCRUB_THR → Completes (.xspiOperationComplete l t (.nandRead b c false)) s l good) ∧
    (c ≤ 16 → n.rd STM.NAND_CFG_SCRUB_THR < c → Completes (.xspiOperationComplete l t (.nandRead b c false)) s l
      ({ good with nand := { good.nand with weak := b :: good.nand.weak } } : Lane).moveWeak) ∧
    (16 < c → Completes (.xspiOperationComplete l t (.nandRead b c false)) s l
      (((l1.bump STM.ECC_COUNT_CORRECTED 0 0 0).bump STM.ECC_COUNT_UNCORRECTABLE 0 0 1).fault 0xD1)) ∧
    Completes (.xspiOperationComplete l t (.nandRead b c true)) s l
      (((l1.bump STM.ECC_COUNT_CORRECTED 0 0 c).bump STM.ECC_COUNT_UNCORRECTABLE 0 0 1).fault 0xD1)) ∧
    (let m := n.flag STM.STATUS_NAND_BUSY false;
      Completes (.xspiOperationComplete l t .nandDone) s l m ∧
      (m.on STM.STATUS_NAND_MOUNTED = true → m.nand.bad.contains b = false → b < m.rd STM.NAND_GEOM_BLOCKS → m.nand.used.contains b = false →
        Completes (.xspiOperationComplete l t (.nandFailed b)) s l ((m.enterBad b).recFirst.fault 0xD2)))) ∧
  (∀ s l t, let n := (s.lane l).atTick t; let n1 := (n.bump XSP.STATUS_TIMEOUTS).fault 0xD0
    n.domOn 4 = true →
    (n.norBusy = true → n.clk.now < n.stm.opAt + n.stm.norMax → Completes (.xspiTimeout l t 0 false) s l n) ∧
    (n.norBusy = true → n.stm.opAt + n.stm.norMax ≤ n.clk.now →
      (∀ j, n1.stm.sysOps = [] → n1.stm.norOp = some j → Completes (.xspiTimeout l t 0 false) s l
        (({ n1.flag STM.STATUS_NOR_BUSY false with stm := { n1.stm with norOp := none } } : Lane).finish j.img false 0xC 4)) ∧
      (∀ op rest, n1.stm.sysOps = op :: rest → Completes (.xspiTimeout l t 0 false) s l (n1.sysEnds op rest 4))) ∧
    (n.norBusy = false → n1.stm.sysOps = [] → n1.stm.norOp = none → Completes (.xspiTimeout l t 0 false) s l n1) ∧
    (∀ cs, cs < 2 → Completes (.xspiTimeout l t cs true) s l n1.busError) ∧
    (let m := n1.flag STM.STATUS_NAND_BUSY false;
      (m.readingQueue = none → Completes (.xspiTimeout l t 1 false) s l m) ∧
      (∀ q, m.readingQueue = some q → Completes (.xspiTimeout l t 1 false) s l (m.completeCmd q 0x0C 4)))) ∧
  (∀ s l t ini addr, let n := (s.lane l).atTick t; let off := addr.toNat - 0x60000000
    0x60000000 ≤ addr.toNat → addr.toNat < 0x70000000 → ini ≠ 0xB → n.domOn 4 = true →
    (n.on STM.STATUS_NOR_BUSY = true → Completes (.norWindowRead l t ini addr) s l (n.bump STM.NOR_ERR_BUSY_READS).busError) ∧
    (n.on STM.STATUS_NOR_BUSY = false → n.norCap ≤ off → Completes (.norWindowRead l t ini addr) s l n.busError) ∧
    (n.on STM.STATUS_NOR_BUSY = false → off < n.norCap → Completes (.norWindowRead l t ini addr) s l
      (n.readDone ini (BitVec.ofNat 64 (natSum ((List.range 8).map fun i => (n.norByte (off / 8 * 8 + i)).toNat * 256 ^ i)))))) ∧
  (∀ s l t d nor dev, let n := (s.lane l).atTick t
    n.domOn 4 = true → n.on XSP.STATUS_CS0_UP = false → n.on XSP.STATUS_CS1_UP = false →
    let n1 : Lane := { n with nor := { nor with changes := n.nor.changes + 1 } }
    Completes (.storageMount l t none none none) s l { n with norCap := 0 } ∧
    Completes (.storageMount l t none none (some dev)) s l (({ n with norCap := 0 } : Lane).mountNand dev) ∧
    Completes (.storageMount l t (some d) (some nor) none) s l (n1.mountNor d) ∧ Completes (.storageMount l t (some d) none none) s l (n.mountNor d) ∧
    Completes (.storageMount l t (some d) (some nor) (some dev)) s l ((n1.mountNor d).mountNand dev)) ∧
  (∀ s l t, let n := (s.lane l).atTick t
    n.domOn 4 = true →
    ((n.stm.page ≠ [] ∧ (n.recsPerPage ≤ n.stm.page.length ∨ n.stm.pageAt + 600000 * n.rd STM.REC_CFG_FLUSH_MS ≤ n.clk.now)) →
      Completes (.recorderPageProgram l t) s l n.flushPage) ∧
    (n.pageDue = false → Completes (.recorderPageProgram l t) s l n)) ∧
  (∀ (s : State) (l : LaneId) (t b worst total bad : Nat) (good : Bool), let n := ((s.lane l).atTick t).openPass; let bad' := if 16 < worst then max bad 1 else bad
    let n1 := (n.nandRead b total bad').passRead b
    (n.scrubBlockDue b = true → worst ≤ n1.rd STM.NAND_CFG_SCRUB_THR → Completes (.nandScrub l t b worst total bad good) s l n1) ∧
    (∀ c : Nat, n.scrubBlockDue b = true → n1.rd STM.NAND_CFG_SCRUB_THR < worst →
      let n2 := match good, n1.freshBlock with | false, some k => n1.retireBlock k | _, _ => n1
      n2.freshBlock = some c → let v := (n2.moveBlock b c).wrapInc STM.SCRUB_MOVES
      Completes (.nandScrub l t b worst total bad good) s l { v with nand := { v.nand with passed := c :: v.nand.passed } }) ∧
    (n.scrubBlockDue b = false → Completes (.nandScrub l t b worst total bad good) s l n)) ∧
  (∀ s l t lo hi c, let n := (s.lane l).atTick t
    n.domOn 4 = true →
    n.on STM.STATUS_NAND_MOUNTED = true → n.nand.lowest n.nand.used = some lo → n.nand.highest n.nand.used = some hi →
    n.nand.highest n.freeBlocks = some c →
    (n.pageDue = false → n.nand.wear lo + n.rd STM.NAND_CFG_WL_DELTA < n.nand.wear hi →
      Completes (.staticWearLevel l t) s l ((n.moveBlock lo c).wrapInc STM.SCRUB_MOVES)) ∧
    (n.pageDue = true ∨ n.nand.wear hi ≤ n.nand.wear lo + n.rd STM.NAND_CFG_WL_DELTA → Completes (.staticWearLevel l t) s l n)) ∧
  (∀ s l t, let n := (s.lane l).atTick t
    n.domOn 4 = false →
    (∀ op, Completes (.xspiOperationComplete l t op) s l n) ∧ (∀ cs r, Completes (.xspiTimeout l t cs r) s l n) ∧
    (∀ cap nor dev, Completes (.storageMount l t cap nor dev) s l n) ∧ Completes (.recorderPageProgram l t) s l n ∧
    Completes (.staticWearLevel l t) s l n)

/-- SUPPLY_MONITOR_RESET of a rail monitored in the power state, low for 2 us (2,000 ns) or more: VBAT (rail 3) resets the lane with code 1,
another rail with code 2 and its GOOD bit clear; a shorter dip is counted; of a rail that is not monitored nothing happens. VBAT_POWER_ON
resets with code 1. RESET_N low for 1 us (1,000 ns) or more resets with code 3, GOOD kept; a shorter pulse does nothing.
CRYSTAL_OR_PLL_FAULT shows the deviation; in RUN or DOZE a loss of PLL lock with the crystal within 50 ppm raises 0xD9, is counted, clears
PLL_LOCK and resets with code 5, the domains ON; a deviation beyond 50 ppm also clears XTAL_OK; without either, and in BANK or EMBER, it
only shows the deviation. SUPPLY_RISING_THRESHOLD of a rail 0 to 2 sets its GOOD bit; during a wake from EMBER rail 0 also enables the
supplies of the pins, and the last rail restarts the lane with code 4. BOOT_SEQUENCE of a lane in BOOT that has booted nothing: with an
unreadable OTP it raises 0xE4, with no directory it shows boot result 4 and raises 0xE0, and either boot has failed; else the first slot of
the boot order that passes boots. A lane that has booted, whose boot has failed, or that is not in BOOT, boots nothing. LANE_READY of a
booted lane in BOOT that passed its tests, is not too hot and has both storage devices: an enrolment that was cut short being finished
first: with no configuration it becomes ready; with one the checks' results are shown, and it becomes ready only if none failed; if it is
too hot, it stays. Where the spec leaves a point of this open, it is the model's choice: notes/assumptions/56.md. -/
def Obligations.ResetAndBootComplete : Prop :=
  (∀ s l t rail ns, let n := (s.lane l).atTick t; let good := n.rd PMU.SUPPLY_GOOD
    (monitored_ n.pmu.power rail = false → Completes (.supplyMonitorReset l t rail ns) s l n) ∧
    (monitored_ n.pmu.power rail = true → ns < 2000 → Completes (.supplyMonitorReset l t rail ns) s l (n.bump PMU.SUPPLY_DIPS)) ∧
    (monitored_ n.pmu.power rail = true → 2000 ≤ ns → rail = 3 → Completes (.supplyMonitorReset l t rail ns) s l (n.laneReset 1)) ∧
    (monitored_ n.pmu.power rail = true → 2000 ≤ ns → rail ≠ 3 → Completes (.supplyMonitorReset l t rail ns) s l
      ((n.laneReset 2).wr PMU.SUPPLY_GOOD (good - good / 2 ^ rail % 2 * 2 ^ rail)))) ∧
  (∀ s l t ns, let n := (s.lane l).atTick t
    Completes (.vbatPowerOn l t) s l (n.laneReset 1) ∧
    (1000 ≤ ns → Completes (.resetN l t ns) s l ((n.laneReset 3).wr PMU.SUPPLY_GOOD (n.rd PMU.SUPPLY_GOOD))) ∧
    (ns < 1000 → Completes (.resetN l t ns) s l n)) ∧
  (∀ s l t lost d, let n := (s.lane l).atTick t; let n1 := n.wrS CRU.CLK_MON_DEV (clampInt (-128) 127 d)
    let n2 := ((n1.fault 0xD9).wrapInc CRU.CLK_MON_FAULTS).flag CRU.STATUS_PLL_LOCK false
    (n.pmu.power = .run ∨ n.pmu.power = .doze →
      (iabs d ≤ 50 → Completes (.crystalOrPllFault l t false (some d)) s l n1) ∧
      (iabs d ≤ 50 → Completes (.crystalOrPllFault l t true (some d)) s l (n2.laneReset 5).allOn) ∧
      (50 < iabs d → Completes (.crystalOrPllFault l t lost (some d)) s l ((n2.flag CRU.STATUS_XTAL_OK false).laneReset 5).allOn)) ∧
    (n.pmu.power = .bank ∨ n.pmu.power = .ember → Completes (.crystalOrPllFault l t lost (some d)) s l n1)) ∧
  (∀ s l t rail, let n := (s.lane l).atTick t; let l0 := n.wr PMU.SUPPLY_GOOD (n.rd PMU.SUPPLY_GOOD ||| 2 ^ rail)
    let l1 := if rail = 0 then l0.onPmu fun p => { p with enIo := true } else l0
    (rail < 3 → n.pmu.waking = false → Completes (.supplyRisingThreshold l t rail) s l l0) ∧
    (rail < 3 → n.pmu.waking = true → l1.rd PMU.SUPPLY_GOOD ≠ 7 → Completes (.supplyRisingThreshold l t rail) s l l1) ∧
    (rail < 3 → n.pmu.waking = true → l1.rd PMU.SUPPLY_GOOD = 7 →
      Completes (.supplyRisingThreshold l t rail) s l ((l1.laneReset 4).wr PMU.SUPPLY_GOOD 7))) ∧
  (∀ s l t ok, let n := (s.lane l).atTick t
    let l0 := ((n.flag CRU.STATUS_XTAL_OK true).flag CRU.STATUS_PLL_LOCK true).flag CRU.STATUS_SERDES_LOCK true
    let l1 := if n.rd CRU.RESET_CAUSE_LAST ≤ 4 then l0.clearSram.bootLine 1 else l0
    (n.own = .boot → n.boot.loaded = false → n.boot.quick = false → n.boot.failed = false →
      Completes (.bootSequence l t false) s l (l1.fault 0xE4).bootFails ∧
      (l1.norDir = none → Completes (.bootSequence l t true) s l ((l1.wr SEC.STATUS_BOOT_RESULT 4).fault 0xE0).bootFails) ∧
      (∀ d k l2 d2, l1.norDir = some d → n.rd CRU.RESET_CAUSE_LAST ≠ 6 →
        ((l1.bootLine 2).bootLine 3).trySlots (bootOrder d false) = (l2, some k) → l2.norDir = some d2 →
        Completes (.bootSequence l t true) s l (l2.bootSlot d2 k)) ∧
      (∀ d k l2 d2, l1.norDir = some d → n.rd CRU.RESET_CAUSE_LAST = 6 →
        (l1.bootLine 3).trySlots (bootOrder d true) = (l2, some k) → l2.norDir = some d2 →
        Completes (.bootSequence l t true) s l (l2.bootSlot d2 k))) ∧
    (n.own ≠ .boot ∨ n.boot.loaded = true ∨ n.boot.quick = true ∨ n.boot.failed = true → Completes (.bootSequence l t ok) s l n)) ∧
  (∀ s l t, let n := (s.lane l).atTick t; let m := n.finishEnrol
    let rs := m.activeCfg.checks m.mem false (decide (m.otp.lifecycle = 3)) (m.rd WCK.CFG_MODE_REQ)
    n.own = .boot → n.boot.loaded = true ∨ n.boot.quick = true → n.powerUpPassed = true →
    n.on STM.STATUS_NOR_MOUNTED = true → n.on STM.STATUS_NAND_MOUNTED = true →
    (n.tooHot = true → Completes (.laneReady l t) s l n) ∧
    (n.tooHot = false → m.hasConfig = false → Completes (.laneReady l t) s l m.becomeReady) ∧
    (n.tooHot = false → m.hasConfig = true → (firstBlock rs).isNone = true → Completes (.laneReady l t) s l (m.showLoad rs).becomeReady) ∧
    (n.tooHot = false → m.hasConfig = true → (firstBlock rs).isNone = false → Completes (.laneReady l t) s l (m.showLoad rs)))

/-- In RUN. DOMAIN_VOTE_WITHDRAWN of a domain 1 to 5 that is ON without a vote left: it quiesces, step 1 of a drop. DOMAIN_VOTE_ARRIVES: a
drop in progress takes note of the vote; a domain off or gated comes back. HOST_VOTE_WRITE, RTC_SET and FAT_DISABLE_WRITE, permitted, not of
the host: the vote register, the clock, the access timer's register are written by their rule. ENTER_DOZE, ENTER_BANK and ENTER_EMBER by the
main core request the entry, by another initiator that reaches the register they raise 0x07. ENTRY_DRAIN_WAIT_END once the draining voters
are gone or 50 ms (30,000,000 ticks) have passed: with a vote still held the entry is refused naming it, else it starts (DOZE, or a silent
lane) or is accepted, BANK and EMBER ending the key-off requests. ENTRY_STEP_COMPLETE of the lane's entry, its quiesce not overrun: before
step 4 it moves on, or abandons for a latched wake; of a domain's drop it moves on, or abandons it for a vote. QUIESCE_TIMEOUT of a step 1
over 4,096 ticks old abandons the entry or drop. KEY_ON, KEY_OFF and PWR_WAKE longer than their filter show the pin, and with RTC_ALARM at
its time, PCIE_PERST released and DEBUG_ATTACH wake the lane, without an entry, from a state that the enabled source wakes; a pulse within
the filter does nothing. KEYOFF_DELAY_EXPIRY makes the key-off test due or, without tests, requests the entry; KEYOFF_ENTRY_RETRY requests
again after 100 ms. FABRIC_ACCESS_TIMEOUT records the oldest stalled access, 2 x CYCLES ticks old, raises 0xD8 and ends it in error.
TEMPERATURE_READING, when due, is shown and crosses its limits; else it is not taken. Where the spec leaves a point of this open, it is the
model's choice: notes/assumptions/58.md, 82.md. -/
def Obligations.PowerCommandsComplete : Prop :=
  (∀ s l t d, let n := (s.lane l).atTick t
    1 ≤ d → d ≤ 5 → n.pmu.power = .run → n.entryTarget = 0 → n.domState d = 0 →
    ((n.votersOf d).isEmpty = true → Completes (.domainVoteWithdrawn l t d) s l
      (((n.onPmu fun p => { p with dropAt := Sparse.set 0 p.dropAt d n.clk.now }).setDrop d 1 false).setDom d 3)) ∧
    ((n.votersOf d).isEmpty = false → Completes (.domainVoteWithdrawn l t d) s l n)) ∧
  (∀ s l t d, let n := (s.lane l).atTick t
    d ≤ 6 → n.pmu.power = .run → (n.votersOf d).isEmpty = false →
    (n.dropStep d ≠ 0 → Completes (.domainVoteArrives l t d) s l (n.setDrop d (n.dropStep d) true).resumeStalled) ∧
    (n.dropStep d = 0 → n.domState d = 1 ∨ n.domState d = 2 → Completes (.domainVoteArrives l t d) s l (n.domBack d).resumeStalled)) ∧
  (∀ s l t v ini k r, let n := (s.lane l).atTick t
    ini ≠ 0xB →
    (n.regAccess ini (privAddr PMU.HOST_VOTE_DOM.key) true = .ok k r → n.domOn (blockDomain (k / 0x10000)) = true →
      Completes (.hostVoteWrite l t ini v) s l (n.regEffect ini (privAddr PMU.HOST_VOTE_DOM.key) k r v)) ∧
    (n.regAccess ini (privAddr PMU.RTC_SET_SECONDS.key) true = .ok PMU.RTC_SET_SECONDS.key r → n.domOn (blockDomain (PMU.RTC_SET_SECONDS.key / 0x10000)) = true →
      Completes (.rtcSet l t ini v) s l
        (((n.onPmu fun p => { p with rtc := v.toNat * 32768, rtcAt := n.clk.now }).flag PMU.STATUS_RTC_VALID true).busDone 0)) ∧
    (n.regAccess ini (privAddr CRU.FAT_CFG_CYCLES.key) true = .ok CRU.FAT_CFG_CYCLES.key r → n.domOn (blockDomain (CRU.FAT_CFG_CYCLES.key / 0x10000)) = true →
      Completes (.fatDisableWrite l t ini v) s l (n.fatWrite ini (privAddr CRU.FAT_CFG_CYCLES.key) CRU.FAT_CFG_CYCLES.key r v))) ∧
  (∀ s l t ini r, let n := (s.lane l).atTick t; let no := (n.fault 0x07 (accessInfo (privAddr PMU.CTRL_ENTER.key) ini)).busDone 0
    n.regAccess ini (privAddr PMU.CTRL_ENTER.key) true = .ok PMU.CTRL_ENTER.key r → n.domOn (blockDomain (PMU.CTRL_ENTER.key / 0x10000)) = true →
    (ini = 0 → Completes (.enterDoze l t ini) s l ((n.requestEntry 1).busDone 0) ∧
      Completes (.enterBank l t ini) s l ((n.requestEntry 2).busDone 0) ∧ Completes (.enterEmber l t ini) s l ((n.requestEntry 3).busDone 0)) ∧
    (ini ≠ 0 → Completes (.enterDoze l t ini) s l no ∧ Completes (.enterBank l t ini) s l no ∧ Completes (.enterEmber l t ini) s l no)) ∧
  (∀ s l t target t0, let n := (s.lane l).atTick t
    n.pmu.request = some (target, t0) →
    (n.draining target = true → n.clk.now < t0 + 30000000 → Completes (.entryDrainWaitEnd l t) s l n.resumeStalled) ∧
    (n.draining target = false ∨ t0 + 30000000 ≤ n.clk.now →
      (∀ d v, n.stillHeld target = some (d, v) → Completes (.entryDrainWaitEnd l t) s l (n.refuseEntry target 0 d v).resumeStalled) ∧
      (n.stillHeld target = none → target = 1 → Completes (.entryDrainWaitEnd l t) s l (n.startEntry target).resumeStalled) ∧
      (n.stillHeld target = none → target ≠ 1 → let m := n.onPmu fun p => { p with keyReq := none, keyTest := false }
        (n.sec.silent = true → Completes (.entryDrainWaitEnd l t) s l (m.startEntry target).resumeStalled) ∧
        (n.sec.silent = false → Completes (.entryDrainWaitEnd l t) s l
          (m.onPmu fun p => { p with request := none, accepted := some target, shown := false }).resumeStalled)))) ∧
  (∀ s l t e, let n := (s.lane l).atTick t
    n.pmu.entry = some e →
    (n.overran e.step e.since = false → e.step < 4 → e.wake = none → Completes (.entryStepComplete l t 7) s l
      (n.onPmu fun p => { p with entry := some { e with step := e.step + 1 } }).resumeStalled) ∧
    (∀ w, n.overran e.step e.since = false → e.step < 4 → e.wake = some w →
      Completes (.entryStepComplete l t 7) s l (n.abandonEntry e w).resumeStalled) ∧
    (e.step = 1 → e.since + 4096 < n.clk.now → Completes (.quiesceTimeout l t 7) s l (n.abandonEntry e 0xF).resumeStalled) ∧
    (n.overran e.step e.since = false → Completes (.quiesceTimeout l t 7) s l n.resumeStalled)) ∧
  (∀ s l t d, let n := (s.lane l).atTick t
    d < 7 → n.dropStep d ≠ 0 → n.dropStep d < 4 →
    (n.overran (n.dropStep d) (Sparse.get 0 n.pmu.dropAt d) = false →
      (n.dropVoted d = false → Completes (.entryStepComplete l t d) s l (n.setDrop d (n.dropStep d + 1) false).resumeStalled) ∧
      (n.dropVoted d = true → Completes (.entryStepComplete l t d) s l (n.abandonDrop d 8).resumeStalled)) ∧
    (n.dropStep d = 1 → Sparse.get 0 n.pmu.dropAt d + 4096 < n.clk.now →
      Completes (.quiesceTimeout l t d) s l (n.abandonDrop d 0xF).resumeStalled)) ∧
  (∀ s l t ms, let n := (s.lane l).atTick t; let hit := fun k => (n.rd PMU.WAKE_CFG_EN).testBit (k - 1) = true ∧ wakes n.pmu.power k = true
    (n.pmu.entry = none →
      (hit 1 → n.filtered PMU.WAKE_CFG_KEY_DEB ms = true → n.pmu.key = false → Completes (.keyOn l ⟨t, ms⟩) s l
        ((n.onPmu fun p => { p with key := true, keyOffAt := none, keyTest := false, keyReq := none }).wakeUp 1).resumeStalled) ∧
      (hit 2 → n.filtered PMU.WAKE_CFG_KEY_DEB ms = true → n.pmu.key = true → Completes (.keyOff l ⟨t, ms⟩) s l
        ((n.onPmu fun p => { p with key := false, keyOffAt := some n.clk.now }).wakeUp 2).resumeStalled) ∧
      (hit 3 → n.word PMU.RTC_ALARM_SECONDS.key ≠ 0 → (n.word PMU.RTC_ALARM_SECONDS.key).toNat ≤ n.rtcNow / 32768 →
        Completes (.rtcAlarm l t) s l (n.wakeUp 3).resumeStalled) ∧
      (hit 4 → n.filtered PMU.WAKE_CFG_WAKE_FILT ms = true → Completes (.pwrWake l t ⟨ms, n.on PMU.WAKE_CFG_WAKE_POL⟩) s l
        ((n.onPmu fun p => { p with wakePin := n.on PMU.WAKE_CFG_WAKE_POL }).wakeUp 4).resumeStalled) ∧
      (hit 5 → Completes (.pciePerst l t false) s l (n.wakeUp 5).resumeStalled) ∧
      (hit 7 → Completes (.debugAttach l t) s l ((n.flag DBG.STATUS_ATTACHED true).wakeUp 7).resumeStalled)) ∧
    (n.filtered PMU.WAKE_CFG_KEY_DEB ms = false → Completes (.keyOn l ⟨t, ms⟩) s l n ∧ Completes (.keyOff l ⟨t, ms⟩) s l n) ∧
    (∀ high, n.filtered PMU.WAKE_CFG_WAKE_FILT ms = false → Completes (.pwrWake l t ⟨ms, high⟩) s l n)) ∧
  (∀ s l t k, let n := (s.lane l).atTick t
    n.pmu.key = false →
    (n.pmu.keyOffAt = some k → n.keyoffState ≠ 0 → k + 600000 * n.rd PMU.KEYOFF_DELAY ≤ n.clk.now → n.pmu.keyTest = false → n.pmu.keyReq = none →
      (n.otp.selfTest = true → Completes (.keyoffDelayExpiry l t) s l (n.onPmu fun p => { p with keyTest := true })) ∧
      (n.otp.selfTest = false → Completes (.keyoffDelayExpiry l t) s l n.keyoffRequest)) ∧
    (n.pmu.keyReq = some k → k + 60000000 ≤ n.clk.now → Completes (.keyoffEntryRetry l t) s l n.keyoffRequest)) ∧
  (∀ s l t a rest, let n := (s.lane l).atTick t
    let v := (((((n.onPmu fun p => { p with stalled := rest }).bump CRU.FAT_STATUS_COUNT).wr CRU.FAT_STATUS_INITIATOR a.ini).setWord
      CRU.FAT_ADDR_ADDR.key a.addr).fault 0xD8 (accessInfo a.addr a.ini)).busError
    n.pmu.stalled = a :: rest → n.on CRU.STATUS_FAT_OFF = false →
    (a.since + 2 * n.rd CRU.FAT_CFG_CYCLES ≤ n.clk.now →
      (a.write = none → Completes (.fabricAccessTimeout l t) s l v) ∧
      (a.write ≠ none → Completes (.fabricAccessTimeout l t) s l (v.logAbort a.ini a.addr))) ∧
    (n.clk.now < a.since + 2 * n.rd CRU.FAT_CFG_CYCLES → Completes (.fabricAccessTimeout l t) s l n)) ∧
  (∀ s l t x y, let n := (s.lane l).atTick t
    (n.tempDue = true → Completes (.temperatureReading l t x y) s l
      (((((n.onPmu fun p => { p with tempAt := some n.clk.now }).wrS PMU.TEMP_LANE (clampInt (-128) 127 x)).wrS PMU.TEMP_DRIVE
        (clampInt (-128) 127 y)).heat 0xDA (n.rd PMU.TEMP_CFG_HIGH) (imax x y)).heat 0xDB (n.rd PMU.TEMP_CFG_CRIT) (imax x y))) ∧
    (n.tempDue = false → Completes (.temperatureReading l t x y) s l n))

/-- For every lane with an entry e of the lane at step 4 or later into DOZE, BANK or EMBER (target 1, 2, 3). (1) An enabled wake source that
wakes that state, arriving while none is latched, is latched in the entry, and nothing else of the lane changes; the command KEY_ON, the key
being off and on again for the length of its filter, does so, and shows the key on. (2) When the step then ends, ENTRY_STEP_COMPLETE answers
the lane with the entry complete and then woken by the latched source; the entry is no more, and the completed entry stood in the power
state of its target. Without a latched event the lane stays in that power state. -/
def Obligations.LateWakeEventIsLatched : Prop :=
  (∀ (l : Lane) (e : Entry) (src : Nat),
    l.pmu.entry = some e → 4 ≤ e.step → e.wake = none → (l.rd PMU.WAKE_CFG_EN).testBit (src - 1) = true → wakes (targetPower e.target) src = true →
    l.wakeEvent src = { l with pmu := { l.pmu with entry := some { e with wake := some src } } }) ∧
  (∀ s l t ms e, let n := (s.lane l).atTick t
    n.filtered PMU.WAKE_CFG_KEY_DEB ms = true → n.pmu.key = false → n.pmu.entry = some e → 4 ≤ e.step → e.wake = none → (n.rd PMU.WAKE_CFG_EN).testBit 0 = true → 1 ≤ e.target → e.target ≤ 3 →
    Completes (.keyOn l ⟨t, ms⟩) s l
      ({ n with pmu := { n.pmu with key := true, keyOffAt := none, keyTest := false, keyReq := none
                                    entry := some { e with wake := some 1 } } } : Lane).resumeStalled) ∧
  (∀ s l t e, let n := (s.lane l).atTick t
    n.pmu.entry = some e → 4 ≤ e.step → 1 ≤ e.target → e.target ≤ 3 →
    (n.completeEntry e).pmu.entry = none ∧ (n.completeEntry e).pmu.power = targetPower e.target ∧
    (∀ w, e.wake = some w → Completes (.entryStepComplete l t 7) s l ((n.completeEntry e).wakeUp w).resumeStalled) ∧
    (e.wake = none → Completes (.entryStepComplete l t 7) s l (n.completeEntry e).resumeStalled))

/-- DEBUG_SIGNATURE_WRITE outside MAKER and a lockout: a verified response for level 1 or 2 of a lane not in lifecycle 0 renews the
challenge, asks for the level and submits it for agreement by a HOST_CMD message; one that does not verify renews the challenge and counts
as failed; in MAKER or a lockout nothing happens. DEBUG_GRANT_AGREED of an agreed grant of the level asked opens it. DEBUG_LOCKOUT_END ends
a lockout ten minutes old, and not a younger one. PROBE_DETACH ends the session. LBIST_POWER_UP_START at its time (52 ms + 18 ms x lane code
after release) of a lane in BOOT with tests and its firmware loaded, not in a quick boot, not after cause 8, untested, begins occasion 1
with partition 7; at another time nothing. KEYOFF_TEST_START at its CCN slot, the test due, the key off, the mode SNUFFED, no test running:
occasion 2 with partition 6, after a shutdown notice. LBIST_PARTITION_COMPLETE of the running partition: a matching signature passes it and
the next follows (partitions 0 to 5 of occasion 1), or, the key being back in occasion 2, the rest is abandoned; a differing one of occasion
1 fails the test (partFailed); with no test running nothing happens. BYPASS and IDCODE select their registers, SAMPLE_PRELOAD and EXTEST
theirs in MAKER and BYPASS elsewhere. GDP_REQUEST selects the probe; within the level it is served, beyond it refused with 0x07.
TRACE_DATA_READ, permitted, of a stopped data trace returns the next word and moves on. STATISTICS_BOUNDARY in a cycle that is a multiple of
PERIOD (not 0), not yet latched, latches the statistics of the cycle's start; in another cycle nothing. Where the spec leaves a point of
this open, it is the model's choice: notes/assumptions/62.md, 63.md. -/
def Obligations.DebugAndTestComplete : Prop :=
  (∀ s l t level sigOk, let n := (s.lane l).atTick t; let img := grantImage l level
    (n.otp.lifecycle = 1 ∨ n.sec.blocked.isSome = true → Completes (.debugSignatureWrite l t level sigOk) s l n) ∧
    (n.otp.lifecycle ≠ 1 → n.sec.blocked = none →
    (sigOk = true → n.otp.lifecycle ≠ 0 → level = 1 ∨ level = 2 → Completes (.debugSignatureWrite l t level sigOk) s l
      (({ n.newChallenge with sec := { n.newChallenge.sec with ask := some level }
                              hif := { n.newChallenge.hif with authed := n.newChallenge.hif.authed ++ [{ img := img, since := n.newChallenge.clk.now }] } }
        : Lane).sendCtl 3 (.hostCmd img))) ∧
    (sigOk = false → Completes (.debugSignatureWrite l t level sigOk) s l n.newChallenge.debugFails))) ∧
  (∀ s l t k, let n := (s.lane l).atTick t; let img := grantImage n.id k
    let l1 := (n.take img).onHif fun h => { h with authed := h.authed.filter (fun p => decide (p.img ≠ img))
                                                   known := h.known.filter (fun i => decide (i ≠ img)) }
    n.agreedNow img = true → n.sec.ask = some k →
    Completes (.debugGrantAgreed l t img) s l { l1 with sec := { l1.sec with level := k, ask := none } }) ∧
  (∀ s l t b, let n := (s.lane l).atTick t
    (n.sec.blocked = some b → b + tenMinutes ≤ n.clk.now →
      Completes (.debugLockoutEnd l t) s l { n with sec := { n.sec with blocked := none, fails := [] } }) ∧
    (n.sec.blocked = none ∨ (n.sec.blocked = some b ∧ n.clk.now < b + tenMinutes) → Completes (.debugLockoutEnd l t) s l n) ∧
    Completes (.probeDetach l t) s l { n.flag DBG.STATUS_ATTACHED false with sec := { n.sec with level := 0, ask := none } }) ∧
  (∀ s l t, let n := (s.lane l).atTick t
    n.own = .boot → n.boot.loaded = true → n.boot.quick = false → n.otp.selfTest = true → n.rd CRU.RESET_CAUSE_LAST ≠ 8 → n.rd BST.STATUS_OCCASION = 0 →
    (n.boot.released + 600000 * (52 + 18 * n.id.code) = n.clk.now → Completes (.lbistPowerUpStart l t) s l (n.beginTest 1 7)) ∧
    (n.boot.released + 600000 * (52 + 18 * n.id.code) ≠ n.clk.now → Completes (.lbistPowerUpStart l t) s l n)) ∧
  (∀ s l, let n := (s.lane l).atTick 0
    n.pmu.keyTest = true → n.pmu.key = false → n.xla.mode = .snuffed → n.ccn.toNat % 8192 = 2048 * n.id.code → n.on BST.STATUS_RUNNING = false →
    Completes (.keyoffTestStart l) s l (((n.onPmu fun p => { p with keyTest := false }).shutdownNotice).beginTest 2 6)) ∧
  (∀ s l, let n := (s.lane l).atTick 0
    n.pmu.keyTest = false ∨ n.ccn.toNat % 8192 ≠ 2048 * n.id.code → Completes (.keyoffTestStart l) s l n) ∧
  (∀ s l t sig exp, let n := (s.lane l).atTick t
    n.on BST.STATUS_RUNNING = false → Completes (.lbistPartitionComplete l t sig exp) s l n) ∧
  (∀ s l t sig exp p, let n := (s.lane l).atTick t
    let l1 := (n.wr BST.STATUS_TESTED (n.rd BST.STATUS_TESTED ||| 2 ^ p)).wr BST.STATUS_PASSED (n.rd BST.STATUS_PASSED ||| 2 ^ p)
    n.on BST.STATUS_RUNNING = true → n.rd BST.STATUS_PART = p →
    (n.rd BST.STATUS_OCCASION = 1 → sig = exp → p < 6 → Completes (.lbistPartitionComplete l t sig exp) s l (l1.wr BST.STATUS_PART (p + 1))) ∧
    (n.rd BST.STATUS_OCCASION = 2 → sig = exp → p < 6 → n.pmu.key = true → Completes (.lbistPartitionComplete l t sig exp) s l
      (((l1.flag BST.STATUS_RUNNING false).flag BST.STATUS_ABANDONED true).onXla fun x => { x with testOver := true })) ∧
    (n.rd BST.STATUS_OCCASION = 1 → sig ≠ exp → Completes (.lbistPartitionComplete l t sig exp) s l (n.partFailed 1 p sig exp))) ∧
  (∀ s l t, let n := (s.lane l).atTick t
    Completes (.bypass l t) s l { n with tap := .bypass } ∧
    Completes (.idcode l t) s l (({ n with tap := .idcode } : Lane).emit (.tdo idcode)) ∧
    (n.otp.lifecycle = 1 → Completes (.samplePreload l t) s l { n with tap := .sample } ∧ Completes (.extest l t) s l { n with tap := .extest }) ∧
    (n.otp.lifecycle ≠ 1 → Completes (.samplePreload l t) s l { n with tap := .bypass } ∧ Completes (.extest l t) s l { n with tap := .bypass })) ∧
  (∀ s l t req, let n : Lane := { (s.lane l).atTick t with tap := .gdp }
    (gdpNeeds req ≤ n.dbgLevel → Completes (.gdpRequest l t req) s l (n.gdpServe req)) ∧
    (n.dbgLevel < gdpNeeds req → Completes (.gdpRequest l t req) s l ((n.fault 0x07 (accessInfo (gdpAddr req) 0xD)).emit (.probe false)))) ∧
  (∀ s l t ini r, let n := (s.lane l).atTick t; let ws := n.trc.recs.flatten
    ini ≠ 0xB → n.regAccess ini (privAddr DBG.TRACE_DATA_WORD.key) false = .ok DBG.TRACE_DATA_WORD.key r →
    n.domOn (blockDomain (DBG.TRACE_DATA_WORD.key / 0x10000)) = true → n.on DBG.TRACE_CFG_FLOW = false →
    Completes (.traceDataRead l t ini) s l
      (({ n with trc := { n.trc with rd := min (n.trc.rd + 1) ws.length } } : Lane).readDone ini (BitVec.ofNat 64 (ws.getD n.trc.rd 0)))) ∧
  (∀ s l t, let n := (s.lane l).atTick t
    (n.rd STA.CFG_PERIOD = 0 ∨ n.ccn.toNat % n.rd STA.CFG_PERIOD ≠ 0 ∨ n.clk.base = n.pcl.statSince → Completes (.statisticsBoundary l t) s l n) ∧
    (n.rd STA.CFG_PERIOD ≠ 0 → n.ccn.toNat % n.rd STA.CFG_PERIOD = 0 → n.clk.base ≠ n.pcl.statSince → Completes (.statisticsBoundary l t) s l ({ n with clk := { n.clk with now := n.clk.base } } : Lane).statsBoundary))

/-- For every initiator and address, aligned for the host. REGISTER_WRITE that reaches a register: with its domain not ON the access waits,
stalled since now; with it ON the register's own rule takes the value (regEffect; a host write that ends in a bus error is noted). For a
register without an action of its own each field takes the value of its access code, RWL fields keep theirs while the block is locked, and
then 0x07 is raised once; the write is answered. REGISTER_READ of a register other than the trace data: with its domain ON it returns the
register's word and clears its RC fields; with it not ON the access waits. A write or read that reaches no register ends in a bus error with
0x08, one of a register out of the initiator's reach with 0x07, or for Vigil where its port alone refuses it with 0xE3 (a host write being
noted as an abort). UNMAPPED_ACCESS of a register address without a register, and of 0x70000000 to 0x7FFFFFFF, ends in a bus error with
0x08; a write to the boot ROM (below 0x20000) or the NOR window in one with 0x07. BLOCK_LOCK_SET writes 1 to the LOCK register of a block,
and for GDC.LOCK, by GDC_LOCK_WRITE too, also copies GDC.SNUFF_CFG to the drive die. Where the spec leaves a point of this open, it is the
model's choice: notes/assumptions/16.md, 17.md. -/
def Obligations.RegisterAccessesComplete : Prop :=
  (∀ s l t ini addr v k r, let n := (s.lane l).atTick t
    ini ≠ 0xB ∨ addr.toNat % 4 = 0 → n.regAccess ini addr true = .ok k r →
    (n.domOn (blockDomain (k / 0x10000)) = false → Completes (.registerWrite l t ini addr v) s l
      { n with pmu := { n.pmu with stalled := n.pmu.stalled ++ [⟨ini, addr, some v, none, n.clk.now⟩] } }) ∧
    (n.domOn (blockDomain (k / 0x10000)) = true → Completes (.registerWrite l t ini addr v) s l ((n.regEffect ini addr k r v).logAbort ini addr)) ∧
    (n.domOn (blockDomain (k / 0x10000)) = true → k % 0x10000 ≠ 0xFC → k / 0x10000 ≠ 3 → k / 0x10000 ≠ 0x39 →
      k ∉ [PFB.ARM_INDEX.key, FCL.INJECT_GO.key, PMU.CTRL_ENTER.key, PMU.RTC_SET_SECONDS.key, CRU.FAT_CFG_CYCLES.key, DBG.TRACE_CFG_ENABLE.key, DBG.TRACE_CCN_CCN.key] →
      let l1 := n.setWord k (r.write k (n.locked k) (n.word k) v)
      (n.locked k = false ∨ r.rwl = 0 → Completes (.registerWrite l t ini addr v) s l (l1.busDone 0)) ∧
      (n.locked k = true → r.rwl ≠ 0 → Completes (.registerWrite l t ini addr v) s l ((l1.fault 0x07 (accessInfo addr ini)).busDone 0)))) ∧
  (∀ s l t ini addr k r, let n := (s.lane l).atTick t
    ini ≠ 0xB ∨ addr.toNat % 4 = 0 → n.regAccess ini addr false = .ok k r →
    (n.domOn (blockDomain (k / 0x10000)) = true → k ≠ DBG.TRACE_DATA_WORD.key →
      (r.rc = 0 → Completes (.registerRead l t ini addr) s l (n.readDone ini ((n.readWord k r).setWidth 64))) ∧
      (r.rc ≠ 0 → Completes (.registerRead l t ini addr) s l
        ((n.setWord k (n.word k &&& ~~~(BitVec.ofNat 32 r.rc))).readDone ini ((n.readWord k r).setWidth 64)))) ∧
    (n.domOn (blockDomain (k / 0x10000)) = false → Completes (.registerRead l t ini addr) s l
      { n with pmu := { n.pmu with stalled := n.pmu.stalled ++ [⟨ini, addr, none, none, n.clk.now⟩] } })) ∧
  (∀ s l t ini addr v w, let n := (s.lane l).atTick t
    ini ≠ 0xB ∨ addr.toNat % 4 = 0 →
    (n.regAccess ini addr true = .unmapped → Completes (.registerWrite l t ini addr v) s l
      (((n.fault 0x08 (accessInfo addr ini)).busError).logAbort ini addr)) ∧
    (n.regAccess ini addr true = .violation → Completes (.registerWrite l t ini addr v) s l
      (((n.fault 0x07 (accessInfo addr ini)).busError).logAbort ini addr)) ∧
    (n.regAccess ini addr false = .unmapped → Completes (.registerRead l t ini addr) s l ((n.fault 0x08 (accessInfo addr ini)).busError)) ∧
    (n.regAccess ini addr false = .violation → Completes (.registerRead l t ini addr) s l ((n.fault 0x07 (accessInfo addr ini)).busError)) ∧
    (inRegs addr.toNat = true → n.regAccess ini addr w = .unmapped →
      let m := (n.fault 0x08 (accessInfo addr ini)).busError
      Completes (.unmappedAccess l t ini addr w) s l (if w then m.logAbort ini addr else m)) ∧
    (n.regAccess ini addr true = .vigil → Completes (.registerWrite l t ini addr v) s l (((n.fault 0xE3).busError).logAbort ini addr)) ∧
    (n.regAccess ini addr false = .vigil → Completes (.registerRead l t ini addr) s l ((n.fault 0xE3).busError)) ∧
    (addr.toNat < 0x20000 ∨ 0x60000000 ≤ addr.toNat ∧ addr.toNat < 0x70000000 →
      Completes (.unmappedAccess l t ini addr true) s l ((n.fault 0x07 (accessInfo addr ini)).busError)) ∧
    (0x70000000 ≤ addr.toNat → addr.toNat < 0x80000000 →
      Completes (.unmappedAccess l t ini addr w) s l ((n.fault 0x08 (accessInfo addr ini)).busError))) ∧
  (∀ s l t ini blk r, let n := (s.lane l).atTick t; let k := blk * 0x10000 + 0xFC
    let l1 := n.setWord k (r.write k (n.locked k) (n.word k) 1)
    ini ≠ 0xB → blk < 256 → n.regAccess ini (privAddr k) true = .ok k r → n.domOn (blockDomain (k / 0x10000)) = true → r.rwl = 0 →
    (k ≠ GDC.LOCK_LOCK.key → Completes (.blockLockSet l t ini blk) s l (l1.busDone 0)) ∧
    (k = GDC.LOCK_LOCK.key → Completes (.blockLockSet l t ini blk) s l (l1.busDone 0).copySnuffCfg ∧
      Completes (.gdcLockWrite l t ini 1) s l (l1.busDone 0).copySnuffCfg))
end

