-- ==== Sys2Proof/Laws/Memory.lean ====
section
/-!
SUPPORT. Sparse maps and a lane's memories: a read after a write, and every memory operation keeps the canonical form.
-/
namespace Sys2Proof.Machine

open Sys2Proof

/-! ### Sparse maps -/

@[simp] theorem Sparse.get_del_self {α : Type} (m : Sparse α) (k : Nat) (x : α) : Sparse.get x (Sparse.del m k) k = x := by
  induction m with
  | nil => rfl
  | cons e t ih =>
    obtain ⟨k', v⟩ := e
    by_cases hk : k = k'
    · simp only [Sparse.del, hk, if_true]; subst hk; exact ih
    · simp only [Sparse.del, hk, if_false, Sparse.get]; exact ih

theorem Sparse.get_del_ne {α : Type} (m : Sparse α) (k j : Nat) (h : j ≠ k) (x : α) : Sparse.get x (Sparse.del m k) j = Sparse.get x m j := by
  induction m with
  | nil => rfl
  | cons e t ih =>
    obtain ⟨k', v⟩ := e
    by_cases hk : k = k'
    · subst hk; simp [Sparse.del, Sparse.get, h, ih]
    · simp only [Sparse.del, hk, if_false, Sparse.get, ih]

@[simp] theorem Sparse.get_put_self {α : Type} (m : Sparse α) (k : Nat) (v x : α) : Sparse.get x (Sparse.put m k v) k = v := by
  induction m with
  | nil => simp [Sparse.put, Sparse.get]
  | cons e t ih =>
    obtain ⟨k', v'⟩ := e
    simp only [Sparse.put]
    split
    · simp [Sparse.get]
    · split
      · simp [Sparse.get]
      · simp only [Sparse.get, ih]; split <;> [contradiction; rfl]

theorem Sparse.get_put_ne {α : Type} (m : Sparse α) (k j : Nat) (h : j ≠ k) (v x : α) : Sparse.get x (Sparse.put m k v) j = Sparse.get x m j := by
  induction m with
  | nil => simp [Sparse.put, Sparse.get, h]
  | cons e t ih =>
    obtain ⟨k', v'⟩ := e
    simp only [Sparse.put]
    split
    · simp [Sparse.get, h]
    · split
      · subst_vars; simp [Sparse.get, h]
      · simp only [Sparse.get, ih]

theorem Sparse.get_set_ne {α : Type} [DecidableEq α] (d : α) (m : Sparse α) (k j : Nat) (h : j ≠ k) (v x : α) :
    Sparse.get x (Sparse.set d m k v) j = Sparse.get x m j := by
  unfold Sparse.set; split
  · exact Sparse.get_del_ne m k j h x
  · exact Sparse.get_put_ne m k j h v x

@[simp] theorem Sparse.get_set_self {α : Type} [DecidableEq α] (d : α) (m : Sparse α) (k : Nat) (v : α) :
    Sparse.get d (Sparse.set d m k v) k = v := by
  unfold Sparse.set; split
  · subst_vars; exact Sparse.get_del_self m k _
  · exact Sparse.get_put_self m k v _

theorem Sparse.wfFrom_mono {α : Type} [DecidableEq α] (d : Nat → α) (m : Sparse α) (n j : Nat) (h : Sparse.wfFrom d n m = true) (hj : j ≤ n) :
    Sparse.wfFrom d j m = true := by
  cases m with
  | nil => rfl
  | cons e t =>
    obtain ⟨k, v⟩ := e
    simp only [Sparse.wfFrom, Bool.and_eq_true, decide_eq_true_eq] at h ⊢
    exact ⟨⟨by omega, h.1.2⟩, h.2⟩

theorem Sparse.wf_del {α : Type} [DecidableEq α] (d : Nat → α) (m : Sparse α) (k n : Nat) (h : Sparse.wfFrom d n m = true) :
    Sparse.wfFrom d n (Sparse.del m k) = true := by
  induction m generalizing n with
  | nil => rfl
  | cons e t ih =>
    obtain ⟨k', v⟩ := e
    simp only [Sparse.wfFrom, Bool.and_eq_true, decide_eq_true_eq] at h
    simp only [Sparse.del]; split
    · exact Sparse.wfFrom_mono d _ _ _ (ih _ h.2) (by omega)
    · simp only [Sparse.wfFrom, Bool.and_eq_true, decide_eq_true_eq]
      exact ⟨h.1, ih _ h.2⟩

theorem Sparse.wf_put {α : Type} [DecidableEq α] (d : Nat → α) (m : Sparse α) (k n : Nat) (v : α) (hv : v ≠ d k) (hn : n ≤ k)
    (h : Sparse.wfFrom d n m = true) : Sparse.wfFrom d n (Sparse.put m k v) = true := by
  induction m generalizing n with
  | nil => simp [Sparse.put, Sparse.wfFrom, hv, hn]
  | cons e t ih =>
    obtain ⟨k', v'⟩ := e
    simp only [Sparse.wfFrom, Bool.and_eq_true, decide_eq_true_eq] at h
    simp only [Sparse.put]; split
    · simp only [Sparse.wfFrom, Bool.and_eq_true, decide_eq_true_eq]
      exact ⟨⟨hn, hv⟩, ⟨by omega, h.1.2⟩, h.2⟩
    · split
      · subst_vars
        simp only [Sparse.wfFrom, Bool.and_eq_true, decide_eq_true_eq]
        exact ⟨⟨hn, hv⟩, h.2⟩
      · simp only [Sparse.wfFrom, Bool.and_eq_true, decide_eq_true_eq]
        exact ⟨h.1, ih _ (by omega) h.2⟩

theorem Sparse.wf_set {α : Type} [DecidableEq α] (d : Nat → α) (m : Sparse α) (k : Nat) (v : α) (h : Sparse.wf d m = true) :
    Sparse.wf d (Sparse.set (d k) m k v) = true := by
  unfold Sparse.set; split
  · exact Sparse.wf_del d m k 0 h
  · exact Sparse.wf_put d m k 0 v ‹_› (by omega) h

theorem Sparse.wf_keep {α : Type} [DecidableEq α] (d : Nat → α) (p : Nat → Bool) (m : Sparse α) (n : Nat) (h : Sparse.wfFrom d n m = true) :
    Sparse.wfFrom d n (Sparse.keep p m) = true := by
  induction m generalizing n with
  | nil => rfl
  | cons e t ih =>
    obtain ⟨k', v⟩ := e
    simp only [Sparse.wfFrom, Bool.and_eq_true, decide_eq_true_eq] at h
    have h2 := ih _ h.2
    simp only [Sparse.keep, List.filter] at h2 ⊢
    split
    · simp only [Sparse.wfFrom, Bool.and_eq_true, decide_eq_true_eq]; exact ⟨h.1, h2⟩
    · exact Sparse.wfFrom_mono d _ _ _ h2 (by omega)

/-! ### Memory -/

theorem Memory.reset_wf : ({} : Memory).wf = true := by decide

theorem Memory.wf_iff (m : Memory) : m.wf = true ↔
    Sparse.wf (fun _ => (0 : Byte)) m.sram = true ∧ Sparse.wf (fun _ => 0) m.sramErr = true ∧
    Sparse.wf (fun _ => (0 : Val)) m.table = true ∧ Sparse.wf (fun _ => 0) m.tableErr = true := by
  simp [Memory.wf, and_assoc]

theorem Memory.setByte_wf (m : Memory) (a : Nat) (b : Byte) (h : m.wf = true) : (m.setByte a b).wf = true := by
  rw [Memory.wf_iff] at h ⊢
  exact ⟨Sparse.wf_set (fun _ => (0 : Byte)) m.sram a b h.1, h.2⟩

theorem Memory.setErr_wf (m : Memory) (a e : Nat) (h : m.wf = true) : (m.setErr a e).wf = true := by
  rw [Memory.wf_iff] at h ⊢
  exact ⟨h.1, Sparse.wf_set (fun _ => 0) m.sramErr a e h.2.1, h.2.2⟩

theorem Memory.write_wf (m : Memory) (a v s n : Nat) (h : m.wf = true) : (m.write a v s n).wf = true := by
  induction n generalizing m a v s with
  | zero => exact h
  | succ n ih =>
    simp only [Memory.write]; apply ih; split
    · exact Memory.setByte_wf m a _ h
    · exact h

theorem Memory.setWord_wf (m : Memory) (a : Nat) (w : Word) (h : m.wf = true) : (m.setWord a w).wf = true :=
  Memory.write_wf m a _ _ _ h

theorem Memory.setTable_wf (m : Memory) (w : Nat) (v : Val) (h : m.wf = true) :
    ({ m with table := Sparse.set 0 m.table w v } : Memory).wf = true := by
  rw [Memory.wf_iff] at h ⊢
  exact ⟨h.1, h.2.1, Sparse.wf_set (fun _ => (0 : Val)) m.table w v h.2.2.1, h.2.2.2⟩

theorem Memory.setTableErr_wf (m : Memory) (w e : Nat) (h : m.wf = true) :
    ({ m with tableErr := Sparse.set 0 m.tableErr w e } : Memory).wf = true := by
  rw [Memory.wf_iff] at h ⊢
  exact ⟨h.1, h.2.1, h.2.2.1, Sparse.wf_set (fun _ => 0) m.tableErr w e h.2.2.2⟩

@[simp] theorem Memory.byte_setByte_self (m : Memory) (a : Nat) (b : Byte) : (m.setByte a b).byte a = b :=
  Sparse.get_set_self 0 m.sram a b

theorem Memory.byte_setByte_ne (m : Memory) (a c : Nat) (b : Byte) (h : c ≠ a) : (m.setByte a b).byte c = m.byte c :=
  Sparse.get_set_ne 0 m.sram a c h b 0

theorem Memory.byte_write_out (m : Memory) (a v s n c : Nat) (h : c < a ∨ a + n ≤ c) : (m.write a v s n).byte c = m.byte c := by
  induction n generalizing m a v s with
  | zero => rfl
  | succ n ih =>
    simp only [Memory.write]
    rw [ih _ _ _ _ (by omega)]
    split
    · exact Memory.byte_setByte_ne m a c _ (by omega)
    · rfl

@[simp] theorem Memory.setErr_byte (m : Memory) (wa e a : Nat) : (m.setErr wa e).byte a = m.byte a := rfl

theorem Memory.read_write (m : Memory) (a v n : Nat) : (m.write a v (2 ^ n - 1) n).read a n = v % 256 ^ n := by
  induction n generalizing m a v with
  | zero => simp [Memory.read, Nat.mod_one]
  | succ n ih =>
    have h1 : (2 ^ (n + 1) - 1) % 2 = 1 := by have := Nat.one_le_two_pow (n := n); omega
    have h2 : (2 ^ (n + 1) - 1) / 2 = 2 ^ n - 1 := by have := Nat.one_le_two_pow (n := n); omega
    simp only [Memory.read, Memory.write, h1, h2, if_true]
    rw [ih, Memory.byte_write_out _ _ _ _ _ _ (by omega), Memory.byte_setByte_self]
    rw [show 256 ^ (n + 1) = 256 * 256 ^ n from by rw [Nat.pow_succ, Nat.mul_comm], Nat.mod_mul]
    rfl

end Sys2Proof.Machine
end

