-- ==== Sys2Proof/Laws/State.lean ====
section
/-!
SUPPORT. What the updates of a state and of a lane leave as it was, field by field.
-/
namespace Sys2Proof.Machine

open Sys2Proof

/-! ### States -/

@[simp] theorem State.setLane_lane (s : State) (l : LaneId) (v : Lane) : (s.setLane l v).lane l = { v with id := l } := by
  cases l <;> rfl
theorem State.setLane_lane_ne (s : State) (l x : LaneId) (v : Lane) (h : x ≠ l) : (s.setLane l v).lane x = s.lane x := by
  cases l <;> cases x <;> first | rfl | exact absurd rfl h
@[simp] theorem State.setLane_pending (s : State) (l : LaneId) (v : Lane) : (s.setLane l v).pending = s.pending := by
  cases l <;> rfl
@[simp] theorem State.lane_pending (s : State) (q : List Instr) (x : LaneId) : ({ s with pending := q } : State).lane x = s.lane x := by
  cases x <;> rfl
theorem State.setLane_letters (s : State) (l x : LaneId) (v : Lane) (h : (s.lane x).id = x) : ((s.setLane l v).lane x).id = x := by
  cases l <;> cases x <;> first | rfl | exact h
@[simp] theorem State.reset_lane (x : LaneId) : State.reset.lane x = Lane.reset x := by cases x <;> rfl

/-! ### Lanes -/

@[simp] theorem Lane.atTick_id (l : Lane) (t : Nat) : (l.atTick t).id = l.id := rfl
@[simp] theorem Lane.atTick_regs (l : Lane) (t : Nat) : (l.atTick t).regs = l.regs := rfl
@[simp] theorem Lane.atTick_mem (l : Lane) (t : Nat) : (l.atTick t).mem = l.mem := rfl
@[simp] theorem Lane.atTick_bcn (l : Lane) (t : Nat) : (l.atTick t).bcn = l.bcn := rfl
@[simp] theorem Lane.atTick_xla (l : Lane) (t : Nat) : (l.atTick t).xla = l.xla := rfl
@[simp] theorem Lane.atTick_pcl (l : Lane) (t : Nat) : (l.atTick t).pcl = l.pcl := rfl
@[simp] theorem Lane.atTick_cen (l : Lane) (t : Nat) : (l.atTick t).cen = l.cen := rfl
@[simp] theorem Lane.atTick_fcl (l : Lane) (t : Nat) : (l.atTick t).fcl = l.fcl := rfl
@[simp] theorem Lane.atTick_cmu (l : Lane) (t : Nat) : (l.atTick t).cmu = l.cmu := rfl
@[simp] theorem Lane.atTick_afe (l : Lane) (t : Nat) : (l.atTick t).afe = l.afe := rfl
@[simp] theorem Lane.atTick_pfb (l : Lane) (t : Nat) : (l.atTick t).pfb = l.pfb := rfl
@[simp] theorem Lane.atTick_gdc (l : Lane) (t : Nat) : (l.atTick t).gdc = l.gdc := rfl
@[simp] theorem Lane.atTick_drive (l : Lane) (t : Nat) : (l.atTick t).drive = l.drive := rfl
@[simp] theorem Lane.atTick_sfu (l : Lane) (t : Nat) : (l.atTick t).sfu = l.sfu := rfl
@[simp] theorem Lane.atTick_wck (l : Lane) (t : Nat) : (l.atTick t).wck = l.wck := rfl
@[simp] theorem Lane.atTick_can (l : Lane) (t : Nat) : (l.atTick t).can = l.can := rfl
@[simp] theorem Lane.atTick_hif (l : Lane) (t : Nat) : (l.atTick t).hif = l.hif := rfl
@[simp] theorem Lane.atTick_mbx (l : Lane) (t : Nat) : (l.atTick t).mbx = l.mbx := rfl
@[simp] theorem Lane.atTick_stage (l : Lane) (t : Nat) : (l.atTick t).stage = l.stage := rfl
@[simp] theorem Lane.atTick_inMap (l : Lane) (t : Nat) : (l.atTick t).inMap = l.inMap := rfl
@[simp] theorem Lane.atTick_hostKeys (l : Lane) (t : Nat) : (l.atTick t).hostKeys = l.hostKeys := rfl
@[simp] theorem Lane.atTick_norCap (l : Lane) (t : Nat) : (l.atTick t).norCap = l.norCap := rfl
@[simp] theorem Lane.atTick_stm (l : Lane) (t : Nat) : (l.atTick t).stm = l.stm := rfl
@[simp] theorem Lane.atTick_nor (l : Lane) (t : Nat) : (l.atTick t).nor = l.nor := rfl
@[simp] theorem Lane.atTick_nand (l : Lane) (t : Nat) : (l.atTick t).nand = l.nand := rfl
@[simp] theorem Lane.atTick_pmu (l : Lane) (t : Nat) : (l.atTick t).pmu = l.pmu := rfl
@[simp] theorem Lane.atTick_otp (l : Lane) (t : Nat) : (l.atTick t).otp = l.otp := rfl
@[simp] theorem Lane.atTick_boot (l : Lane) (t : Nat) : (l.atTick t).boot = l.boot := rfl
@[simp] theorem Lane.atTick_sec (l : Lane) (t : Nat) : (l.atTick t).sec = l.sec := rfl
@[simp] theorem Lane.atTick_trc (l : Lane) (t : Nat) : (l.atTick t).trc = l.trc := rfl
@[simp] theorem Lane.atTick_tap (l : Lane) (t : Nat) : (l.atTick t).tap = l.tap := rfl
@[simp] theorem Lane.atTick_staPartial (l : Lane) (t : Nat) : (l.atTick t).staPartial = l.staPartial := rfl
@[simp] theorem Lane.atTick_bus (l : Lane) (t : Nat) : (l.atTick t).bus = l.bus := rfl
@[simp] theorem Lane.atTick_free (l : Lane) (t : Nat) : (l.atTick t).free = l.free := rfl
@[simp] theorem Lane.atTick_out (l : Lane) (t : Nat) : (l.atTick t).out = l.out := rfl

@[simp] theorem Lane.emit_id (l : Lane) (e : Emit) : (l.emit e).id = l.id := rfl
@[simp] theorem Lane.emit_regs (l : Lane) (e : Emit) : (l.emit e).regs = l.regs := rfl
@[simp] theorem Lane.emit_mem (l : Lane) (e : Emit) : (l.emit e).mem = l.mem := rfl
@[simp] theorem Lane.emit_clk (l : Lane) (e : Emit) : (l.emit e).clk = l.clk := rfl
@[simp] theorem Lane.emit_bcn (l : Lane) (e : Emit) : (l.emit e).bcn = l.bcn := rfl
@[simp] theorem Lane.emit_xla (l : Lane) (e : Emit) : (l.emit e).xla = l.xla := rfl
@[simp] theorem Lane.emit_pcl (l : Lane) (e : Emit) : (l.emit e).pcl = l.pcl := rfl
@[simp] theorem Lane.emit_cen (l : Lane) (e : Emit) : (l.emit e).cen = l.cen := rfl
@[simp] theorem Lane.emit_fcl (l : Lane) (e : Emit) : (l.emit e).fcl = l.fcl := rfl
@[simp] theorem Lane.emit_cmu (l : Lane) (e : Emit) : (l.emit e).cmu = l.cmu := rfl
@[simp] theorem Lane.emit_afe (l : Lane) (e : Emit) : (l.emit e).afe = l.afe := rfl
@[simp] theorem Lane.emit_pfb (l : Lane) (e : Emit) : (l.emit e).pfb = l.pfb := rfl
@[simp] theorem Lane.emit_gdc (l : Lane) (e : Emit) : (l.emit e).gdc = l.gdc := rfl
@[simp] theorem Lane.emit_drive (l : Lane) (e : Emit) : (l.emit e).drive = l.drive := rfl
@[simp] theorem Lane.emit_sfu (l : Lane) (e : Emit) : (l.emit e).sfu = l.sfu := rfl
@[simp] theorem Lane.emit_wck (l : Lane) (e : Emit) : (l.emit e).wck = l.wck := rfl
@[simp] theorem Lane.emit_can (l : Lane) (e : Emit) : (l.emit e).can = l.can := rfl
@[simp] theorem Lane.emit_hif (l : Lane) (e : Emit) : (l.emit e).hif = l.hif := rfl
@[simp] theorem Lane.emit_mbx (l : Lane) (e : Emit) : (l.emit e).mbx = l.mbx := rfl
@[simp] theorem Lane.emit_stage (l : Lane) (e : Emit) : (l.emit e).stage = l.stage := rfl
@[simp] theorem Lane.emit_inMap (l : Lane) (e : Emit) : (l.emit e).inMap = l.inMap := rfl
@[simp] theorem Lane.emit_hostKeys (l : Lane) (e : Emit) : (l.emit e).hostKeys = l.hostKeys := rfl
@[simp] theorem Lane.emit_norCap (l : Lane) (e : Emit) : (l.emit e).norCap = l.norCap := rfl
@[simp] theorem Lane.emit_stm (l : Lane) (e : Emit) : (l.emit e).stm = l.stm := rfl
@[simp] theorem Lane.emit_nor (l : Lane) (e : Emit) : (l.emit e).nor = l.nor := rfl
@[simp] theorem Lane.emit_nand (l : Lane) (e : Emit) : (l.emit e).nand = l.nand := rfl
@[simp] theorem Lane.emit_pmu (l : Lane) (e : Emit) : (l.emit e).pmu = l.pmu := rfl
@[simp] theorem Lane.emit_otp (l : Lane) (e : Emit) : (l.emit e).otp = l.otp := rfl
@[simp] theorem Lane.emit_boot (l : Lane) (e : Emit) : (l.emit e).boot = l.boot := rfl
@[simp] theorem Lane.emit_sec (l : Lane) (e : Emit) : (l.emit e).sec = l.sec := rfl
@[simp] theorem Lane.emit_trc (l : Lane) (e : Emit) : (l.emit e).trc = l.trc := rfl
@[simp] theorem Lane.emit_tap (l : Lane) (e : Emit) : (l.emit e).tap = l.tap := rfl
@[simp] theorem Lane.emit_staPartial (l : Lane) (e : Emit) : (l.emit e).staPartial = l.staPartial := rfl
@[simp] theorem Lane.emit_bus (l : Lane) (e : Emit) : (l.emit e).bus = l.bus := rfl
@[simp] theorem Lane.emit_free (l : Lane) (e : Emit) : (l.emit e).free = l.free := rfl

@[simp] theorem Lane.drew_id (l : Lane) : (l.drew).id = l.id := rfl
@[simp] theorem Lane.drew_regs (l : Lane) : (l.drew).regs = l.regs := rfl
@[simp] theorem Lane.drew_mem (l : Lane) : (l.drew).mem = l.mem := rfl
@[simp] theorem Lane.drew_clk (l : Lane) : (l.drew).clk = l.clk := rfl
@[simp] theorem Lane.drew_bcn (l : Lane) : (l.drew).bcn = l.bcn := rfl
@[simp] theorem Lane.drew_xla (l : Lane) : (l.drew).xla = l.xla := rfl
@[simp] theorem Lane.drew_pcl (l : Lane) : (l.drew).pcl = l.pcl := rfl
@[simp] theorem Lane.drew_cen (l : Lane) : (l.drew).cen = l.cen := rfl
@[simp] theorem Lane.drew_fcl (l : Lane) : (l.drew).fcl = l.fcl := rfl
@[simp] theorem Lane.drew_cmu (l : Lane) : (l.drew).cmu = l.cmu := rfl
@[simp] theorem Lane.drew_afe (l : Lane) : (l.drew).afe = l.afe := rfl
@[simp] theorem Lane.drew_pfb (l : Lane) : (l.drew).pfb = l.pfb := rfl
@[simp] theorem Lane.drew_gdc (l : Lane) : (l.drew).gdc = l.gdc := rfl
@[simp] theorem Lane.drew_drive (l : Lane) : (l.drew).drive = l.drive := rfl
@[simp] theorem Lane.drew_sfu (l : Lane) : (l.drew).sfu = l.sfu := rfl
@[simp] theorem Lane.drew_wck (l : Lane) : (l.drew).wck = l.wck := rfl
@[simp] theorem Lane.drew_can (l : Lane) : (l.drew).can = l.can := rfl
@[simp] theorem Lane.drew_hif (l : Lane) : (l.drew).hif = l.hif := rfl
@[simp] theorem Lane.drew_mbx (l : Lane) : (l.drew).mbx = l.mbx := rfl
@[simp] theorem Lane.drew_stage (l : Lane) : (l.drew).stage = l.stage := rfl
@[simp] theorem Lane.drew_inMap (l : Lane) : (l.drew).inMap = l.inMap := rfl
@[simp] theorem Lane.drew_hostKeys (l : Lane) : (l.drew).hostKeys = l.hostKeys := rfl
@[simp] theorem Lane.drew_norCap (l : Lane) : (l.drew).norCap = l.norCap := rfl
@[simp] theorem Lane.drew_stm (l : Lane) : (l.drew).stm = l.stm := rfl
@[simp] theorem Lane.drew_nor (l : Lane) : (l.drew).nor = l.nor := rfl
@[simp] theorem Lane.drew_nand (l : Lane) : (l.drew).nand = l.nand := rfl
@[simp] theorem Lane.drew_pmu (l : Lane) : (l.drew).pmu = l.pmu := rfl
@[simp] theorem Lane.drew_otp (l : Lane) : (l.drew).otp = l.otp := rfl
@[simp] theorem Lane.drew_boot (l : Lane) : (l.drew).boot = l.boot := rfl
@[simp] theorem Lane.drew_sec (l : Lane) : (l.drew).sec = l.sec := rfl
@[simp] theorem Lane.drew_trc (l : Lane) : (l.drew).trc = l.trc := rfl
@[simp] theorem Lane.drew_tap (l : Lane) : (l.drew).tap = l.tap := rfl
@[simp] theorem Lane.drew_staPartial (l : Lane) : (l.drew).staPartial = l.staPartial := rfl
@[simp] theorem Lane.drew_bus (l : Lane) : (l.drew).bus = l.bus := rfl
@[simp] theorem Lane.drew_out (l : Lane) : (l.drew).out = l.out := rfl

@[simp] theorem Lane.setWord_id (l : Lane) (k : Nat) (w : Word) : (l.setWord k w).id = l.id := rfl
@[simp] theorem Lane.setWord_mem (l : Lane) (k : Nat) (w : Word) : (l.setWord k w).mem = l.mem := rfl
@[simp] theorem Lane.setWord_clk (l : Lane) (k : Nat) (w : Word) : (l.setWord k w).clk = l.clk := rfl
@[simp] theorem Lane.setWord_bcn (l : Lane) (k : Nat) (w : Word) : (l.setWord k w).bcn = l.bcn := rfl
@[simp] theorem Lane.setWord_xla (l : Lane) (k : Nat) (w : Word) : (l.setWord k w).xla = l.xla := rfl
@[simp] theorem Lane.setWord_pcl (l : Lane) (k : Nat) (w : Word) : (l.setWord k w).pcl = l.pcl := rfl
@[simp] theorem Lane.setWord_cen (l : Lane) (k : Nat) (w : Word) : (l.setWord k w).cen = l.cen := rfl
@[simp] theorem Lane.setWord_fcl (l : Lane) (k : Nat) (w : Word) : (l.setWord k w).fcl = l.fcl := rfl
@[simp] theorem Lane.setWord_cmu (l : Lane) (k : Nat) (w : Word) : (l.setWord k w).cmu = l.cmu := rfl
@[simp] theorem Lane.setWord_afe (l : Lane) (k : Nat) (w : Word) : (l.setWord k w).afe = l.afe := rfl
@[simp] theorem Lane.setWord_pfb (l : Lane) (k : Nat) (w : Word) : (l.setWord k w).pfb = l.pfb := rfl
@[simp] theorem Lane.setWord_gdc (l : Lane) (k : Nat) (w : Word) : (l.setWord k w).gdc = l.gdc := rfl
@[simp] theorem Lane.setWord_drive (l : Lane) (k : Nat) (w : Word) : (l.setWord k w).drive = l.drive := rfl
@[simp] theorem Lane.setWord_sfu (l : Lane) (k : Nat) (w : Word) : (l.setWord k w).sfu = l.sfu := rfl
@[simp] theorem Lane.setWord_wck (l : Lane) (k : Nat) (w : Word) : (l.setWord k w).wck = l.wck := rfl
@[simp] theorem Lane.setWord_can (l : Lane) (k : Nat) (w : Word) : (l.setWord k w).can = l.can := rfl
@[simp] theorem Lane.setWord_hif (l : Lane) (k : Nat) (w : Word) : (l.setWord k w).hif = l.hif := rfl
@[simp] theorem Lane.setWord_mbx (l : Lane) (k : Nat) (w : Word) : (l.setWord k w).mbx = l.mbx := rfl
@[simp] theorem Lane.setWord_stage (l : Lane) (k : Nat) (w : Word) : (l.setWord k w).stage = l.stage := rfl
@[simp] theorem Lane.setWord_inMap (l : Lane) (k : Nat) (w : Word) : (l.setWord k w).inMap = l.inMap := rfl
@[simp] theorem Lane.setWord_hostKeys (l : Lane) (k : Nat) (w : Word) : (l.setWord k w).hostKeys = l.hostKeys := rfl
@[simp] theorem Lane.setWord_norCap (l : Lane) (k : Nat) (w : Word) : (l.setWord k w).norCap = l.norCap := rfl
@[simp] theorem Lane.setWord_stm (l : Lane) (k : Nat) (w : Word) : (l.setWord k w).stm = l.stm := rfl
@[simp] theorem Lane.setWord_nor (l : Lane) (k : Nat) (w : Word) : (l.setWord k w).nor = l.nor := rfl
@[simp] theorem Lane.setWord_nand (l : Lane) (k : Nat) (w : Word) : (l.setWord k w).nand = l.nand := rfl
@[simp] theorem Lane.setWord_pmu (l : Lane) (k : Nat) (w : Word) : (l.setWord k w).pmu = l.pmu := rfl
@[simp] theorem Lane.setWord_otp (l : Lane) (k : Nat) (w : Word) : (l.setWord k w).otp = l.otp := rfl
@[simp] theorem Lane.setWord_boot (l : Lane) (k : Nat) (w : Word) : (l.setWord k w).boot = l.boot := rfl
@[simp] theorem Lane.setWord_sec (l : Lane) (k : Nat) (w : Word) : (l.setWord k w).sec = l.sec := rfl
@[simp] theorem Lane.setWord_trc (l : Lane) (k : Nat) (w : Word) : (l.setWord k w).trc = l.trc := rfl
@[simp] theorem Lane.setWord_tap (l : Lane) (k : Nat) (w : Word) : (l.setWord k w).tap = l.tap := rfl
@[simp] theorem Lane.setWord_staPartial (l : Lane) (k : Nat) (w : Word) : (l.setWord k w).staPartial = l.staPartial := rfl
@[simp] theorem Lane.setWord_bus (l : Lane) (k : Nat) (w : Word) : (l.setWord k w).bus = l.bus := rfl
@[simp] theorem Lane.setWord_free (l : Lane) (k : Nat) (w : Word) : (l.setWord k w).free = l.free := rfl
@[simp] theorem Lane.setWord_out (l : Lane) (k : Nat) (w : Word) : (l.setWord k w).out = l.out := rfl

@[simp] theorem Lane.wr_id (l : Lane) (f : Fld) (v i j : Nat) : (l.wr f v i j).id = l.id := rfl
@[simp] theorem Lane.wr_mem (l : Lane) (f : Fld) (v i j : Nat) : (l.wr f v i j).mem = l.mem := rfl
@[simp] theorem Lane.wr_clk (l : Lane) (f : Fld) (v i j : Nat) : (l.wr f v i j).clk = l.clk := rfl
@[simp] theorem Lane.wr_bcn (l : Lane) (f : Fld) (v i j : Nat) : (l.wr f v i j).bcn = l.bcn := rfl
@[simp] theorem Lane.wr_xla (l : Lane) (f : Fld) (v i j : Nat) : (l.wr f v i j).xla = l.xla := rfl
@[simp] theorem Lane.wr_pcl (l : Lane) (f : Fld) (v i j : Nat) : (l.wr f v i j).pcl = l.pcl := rfl
@[simp] theorem Lane.wr_cen (l : Lane) (f : Fld) (v i j : Nat) : (l.wr f v i j).cen = l.cen := rfl
@[simp] theorem Lane.wr_fcl (l : Lane) (f : Fld) (v i j : Nat) : (l.wr f v i j).fcl = l.fcl := rfl
@[simp] theorem Lane.wr_cmu (l : Lane) (f : Fld) (v i j : Nat) : (l.wr f v i j).cmu = l.cmu := rfl
@[simp] theorem Lane.wr_afe (l : Lane) (f : Fld) (v i j : Nat) : (l.wr f v i j).afe = l.afe := rfl
@[simp] theorem Lane.wr_pfb (l : Lane) (f : Fld) (v i j : Nat) : (l.wr f v i j).pfb = l.pfb := rfl
@[simp] theorem Lane.wr_gdc (l : Lane) (f : Fld) (v i j : Nat) : (l.wr f v i j).gdc = l.gdc := rfl
@[simp] theorem Lane.wr_drive (l : Lane) (f : Fld) (v i j : Nat) : (l.wr f v i j).drive = l.drive := rfl
@[simp] theorem Lane.wr_sfu (l : Lane) (f : Fld) (v i j : Nat) : (l.wr f v i j).sfu = l.sfu := rfl
@[simp] theorem Lane.wr_wck (l : Lane) (f : Fld) (v i j : Nat) : (l.wr f v i j).wck = l.wck := rfl
@[simp] theorem Lane.wr_can (l : Lane) (f : Fld) (v i j : Nat) : (l.wr f v i j).can = l.can := rfl
@[simp] theorem Lane.wr_hif (l : Lane) (f : Fld) (v i j : Nat) : (l.wr f v i j).hif = l.hif := rfl
@[simp] theorem Lane.wr_mbx (l : Lane) (f : Fld) (v i j : Nat) : (l.wr f v i j).mbx = l.mbx := rfl
@[simp] theorem Lane.wr_stage (l : Lane) (f : Fld) (v i j : Nat) : (l.wr f v i j).stage = l.stage := rfl
@[simp] theorem Lane.wr_inMap (l : Lane) (f : Fld) (v i j : Nat) : (l.wr f v i j).inMap = l.inMap := rfl
@[simp] theorem Lane.wr_hostKeys (l : Lane) (f : Fld) (v i j : Nat) : (l.wr f v i j).hostKeys = l.hostKeys := rfl
@[simp] theorem Lane.wr_norCap (l : Lane) (f : Fld) (v i j : Nat) : (l.wr f v i j).norCap = l.norCap := rfl
@[simp] theorem Lane.wr_stm (l : Lane) (f : Fld) (v i j : Nat) : (l.wr f v i j).stm = l.stm := rfl
@[simp] theorem Lane.wr_nor (l : Lane) (f : Fld) (v i j : Nat) : (l.wr f v i j).nor = l.nor := rfl
@[simp] theorem Lane.wr_nand (l : Lane) (f : Fld) (v i j : Nat) : (l.wr f v i j).nand = l.nand := rfl
@[simp] theorem Lane.wr_pmu (l : Lane) (f : Fld) (v i j : Nat) : (l.wr f v i j).pmu = l.pmu := rfl
@[simp] theorem Lane.wr_otp (l : Lane) (f : Fld) (v i j : Nat) : (l.wr f v i j).otp = l.otp := rfl
@[simp] theorem Lane.wr_boot (l : Lane) (f : Fld) (v i j : Nat) : (l.wr f v i j).boot = l.boot := rfl
@[simp] theorem Lane.wr_sec (l : Lane) (f : Fld) (v i j : Nat) : (l.wr f v i j).sec = l.sec := rfl
@[simp] theorem Lane.wr_trc (l : Lane) (f : Fld) (v i j : Nat) : (l.wr f v i j).trc = l.trc := rfl
@[simp] theorem Lane.wr_tap (l : Lane) (f : Fld) (v i j : Nat) : (l.wr f v i j).tap = l.tap := rfl
@[simp] theorem Lane.wr_staPartial (l : Lane) (f : Fld) (v i j : Nat) : (l.wr f v i j).staPartial = l.staPartial := rfl
@[simp] theorem Lane.wr_bus (l : Lane) (f : Fld) (v i j : Nat) : (l.wr f v i j).bus = l.bus := rfl
@[simp] theorem Lane.wr_free (l : Lane) (f : Fld) (v i j : Nat) : (l.wr f v i j).free = l.free := rfl
@[simp] theorem Lane.wr_out (l : Lane) (f : Fld) (v i j : Nat) : (l.wr f v i j).out = l.out := rfl

@[simp] theorem Lane.wrS_id (l : Lane) (f : Fld) (v : Int) (i j : Nat) : (l.wrS f v i j).id = l.id := rfl
@[simp] theorem Lane.wrS_mem (l : Lane) (f : Fld) (v : Int) (i j : Nat) : (l.wrS f v i j).mem = l.mem := rfl
@[simp] theorem Lane.wrS_clk (l : Lane) (f : Fld) (v : Int) (i j : Nat) : (l.wrS f v i j).clk = l.clk := rfl
@[simp] theorem Lane.wrS_bcn (l : Lane) (f : Fld) (v : Int) (i j : Nat) : (l.wrS f v i j).bcn = l.bcn := rfl
@[simp] theorem Lane.wrS_xla (l : Lane) (f : Fld) (v : Int) (i j : Nat) : (l.wrS f v i j).xla = l.xla := rfl
@[simp] theorem Lane.wrS_pcl (l : Lane) (f : Fld) (v : Int) (i j : Nat) : (l.wrS f v i j).pcl = l.pcl := rfl
@[simp] theorem Lane.wrS_cen (l : Lane) (f : Fld) (v : Int) (i j : Nat) : (l.wrS f v i j).cen = l.cen := rfl
@[simp] theorem Lane.wrS_fcl (l : Lane) (f : Fld) (v : Int) (i j : Nat) : (l.wrS f v i j).fcl = l.fcl := rfl
@[simp] theorem Lane.wrS_cmu (l : Lane) (f : Fld) (v : Int) (i j : Nat) : (l.wrS f v i j).cmu = l.cmu := rfl
@[simp] theorem Lane.wrS_afe (l : Lane) (f : Fld) (v : Int) (i j : Nat) : (l.wrS f v i j).afe = l.afe := rfl
@[simp] theorem Lane.wrS_pfb (l : Lane) (f : Fld) (v : Int) (i j : Nat) : (l.wrS f v i j).pfb = l.pfb := rfl
@[simp] theorem Lane.wrS_gdc (l : Lane) (f : Fld) (v : Int) (i j : Nat) : (l.wrS f v i j).gdc = l.gdc := rfl
@[simp] theorem Lane.wrS_drive (l : Lane) (f : Fld) (v : Int) (i j : Nat) : (l.wrS f v i j).drive = l.drive := rfl
@[simp] theorem Lane.wrS_sfu (l : Lane) (f : Fld) (v : Int) (i j : Nat) : (l.wrS f v i j).sfu = l.sfu := rfl
@[simp] theorem Lane.wrS_wck (l : Lane) (f : Fld) (v : Int) (i j : Nat) : (l.wrS f v i j).wck = l.wck := rfl
@[simp] theorem Lane.wrS_can (l : Lane) (f : Fld) (v : Int) (i j : Nat) : (l.wrS f v i j).can = l.can := rfl
@[simp] theorem Lane.wrS_hif (l : Lane) (f : Fld) (v : Int) (i j : Nat) : (l.wrS f v i j).hif = l.hif := rfl
@[simp] theorem Lane.wrS_mbx (l : Lane) (f : Fld) (v : Int) (i j : Nat) : (l.wrS f v i j).mbx = l.mbx := rfl
@[simp] theorem Lane.wrS_stage (l : Lane) (f : Fld) (v : Int) (i j : Nat) : (l.wrS f v i j).stage = l.stage := rfl
@[simp] theorem Lane.wrS_inMap (l : Lane) (f : Fld) (v : Int) (i j : Nat) : (l.wrS f v i j).inMap = l.inMap := rfl
@[simp] theorem Lane.wrS_hostKeys (l : Lane) (f : Fld) (v : Int) (i j : Nat) : (l.wrS f v i j).hostKeys = l.hostKeys := rfl
@[simp] theorem Lane.wrS_norCap (l : Lane) (f : Fld) (v : Int) (i j : Nat) : (l.wrS f v i j).norCap = l.norCap := rfl
@[simp] theorem Lane.wrS_stm (l : Lane) (f : Fld) (v : Int) (i j : Nat) : (l.wrS f v i j).stm = l.stm := rfl
@[simp] theorem Lane.wrS_nor (l : Lane) (f : Fld) (v : Int) (i j : Nat) : (l.wrS f v i j).nor = l.nor := rfl
@[simp] theorem Lane.wrS_nand (l : Lane) (f : Fld) (v : Int) (i j : Nat) : (l.wrS f v i j).nand = l.nand := rfl
@[simp] theorem Lane.wrS_pmu (l : Lane) (f : Fld) (v : Int) (i j : Nat) : (l.wrS f v i j).pmu = l.pmu := rfl
@[simp] theorem Lane.wrS_otp (l : Lane) (f : Fld) (v : Int) (i j : Nat) : (l.wrS f v i j).otp = l.otp := rfl
@[simp] theorem Lane.wrS_boot (l : Lane) (f : Fld) (v : Int) (i j : Nat) : (l.wrS f v i j).boot = l.boot := rfl
@[simp] theorem Lane.wrS_sec (l : Lane) (f : Fld) (v : Int) (i j : Nat) : (l.wrS f v i j).sec = l.sec := rfl
@[simp] theorem Lane.wrS_trc (l : Lane) (f : Fld) (v : Int) (i j : Nat) : (l.wrS f v i j).trc = l.trc := rfl
@[simp] theorem Lane.wrS_tap (l : Lane) (f : Fld) (v : Int) (i j : Nat) : (l.wrS f v i j).tap = l.tap := rfl
@[simp] theorem Lane.wrS_staPartial (l : Lane) (f : Fld) (v : Int) (i j : Nat) : (l.wrS f v i j).staPartial = l.staPartial := rfl
@[simp] theorem Lane.wrS_bus (l : Lane) (f : Fld) (v : Int) (i j : Nat) : (l.wrS f v i j).bus = l.bus := rfl
@[simp] theorem Lane.wrS_free (l : Lane) (f : Fld) (v : Int) (i j : Nat) : (l.wrS f v i j).free = l.free := rfl
@[simp] theorem Lane.wrS_out (l : Lane) (f : Fld) (v : Int) (i j : Nat) : (l.wrS f v i j).out = l.out := rfl

@[simp] theorem Lane.flag_id (l : Lane) (f : Fld) (b : Bool) (i j : Nat) : (l.flag f b i j).id = l.id := rfl
@[simp] theorem Lane.flag_mem (l : Lane) (f : Fld) (b : Bool) (i j : Nat) : (l.flag f b i j).mem = l.mem := rfl
@[simp] theorem Lane.flag_clk (l : Lane) (f : Fld) (b : Bool) (i j : Nat) : (l.flag f b i j).clk = l.clk := rfl
@[simp] theorem Lane.flag_bcn (l : Lane) (f : Fld) (b : Bool) (i j : Nat) : (l.flag f b i j).bcn = l.bcn := rfl
@[simp] theorem Lane.flag_xla (l : Lane) (f : Fld) (b : Bool) (i j : Nat) : (l.flag f b i j).xla = l.xla := rfl
@[simp] theorem Lane.flag_pcl (l : Lane) (f : Fld) (b : Bool) (i j : Nat) : (l.flag f b i j).pcl = l.pcl := rfl
@[simp] theorem Lane.flag_cen (l : Lane) (f : Fld) (b : Bool) (i j : Nat) : (l.flag f b i j).cen = l.cen := rfl
@[simp] theorem Lane.flag_fcl (l : Lane) (f : Fld) (b : Bool) (i j : Nat) : (l.flag f b i j).fcl = l.fcl := rfl
@[simp] theorem Lane.flag_cmu (l : Lane) (f : Fld) (b : Bool) (i j : Nat) : (l.flag f b i j).cmu = l.cmu := rfl
@[simp] theorem Lane.flag_afe (l : Lane) (f : Fld) (b : Bool) (i j : Nat) : (l.flag f b i j).afe = l.afe := rfl
@[simp] theorem Lane.flag_pfb (l : Lane) (f : Fld) (b : Bool) (i j : Nat) : (l.flag f b i j).pfb = l.pfb := rfl
@[simp] theorem Lane.flag_gdc (l : Lane) (f : Fld) (b : Bool) (i j : Nat) : (l.flag f b i j).gdc = l.gdc := rfl
@[simp] theorem Lane.flag_drive (l : Lane) (f : Fld) (b : Bool) (i j : Nat) : (l.flag f b i j).drive = l.drive := rfl
@[simp] theorem Lane.flag_sfu (l : Lane) (f : Fld) (b : Bool) (i j : Nat) : (l.flag f b i j).sfu = l.sfu := rfl
@[simp] theorem Lane.flag_wck (l : Lane) (f : Fld) (b : Bool) (i j : Nat) : (l.flag f b i j).wck = l.wck := rfl
@[simp] theorem Lane.flag_can (l : Lane) (f : Fld) (b : Bool) (i j : Nat) : (l.flag f b i j).can = l.can := rfl
@[simp] theorem Lane.flag_hif (l : Lane) (f : Fld) (b : Bool) (i j : Nat) : (l.flag f b i j).hif = l.hif := rfl
@[simp] theorem Lane.flag_mbx (l : Lane) (f : Fld) (b : Bool) (i j : Nat) : (l.flag f b i j).mbx = l.mbx := rfl
@[simp] theorem Lane.flag_stage (l : Lane) (f : Fld) (b : Bool) (i j : Nat) : (l.flag f b i j).stage = l.stage := rfl
@[simp] theorem Lane.flag_inMap (l : Lane) (f : Fld) (b : Bool) (i j : Nat) : (l.flag f b i j).inMap = l.inMap := rfl
@[simp] theorem Lane.flag_hostKeys (l : Lane) (f : Fld) (b : Bool) (i j : Nat) : (l.flag f b i j).hostKeys = l.hostKeys := rfl
@[simp] theorem Lane.flag_norCap (l : Lane) (f : Fld) (b : Bool) (i j : Nat) : (l.flag f b i j).norCap = l.norCap := rfl
@[simp] theorem Lane.flag_stm (l : Lane) (f : Fld) (b : Bool) (i j : Nat) : (l.flag f b i j).stm = l.stm := rfl
@[simp] theorem Lane.flag_nor (l : Lane) (f : Fld) (b : Bool) (i j : Nat) : (l.flag f b i j).nor = l.nor := rfl
@[simp] theorem Lane.flag_nand (l : Lane) (f : Fld) (b : Bool) (i j : Nat) : (l.flag f b i j).nand = l.nand := rfl
@[simp] theorem Lane.flag_pmu (l : Lane) (f : Fld) (b : Bool) (i j : Nat) : (l.flag f b i j).pmu = l.pmu := rfl
@[simp] theorem Lane.flag_otp (l : Lane) (f : Fld) (b : Bool) (i j : Nat) : (l.flag f b i j).otp = l.otp := rfl
@[simp] theorem Lane.flag_boot (l : Lane) (f : Fld) (b : Bool) (i j : Nat) : (l.flag f b i j).boot = l.boot := rfl
@[simp] theorem Lane.flag_sec (l : Lane) (f : Fld) (b : Bool) (i j : Nat) : (l.flag f b i j).sec = l.sec := rfl
@[simp] theorem Lane.flag_trc (l : Lane) (f : Fld) (b : Bool) (i j : Nat) : (l.flag f b i j).trc = l.trc := rfl
@[simp] theorem Lane.flag_tap (l : Lane) (f : Fld) (b : Bool) (i j : Nat) : (l.flag f b i j).tap = l.tap := rfl
@[simp] theorem Lane.flag_staPartial (l : Lane) (f : Fld) (b : Bool) (i j : Nat) : (l.flag f b i j).staPartial = l.staPartial := rfl
@[simp] theorem Lane.flag_bus (l : Lane) (f : Fld) (b : Bool) (i j : Nat) : (l.flag f b i j).bus = l.bus := rfl
@[simp] theorem Lane.flag_free (l : Lane) (f : Fld) (b : Bool) (i j : Nat) : (l.flag f b i j).free = l.free := rfl
@[simp] theorem Lane.flag_out (l : Lane) (f : Fld) (b : Bool) (i j : Nat) : (l.flag f b i j).out = l.out := rfl

@[simp] theorem Lane.bump_id (l : Lane) (f : Fld) (i j n : Nat) : (l.bump f i j n).id = l.id := rfl
@[simp] theorem Lane.bump_mem (l : Lane) (f : Fld) (i j n : Nat) : (l.bump f i j n).mem = l.mem := rfl
@[simp] theorem Lane.bump_clk (l : Lane) (f : Fld) (i j n : Nat) : (l.bump f i j n).clk = l.clk := rfl
@[simp] theorem Lane.bump_bcn (l : Lane) (f : Fld) (i j n : Nat) : (l.bump f i j n).bcn = l.bcn := rfl
@[simp] theorem Lane.bump_xla (l : Lane) (f : Fld) (i j n : Nat) : (l.bump f i j n).xla = l.xla := rfl
@[simp] theorem Lane.bump_pcl (l : Lane) (f : Fld) (i j n : Nat) : (l.bump f i j n).pcl = l.pcl := rfl
@[simp] theorem Lane.bump_cen (l : Lane) (f : Fld) (i j n : Nat) : (l.bump f i j n).cen = l.cen := rfl
@[simp] theorem Lane.bump_fcl (l : Lane) (f : Fld) (i j n : Nat) : (l.bump f i j n).fcl = l.fcl := rfl
@[simp] theorem Lane.bump_cmu (l : Lane) (f : Fld) (i j n : Nat) : (l.bump f i j n).cmu = l.cmu := rfl
@[simp] theorem Lane.bump_afe (l : Lane) (f : Fld) (i j n : Nat) : (l.bump f i j n).afe = l.afe := rfl
@[simp] theorem Lane.bump_pfb (l : Lane) (f : Fld) (i j n : Nat) : (l.bump f i j n).pfb = l.pfb := rfl
@[simp] theorem Lane.bump_gdc (l : Lane) (f : Fld) (i j n : Nat) : (l.bump f i j n).gdc = l.gdc := rfl
@[simp] theorem Lane.bump_drive (l : Lane) (f : Fld) (i j n : Nat) : (l.bump f i j n).drive = l.drive := rfl
@[simp] theorem Lane.bump_sfu (l : Lane) (f : Fld) (i j n : Nat) : (l.bump f i j n).sfu = l.sfu := rfl
@[simp] theorem Lane.bump_wck (l : Lane) (f : Fld) (i j n : Nat) : (l.bump f i j n).wck = l.wck := rfl
@[simp] theorem Lane.bump_can (l : Lane) (f : Fld) (i j n : Nat) : (l.bump f i j n).can = l.can := rfl
@[simp] theorem Lane.bump_hif (l : Lane) (f : Fld) (i j n : Nat) : (l.bump f i j n).hif = l.hif := rfl
@[simp] theorem Lane.bump_mbx (l : Lane) (f : Fld) (i j n : Nat) : (l.bump f i j n).mbx = l.mbx := rfl
@[simp] theorem Lane.bump_stage (l : Lane) (f : Fld) (i j n : Nat) : (l.bump f i j n).stage = l.stage := rfl
@[simp] theorem Lane.bump_inMap (l : Lane) (f : Fld) (i j n : Nat) : (l.bump f i j n).inMap = l.inMap := rfl
@[simp] theorem Lane.bump_hostKeys (l : Lane) (f : Fld) (i j n : Nat) : (l.bump f i j n).hostKeys = l.hostKeys := rfl
@[simp] theorem Lane.bump_norCap (l : Lane) (f : Fld) (i j n : Nat) : (l.bump f i j n).norCap = l.norCap := rfl
@[simp] theorem Lane.bump_stm (l : Lane) (f : Fld) (i j n : Nat) : (l.bump f i j n).stm = l.stm := rfl
@[simp] theorem Lane.bump_nor (l : Lane) (f : Fld) (i j n : Nat) : (l.bump f i j n).nor = l.nor := rfl
@[simp] theorem Lane.bump_nand (l : Lane) (f : Fld) (i j n : Nat) : (l.bump f i j n).nand = l.nand := rfl
@[simp] theorem Lane.bump_pmu (l : Lane) (f : Fld) (i j n : Nat) : (l.bump f i j n).pmu = l.pmu := rfl
@[simp] theorem Lane.bump_otp (l : Lane) (f : Fld) (i j n : Nat) : (l.bump f i j n).otp = l.otp := rfl
@[simp] theorem Lane.bump_boot (l : Lane) (f : Fld) (i j n : Nat) : (l.bump f i j n).boot = l.boot := rfl
@[simp] theorem Lane.bump_sec (l : Lane) (f : Fld) (i j n : Nat) : (l.bump f i j n).sec = l.sec := rfl
@[simp] theorem Lane.bump_trc (l : Lane) (f : Fld) (i j n : Nat) : (l.bump f i j n).trc = l.trc := rfl
@[simp] theorem Lane.bump_tap (l : Lane) (f : Fld) (i j n : Nat) : (l.bump f i j n).tap = l.tap := rfl
@[simp] theorem Lane.bump_staPartial (l : Lane) (f : Fld) (i j n : Nat) : (l.bump f i j n).staPartial = l.staPartial := rfl
@[simp] theorem Lane.bump_bus (l : Lane) (f : Fld) (i j n : Nat) : (l.bump f i j n).bus = l.bus := rfl
@[simp] theorem Lane.bump_free (l : Lane) (f : Fld) (i j n : Nat) : (l.bump f i j n).free = l.free := rfl
@[simp] theorem Lane.bump_out (l : Lane) (f : Fld) (i j n : Nat) : (l.bump f i j n).out = l.out := rfl

@[simp] theorem Lane.wrapInc_id (l : Lane) (f : Fld) (i j : Nat) : (l.wrapInc f i j).id = l.id := rfl
@[simp] theorem Lane.wrapInc_mem (l : Lane) (f : Fld) (i j : Nat) : (l.wrapInc f i j).mem = l.mem := rfl
@[simp] theorem Lane.wrapInc_clk (l : Lane) (f : Fld) (i j : Nat) : (l.wrapInc f i j).clk = l.clk := rfl
@[simp] theorem Lane.wrapInc_bcn (l : Lane) (f : Fld) (i j : Nat) : (l.wrapInc f i j).bcn = l.bcn := rfl
@[simp] theorem Lane.wrapInc_xla (l : Lane) (f : Fld) (i j : Nat) : (l.wrapInc f i j).xla = l.xla := rfl
@[simp] theorem Lane.wrapInc_pcl (l : Lane) (f : Fld) (i j : Nat) : (l.wrapInc f i j).pcl = l.pcl := rfl
@[simp] theorem Lane.wrapInc_cen (l : Lane) (f : Fld) (i j : Nat) : (l.wrapInc f i j).cen = l.cen := rfl
@[simp] theorem Lane.wrapInc_fcl (l : Lane) (f : Fld) (i j : Nat) : (l.wrapInc f i j).fcl = l.fcl := rfl
@[simp] theorem Lane.wrapInc_cmu (l : Lane) (f : Fld) (i j : Nat) : (l.wrapInc f i j).cmu = l.cmu := rfl
@[simp] theorem Lane.wrapInc_afe (l : Lane) (f : Fld) (i j : Nat) : (l.wrapInc f i j).afe = l.afe := rfl
@[simp] theorem Lane.wrapInc_pfb (l : Lane) (f : Fld) (i j : Nat) : (l.wrapInc f i j).pfb = l.pfb := rfl
@[simp] theorem Lane.wrapInc_gdc (l : Lane) (f : Fld) (i j : Nat) : (l.wrapInc f i j).gdc = l.gdc := rfl
@[simp] theorem Lane.wrapInc_drive (l : Lane) (f : Fld) (i j : Nat) : (l.wrapInc f i j).drive = l.drive := rfl
@[simp] theorem Lane.wrapInc_sfu (l : Lane) (f : Fld) (i j : Nat) : (l.wrapInc f i j).sfu = l.sfu := rfl
@[simp] theorem Lane.wrapInc_wck (l : Lane) (f : Fld) (i j : Nat) : (l.wrapInc f i j).wck = l.wck := rfl
@[simp] theorem Lane.wrapInc_can (l : Lane) (f : Fld) (i j : Nat) : (l.wrapInc f i j).can = l.can := rfl
@[simp] theorem Lane.wrapInc_hif (l : Lane) (f : Fld) (i j : Nat) : (l.wrapInc f i j).hif = l.hif := rfl
@[simp] theorem Lane.wrapInc_mbx (l : Lane) (f : Fld) (i j : Nat) : (l.wrapInc f i j).mbx = l.mbx := rfl
@[simp] theorem Lane.wrapInc_stage (l : Lane) (f : Fld) (i j : Nat) : (l.wrapInc f i j).stage = l.stage := rfl
@[simp] theorem Lane.wrapInc_inMap (l : Lane) (f : Fld) (i j : Nat) : (l.wrapInc f i j).inMap = l.inMap := rfl
@[simp] theorem Lane.wrapInc_hostKeys (l : Lane) (f : Fld) (i j : Nat) : (l.wrapInc f i j).hostKeys = l.hostKeys := rfl
@[simp] theorem Lane.wrapInc_norCap (l : Lane) (f : Fld) (i j : Nat) : (l.wrapInc f i j).norCap = l.norCap := rfl
@[simp] theorem Lane.wrapInc_stm (l : Lane) (f : Fld) (i j : Nat) : (l.wrapInc f i j).stm = l.stm := rfl
@[simp] theorem Lane.wrapInc_nor (l : Lane) (f : Fld) (i j : Nat) : (l.wrapInc f i j).nor = l.nor := rfl
@[simp] theorem Lane.wrapInc_nand (l : Lane) (f : Fld) (i j : Nat) : (l.wrapInc f i j).nand = l.nand := rfl
@[simp] theorem Lane.wrapInc_pmu (l : Lane) (f : Fld) (i j : Nat) : (l.wrapInc f i j).pmu = l.pmu := rfl
@[simp] theorem Lane.wrapInc_otp (l : Lane) (f : Fld) (i j : Nat) : (l.wrapInc f i j).otp = l.otp := rfl
@[simp] theorem Lane.wrapInc_boot (l : Lane) (f : Fld) (i j : Nat) : (l.wrapInc f i j).boot = l.boot := rfl
@[simp] theorem Lane.wrapInc_sec (l : Lane) (f : Fld) (i j : Nat) : (l.wrapInc f i j).sec = l.sec := rfl
@[simp] theorem Lane.wrapInc_trc (l : Lane) (f : Fld) (i j : Nat) : (l.wrapInc f i j).trc = l.trc := rfl
@[simp] theorem Lane.wrapInc_tap (l : Lane) (f : Fld) (i j : Nat) : (l.wrapInc f i j).tap = l.tap := rfl
@[simp] theorem Lane.wrapInc_staPartial (l : Lane) (f : Fld) (i j : Nat) : (l.wrapInc f i j).staPartial = l.staPartial := rfl
@[simp] theorem Lane.wrapInc_bus (l : Lane) (f : Fld) (i j : Nat) : (l.wrapInc f i j).bus = l.bus := rfl
@[simp] theorem Lane.wrapInc_free (l : Lane) (f : Fld) (i j : Nat) : (l.wrapInc f i j).free = l.free := rfl
@[simp] theorem Lane.wrapInc_out (l : Lane) (f : Fld) (i j : Nat) : (l.wrapInc f i j).out = l.out := rfl

@[simp] theorem Lane.setOwn_id (l : Lane) (st : LaneState) : (l.setOwn st).id = l.id := rfl
@[simp] theorem Lane.setOwn_regs (l : Lane) (st : LaneState) : (l.setOwn st).regs = l.regs := rfl
@[simp] theorem Lane.setOwn_mem (l : Lane) (st : LaneState) : (l.setOwn st).mem = l.mem := rfl
@[simp] theorem Lane.setOwn_clk (l : Lane) (st : LaneState) : (l.setOwn st).clk = l.clk := rfl
@[simp] theorem Lane.setOwn_bcn (l : Lane) (st : LaneState) : (l.setOwn st).bcn = l.bcn := rfl
@[simp] theorem Lane.setOwn_pcl (l : Lane) (st : LaneState) : (l.setOwn st).pcl = l.pcl := rfl
@[simp] theorem Lane.setOwn_cen (l : Lane) (st : LaneState) : (l.setOwn st).cen = l.cen := rfl
@[simp] theorem Lane.setOwn_fcl (l : Lane) (st : LaneState) : (l.setOwn st).fcl = l.fcl := rfl
@[simp] theorem Lane.setOwn_cmu (l : Lane) (st : LaneState) : (l.setOwn st).cmu = l.cmu := rfl
@[simp] theorem Lane.setOwn_afe (l : Lane) (st : LaneState) : (l.setOwn st).afe = l.afe := rfl
@[simp] theorem Lane.setOwn_pfb (l : Lane) (st : LaneState) : (l.setOwn st).pfb = l.pfb := rfl
@[simp] theorem Lane.setOwn_gdc (l : Lane) (st : LaneState) : (l.setOwn st).gdc = l.gdc := rfl
@[simp] theorem Lane.setOwn_drive (l : Lane) (st : LaneState) : (l.setOwn st).drive = l.drive := rfl
@[simp] theorem Lane.setOwn_wck (l : Lane) (st : LaneState) : (l.setOwn st).wck = l.wck := rfl
@[simp] theorem Lane.setOwn_can (l : Lane) (st : LaneState) : (l.setOwn st).can = l.can := rfl
@[simp] theorem Lane.setOwn_hif (l : Lane) (st : LaneState) : (l.setOwn st).hif = l.hif := rfl
@[simp] theorem Lane.setOwn_mbx (l : Lane) (st : LaneState) : (l.setOwn st).mbx = l.mbx := rfl
@[simp] theorem Lane.setOwn_stage (l : Lane) (st : LaneState) : (l.setOwn st).stage = l.stage := rfl
@[simp] theorem Lane.setOwn_inMap (l : Lane) (st : LaneState) : (l.setOwn st).inMap = l.inMap := rfl
@[simp] theorem Lane.setOwn_hostKeys (l : Lane) (st : LaneState) : (l.setOwn st).hostKeys = l.hostKeys := rfl
@[simp] theorem Lane.setOwn_norCap (l : Lane) (st : LaneState) : (l.setOwn st).norCap = l.norCap := rfl
@[simp] theorem Lane.setOwn_stm (l : Lane) (st : LaneState) : (l.setOwn st).stm = l.stm := rfl
@[simp] theorem Lane.setOwn_nor (l : Lane) (st : LaneState) : (l.setOwn st).nor = l.nor := rfl
@[simp] theorem Lane.setOwn_nand (l : Lane) (st : LaneState) : (l.setOwn st).nand = l.nand := rfl
@[simp] theorem Lane.setOwn_pmu (l : Lane) (st : LaneState) : (l.setOwn st).pmu = l.pmu := rfl
@[simp] theorem Lane.setOwn_otp (l : Lane) (st : LaneState) : (l.setOwn st).otp = l.otp := rfl
@[simp] theorem Lane.setOwn_boot (l : Lane) (st : LaneState) : (l.setOwn st).boot = l.boot := rfl
@[simp] theorem Lane.setOwn_sec (l : Lane) (st : LaneState) : (l.setOwn st).sec = l.sec := rfl
@[simp] theorem Lane.setOwn_trc (l : Lane) (st : LaneState) : (l.setOwn st).trc = l.trc := rfl
@[simp] theorem Lane.setOwn_tap (l : Lane) (st : LaneState) : (l.setOwn st).tap = l.tap := rfl
@[simp] theorem Lane.setOwn_staPartial (l : Lane) (st : LaneState) : (l.setOwn st).staPartial = l.staPartial := rfl
@[simp] theorem Lane.setOwn_bus (l : Lane) (st : LaneState) : (l.setOwn st).bus = l.bus := rfl
@[simp] theorem Lane.setOwn_free (l : Lane) (st : LaneState) : (l.setOwn st).free = l.free := rfl
@[simp] theorem Lane.setOwn_out (l : Lane) (st : LaneState) : (l.setOwn st).out = l.out := rfl

@[simp] theorem Lane.setProt_id (l : Lane) (u : Nat) (p : Prot) : (l.setProt u p).id = l.id := rfl
@[simp] theorem Lane.setProt_regs (l : Lane) (u : Nat) (p : Prot) : (l.setProt u p).regs = l.regs := rfl
@[simp] theorem Lane.setProt_mem (l : Lane) (u : Nat) (p : Prot) : (l.setProt u p).mem = l.mem := rfl
@[simp] theorem Lane.setProt_clk (l : Lane) (u : Nat) (p : Prot) : (l.setProt u p).clk = l.clk := rfl
@[simp] theorem Lane.setProt_bcn (l : Lane) (u : Nat) (p : Prot) : (l.setProt u p).bcn = l.bcn := rfl
@[simp] theorem Lane.setProt_xla (l : Lane) (u : Nat) (p : Prot) : (l.setProt u p).xla = l.xla := rfl
@[simp] theorem Lane.setProt_pcl (l : Lane) (u : Nat) (p : Prot) : (l.setProt u p).pcl = l.pcl := rfl
@[simp] theorem Lane.setProt_cen (l : Lane) (u : Nat) (p : Prot) : (l.setProt u p).cen = l.cen := rfl
@[simp] theorem Lane.setProt_fcl (l : Lane) (u : Nat) (p : Prot) : (l.setProt u p).fcl = l.fcl := rfl
@[simp] theorem Lane.setProt_cmu (l : Lane) (u : Nat) (p : Prot) : (l.setProt u p).cmu = l.cmu := rfl
@[simp] theorem Lane.setProt_afe (l : Lane) (u : Nat) (p : Prot) : (l.setProt u p).afe = l.afe := rfl
@[simp] theorem Lane.setProt_pfb (l : Lane) (u : Nat) (p : Prot) : (l.setProt u p).pfb = l.pfb := rfl
@[simp] theorem Lane.setProt_gdc (l : Lane) (u : Nat) (p : Prot) : (l.setProt u p).gdc = l.gdc := rfl
@[simp] theorem Lane.setProt_sfu (l : Lane) (u : Nat) (p : Prot) : (l.setProt u p).sfu = l.sfu := rfl
@[simp] theorem Lane.setProt_wck (l : Lane) (u : Nat) (p : Prot) : (l.setProt u p).wck = l.wck := rfl
@[simp] theorem Lane.setProt_can (l : Lane) (u : Nat) (p : Prot) : (l.setProt u p).can = l.can := rfl
@[simp] theorem Lane.setProt_hif (l : Lane) (u : Nat) (p : Prot) : (l.setProt u p).hif = l.hif := rfl
@[simp] theorem Lane.setProt_mbx (l : Lane) (u : Nat) (p : Prot) : (l.setProt u p).mbx = l.mbx := rfl
@[simp] theorem Lane.setProt_stage (l : Lane) (u : Nat) (p : Prot) : (l.setProt u p).stage = l.stage := rfl
@[simp] theorem Lane.setProt_inMap (l : Lane) (u : Nat) (p : Prot) : (l.setProt u p).inMap = l.inMap := rfl
@[simp] theorem Lane.setProt_hostKeys (l : Lane) (u : Nat) (p : Prot) : (l.setProt u p).hostKeys = l.hostKeys := rfl
@[simp] theorem Lane.setProt_norCap (l : Lane) (u : Nat) (p : Prot) : (l.setProt u p).norCap = l.norCap := rfl
@[simp] theorem Lane.setProt_stm (l : Lane) (u : Nat) (p : Prot) : (l.setProt u p).stm = l.stm := rfl
@[simp] theorem Lane.setProt_nor (l : Lane) (u : Nat) (p : Prot) : (l.setProt u p).nor = l.nor := rfl
@[simp] theorem Lane.setProt_nand (l : Lane) (u : Nat) (p : Prot) : (l.setProt u p).nand = l.nand := rfl
@[simp] theorem Lane.setProt_pmu (l : Lane) (u : Nat) (p : Prot) : (l.setProt u p).pmu = l.pmu := rfl
@[simp] theorem Lane.setProt_otp (l : Lane) (u : Nat) (p : Prot) : (l.setProt u p).otp = l.otp := rfl
@[simp] theorem Lane.setProt_boot (l : Lane) (u : Nat) (p : Prot) : (l.setProt u p).boot = l.boot := rfl
@[simp] theorem Lane.setProt_sec (l : Lane) (u : Nat) (p : Prot) : (l.setProt u p).sec = l.sec := rfl
@[simp] theorem Lane.setProt_trc (l : Lane) (u : Nat) (p : Prot) : (l.setProt u p).trc = l.trc := rfl
@[simp] theorem Lane.setProt_tap (l : Lane) (u : Nat) (p : Prot) : (l.setProt u p).tap = l.tap := rfl
@[simp] theorem Lane.setProt_staPartial (l : Lane) (u : Nat) (p : Prot) : (l.setProt u p).staPartial = l.staPartial := rfl
@[simp] theorem Lane.setProt_bus (l : Lane) (u : Nat) (p : Prot) : (l.setProt u p).bus = l.bus := rfl
@[simp] theorem Lane.setProt_free (l : Lane) (u : Nat) (p : Prot) : (l.setProt u p).free = l.free := rfl
@[simp] theorem Lane.setProt_out (l : Lane) (u : Nat) (p : Prot) : (l.setProt u p).out = l.out := rfl

@[simp] theorem Lane.onXla_id (l : Lane) (f : Xla → Xla) : (l.onXla f).id = l.id := rfl
@[simp] theorem Lane.onXla_regs (l : Lane) (f : Xla → Xla) : (l.onXla f).regs = l.regs := rfl
@[simp] theorem Lane.onXla_mem (l : Lane) (f : Xla → Xla) : (l.onXla f).mem = l.mem := rfl
@[simp] theorem Lane.onXla_clk (l : Lane) (f : Xla → Xla) : (l.onXla f).clk = l.clk := rfl
@[simp] theorem Lane.onXla_bcn (l : Lane) (f : Xla → Xla) : (l.onXla f).bcn = l.bcn := rfl
@[simp] theorem Lane.onXla_pcl (l : Lane) (f : Xla → Xla) : (l.onXla f).pcl = l.pcl := rfl
@[simp] theorem Lane.onXla_cen (l : Lane) (f : Xla → Xla) : (l.onXla f).cen = l.cen := rfl
@[simp] theorem Lane.onXla_fcl (l : Lane) (f : Xla → Xla) : (l.onXla f).fcl = l.fcl := rfl
@[simp] theorem Lane.onXla_cmu (l : Lane) (f : Xla → Xla) : (l.onXla f).cmu = l.cmu := rfl
@[simp] theorem Lane.onXla_afe (l : Lane) (f : Xla → Xla) : (l.onXla f).afe = l.afe := rfl
@[simp] theorem Lane.onXla_pfb (l : Lane) (f : Xla → Xla) : (l.onXla f).pfb = l.pfb := rfl
@[simp] theorem Lane.onXla_gdc (l : Lane) (f : Xla → Xla) : (l.onXla f).gdc = l.gdc := rfl
@[simp] theorem Lane.onXla_drive (l : Lane) (f : Xla → Xla) : (l.onXla f).drive = l.drive := rfl
@[simp] theorem Lane.onXla_sfu (l : Lane) (f : Xla → Xla) : (l.onXla f).sfu = l.sfu := rfl
@[simp] theorem Lane.onXla_wck (l : Lane) (f : Xla → Xla) : (l.onXla f).wck = l.wck := rfl
@[simp] theorem Lane.onXla_can (l : Lane) (f : Xla → Xla) : (l.onXla f).can = l.can := rfl
@[simp] theorem Lane.onXla_hif (l : Lane) (f : Xla → Xla) : (l.onXla f).hif = l.hif := rfl
@[simp] theorem Lane.onXla_mbx (l : Lane) (f : Xla → Xla) : (l.onXla f).mbx = l.mbx := rfl
@[simp] theorem Lane.onXla_stage (l : Lane) (f : Xla → Xla) : (l.onXla f).stage = l.stage := rfl
@[simp] theorem Lane.onXla_inMap (l : Lane) (f : Xla → Xla) : (l.onXla f).inMap = l.inMap := rfl
@[simp] theorem Lane.onXla_hostKeys (l : Lane) (f : Xla → Xla) : (l.onXla f).hostKeys = l.hostKeys := rfl
@[simp] theorem Lane.onXla_norCap (l : Lane) (f : Xla → Xla) : (l.onXla f).norCap = l.norCap := rfl
@[simp] theorem Lane.onXla_stm (l : Lane) (f : Xla → Xla) : (l.onXla f).stm = l.stm := rfl
@[simp] theorem Lane.onXla_nor (l : Lane) (f : Xla → Xla) : (l.onXla f).nor = l.nor := rfl
@[simp] theorem Lane.onXla_nand (l : Lane) (f : Xla → Xla) : (l.onXla f).nand = l.nand := rfl
@[simp] theorem Lane.onXla_pmu (l : Lane) (f : Xla → Xla) : (l.onXla f).pmu = l.pmu := rfl
@[simp] theorem Lane.onXla_otp (l : Lane) (f : Xla → Xla) : (l.onXla f).otp = l.otp := rfl
@[simp] theorem Lane.onXla_boot (l : Lane) (f : Xla → Xla) : (l.onXla f).boot = l.boot := rfl
@[simp] theorem Lane.onXla_sec (l : Lane) (f : Xla → Xla) : (l.onXla f).sec = l.sec := rfl
@[simp] theorem Lane.onXla_trc (l : Lane) (f : Xla → Xla) : (l.onXla f).trc = l.trc := rfl
@[simp] theorem Lane.onXla_tap (l : Lane) (f : Xla → Xla) : (l.onXla f).tap = l.tap := rfl
@[simp] theorem Lane.onXla_staPartial (l : Lane) (f : Xla → Xla) : (l.onXla f).staPartial = l.staPartial := rfl
@[simp] theorem Lane.onXla_bus (l : Lane) (f : Xla → Xla) : (l.onXla f).bus = l.bus := rfl
@[simp] theorem Lane.onXla_free (l : Lane) (f : Xla → Xla) : (l.onXla f).free = l.free := rfl
@[simp] theorem Lane.onXla_out (l : Lane) (f : Xla → Xla) : (l.onXla f).out = l.out := rfl

@[simp] theorem Lane.onPcl_id (l : Lane) (f : Pcl → Pcl) : (l.onPcl f).id = l.id := rfl
@[simp] theorem Lane.onPcl_regs (l : Lane) (f : Pcl → Pcl) : (l.onPcl f).regs = l.regs := rfl
@[simp] theorem Lane.onPcl_mem (l : Lane) (f : Pcl → Pcl) : (l.onPcl f).mem = l.mem := rfl
@[simp] theorem Lane.onPcl_clk (l : Lane) (f : Pcl → Pcl) : (l.onPcl f).clk = l.clk := rfl
@[simp] theorem Lane.onPcl_bcn (l : Lane) (f : Pcl → Pcl) : (l.onPcl f).bcn = l.bcn := rfl
@[simp] theorem Lane.onPcl_xla (l : Lane) (f : Pcl → Pcl) : (l.onPcl f).xla = l.xla := rfl
@[simp] theorem Lane.onPcl_cen (l : Lane) (f : Pcl → Pcl) : (l.onPcl f).cen = l.cen := rfl
@[simp] theorem Lane.onPcl_fcl (l : Lane) (f : Pcl → Pcl) : (l.onPcl f).fcl = l.fcl := rfl
@[simp] theorem Lane.onPcl_cmu (l : Lane) (f : Pcl → Pcl) : (l.onPcl f).cmu = l.cmu := rfl
@[simp] theorem Lane.onPcl_afe (l : Lane) (f : Pcl → Pcl) : (l.onPcl f).afe = l.afe := rfl
@[simp] theorem Lane.onPcl_pfb (l : Lane) (f : Pcl → Pcl) : (l.onPcl f).pfb = l.pfb := rfl
@[simp] theorem Lane.onPcl_gdc (l : Lane) (f : Pcl → Pcl) : (l.onPcl f).gdc = l.gdc := rfl
@[simp] theorem Lane.onPcl_drive (l : Lane) (f : Pcl → Pcl) : (l.onPcl f).drive = l.drive := rfl
@[simp] theorem Lane.onPcl_sfu (l : Lane) (f : Pcl → Pcl) : (l.onPcl f).sfu = l.sfu := rfl
@[simp] theorem Lane.onPcl_wck (l : Lane) (f : Pcl → Pcl) : (l.onPcl f).wck = l.wck := rfl
@[simp] theorem Lane.onPcl_can (l : Lane) (f : Pcl → Pcl) : (l.onPcl f).can = l.can := rfl
@[simp] theorem Lane.onPcl_hif (l : Lane) (f : Pcl → Pcl) : (l.onPcl f).hif = l.hif := rfl
@[simp] theorem Lane.onPcl_mbx (l : Lane) (f : Pcl → Pcl) : (l.onPcl f).mbx = l.mbx := rfl
@[simp] theorem Lane.onPcl_stage (l : Lane) (f : Pcl → Pcl) : (l.onPcl f).stage = l.stage := rfl
@[simp] theorem Lane.onPcl_inMap (l : Lane) (f : Pcl → Pcl) : (l.onPcl f).inMap = l.inMap := rfl
@[simp] theorem Lane.onPcl_hostKeys (l : Lane) (f : Pcl → Pcl) : (l.onPcl f).hostKeys = l.hostKeys := rfl
@[simp] theorem Lane.onPcl_norCap (l : Lane) (f : Pcl → Pcl) : (l.onPcl f).norCap = l.norCap := rfl
@[simp] theorem Lane.onPcl_stm (l : Lane) (f : Pcl → Pcl) : (l.onPcl f).stm = l.stm := rfl
@[simp] theorem Lane.onPcl_nor (l : Lane) (f : Pcl → Pcl) : (l.onPcl f).nor = l.nor := rfl
@[simp] theorem Lane.onPcl_nand (l : Lane) (f : Pcl → Pcl) : (l.onPcl f).nand = l.nand := rfl
@[simp] theorem Lane.onPcl_pmu (l : Lane) (f : Pcl → Pcl) : (l.onPcl f).pmu = l.pmu := rfl
@[simp] theorem Lane.onPcl_otp (l : Lane) (f : Pcl → Pcl) : (l.onPcl f).otp = l.otp := rfl
@[simp] theorem Lane.onPcl_boot (l : Lane) (f : Pcl → Pcl) : (l.onPcl f).boot = l.boot := rfl
@[simp] theorem Lane.onPcl_sec (l : Lane) (f : Pcl → Pcl) : (l.onPcl f).sec = l.sec := rfl
@[simp] theorem Lane.onPcl_trc (l : Lane) (f : Pcl → Pcl) : (l.onPcl f).trc = l.trc := rfl
@[simp] theorem Lane.onPcl_tap (l : Lane) (f : Pcl → Pcl) : (l.onPcl f).tap = l.tap := rfl
@[simp] theorem Lane.onPcl_staPartial (l : Lane) (f : Pcl → Pcl) : (l.onPcl f).staPartial = l.staPartial := rfl
@[simp] theorem Lane.onPcl_bus (l : Lane) (f : Pcl → Pcl) : (l.onPcl f).bus = l.bus := rfl
@[simp] theorem Lane.onPcl_free (l : Lane) (f : Pcl → Pcl) : (l.onPcl f).free = l.free := rfl
@[simp] theorem Lane.onPcl_out (l : Lane) (f : Pcl → Pcl) : (l.onPcl f).out = l.out := rfl

@[simp] theorem Lane.onHif_id (l : Lane) (f : Hif → Hif) : (l.onHif f).id = l.id := rfl
@[simp] theorem Lane.onHif_regs (l : Lane) (f : Hif → Hif) : (l.onHif f).regs = l.regs := rfl
@[simp] theorem Lane.onHif_mem (l : Lane) (f : Hif → Hif) : (l.onHif f).mem = l.mem := rfl
@[simp] theorem Lane.onHif_clk (l : Lane) (f : Hif → Hif) : (l.onHif f).clk = l.clk := rfl
@[simp] theorem Lane.onHif_bcn (l : Lane) (f : Hif → Hif) : (l.onHif f).bcn = l.bcn := rfl
@[simp] theorem Lane.onHif_xla (l : Lane) (f : Hif → Hif) : (l.onHif f).xla = l.xla := rfl
@[simp] theorem Lane.onHif_pcl (l : Lane) (f : Hif → Hif) : (l.onHif f).pcl = l.pcl := rfl
@[simp] theorem Lane.onHif_cen (l : Lane) (f : Hif → Hif) : (l.onHif f).cen = l.cen := rfl
@[simp] theorem Lane.onHif_fcl (l : Lane) (f : Hif → Hif) : (l.onHif f).fcl = l.fcl := rfl
@[simp] theorem Lane.onHif_cmu (l : Lane) (f : Hif → Hif) : (l.onHif f).cmu = l.cmu := rfl
@[simp] theorem Lane.onHif_afe (l : Lane) (f : Hif → Hif) : (l.onHif f).afe = l.afe := rfl
@[simp] theorem Lane.onHif_pfb (l : Lane) (f : Hif → Hif) : (l.onHif f).pfb = l.pfb := rfl
@[simp] theorem Lane.onHif_gdc (l : Lane) (f : Hif → Hif) : (l.onHif f).gdc = l.gdc := rfl
@[simp] theorem Lane.onHif_drive (l : Lane) (f : Hif → Hif) : (l.onHif f).drive = l.drive := rfl
@[simp] theorem Lane.onHif_sfu (l : Lane) (f : Hif → Hif) : (l.onHif f).sfu = l.sfu := rfl
@[simp] theorem Lane.onHif_wck (l : Lane) (f : Hif → Hif) : (l.onHif f).wck = l.wck := rfl
@[simp] theorem Lane.onHif_can (l : Lane) (f : Hif → Hif) : (l.onHif f).can = l.can := rfl
@[simp] theorem Lane.onHif_mbx (l : Lane) (f : Hif → Hif) : (l.onHif f).mbx = l.mbx := rfl
@[simp] theorem Lane.onHif_stage (l : Lane) (f : Hif → Hif) : (l.onHif f).stage = l.stage := rfl
@[simp] theorem Lane.onHif_inMap (l : Lane) (f : Hif → Hif) : (l.onHif f).inMap = l.inMap := rfl
@[simp] theorem Lane.onHif_hostKeys (l : Lane) (f : Hif → Hif) : (l.onHif f).hostKeys = l.hostKeys := rfl
@[simp] theorem Lane.onHif_norCap (l : Lane) (f : Hif → Hif) : (l.onHif f).norCap = l.norCap := rfl
@[simp] theorem Lane.onHif_stm (l : Lane) (f : Hif → Hif) : (l.onHif f).stm = l.stm := rfl
@[simp] theorem Lane.onHif_nor (l : Lane) (f : Hif → Hif) : (l.onHif f).nor = l.nor := rfl
@[simp] theorem Lane.onHif_nand (l : Lane) (f : Hif → Hif) : (l.onHif f).nand = l.nand := rfl
@[simp] theorem Lane.onHif_pmu (l : Lane) (f : Hif → Hif) : (l.onHif f).pmu = l.pmu := rfl
@[simp] theorem Lane.onHif_otp (l : Lane) (f : Hif → Hif) : (l.onHif f).otp = l.otp := rfl
@[simp] theorem Lane.onHif_boot (l : Lane) (f : Hif → Hif) : (l.onHif f).boot = l.boot := rfl
@[simp] theorem Lane.onHif_sec (l : Lane) (f : Hif → Hif) : (l.onHif f).sec = l.sec := rfl
@[simp] theorem Lane.onHif_trc (l : Lane) (f : Hif → Hif) : (l.onHif f).trc = l.trc := rfl
@[simp] theorem Lane.onHif_tap (l : Lane) (f : Hif → Hif) : (l.onHif f).tap = l.tap := rfl
@[simp] theorem Lane.onHif_staPartial (l : Lane) (f : Hif → Hif) : (l.onHif f).staPartial = l.staPartial := rfl
@[simp] theorem Lane.onHif_bus (l : Lane) (f : Hif → Hif) : (l.onHif f).bus = l.bus := rfl
@[simp] theorem Lane.onHif_free (l : Lane) (f : Hif → Hif) : (l.onHif f).free = l.free := rfl
@[simp] theorem Lane.onHif_out (l : Lane) (f : Hif → Hif) : (l.onHif f).out = l.out := rfl

@[simp] theorem Lane.setCore_id (l : Lane) (c : Nat) (k : Core) : (l.setCore c k).id = l.id := rfl
@[simp] theorem Lane.setCore_regs (l : Lane) (c : Nat) (k : Core) : (l.setCore c k).regs = l.regs := rfl
@[simp] theorem Lane.setCore_mem (l : Lane) (c : Nat) (k : Core) : (l.setCore c k).mem = l.mem := rfl
@[simp] theorem Lane.setCore_clk (l : Lane) (c : Nat) (k : Core) : (l.setCore c k).clk = l.clk := rfl
@[simp] theorem Lane.setCore_bcn (l : Lane) (c : Nat) (k : Core) : (l.setCore c k).bcn = l.bcn := rfl
@[simp] theorem Lane.setCore_xla (l : Lane) (c : Nat) (k : Core) : (l.setCore c k).xla = l.xla := rfl
@[simp] theorem Lane.setCore_cen (l : Lane) (c : Nat) (k : Core) : (l.setCore c k).cen = l.cen := rfl
@[simp] theorem Lane.setCore_fcl (l : Lane) (c : Nat) (k : Core) : (l.setCore c k).fcl = l.fcl := rfl
@[simp] theorem Lane.setCore_cmu (l : Lane) (c : Nat) (k : Core) : (l.setCore c k).cmu = l.cmu := rfl
@[simp] theorem Lane.setCore_afe (l : Lane) (c : Nat) (k : Core) : (l.setCore c k).afe = l.afe := rfl
@[simp] theorem Lane.setCore_pfb (l : Lane) (c : Nat) (k : Core) : (l.setCore c k).pfb = l.pfb := rfl
@[simp] theorem Lane.setCore_gdc (l : Lane) (c : Nat) (k : Core) : (l.setCore c k).gdc = l.gdc := rfl
@[simp] theorem Lane.setCore_drive (l : Lane) (c : Nat) (k : Core) : (l.setCore c k).drive = l.drive := rfl
@[simp] theorem Lane.setCore_sfu (l : Lane) (c : Nat) (k : Core) : (l.setCore c k).sfu = l.sfu := rfl
@[simp] theorem Lane.setCore_wck (l : Lane) (c : Nat) (k : Core) : (l.setCore c k).wck = l.wck := rfl
@[simp] theorem Lane.setCore_can (l : Lane) (c : Nat) (k : Core) : (l.setCore c k).can = l.can := rfl
@[simp] theorem Lane.setCore_hif (l : Lane) (c : Nat) (k : Core) : (l.setCore c k).hif = l.hif := rfl
@[simp] theorem Lane.setCore_mbx (l : Lane) (c : Nat) (k : Core) : (l.setCore c k).mbx = l.mbx := rfl
@[simp] theorem Lane.setCore_stage (l : Lane) (c : Nat) (k : Core) : (l.setCore c k).stage = l.stage := rfl
@[simp] theorem Lane.setCore_inMap (l : Lane) (c : Nat) (k : Core) : (l.setCore c k).inMap = l.inMap := rfl
@[simp] theorem Lane.setCore_hostKeys (l : Lane) (c : Nat) (k : Core) : (l.setCore c k).hostKeys = l.hostKeys := rfl
@[simp] theorem Lane.setCore_norCap (l : Lane) (c : Nat) (k : Core) : (l.setCore c k).norCap = l.norCap := rfl
@[simp] theorem Lane.setCore_stm (l : Lane) (c : Nat) (k : Core) : (l.setCore c k).stm = l.stm := rfl
@[simp] theorem Lane.setCore_nor (l : Lane) (c : Nat) (k : Core) : (l.setCore c k).nor = l.nor := rfl
@[simp] theorem Lane.setCore_nand (l : Lane) (c : Nat) (k : Core) : (l.setCore c k).nand = l.nand := rfl
@[simp] theorem Lane.setCore_pmu (l : Lane) (c : Nat) (k : Core) : (l.setCore c k).pmu = l.pmu := rfl
@[simp] theorem Lane.setCore_otp (l : Lane) (c : Nat) (k : Core) : (l.setCore c k).otp = l.otp := rfl
@[simp] theorem Lane.setCore_boot (l : Lane) (c : Nat) (k : Core) : (l.setCore c k).boot = l.boot := rfl
@[simp] theorem Lane.setCore_sec (l : Lane) (c : Nat) (k : Core) : (l.setCore c k).sec = l.sec := rfl
@[simp] theorem Lane.setCore_trc (l : Lane) (c : Nat) (k : Core) : (l.setCore c k).trc = l.trc := rfl
@[simp] theorem Lane.setCore_tap (l : Lane) (c : Nat) (k : Core) : (l.setCore c k).tap = l.tap := rfl
@[simp] theorem Lane.setCore_staPartial (l : Lane) (c : Nat) (k : Core) : (l.setCore c k).staPartial = l.staPartial := rfl
@[simp] theorem Lane.setCore_bus (l : Lane) (c : Nat) (k : Core) : (l.setCore c k).bus = l.bus := rfl
@[simp] theorem Lane.setCore_free (l : Lane) (c : Nat) (k : Core) : (l.setCore c k).free = l.free := rfl
@[simp] theorem Lane.setCore_out (l : Lane) (c : Nat) (k : Core) : (l.setCore c k).out = l.out := rfl

@[simp] theorem Lane.setAct_id (l : Lane) (flow : Nat) (a : Option Activation) : (l.setAct flow a).id = l.id := rfl
@[simp] theorem Lane.setAct_regs (l : Lane) (flow : Nat) (a : Option Activation) : (l.setAct flow a).regs = l.regs := rfl
@[simp] theorem Lane.setAct_mem (l : Lane) (flow : Nat) (a : Option Activation) : (l.setAct flow a).mem = l.mem := rfl
@[simp] theorem Lane.setAct_clk (l : Lane) (flow : Nat) (a : Option Activation) : (l.setAct flow a).clk = l.clk := rfl
@[simp] theorem Lane.setAct_bcn (l : Lane) (flow : Nat) (a : Option Activation) : (l.setAct flow a).bcn = l.bcn := rfl
@[simp] theorem Lane.setAct_xla (l : Lane) (flow : Nat) (a : Option Activation) : (l.setAct flow a).xla = l.xla := rfl
@[simp] theorem Lane.setAct_cen (l : Lane) (flow : Nat) (a : Option Activation) : (l.setAct flow a).cen = l.cen := rfl
@[simp] theorem Lane.setAct_fcl (l : Lane) (flow : Nat) (a : Option Activation) : (l.setAct flow a).fcl = l.fcl := rfl
@[simp] theorem Lane.setAct_cmu (l : Lane) (flow : Nat) (a : Option Activation) : (l.setAct flow a).cmu = l.cmu := rfl
@[simp] theorem Lane.setAct_afe (l : Lane) (flow : Nat) (a : Option Activation) : (l.setAct flow a).afe = l.afe := rfl
@[simp] theorem Lane.setAct_pfb (l : Lane) (flow : Nat) (a : Option Activation) : (l.setAct flow a).pfb = l.pfb := rfl
@[simp] theorem Lane.setAct_gdc (l : Lane) (flow : Nat) (a : Option Activation) : (l.setAct flow a).gdc = l.gdc := rfl
@[simp] theorem Lane.setAct_drive (l : Lane) (flow : Nat) (a : Option Activation) : (l.setAct flow a).drive = l.drive := rfl
@[simp] theorem Lane.setAct_sfu (l : Lane) (flow : Nat) (a : Option Activation) : (l.setAct flow a).sfu = l.sfu := rfl
@[simp] theorem Lane.setAct_wck (l : Lane) (flow : Nat) (a : Option Activation) : (l.setAct flow a).wck = l.wck := rfl
@[simp] theorem Lane.setAct_can (l : Lane) (flow : Nat) (a : Option Activation) : (l.setAct flow a).can = l.can := rfl
@[simp] theorem Lane.setAct_hif (l : Lane) (flow : Nat) (a : Option Activation) : (l.setAct flow a).hif = l.hif := rfl
@[simp] theorem Lane.setAct_mbx (l : Lane) (flow : Nat) (a : Option Activation) : (l.setAct flow a).mbx = l.mbx := rfl
@[simp] theorem Lane.setAct_stage (l : Lane) (flow : Nat) (a : Option Activation) : (l.setAct flow a).stage = l.stage := rfl
@[simp] theorem Lane.setAct_inMap (l : Lane) (flow : Nat) (a : Option Activation) : (l.setAct flow a).inMap = l.inMap := rfl
@[simp] theorem Lane.setAct_hostKeys (l : Lane) (flow : Nat) (a : Option Activation) : (l.setAct flow a).hostKeys = l.hostKeys := rfl
@[simp] theorem Lane.setAct_norCap (l : Lane) (flow : Nat) (a : Option Activation) : (l.setAct flow a).norCap = l.norCap := rfl
@[simp] theorem Lane.setAct_stm (l : Lane) (flow : Nat) (a : Option Activation) : (l.setAct flow a).stm = l.stm := rfl
@[simp] theorem Lane.setAct_nor (l : Lane) (flow : Nat) (a : Option Activation) : (l.setAct flow a).nor = l.nor := rfl
@[simp] theorem Lane.setAct_nand (l : Lane) (flow : Nat) (a : Option Activation) : (l.setAct flow a).nand = l.nand := rfl
@[simp] theorem Lane.setAct_pmu (l : Lane) (flow : Nat) (a : Option Activation) : (l.setAct flow a).pmu = l.pmu := rfl
@[simp] theorem Lane.setAct_otp (l : Lane) (flow : Nat) (a : Option Activation) : (l.setAct flow a).otp = l.otp := rfl
@[simp] theorem Lane.setAct_boot (l : Lane) (flow : Nat) (a : Option Activation) : (l.setAct flow a).boot = l.boot := rfl
@[simp] theorem Lane.setAct_sec (l : Lane) (flow : Nat) (a : Option Activation) : (l.setAct flow a).sec = l.sec := rfl
@[simp] theorem Lane.setAct_trc (l : Lane) (flow : Nat) (a : Option Activation) : (l.setAct flow a).trc = l.trc := rfl
@[simp] theorem Lane.setAct_tap (l : Lane) (flow : Nat) (a : Option Activation) : (l.setAct flow a).tap = l.tap := rfl
@[simp] theorem Lane.setAct_staPartial (l : Lane) (flow : Nat) (a : Option Activation) : (l.setAct flow a).staPartial = l.staPartial := rfl
@[simp] theorem Lane.setAct_bus (l : Lane) (flow : Nat) (a : Option Activation) : (l.setAct flow a).bus = l.bus := rfl
@[simp] theorem Lane.setAct_free (l : Lane) (flow : Nat) (a : Option Activation) : (l.setAct flow a).free = l.free := rfl
@[simp] theorem Lane.setAct_out (l : Lane) (flow : Nat) (a : Option Activation) : (l.setAct flow a).out = l.out := rfl

@[simp] theorem Lane.addRel_id (l : Lane) (r : Rel) : (l.addRel r).id = l.id := rfl
@[simp] theorem Lane.addRel_regs (l : Lane) (r : Rel) : (l.addRel r).regs = l.regs := rfl
@[simp] theorem Lane.addRel_mem (l : Lane) (r : Rel) : (l.addRel r).mem = l.mem := rfl
@[simp] theorem Lane.addRel_clk (l : Lane) (r : Rel) : (l.addRel r).clk = l.clk := rfl
@[simp] theorem Lane.addRel_bcn (l : Lane) (r : Rel) : (l.addRel r).bcn = l.bcn := rfl
@[simp] theorem Lane.addRel_xla (l : Lane) (r : Rel) : (l.addRel r).xla = l.xla := rfl
@[simp] theorem Lane.addRel_cen (l : Lane) (r : Rel) : (l.addRel r).cen = l.cen := rfl
@[simp] theorem Lane.addRel_fcl (l : Lane) (r : Rel) : (l.addRel r).fcl = l.fcl := rfl
@[simp] theorem Lane.addRel_cmu (l : Lane) (r : Rel) : (l.addRel r).cmu = l.cmu := rfl
@[simp] theorem Lane.addRel_afe (l : Lane) (r : Rel) : (l.addRel r).afe = l.afe := rfl
@[simp] theorem Lane.addRel_pfb (l : Lane) (r : Rel) : (l.addRel r).pfb = l.pfb := rfl
@[simp] theorem Lane.addRel_gdc (l : Lane) (r : Rel) : (l.addRel r).gdc = l.gdc := rfl
@[simp] theorem Lane.addRel_drive (l : Lane) (r : Rel) : (l.addRel r).drive = l.drive := rfl
@[simp] theorem Lane.addRel_sfu (l : Lane) (r : Rel) : (l.addRel r).sfu = l.sfu := rfl
@[simp] theorem Lane.addRel_wck (l : Lane) (r : Rel) : (l.addRel r).wck = l.wck := rfl
@[simp] theorem Lane.addRel_can (l : Lane) (r : Rel) : (l.addRel r).can = l.can := rfl
@[simp] theorem Lane.addRel_hif (l : Lane) (r : Rel) : (l.addRel r).hif = l.hif := rfl
@[simp] theorem Lane.addRel_mbx (l : Lane) (r : Rel) : (l.addRel r).mbx = l.mbx := rfl
@[simp] theorem Lane.addRel_stage (l : Lane) (r : Rel) : (l.addRel r).stage = l.stage := rfl
@[simp] theorem Lane.addRel_inMap (l : Lane) (r : Rel) : (l.addRel r).inMap = l.inMap := rfl
@[simp] theorem Lane.addRel_hostKeys (l : Lane) (r : Rel) : (l.addRel r).hostKeys = l.hostKeys := rfl
@[simp] theorem Lane.addRel_norCap (l : Lane) (r : Rel) : (l.addRel r).norCap = l.norCap := rfl
@[simp] theorem Lane.addRel_stm (l : Lane) (r : Rel) : (l.addRel r).stm = l.stm := rfl
@[simp] theorem Lane.addRel_nor (l : Lane) (r : Rel) : (l.addRel r).nor = l.nor := rfl
@[simp] theorem Lane.addRel_nand (l : Lane) (r : Rel) : (l.addRel r).nand = l.nand := rfl
@[simp] theorem Lane.addRel_pmu (l : Lane) (r : Rel) : (l.addRel r).pmu = l.pmu := rfl
@[simp] theorem Lane.addRel_otp (l : Lane) (r : Rel) : (l.addRel r).otp = l.otp := rfl
@[simp] theorem Lane.addRel_boot (l : Lane) (r : Rel) : (l.addRel r).boot = l.boot := rfl
@[simp] theorem Lane.addRel_sec (l : Lane) (r : Rel) : (l.addRel r).sec = l.sec := rfl
@[simp] theorem Lane.addRel_trc (l : Lane) (r : Rel) : (l.addRel r).trc = l.trc := rfl
@[simp] theorem Lane.addRel_tap (l : Lane) (r : Rel) : (l.addRel r).tap = l.tap := rfl
@[simp] theorem Lane.addRel_staPartial (l : Lane) (r : Rel) : (l.addRel r).staPartial = l.staPartial := rfl
@[simp] theorem Lane.addRel_bus (l : Lane) (r : Rel) : (l.addRel r).bus = l.bus := rfl
@[simp] theorem Lane.addRel_free (l : Lane) (r : Rel) : (l.addRel r).free = l.free := rfl
@[simp] theorem Lane.addRel_out (l : Lane) (r : Rel) : (l.addRel r).out = l.out := rfl

@[simp] theorem Lane.setSrc_id (l : Lane) (n : Nat) (s : Src) : (l.setSrc n s).id = l.id := rfl
@[simp] theorem Lane.setSrc_regs (l : Lane) (n : Nat) (s : Src) : (l.setSrc n s).regs = l.regs := rfl
@[simp] theorem Lane.setSrc_mem (l : Lane) (n : Nat) (s : Src) : (l.setSrc n s).mem = l.mem := rfl
@[simp] theorem Lane.setSrc_clk (l : Lane) (n : Nat) (s : Src) : (l.setSrc n s).clk = l.clk := rfl
@[simp] theorem Lane.setSrc_bcn (l : Lane) (n : Nat) (s : Src) : (l.setSrc n s).bcn = l.bcn := rfl
@[simp] theorem Lane.setSrc_xla (l : Lane) (n : Nat) (s : Src) : (l.setSrc n s).xla = l.xla := rfl
@[simp] theorem Lane.setSrc_pcl (l : Lane) (n : Nat) (s : Src) : (l.setSrc n s).pcl = l.pcl := rfl
@[simp] theorem Lane.setSrc_cen (l : Lane) (n : Nat) (s : Src) : (l.setSrc n s).cen = l.cen := rfl
@[simp] theorem Lane.setSrc_cmu (l : Lane) (n : Nat) (s : Src) : (l.setSrc n s).cmu = l.cmu := rfl
@[simp] theorem Lane.setSrc_afe (l : Lane) (n : Nat) (s : Src) : (l.setSrc n s).afe = l.afe := rfl
@[simp] theorem Lane.setSrc_pfb (l : Lane) (n : Nat) (s : Src) : (l.setSrc n s).pfb = l.pfb := rfl
@[simp] theorem Lane.setSrc_gdc (l : Lane) (n : Nat) (s : Src) : (l.setSrc n s).gdc = l.gdc := rfl
@[simp] theorem Lane.setSrc_drive (l : Lane) (n : Nat) (s : Src) : (l.setSrc n s).drive = l.drive := rfl
@[simp] theorem Lane.setSrc_sfu (l : Lane) (n : Nat) (s : Src) : (l.setSrc n s).sfu = l.sfu := rfl
@[simp] theorem Lane.setSrc_wck (l : Lane) (n : Nat) (s : Src) : (l.setSrc n s).wck = l.wck := rfl
@[simp] theorem Lane.setSrc_can (l : Lane) (n : Nat) (s : Src) : (l.setSrc n s).can = l.can := rfl
@[simp] theorem Lane.setSrc_hif (l : Lane) (n : Nat) (s : Src) : (l.setSrc n s).hif = l.hif := rfl
@[simp] theorem Lane.setSrc_mbx (l : Lane) (n : Nat) (s : Src) : (l.setSrc n s).mbx = l.mbx := rfl
@[simp] theorem Lane.setSrc_stage (l : Lane) (n : Nat) (s : Src) : (l.setSrc n s).stage = l.stage := rfl
@[simp] theorem Lane.setSrc_inMap (l : Lane) (n : Nat) (s : Src) : (l.setSrc n s).inMap = l.inMap := rfl
@[simp] theorem Lane.setSrc_hostKeys (l : Lane) (n : Nat) (s : Src) : (l.setSrc n s).hostKeys = l.hostKeys := rfl
@[simp] theorem Lane.setSrc_norCap (l : Lane) (n : Nat) (s : Src) : (l.setSrc n s).norCap = l.norCap := rfl
@[simp] theorem Lane.setSrc_stm (l : Lane) (n : Nat) (s : Src) : (l.setSrc n s).stm = l.stm := rfl
@[simp] theorem Lane.setSrc_nor (l : Lane) (n : Nat) (s : Src) : (l.setSrc n s).nor = l.nor := rfl
@[simp] theorem Lane.setSrc_nand (l : Lane) (n : Nat) (s : Src) : (l.setSrc n s).nand = l.nand := rfl
@[simp] theorem Lane.setSrc_pmu (l : Lane) (n : Nat) (s : Src) : (l.setSrc n s).pmu = l.pmu := rfl
@[simp] theorem Lane.setSrc_otp (l : Lane) (n : Nat) (s : Src) : (l.setSrc n s).otp = l.otp := rfl
@[simp] theorem Lane.setSrc_boot (l : Lane) (n : Nat) (s : Src) : (l.setSrc n s).boot = l.boot := rfl
@[simp] theorem Lane.setSrc_sec (l : Lane) (n : Nat) (s : Src) : (l.setSrc n s).sec = l.sec := rfl
@[simp] theorem Lane.setSrc_trc (l : Lane) (n : Nat) (s : Src) : (l.setSrc n s).trc = l.trc := rfl
@[simp] theorem Lane.setSrc_tap (l : Lane) (n : Nat) (s : Src) : (l.setSrc n s).tap = l.tap := rfl
@[simp] theorem Lane.setSrc_staPartial (l : Lane) (n : Nat) (s : Src) : (l.setSrc n s).staPartial = l.staPartial := rfl
@[simp] theorem Lane.setSrc_bus (l : Lane) (n : Nat) (s : Src) : (l.setSrc n s).bus = l.bus := rfl
@[simp] theorem Lane.setSrc_free (l : Lane) (n : Nat) (s : Src) : (l.setSrc n s).free = l.free := rfl
@[simp] theorem Lane.setSrc_out (l : Lane) (n : Nat) (s : Src) : (l.setSrc n s).out = l.out := rfl

@[simp] theorem Lane.setLevel_id (l : Lane) (n : Nat) (b : Bool) : (l.setLevel n b).id = l.id := rfl
@[simp] theorem Lane.setLevel_regs (l : Lane) (n : Nat) (b : Bool) : (l.setLevel n b).regs = l.regs := rfl
@[simp] theorem Lane.setLevel_mem (l : Lane) (n : Nat) (b : Bool) : (l.setLevel n b).mem = l.mem := rfl
@[simp] theorem Lane.setLevel_clk (l : Lane) (n : Nat) (b : Bool) : (l.setLevel n b).clk = l.clk := rfl
@[simp] theorem Lane.setLevel_bcn (l : Lane) (n : Nat) (b : Bool) : (l.setLevel n b).bcn = l.bcn := rfl
@[simp] theorem Lane.setLevel_xla (l : Lane) (n : Nat) (b : Bool) : (l.setLevel n b).xla = l.xla := rfl
@[simp] theorem Lane.setLevel_pcl (l : Lane) (n : Nat) (b : Bool) : (l.setLevel n b).pcl = l.pcl := rfl
@[simp] theorem Lane.setLevel_cen (l : Lane) (n : Nat) (b : Bool) : (l.setLevel n b).cen = l.cen := rfl
@[simp] theorem Lane.setLevel_cmu (l : Lane) (n : Nat) (b : Bool) : (l.setLevel n b).cmu = l.cmu := rfl
@[simp] theorem Lane.setLevel_afe (l : Lane) (n : Nat) (b : Bool) : (l.setLevel n b).afe = l.afe := rfl
@[simp] theorem Lane.setLevel_pfb (l : Lane) (n : Nat) (b : Bool) : (l.setLevel n b).pfb = l.pfb := rfl
@[simp] theorem Lane.setLevel_gdc (l : Lane) (n : Nat) (b : Bool) : (l.setLevel n b).gdc = l.gdc := rfl
@[simp] theorem Lane.setLevel_drive (l : Lane) (n : Nat) (b : Bool) : (l.setLevel n b).drive = l.drive := rfl
@[simp] theorem Lane.setLevel_sfu (l : Lane) (n : Nat) (b : Bool) : (l.setLevel n b).sfu = l.sfu := rfl
@[simp] theorem Lane.setLevel_wck (l : Lane) (n : Nat) (b : Bool) : (l.setLevel n b).wck = l.wck := rfl
@[simp] theorem Lane.setLevel_can (l : Lane) (n : Nat) (b : Bool) : (l.setLevel n b).can = l.can := rfl
@[simp] theorem Lane.setLevel_hif (l : Lane) (n : Nat) (b : Bool) : (l.setLevel n b).hif = l.hif := rfl
@[simp] theorem Lane.setLevel_mbx (l : Lane) (n : Nat) (b : Bool) : (l.setLevel n b).mbx = l.mbx := rfl
@[simp] theorem Lane.setLevel_stage (l : Lane) (n : Nat) (b : Bool) : (l.setLevel n b).stage = l.stage := rfl
@[simp] theorem Lane.setLevel_inMap (l : Lane) (n : Nat) (b : Bool) : (l.setLevel n b).inMap = l.inMap := rfl
@[simp] theorem Lane.setLevel_hostKeys (l : Lane) (n : Nat) (b : Bool) : (l.setLevel n b).hostKeys = l.hostKeys := rfl
@[simp] theorem Lane.setLevel_norCap (l : Lane) (n : Nat) (b : Bool) : (l.setLevel n b).norCap = l.norCap := rfl
@[simp] theorem Lane.setLevel_stm (l : Lane) (n : Nat) (b : Bool) : (l.setLevel n b).stm = l.stm := rfl
@[simp] theorem Lane.setLevel_nor (l : Lane) (n : Nat) (b : Bool) : (l.setLevel n b).nor = l.nor := rfl
@[simp] theorem Lane.setLevel_nand (l : Lane) (n : Nat) (b : Bool) : (l.setLevel n b).nand = l.nand := rfl
@[simp] theorem Lane.setLevel_pmu (l : Lane) (n : Nat) (b : Bool) : (l.setLevel n b).pmu = l.pmu := rfl
@[simp] theorem Lane.setLevel_otp (l : Lane) (n : Nat) (b : Bool) : (l.setLevel n b).otp = l.otp := rfl
@[simp] theorem Lane.setLevel_boot (l : Lane) (n : Nat) (b : Bool) : (l.setLevel n b).boot = l.boot := rfl
@[simp] theorem Lane.setLevel_sec (l : Lane) (n : Nat) (b : Bool) : (l.setLevel n b).sec = l.sec := rfl
@[simp] theorem Lane.setLevel_trc (l : Lane) (n : Nat) (b : Bool) : (l.setLevel n b).trc = l.trc := rfl
@[simp] theorem Lane.setLevel_tap (l : Lane) (n : Nat) (b : Bool) : (l.setLevel n b).tap = l.tap := rfl
@[simp] theorem Lane.setLevel_staPartial (l : Lane) (n : Nat) (b : Bool) : (l.setLevel n b).staPartial = l.staPartial := rfl
@[simp] theorem Lane.setLevel_bus (l : Lane) (n : Nat) (b : Bool) : (l.setLevel n b).bus = l.bus := rfl
@[simp] theorem Lane.setLevel_free (l : Lane) (n : Nat) (b : Bool) : (l.setLevel n b).free = l.free := rfl
@[simp] theorem Lane.setLevel_out (l : Lane) (n : Nat) (b : Bool) : (l.setLevel n b).out = l.out := rfl

@[simp] theorem Lane.setBridge_id (l : Lane) (b : Nat) (s : BridgeSt) : (l.setBridge b s).id = l.id := rfl
@[simp] theorem Lane.setBridge_regs (l : Lane) (b : Nat) (s : BridgeSt) : (l.setBridge b s).regs = l.regs := rfl
@[simp] theorem Lane.setBridge_mem (l : Lane) (b : Nat) (s : BridgeSt) : (l.setBridge b s).mem = l.mem := rfl
@[simp] theorem Lane.setBridge_clk (l : Lane) (b : Nat) (s : BridgeSt) : (l.setBridge b s).clk = l.clk := rfl
@[simp] theorem Lane.setBridge_bcn (l : Lane) (b : Nat) (s : BridgeSt) : (l.setBridge b s).bcn = l.bcn := rfl
@[simp] theorem Lane.setBridge_xla (l : Lane) (b : Nat) (s : BridgeSt) : (l.setBridge b s).xla = l.xla := rfl
@[simp] theorem Lane.setBridge_pcl (l : Lane) (b : Nat) (s : BridgeSt) : (l.setBridge b s).pcl = l.pcl := rfl
@[simp] theorem Lane.setBridge_cen (l : Lane) (b : Nat) (s : BridgeSt) : (l.setBridge b s).cen = l.cen := rfl
@[simp] theorem Lane.setBridge_fcl (l : Lane) (b : Nat) (s : BridgeSt) : (l.setBridge b s).fcl = l.fcl := rfl
@[simp] theorem Lane.setBridge_afe (l : Lane) (b : Nat) (s : BridgeSt) : (l.setBridge b s).afe = l.afe := rfl
@[simp] theorem Lane.setBridge_pfb (l : Lane) (b : Nat) (s : BridgeSt) : (l.setBridge b s).pfb = l.pfb := rfl
@[simp] theorem Lane.setBridge_gdc (l : Lane) (b : Nat) (s : BridgeSt) : (l.setBridge b s).gdc = l.gdc := rfl
@[simp] theorem Lane.setBridge_drive (l : Lane) (b : Nat) (s : BridgeSt) : (l.setBridge b s).drive = l.drive := rfl
@[simp] theorem Lane.setBridge_sfu (l : Lane) (b : Nat) (s : BridgeSt) : (l.setBridge b s).sfu = l.sfu := rfl
@[simp] theorem Lane.setBridge_wck (l : Lane) (b : Nat) (s : BridgeSt) : (l.setBridge b s).wck = l.wck := rfl
@[simp] theorem Lane.setBridge_can (l : Lane) (b : Nat) (s : BridgeSt) : (l.setBridge b s).can = l.can := rfl
@[simp] theorem Lane.setBridge_hif (l : Lane) (b : Nat) (s : BridgeSt) : (l.setBridge b s).hif = l.hif := rfl
@[simp] theorem Lane.setBridge_mbx (l : Lane) (b : Nat) (s : BridgeSt) : (l.setBridge b s).mbx = l.mbx := rfl
@[simp] theorem Lane.setBridge_stage (l : Lane) (b : Nat) (s : BridgeSt) : (l.setBridge b s).stage = l.stage := rfl
@[simp] theorem Lane.setBridge_inMap (l : Lane) (b : Nat) (s : BridgeSt) : (l.setBridge b s).inMap = l.inMap := rfl
@[simp] theorem Lane.setBridge_hostKeys (l : Lane) (b : Nat) (s : BridgeSt) : (l.setBridge b s).hostKeys = l.hostKeys := rfl
@[simp] theorem Lane.setBridge_norCap (l : Lane) (b : Nat) (s : BridgeSt) : (l.setBridge b s).norCap = l.norCap := rfl
@[simp] theorem Lane.setBridge_stm (l : Lane) (b : Nat) (s : BridgeSt) : (l.setBridge b s).stm = l.stm := rfl
@[simp] theorem Lane.setBridge_nor (l : Lane) (b : Nat) (s : BridgeSt) : (l.setBridge b s).nor = l.nor := rfl
@[simp] theorem Lane.setBridge_nand (l : Lane) (b : Nat) (s : BridgeSt) : (l.setBridge b s).nand = l.nand := rfl
@[simp] theorem Lane.setBridge_pmu (l : Lane) (b : Nat) (s : BridgeSt) : (l.setBridge b s).pmu = l.pmu := rfl
@[simp] theorem Lane.setBridge_otp (l : Lane) (b : Nat) (s : BridgeSt) : (l.setBridge b s).otp = l.otp := rfl
@[simp] theorem Lane.setBridge_boot (l : Lane) (b : Nat) (s : BridgeSt) : (l.setBridge b s).boot = l.boot := rfl
@[simp] theorem Lane.setBridge_sec (l : Lane) (b : Nat) (s : BridgeSt) : (l.setBridge b s).sec = l.sec := rfl
@[simp] theorem Lane.setBridge_trc (l : Lane) (b : Nat) (s : BridgeSt) : (l.setBridge b s).trc = l.trc := rfl
@[simp] theorem Lane.setBridge_tap (l : Lane) (b : Nat) (s : BridgeSt) : (l.setBridge b s).tap = l.tap := rfl
@[simp] theorem Lane.setBridge_staPartial (l : Lane) (b : Nat) (s : BridgeSt) : (l.setBridge b s).staPartial = l.staPartial := rfl
@[simp] theorem Lane.setBridge_bus (l : Lane) (b : Nat) (s : BridgeSt) : (l.setBridge b s).bus = l.bus := rfl
@[simp] theorem Lane.setBridge_free (l : Lane) (b : Nat) (s : BridgeSt) : (l.setBridge b s).free = l.free := rfl
@[simp] theorem Lane.setBridge_out (l : Lane) (b : Nat) (s : BridgeSt) : (l.setBridge b s).out = l.out := rfl

@[simp] theorem Lane.setSafeIn_id (l : Lane) (k : Nat) (i : SafeIn) : (l.setSafeIn k i).id = l.id := rfl
@[simp] theorem Lane.setSafeIn_regs (l : Lane) (k : Nat) (i : SafeIn) : (l.setSafeIn k i).regs = l.regs := rfl
@[simp] theorem Lane.setSafeIn_mem (l : Lane) (k : Nat) (i : SafeIn) : (l.setSafeIn k i).mem = l.mem := rfl
@[simp] theorem Lane.setSafeIn_clk (l : Lane) (k : Nat) (i : SafeIn) : (l.setSafeIn k i).clk = l.clk := rfl
@[simp] theorem Lane.setSafeIn_bcn (l : Lane) (k : Nat) (i : SafeIn) : (l.setSafeIn k i).bcn = l.bcn := rfl
@[simp] theorem Lane.setSafeIn_xla (l : Lane) (k : Nat) (i : SafeIn) : (l.setSafeIn k i).xla = l.xla := rfl
@[simp] theorem Lane.setSafeIn_pcl (l : Lane) (k : Nat) (i : SafeIn) : (l.setSafeIn k i).pcl = l.pcl := rfl
@[simp] theorem Lane.setSafeIn_cen (l : Lane) (k : Nat) (i : SafeIn) : (l.setSafeIn k i).cen = l.cen := rfl
@[simp] theorem Lane.setSafeIn_fcl (l : Lane) (k : Nat) (i : SafeIn) : (l.setSafeIn k i).fcl = l.fcl := rfl
@[simp] theorem Lane.setSafeIn_cmu (l : Lane) (k : Nat) (i : SafeIn) : (l.setSafeIn k i).cmu = l.cmu := rfl
@[simp] theorem Lane.setSafeIn_afe (l : Lane) (k : Nat) (i : SafeIn) : (l.setSafeIn k i).afe = l.afe := rfl
@[simp] theorem Lane.setSafeIn_pfb (l : Lane) (k : Nat) (i : SafeIn) : (l.setSafeIn k i).pfb = l.pfb := rfl
@[simp] theorem Lane.setSafeIn_gdc (l : Lane) (k : Nat) (i : SafeIn) : (l.setSafeIn k i).gdc = l.gdc := rfl
@[simp] theorem Lane.setSafeIn_drive (l : Lane) (k : Nat) (i : SafeIn) : (l.setSafeIn k i).drive = l.drive := rfl
@[simp] theorem Lane.setSafeIn_wck (l : Lane) (k : Nat) (i : SafeIn) : (l.setSafeIn k i).wck = l.wck := rfl
@[simp] theorem Lane.setSafeIn_can (l : Lane) (k : Nat) (i : SafeIn) : (l.setSafeIn k i).can = l.can := rfl
@[simp] theorem Lane.setSafeIn_hif (l : Lane) (k : Nat) (i : SafeIn) : (l.setSafeIn k i).hif = l.hif := rfl
@[simp] theorem Lane.setSafeIn_mbx (l : Lane) (k : Nat) (i : SafeIn) : (l.setSafeIn k i).mbx = l.mbx := rfl
@[simp] theorem Lane.setSafeIn_stage (l : Lane) (k : Nat) (i : SafeIn) : (l.setSafeIn k i).stage = l.stage := rfl
@[simp] theorem Lane.setSafeIn_inMap (l : Lane) (k : Nat) (i : SafeIn) : (l.setSafeIn k i).inMap = l.inMap := rfl
@[simp] theorem Lane.setSafeIn_hostKeys (l : Lane) (k : Nat) (i : SafeIn) : (l.setSafeIn k i).hostKeys = l.hostKeys := rfl
@[simp] theorem Lane.setSafeIn_norCap (l : Lane) (k : Nat) (i : SafeIn) : (l.setSafeIn k i).norCap = l.norCap := rfl
@[simp] theorem Lane.setSafeIn_stm (l : Lane) (k : Nat) (i : SafeIn) : (l.setSafeIn k i).stm = l.stm := rfl
@[simp] theorem Lane.setSafeIn_nor (l : Lane) (k : Nat) (i : SafeIn) : (l.setSafeIn k i).nor = l.nor := rfl
@[simp] theorem Lane.setSafeIn_nand (l : Lane) (k : Nat) (i : SafeIn) : (l.setSafeIn k i).nand = l.nand := rfl
@[simp] theorem Lane.setSafeIn_pmu (l : Lane) (k : Nat) (i : SafeIn) : (l.setSafeIn k i).pmu = l.pmu := rfl
@[simp] theorem Lane.setSafeIn_otp (l : Lane) (k : Nat) (i : SafeIn) : (l.setSafeIn k i).otp = l.otp := rfl
@[simp] theorem Lane.setSafeIn_boot (l : Lane) (k : Nat) (i : SafeIn) : (l.setSafeIn k i).boot = l.boot := rfl
@[simp] theorem Lane.setSafeIn_sec (l : Lane) (k : Nat) (i : SafeIn) : (l.setSafeIn k i).sec = l.sec := rfl
@[simp] theorem Lane.setSafeIn_trc (l : Lane) (k : Nat) (i : SafeIn) : (l.setSafeIn k i).trc = l.trc := rfl
@[simp] theorem Lane.setSafeIn_tap (l : Lane) (k : Nat) (i : SafeIn) : (l.setSafeIn k i).tap = l.tap := rfl
@[simp] theorem Lane.setSafeIn_staPartial (l : Lane) (k : Nat) (i : SafeIn) : (l.setSafeIn k i).staPartial = l.staPartial := rfl
@[simp] theorem Lane.setSafeIn_bus (l : Lane) (k : Nat) (i : SafeIn) : (l.setSafeIn k i).bus = l.bus := rfl
@[simp] theorem Lane.setSafeIn_free (l : Lane) (k : Nat) (i : SafeIn) : (l.setSafeIn k i).free = l.free := rfl
@[simp] theorem Lane.setSafeIn_out (l : Lane) (k : Nat) (i : SafeIn) : (l.setSafeIn k i).out = l.out := rfl

@[simp] theorem Lane.setSafeOut_id (l : Lane) (o : Nat) (x : SafeOut) : (l.setSafeOut o x).id = l.id := rfl
@[simp] theorem Lane.setSafeOut_regs (l : Lane) (o : Nat) (x : SafeOut) : (l.setSafeOut o x).regs = l.regs := rfl
@[simp] theorem Lane.setSafeOut_mem (l : Lane) (o : Nat) (x : SafeOut) : (l.setSafeOut o x).mem = l.mem := rfl
@[simp] theorem Lane.setSafeOut_clk (l : Lane) (o : Nat) (x : SafeOut) : (l.setSafeOut o x).clk = l.clk := rfl
@[simp] theorem Lane.setSafeOut_bcn (l : Lane) (o : Nat) (x : SafeOut) : (l.setSafeOut o x).bcn = l.bcn := rfl
@[simp] theorem Lane.setSafeOut_xla (l : Lane) (o : Nat) (x : SafeOut) : (l.setSafeOut o x).xla = l.xla := rfl
@[simp] theorem Lane.setSafeOut_pcl (l : Lane) (o : Nat) (x : SafeOut) : (l.setSafeOut o x).pcl = l.pcl := rfl
@[simp] theorem Lane.setSafeOut_cen (l : Lane) (o : Nat) (x : SafeOut) : (l.setSafeOut o x).cen = l.cen := rfl
@[simp] theorem Lane.setSafeOut_fcl (l : Lane) (o : Nat) (x : SafeOut) : (l.setSafeOut o x).fcl = l.fcl := rfl
@[simp] theorem Lane.setSafeOut_cmu (l : Lane) (o : Nat) (x : SafeOut) : (l.setSafeOut o x).cmu = l.cmu := rfl
@[simp] theorem Lane.setSafeOut_afe (l : Lane) (o : Nat) (x : SafeOut) : (l.setSafeOut o x).afe = l.afe := rfl
@[simp] theorem Lane.setSafeOut_pfb (l : Lane) (o : Nat) (x : SafeOut) : (l.setSafeOut o x).pfb = l.pfb := rfl
@[simp] theorem Lane.setSafeOut_gdc (l : Lane) (o : Nat) (x : SafeOut) : (l.setSafeOut o x).gdc = l.gdc := rfl
@[simp] theorem Lane.setSafeOut_drive (l : Lane) (o : Nat) (x : SafeOut) : (l.setSafeOut o x).drive = l.drive := rfl
@[simp] theorem Lane.setSafeOut_wck (l : Lane) (o : Nat) (x : SafeOut) : (l.setSafeOut o x).wck = l.wck := rfl
@[simp] theorem Lane.setSafeOut_can (l : Lane) (o : Nat) (x : SafeOut) : (l.setSafeOut o x).can = l.can := rfl
@[simp] theorem Lane.setSafeOut_hif (l : Lane) (o : Nat) (x : SafeOut) : (l.setSafeOut o x).hif = l.hif := rfl
@[simp] theorem Lane.setSafeOut_mbx (l : Lane) (o : Nat) (x : SafeOut) : (l.setSafeOut o x).mbx = l.mbx := rfl
@[simp] theorem Lane.setSafeOut_stage (l : Lane) (o : Nat) (x : SafeOut) : (l.setSafeOut o x).stage = l.stage := rfl
@[simp] theorem Lane.setSafeOut_inMap (l : Lane) (o : Nat) (x : SafeOut) : (l.setSafeOut o x).inMap = l.inMap := rfl
@[simp] theorem Lane.setSafeOut_hostKeys (l : Lane) (o : Nat) (x : SafeOut) : (l.setSafeOut o x).hostKeys = l.hostKeys := rfl
@[simp] theorem Lane.setSafeOut_norCap (l : Lane) (o : Nat) (x : SafeOut) : (l.setSafeOut o x).norCap = l.norCap := rfl
@[simp] theorem Lane.setSafeOut_stm (l : Lane) (o : Nat) (x : SafeOut) : (l.setSafeOut o x).stm = l.stm := rfl
@[simp] theorem Lane.setSafeOut_nor (l : Lane) (o : Nat) (x : SafeOut) : (l.setSafeOut o x).nor = l.nor := rfl
@[simp] theorem Lane.setSafeOut_nand (l : Lane) (o : Nat) (x : SafeOut) : (l.setSafeOut o x).nand = l.nand := rfl
@[simp] theorem Lane.setSafeOut_pmu (l : Lane) (o : Nat) (x : SafeOut) : (l.setSafeOut o x).pmu = l.pmu := rfl
@[simp] theorem Lane.setSafeOut_otp (l : Lane) (o : Nat) (x : SafeOut) : (l.setSafeOut o x).otp = l.otp := rfl
@[simp] theorem Lane.setSafeOut_boot (l : Lane) (o : Nat) (x : SafeOut) : (l.setSafeOut o x).boot = l.boot := rfl
@[simp] theorem Lane.setSafeOut_sec (l : Lane) (o : Nat) (x : SafeOut) : (l.setSafeOut o x).sec = l.sec := rfl
@[simp] theorem Lane.setSafeOut_trc (l : Lane) (o : Nat) (x : SafeOut) : (l.setSafeOut o x).trc = l.trc := rfl
@[simp] theorem Lane.setSafeOut_tap (l : Lane) (o : Nat) (x : SafeOut) : (l.setSafeOut o x).tap = l.tap := rfl
@[simp] theorem Lane.setSafeOut_staPartial (l : Lane) (o : Nat) (x : SafeOut) : (l.setSafeOut o x).staPartial = l.staPartial := rfl
@[simp] theorem Lane.setSafeOut_bus (l : Lane) (o : Nat) (x : SafeOut) : (l.setSafeOut o x).bus = l.bus := rfl
@[simp] theorem Lane.setSafeOut_free (l : Lane) (o : Nat) (x : SafeOut) : (l.setSafeOut o x).free = l.free := rfl
@[simp] theorem Lane.setSafeOut_out (l : Lane) (o : Nat) (x : SafeOut) : (l.setSafeOut o x).out = l.out := rfl

@[simp] theorem Lane.setSlotW_id (l : Lane) (c : Word) (s : Nat) (st : SlotSt) : (l.setSlotW c s st).id = l.id := by
  unfold Lane.setSlotW; split <;> rfl
@[simp] theorem Lane.setSlotW_regs (l : Lane) (c : Word) (s : Nat) (st : SlotSt) : (l.setSlotW c s st).regs = l.regs := by
  unfold Lane.setSlotW; split <;> rfl
@[simp] theorem Lane.setSlotW_mem (l : Lane) (c : Word) (s : Nat) (st : SlotSt) : (l.setSlotW c s st).mem = l.mem := by
  unfold Lane.setSlotW; split <;> rfl
@[simp] theorem Lane.setSlotW_clk (l : Lane) (c : Word) (s : Nat) (st : SlotSt) : (l.setSlotW c s st).clk = l.clk := by
  unfold Lane.setSlotW; split <;> rfl
@[simp] theorem Lane.setSlotW_bcn (l : Lane) (c : Word) (s : Nat) (st : SlotSt) : (l.setSlotW c s st).bcn = l.bcn := by
  unfold Lane.setSlotW; split <;> rfl
@[simp] theorem Lane.setSlotW_xla (l : Lane) (c : Word) (s : Nat) (st : SlotSt) : (l.setSlotW c s st).xla = l.xla := by
  unfold Lane.setSlotW; split <;> rfl
@[simp] theorem Lane.setSlotW_pcl (l : Lane) (c : Word) (s : Nat) (st : SlotSt) : (l.setSlotW c s st).pcl = l.pcl := by
  unfold Lane.setSlotW; split <;> rfl
@[simp] theorem Lane.setSlotW_fcl (l : Lane) (c : Word) (s : Nat) (st : SlotSt) : (l.setSlotW c s st).fcl = l.fcl := by
  unfold Lane.setSlotW; split <;> rfl
@[simp] theorem Lane.setSlotW_cmu (l : Lane) (c : Word) (s : Nat) (st : SlotSt) : (l.setSlotW c s st).cmu = l.cmu := by
  unfold Lane.setSlotW; split <;> rfl
@[simp] theorem Lane.setSlotW_afe (l : Lane) (c : Word) (s : Nat) (st : SlotSt) : (l.setSlotW c s st).afe = l.afe := by
  unfold Lane.setSlotW; split <;> rfl
@[simp] theorem Lane.setSlotW_pfb (l : Lane) (c : Word) (s : Nat) (st : SlotSt) : (l.setSlotW c s st).pfb = l.pfb := by
  unfold Lane.setSlotW; split <;> rfl
@[simp] theorem Lane.setSlotW_gdc (l : Lane) (c : Word) (s : Nat) (st : SlotSt) : (l.setSlotW c s st).gdc = l.gdc := by
  unfold Lane.setSlotW; split <;> rfl
@[simp] theorem Lane.setSlotW_drive (l : Lane) (c : Word) (s : Nat) (st : SlotSt) : (l.setSlotW c s st).drive = l.drive := by
  unfold Lane.setSlotW; split <;> rfl
@[simp] theorem Lane.setSlotW_sfu (l : Lane) (c : Word) (s : Nat) (st : SlotSt) : (l.setSlotW c s st).sfu = l.sfu := by
  unfold Lane.setSlotW; split <;> rfl
@[simp] theorem Lane.setSlotW_wck (l : Lane) (c : Word) (s : Nat) (st : SlotSt) : (l.setSlotW c s st).wck = l.wck := by
  unfold Lane.setSlotW; split <;> rfl
@[simp] theorem Lane.setSlotW_can (l : Lane) (c : Word) (s : Nat) (st : SlotSt) : (l.setSlotW c s st).can = l.can := by
  unfold Lane.setSlotW; split <;> rfl
@[simp] theorem Lane.setSlotW_hif (l : Lane) (c : Word) (s : Nat) (st : SlotSt) : (l.setSlotW c s st).hif = l.hif := by
  unfold Lane.setSlotW; split <;> rfl
@[simp] theorem Lane.setSlotW_mbx (l : Lane) (c : Word) (s : Nat) (st : SlotSt) : (l.setSlotW c s st).mbx = l.mbx := by
  unfold Lane.setSlotW; split <;> rfl
@[simp] theorem Lane.setSlotW_stage (l : Lane) (c : Word) (s : Nat) (st : SlotSt) : (l.setSlotW c s st).stage = l.stage := by
  unfold Lane.setSlotW; split <;> rfl
@[simp] theorem Lane.setSlotW_inMap (l : Lane) (c : Word) (s : Nat) (st : SlotSt) : (l.setSlotW c s st).inMap = l.inMap := by
  unfold Lane.setSlotW; split <;> rfl
@[simp] theorem Lane.setSlotW_hostKeys (l : Lane) (c : Word) (s : Nat) (st : SlotSt) : (l.setSlotW c s st).hostKeys = l.hostKeys := by
  unfold Lane.setSlotW; split <;> rfl
@[simp] theorem Lane.setSlotW_norCap (l : Lane) (c : Word) (s : Nat) (st : SlotSt) : (l.setSlotW c s st).norCap = l.norCap := by
  unfold Lane.setSlotW; split <;> rfl
@[simp] theorem Lane.setSlotW_stm (l : Lane) (c : Word) (s : Nat) (st : SlotSt) : (l.setSlotW c s st).stm = l.stm := by
  unfold Lane.setSlotW; split <;> rfl
@[simp] theorem Lane.setSlotW_nor (l : Lane) (c : Word) (s : Nat) (st : SlotSt) : (l.setSlotW c s st).nor = l.nor := by
  unfold Lane.setSlotW; split <;> rfl
@[simp] theorem Lane.setSlotW_nand (l : Lane) (c : Word) (s : Nat) (st : SlotSt) : (l.setSlotW c s st).nand = l.nand := by
  unfold Lane.setSlotW; split <;> rfl
@[simp] theorem Lane.setSlotW_pmu (l : Lane) (c : Word) (s : Nat) (st : SlotSt) : (l.setSlotW c s st).pmu = l.pmu := by
  unfold Lane.setSlotW; split <;> rfl
@[simp] theorem Lane.setSlotW_otp (l : Lane) (c : Word) (s : Nat) (st : SlotSt) : (l.setSlotW c s st).otp = l.otp := by
  unfold Lane.setSlotW; split <;> rfl
@[simp] theorem Lane.setSlotW_boot (l : Lane) (c : Word) (s : Nat) (st : SlotSt) : (l.setSlotW c s st).boot = l.boot := by
  unfold Lane.setSlotW; split <;> rfl
@[simp] theorem Lane.setSlotW_sec (l : Lane) (c : Word) (s : Nat) (st : SlotSt) : (l.setSlotW c s st).sec = l.sec := by
  unfold Lane.setSlotW; split <;> rfl
@[simp] theorem Lane.setSlotW_trc (l : Lane) (c : Word) (s : Nat) (st : SlotSt) : (l.setSlotW c s st).trc = l.trc := by
  unfold Lane.setSlotW; split <;> rfl
@[simp] theorem Lane.setSlotW_tap (l : Lane) (c : Word) (s : Nat) (st : SlotSt) : (l.setSlotW c s st).tap = l.tap := by
  unfold Lane.setSlotW; split <;> rfl
@[simp] theorem Lane.setSlotW_staPartial (l : Lane) (c : Word) (s : Nat) (st : SlotSt) : (l.setSlotW c s st).staPartial = l.staPartial := by
  unfold Lane.setSlotW; split <;> rfl
@[simp] theorem Lane.setSlotW_bus (l : Lane) (c : Word) (s : Nat) (st : SlotSt) : (l.setSlotW c s st).bus = l.bus := by
  unfold Lane.setSlotW; split <;> rfl
@[simp] theorem Lane.setSlotW_free (l : Lane) (c : Word) (s : Nat) (st : SlotSt) : (l.setSlotW c s st).free = l.free := by
  unfold Lane.setSlotW; split <;> rfl
@[simp] theorem Lane.setSlotW_out (l : Lane) (c : Word) (s : Nat) (st : SlotSt) : (l.setSlotW c s st).out = l.out := by
  unfold Lane.setSlotW; split <;> rfl

@[simp] theorem Lane.tookRsn_id (l : Lane) : (l.tookRsn).id = l.id := rfl
@[simp] theorem Lane.tookRsn_regs (l : Lane) : (l.tookRsn).regs = l.regs := rfl
@[simp] theorem Lane.tookRsn_mem (l : Lane) : (l.tookRsn).mem = l.mem := rfl
@[simp] theorem Lane.tookRsn_clk (l : Lane) : (l.tookRsn).clk = l.clk := rfl
@[simp] theorem Lane.tookRsn_bcn (l : Lane) : (l.tookRsn).bcn = l.bcn := rfl
@[simp] theorem Lane.tookRsn_xla (l : Lane) : (l.tookRsn).xla = l.xla := rfl
@[simp] theorem Lane.tookRsn_pcl (l : Lane) : (l.tookRsn).pcl = l.pcl := rfl
@[simp] theorem Lane.tookRsn_cen (l : Lane) : (l.tookRsn).cen = l.cen := rfl
@[simp] theorem Lane.tookRsn_fcl (l : Lane) : (l.tookRsn).fcl = l.fcl := rfl
@[simp] theorem Lane.tookRsn_cmu (l : Lane) : (l.tookRsn).cmu = l.cmu := rfl
@[simp] theorem Lane.tookRsn_afe (l : Lane) : (l.tookRsn).afe = l.afe := rfl
@[simp] theorem Lane.tookRsn_pfb (l : Lane) : (l.tookRsn).pfb = l.pfb := rfl
@[simp] theorem Lane.tookRsn_gdc (l : Lane) : (l.tookRsn).gdc = l.gdc := rfl
@[simp] theorem Lane.tookRsn_drive (l : Lane) : (l.tookRsn).drive = l.drive := rfl
@[simp] theorem Lane.tookRsn_sfu (l : Lane) : (l.tookRsn).sfu = l.sfu := rfl
@[simp] theorem Lane.tookRsn_wck (l : Lane) : (l.tookRsn).wck = l.wck := rfl
@[simp] theorem Lane.tookRsn_can (l : Lane) : (l.tookRsn).can = l.can := rfl
@[simp] theorem Lane.tookRsn_hif (l : Lane) : (l.tookRsn).hif = l.hif := rfl
@[simp] theorem Lane.tookRsn_mbx (l : Lane) : (l.tookRsn).mbx = l.mbx := rfl
@[simp] theorem Lane.tookRsn_stage (l : Lane) : (l.tookRsn).stage = l.stage := rfl
@[simp] theorem Lane.tookRsn_inMap (l : Lane) : (l.tookRsn).inMap = l.inMap := rfl
@[simp] theorem Lane.tookRsn_hostKeys (l : Lane) : (l.tookRsn).hostKeys = l.hostKeys := rfl
@[simp] theorem Lane.tookRsn_norCap (l : Lane) : (l.tookRsn).norCap = l.norCap := rfl
@[simp] theorem Lane.tookRsn_stm (l : Lane) : (l.tookRsn).stm = l.stm := rfl
@[simp] theorem Lane.tookRsn_nor (l : Lane) : (l.tookRsn).nor = l.nor := rfl
@[simp] theorem Lane.tookRsn_pmu (l : Lane) : (l.tookRsn).pmu = l.pmu := rfl
@[simp] theorem Lane.tookRsn_otp (l : Lane) : (l.tookRsn).otp = l.otp := rfl
@[simp] theorem Lane.tookRsn_boot (l : Lane) : (l.tookRsn).boot = l.boot := rfl
@[simp] theorem Lane.tookRsn_sec (l : Lane) : (l.tookRsn).sec = l.sec := rfl
@[simp] theorem Lane.tookRsn_trc (l : Lane) : (l.tookRsn).trc = l.trc := rfl
@[simp] theorem Lane.tookRsn_tap (l : Lane) : (l.tookRsn).tap = l.tap := rfl
@[simp] theorem Lane.tookRsn_staPartial (l : Lane) : (l.tookRsn).staPartial = l.staPartial := rfl
@[simp] theorem Lane.tookRsn_bus (l : Lane) : (l.tookRsn).bus = l.bus := rfl
@[simp] theorem Lane.tookRsn_free (l : Lane) : (l.tookRsn).free = l.free := rfl
@[simp] theorem Lane.tookRsn_out (l : Lane) : (l.tookRsn).out = l.out := rfl

@[simp] theorem Lane.msix_id (l : Lane) (fn vec : Nat) : (l.msix fn vec).id = l.id := by unfold Lane.msix; split <;> rfl
@[simp] theorem Lane.msix_regs (l : Lane) (fn vec : Nat) : (l.msix fn vec).regs = l.regs := by unfold Lane.msix; split <;> rfl
@[simp] theorem Lane.msix_mem (l : Lane) (fn vec : Nat) : (l.msix fn vec).mem = l.mem := by unfold Lane.msix; split <;> rfl
@[simp] theorem Lane.msix_clk (l : Lane) (fn vec : Nat) : (l.msix fn vec).clk = l.clk := by unfold Lane.msix; split <;> rfl
@[simp] theorem Lane.msix_bcn (l : Lane) (fn vec : Nat) : (l.msix fn vec).bcn = l.bcn := by unfold Lane.msix; split <;> rfl
@[simp] theorem Lane.msix_xla (l : Lane) (fn vec : Nat) : (l.msix fn vec).xla = l.xla := by unfold Lane.msix; split <;> rfl
@[simp] theorem Lane.msix_pcl (l : Lane) (fn vec : Nat) : (l.msix fn vec).pcl = l.pcl := by unfold Lane.msix; split <;> rfl
@[simp] theorem Lane.msix_cen (l : Lane) (fn vec : Nat) : (l.msix fn vec).cen = l.cen := by unfold Lane.msix; split <;> rfl
@[simp] theorem Lane.msix_fcl (l : Lane) (fn vec : Nat) : (l.msix fn vec).fcl = l.fcl := by unfold Lane.msix; split <;> rfl
@[simp] theorem Lane.msix_cmu (l : Lane) (fn vec : Nat) : (l.msix fn vec).cmu = l.cmu := by unfold Lane.msix; split <;> rfl
@[simp] theorem Lane.msix_afe (l : Lane) (fn vec : Nat) : (l.msix fn vec).afe = l.afe := by unfold Lane.msix; split <;> rfl
@[simp] theorem Lane.msix_pfb (l : Lane) (fn vec : Nat) : (l.msix fn vec).pfb = l.pfb := by unfold Lane.msix; split <;> rfl
@[simp] theorem Lane.msix_gdc (l : Lane) (fn vec : Nat) : (l.msix fn vec).gdc = l.gdc := by unfold Lane.msix; split <;> rfl
@[simp] theorem Lane.msix_drive (l : Lane) (fn vec : Nat) : (l.msix fn vec).drive = l.drive := by unfold Lane.msix; split <;> rfl
@[simp] theorem Lane.msix_sfu (l : Lane) (fn vec : Nat) : (l.msix fn vec).sfu = l.sfu := by unfold Lane.msix; split <;> rfl
@[simp] theorem Lane.msix_wck (l : Lane) (fn vec : Nat) : (l.msix fn vec).wck = l.wck := by unfold Lane.msix; split <;> rfl
@[simp] theorem Lane.msix_can (l : Lane) (fn vec : Nat) : (l.msix fn vec).can = l.can := by unfold Lane.msix; split <;> rfl
@[simp] theorem Lane.msix_hif (l : Lane) (fn vec : Nat) : (l.msix fn vec).hif = l.hif := by unfold Lane.msix; split <;> rfl
@[simp] theorem Lane.msix_mbx (l : Lane) (fn vec : Nat) : (l.msix fn vec).mbx = l.mbx := by unfold Lane.msix; split <;> rfl
@[simp] theorem Lane.msix_stage (l : Lane) (fn vec : Nat) : (l.msix fn vec).stage = l.stage := by unfold Lane.msix; split <;> rfl
@[simp] theorem Lane.msix_inMap (l : Lane) (fn vec : Nat) : (l.msix fn vec).inMap = l.inMap := by unfold Lane.msix; split <;> rfl
@[simp] theorem Lane.msix_hostKeys (l : Lane) (fn vec : Nat) : (l.msix fn vec).hostKeys = l.hostKeys := by unfold Lane.msix; split <;> rfl
@[simp] theorem Lane.msix_norCap (l : Lane) (fn vec : Nat) : (l.msix fn vec).norCap = l.norCap := by unfold Lane.msix; split <;> rfl
@[simp] theorem Lane.msix_stm (l : Lane) (fn vec : Nat) : (l.msix fn vec).stm = l.stm := by unfold Lane.msix; split <;> rfl
@[simp] theorem Lane.msix_nor (l : Lane) (fn vec : Nat) : (l.msix fn vec).nor = l.nor := by unfold Lane.msix; split <;> rfl
@[simp] theorem Lane.msix_nand (l : Lane) (fn vec : Nat) : (l.msix fn vec).nand = l.nand := by unfold Lane.msix; split <;> rfl
@[simp] theorem Lane.msix_pmu (l : Lane) (fn vec : Nat) : (l.msix fn vec).pmu = l.pmu := by unfold Lane.msix; split <;> rfl
@[simp] theorem Lane.msix_otp (l : Lane) (fn vec : Nat) : (l.msix fn vec).otp = l.otp := by unfold Lane.msix; split <;> rfl
@[simp] theorem Lane.msix_boot (l : Lane) (fn vec : Nat) : (l.msix fn vec).boot = l.boot := by unfold Lane.msix; split <;> rfl
@[simp] theorem Lane.msix_sec (l : Lane) (fn vec : Nat) : (l.msix fn vec).sec = l.sec := by unfold Lane.msix; split <;> rfl
@[simp] theorem Lane.msix_trc (l : Lane) (fn vec : Nat) : (l.msix fn vec).trc = l.trc := by unfold Lane.msix; split <;> rfl
@[simp] theorem Lane.msix_tap (l : Lane) (fn vec : Nat) : (l.msix fn vec).tap = l.tap := by unfold Lane.msix; split <;> rfl
@[simp] theorem Lane.msix_staPartial (l : Lane) (fn vec : Nat) : (l.msix fn vec).staPartial = l.staPartial := by unfold Lane.msix; split <;> rfl
@[simp] theorem Lane.msix_bus (l : Lane) (fn vec : Nat) : (l.msix fn vec).bus = l.bus := by unfold Lane.msix; split <;> rfl
@[simp] theorem Lane.msix_free (l : Lane) (fn vec : Nat) : (l.msix fn vec).free = l.free := by unfold Lane.msix; split <;> rfl

@[simp] theorem Lane.laneEvent_id (l : Lane) : (l.laneEvent).id = l.id := by simp [Lane.laneEvent]
@[simp] theorem Lane.laneEvent_regs (l : Lane) : (l.laneEvent).regs = l.regs := by simp [Lane.laneEvent]
@[simp] theorem Lane.laneEvent_mem (l : Lane) : (l.laneEvent).mem = l.mem := by simp [Lane.laneEvent]
@[simp] theorem Lane.laneEvent_clk (l : Lane) : (l.laneEvent).clk = l.clk := by simp [Lane.laneEvent]
@[simp] theorem Lane.laneEvent_bcn (l : Lane) : (l.laneEvent).bcn = l.bcn := by simp [Lane.laneEvent]
@[simp] theorem Lane.laneEvent_xla (l : Lane) : (l.laneEvent).xla = l.xla := by simp [Lane.laneEvent]
@[simp] theorem Lane.laneEvent_pcl (l : Lane) : (l.laneEvent).pcl = l.pcl := by simp [Lane.laneEvent]
@[simp] theorem Lane.laneEvent_cen (l : Lane) : (l.laneEvent).cen = l.cen := by simp [Lane.laneEvent]
@[simp] theorem Lane.laneEvent_fcl (l : Lane) : (l.laneEvent).fcl = l.fcl := by simp [Lane.laneEvent]
@[simp] theorem Lane.laneEvent_cmu (l : Lane) : (l.laneEvent).cmu = l.cmu := by simp [Lane.laneEvent]
@[simp] theorem Lane.laneEvent_afe (l : Lane) : (l.laneEvent).afe = l.afe := by simp [Lane.laneEvent]
@[simp] theorem Lane.laneEvent_pfb (l : Lane) : (l.laneEvent).pfb = l.pfb := by simp [Lane.laneEvent]
@[simp] theorem Lane.laneEvent_gdc (l : Lane) : (l.laneEvent).gdc = l.gdc := by simp [Lane.laneEvent]
@[simp] theorem Lane.laneEvent_drive (l : Lane) : (l.laneEvent).drive = l.drive := by simp [Lane.laneEvent]
@[simp] theorem Lane.laneEvent_sfu (l : Lane) : (l.laneEvent).sfu = l.sfu := by simp [Lane.laneEvent]
@[simp] theorem Lane.laneEvent_wck (l : Lane) : (l.laneEvent).wck = l.wck := by simp [Lane.laneEvent]
@[simp] theorem Lane.laneEvent_can (l : Lane) : (l.laneEvent).can = l.can := by simp [Lane.laneEvent]
@[simp] theorem Lane.laneEvent_hif (l : Lane) : (l.laneEvent).hif = l.hif := by simp [Lane.laneEvent]
@[simp] theorem Lane.laneEvent_mbx (l : Lane) : (l.laneEvent).mbx = l.mbx := by simp [Lane.laneEvent]
@[simp] theorem Lane.laneEvent_stage (l : Lane) : (l.laneEvent).stage = l.stage := by simp [Lane.laneEvent]
@[simp] theorem Lane.laneEvent_inMap (l : Lane) : (l.laneEvent).inMap = l.inMap := by simp [Lane.laneEvent]
@[simp] theorem Lane.laneEvent_hostKeys (l : Lane) : (l.laneEvent).hostKeys = l.hostKeys := by simp [Lane.laneEvent]
@[simp] theorem Lane.laneEvent_norCap (l : Lane) : (l.laneEvent).norCap = l.norCap := by simp [Lane.laneEvent]
@[simp] theorem Lane.laneEvent_stm (l : Lane) : (l.laneEvent).stm = l.stm := by simp [Lane.laneEvent]
@[simp] theorem Lane.laneEvent_nor (l : Lane) : (l.laneEvent).nor = l.nor := by simp [Lane.laneEvent]
@[simp] theorem Lane.laneEvent_nand (l : Lane) : (l.laneEvent).nand = l.nand := by simp [Lane.laneEvent]
@[simp] theorem Lane.laneEvent_pmu (l : Lane) : (l.laneEvent).pmu = l.pmu := by simp [Lane.laneEvent]
@[simp] theorem Lane.laneEvent_otp (l : Lane) : (l.laneEvent).otp = l.otp := by simp [Lane.laneEvent]
@[simp] theorem Lane.laneEvent_boot (l : Lane) : (l.laneEvent).boot = l.boot := by simp [Lane.laneEvent]
@[simp] theorem Lane.laneEvent_sec (l : Lane) : (l.laneEvent).sec = l.sec := by simp [Lane.laneEvent]
@[simp] theorem Lane.laneEvent_trc (l : Lane) : (l.laneEvent).trc = l.trc := by simp [Lane.laneEvent]
@[simp] theorem Lane.laneEvent_tap (l : Lane) : (l.laneEvent).tap = l.tap := by simp [Lane.laneEvent]
@[simp] theorem Lane.laneEvent_staPartial (l : Lane) : (l.laneEvent).staPartial = l.staPartial := by simp [Lane.laneEvent]
@[simp] theorem Lane.laneEvent_bus (l : Lane) : (l.laneEvent).bus = l.bus := by simp [Lane.laneEvent]
@[simp] theorem Lane.laneEvent_free (l : Lane) : (l.laneEvent).free = l.free := by simp [Lane.laneEvent]

theorem Lane.note_frame (l : Lane) (u : Nat) : ∃ d, l.note u = { l with drive := d } := by
  unfold Lane.note; exact ⟨_, rfl⟩
theorem Lane.noteAll_frame (l : Lane) : ∃ d, l.noteAll = { l with drive := d } := by
  obtain ⟨d0, h0⟩ := l.note_frame 0
  obtain ⟨d1, h1⟩ := Lane.note_frame { l with drive := d0 } 1
  obtain ⟨d2, h2⟩ := Lane.note_frame { l with drive := d1 } 2
  exact ⟨d2, by unfold Lane.noteAll; rw [h0, h1, h2]⟩
theorem Lane.endStart_frame (l : Lane) (b : Nat) : ∃ c r, l.endStart b = { l with cmu := c, regs := r } := by
  unfold Lane.endStart Lane.setBridge Lane.wr Lane.setWord; exact ⟨_, _, rfl⟩
theorem Lane.endStarts_frame (l : Lane) : ∃ c r, l.endStarts = { l with cmu := c, regs := r } := by
  obtain ⟨c0, r0, h0⟩ := l.endStart_frame 0
  obtain ⟨c1, r1, h1⟩ := Lane.endStart_frame { l with cmu := c0, regs := r0 } 1
  exact ⟨c1, r1, by unfold Lane.endStarts; rw [h0, h1]⟩

/-- Everything that the command of the Snuff action can change: the drive die, the GDC's own state, the commutation units and their
registers, and what was sent. -/
theorem Lane.snuffDrive_frame (l : Lane) :
    ∃ d g c r, l.snuffDrive = { l with drive := d, gdc := g, cmu := c, regs := r, out := .snuff :: l.out } := by
  unfold Lane.snuffDrive
  obtain ⟨d, hd⟩ := l.noteAll_frame
  by_cases h : l.drive.snuff = true
  · obtain ⟨c, r, he⟩ := l.endStarts_frame
    rw [if_pos h, he]; exact ⟨_, _, _, _, rfl⟩
  · obtain ⟨c, r, he⟩ := Lane.endStarts_frame { l with drive := d }
    rw [if_neg h, hd, he]; exact ⟨_, _, _, _, rfl⟩
@[simp] theorem Lane.snuffDrive_id (l : Lane) : (l.snuffDrive).id = l.id := by obtain ⟨_, _, _, _, h⟩ := l.snuffDrive_frame; rw [h]
@[simp] theorem Lane.snuffDrive_mem (l : Lane) : (l.snuffDrive).mem = l.mem := by obtain ⟨_, _, _, _, h⟩ := l.snuffDrive_frame; rw [h]
@[simp] theorem Lane.snuffDrive_clk (l : Lane) : (l.snuffDrive).clk = l.clk := by obtain ⟨_, _, _, _, h⟩ := l.snuffDrive_frame; rw [h]
@[simp] theorem Lane.snuffDrive_bcn (l : Lane) : (l.snuffDrive).bcn = l.bcn := by obtain ⟨_, _, _, _, h⟩ := l.snuffDrive_frame; rw [h]
@[simp] theorem Lane.snuffDrive_xla (l : Lane) : (l.snuffDrive).xla = l.xla := by obtain ⟨_, _, _, _, h⟩ := l.snuffDrive_frame; rw [h]
@[simp] theorem Lane.snuffDrive_pcl (l : Lane) : (l.snuffDrive).pcl = l.pcl := by obtain ⟨_, _, _, _, h⟩ := l.snuffDrive_frame; rw [h]
@[simp] theorem Lane.snuffDrive_cen (l : Lane) : (l.snuffDrive).cen = l.cen := by obtain ⟨_, _, _, _, h⟩ := l.snuffDrive_frame; rw [h]
@[simp] theorem Lane.snuffDrive_fcl (l : Lane) : (l.snuffDrive).fcl = l.fcl := by obtain ⟨_, _, _, _, h⟩ := l.snuffDrive_frame; rw [h]
@[simp] theorem Lane.snuffDrive_afe (l : Lane) : (l.snuffDrive).afe = l.afe := by obtain ⟨_, _, _, _, h⟩ := l.snuffDrive_frame; rw [h]
@[simp] theorem Lane.snuffDrive_pfb (l : Lane) : (l.snuffDrive).pfb = l.pfb := by obtain ⟨_, _, _, _, h⟩ := l.snuffDrive_frame; rw [h]
@[simp] theorem Lane.snuffDrive_sfu (l : Lane) : (l.snuffDrive).sfu = l.sfu := by obtain ⟨_, _, _, _, h⟩ := l.snuffDrive_frame; rw [h]
@[simp] theorem Lane.snuffDrive_wck (l : Lane) : (l.snuffDrive).wck = l.wck := by obtain ⟨_, _, _, _, h⟩ := l.snuffDrive_frame; rw [h]
@[simp] theorem Lane.snuffDrive_can (l : Lane) : (l.snuffDrive).can = l.can := by obtain ⟨_, _, _, _, h⟩ := l.snuffDrive_frame; rw [h]
@[simp] theorem Lane.snuffDrive_hif (l : Lane) : (l.snuffDrive).hif = l.hif := by obtain ⟨_, _, _, _, h⟩ := l.snuffDrive_frame; rw [h]
@[simp] theorem Lane.snuffDrive_mbx (l : Lane) : (l.snuffDrive).mbx = l.mbx := by obtain ⟨_, _, _, _, h⟩ := l.snuffDrive_frame; rw [h]
@[simp] theorem Lane.snuffDrive_stage (l : Lane) : (l.snuffDrive).stage = l.stage := by obtain ⟨_, _, _, _, h⟩ := l.snuffDrive_frame; rw [h]
@[simp] theorem Lane.snuffDrive_inMap (l : Lane) : (l.snuffDrive).inMap = l.inMap := by obtain ⟨_, _, _, _, h⟩ := l.snuffDrive_frame; rw [h]
@[simp] theorem Lane.snuffDrive_hostKeys (l : Lane) : (l.snuffDrive).hostKeys = l.hostKeys := by obtain ⟨_, _, _, _, h⟩ := l.snuffDrive_frame; rw [h]
@[simp] theorem Lane.snuffDrive_norCap (l : Lane) : (l.snuffDrive).norCap = l.norCap := by obtain ⟨_, _, _, _, h⟩ := l.snuffDrive_frame; rw [h]
@[simp] theorem Lane.snuffDrive_stm (l : Lane) : (l.snuffDrive).stm = l.stm := by obtain ⟨_, _, _, _, h⟩ := l.snuffDrive_frame; rw [h]
@[simp] theorem Lane.snuffDrive_nor (l : Lane) : (l.snuffDrive).nor = l.nor := by obtain ⟨_, _, _, _, h⟩ := l.snuffDrive_frame; rw [h]
@[simp] theorem Lane.snuffDrive_nand (l : Lane) : (l.snuffDrive).nand = l.nand := by obtain ⟨_, _, _, _, h⟩ := l.snuffDrive_frame; rw [h]
@[simp] theorem Lane.snuffDrive_pmu (l : Lane) : (l.snuffDrive).pmu = l.pmu := by obtain ⟨_, _, _, _, h⟩ := l.snuffDrive_frame; rw [h]
@[simp] theorem Lane.snuffDrive_otp (l : Lane) : (l.snuffDrive).otp = l.otp := by obtain ⟨_, _, _, _, h⟩ := l.snuffDrive_frame; rw [h]
@[simp] theorem Lane.snuffDrive_boot (l : Lane) : (l.snuffDrive).boot = l.boot := by obtain ⟨_, _, _, _, h⟩ := l.snuffDrive_frame; rw [h]
@[simp] theorem Lane.snuffDrive_sec (l : Lane) : (l.snuffDrive).sec = l.sec := by obtain ⟨_, _, _, _, h⟩ := l.snuffDrive_frame; rw [h]
@[simp] theorem Lane.snuffDrive_trc (l : Lane) : (l.snuffDrive).trc = l.trc := by obtain ⟨_, _, _, _, h⟩ := l.snuffDrive_frame; rw [h]
@[simp] theorem Lane.snuffDrive_tap (l : Lane) : (l.snuffDrive).tap = l.tap := by obtain ⟨_, _, _, _, h⟩ := l.snuffDrive_frame; rw [h]
@[simp] theorem Lane.snuffDrive_staPartial (l : Lane) : (l.snuffDrive).staPartial = l.staPartial := by obtain ⟨_, _, _, _, h⟩ := l.snuffDrive_frame; rw [h]
@[simp] theorem Lane.snuffDrive_bus (l : Lane) : (l.snuffDrive).bus = l.bus := by obtain ⟨_, _, _, _, h⟩ := l.snuffDrive_frame; rw [h]
@[simp] theorem Lane.snuffDrive_free (l : Lane) : (l.snuffDrive).free = l.free := by obtain ⟨_, _, _, _, h⟩ := l.snuffDrive_frame; rw [h]


@[simp] theorem Lane.hear_id (l : Lane) (link : Nat) : (l.hear link).id = l.id := rfl
@[simp] theorem Lane.hear_regs (l : Lane) (link : Nat) : (l.hear link).regs = l.regs := rfl
@[simp] theorem Lane.hear_mem (l : Lane) (link : Nat) : (l.hear link).mem = l.mem := rfl
@[simp] theorem Lane.hear_clk (l : Lane) (link : Nat) : (l.hear link).clk = l.clk := rfl
@[simp] theorem Lane.hear_bcn (l : Lane) (link : Nat) : (l.hear link).bcn = l.bcn := rfl
@[simp] theorem Lane.hear_pcl (l : Lane) (link : Nat) : (l.hear link).pcl = l.pcl := rfl
@[simp] theorem Lane.hear_cen (l : Lane) (link : Nat) : (l.hear link).cen = l.cen := rfl
@[simp] theorem Lane.hear_fcl (l : Lane) (link : Nat) : (l.hear link).fcl = l.fcl := rfl
@[simp] theorem Lane.hear_cmu (l : Lane) (link : Nat) : (l.hear link).cmu = l.cmu := rfl
@[simp] theorem Lane.hear_afe (l : Lane) (link : Nat) : (l.hear link).afe = l.afe := rfl
@[simp] theorem Lane.hear_pfb (l : Lane) (link : Nat) : (l.hear link).pfb = l.pfb := rfl
@[simp] theorem Lane.hear_gdc (l : Lane) (link : Nat) : (l.hear link).gdc = l.gdc := rfl
@[simp] theorem Lane.hear_drive (l : Lane) (link : Nat) : (l.hear link).drive = l.drive := rfl
@[simp] theorem Lane.hear_sfu (l : Lane) (link : Nat) : (l.hear link).sfu = l.sfu := rfl
@[simp] theorem Lane.hear_wck (l : Lane) (link : Nat) : (l.hear link).wck = l.wck := rfl
@[simp] theorem Lane.hear_can (l : Lane) (link : Nat) : (l.hear link).can = l.can := rfl
@[simp] theorem Lane.hear_hif (l : Lane) (link : Nat) : (l.hear link).hif = l.hif := rfl
@[simp] theorem Lane.hear_mbx (l : Lane) (link : Nat) : (l.hear link).mbx = l.mbx := rfl
@[simp] theorem Lane.hear_stage (l : Lane) (link : Nat) : (l.hear link).stage = l.stage := rfl
@[simp] theorem Lane.hear_inMap (l : Lane) (link : Nat) : (l.hear link).inMap = l.inMap := rfl
@[simp] theorem Lane.hear_hostKeys (l : Lane) (link : Nat) : (l.hear link).hostKeys = l.hostKeys := rfl
@[simp] theorem Lane.hear_norCap (l : Lane) (link : Nat) : (l.hear link).norCap = l.norCap := rfl
@[simp] theorem Lane.hear_stm (l : Lane) (link : Nat) : (l.hear link).stm = l.stm := rfl
@[simp] theorem Lane.hear_nor (l : Lane) (link : Nat) : (l.hear link).nor = l.nor := rfl
@[simp] theorem Lane.hear_nand (l : Lane) (link : Nat) : (l.hear link).nand = l.nand := rfl
@[simp] theorem Lane.hear_pmu (l : Lane) (link : Nat) : (l.hear link).pmu = l.pmu := rfl
@[simp] theorem Lane.hear_otp (l : Lane) (link : Nat) : (l.hear link).otp = l.otp := rfl
@[simp] theorem Lane.hear_boot (l : Lane) (link : Nat) : (l.hear link).boot = l.boot := rfl
@[simp] theorem Lane.hear_sec (l : Lane) (link : Nat) : (l.hear link).sec = l.sec := rfl
@[simp] theorem Lane.hear_trc (l : Lane) (link : Nat) : (l.hear link).trc = l.trc := rfl
@[simp] theorem Lane.hear_tap (l : Lane) (link : Nat) : (l.hear link).tap = l.tap := rfl
@[simp] theorem Lane.hear_staPartial (l : Lane) (link : Nat) : (l.hear link).staPartial = l.staPartial := rfl
@[simp] theorem Lane.hear_bus (l : Lane) (link : Nat) : (l.hear link).bus = l.bus := rfl
@[simp] theorem Lane.hear_free (l : Lane) (link : Nat) : (l.hear link).free = l.free := rfl
@[simp] theorem Lane.hear_out (l : Lane) (link : Nat) : (l.hear link).out = l.out := rfl

@[simp] theorem Lane.discardFrame_id (l : Lane) (link : Nat) : (l.discardFrame link).id = l.id := rfl
@[simp] theorem Lane.discardFrame_mem (l : Lane) (link : Nat) : (l.discardFrame link).mem = l.mem := rfl
@[simp] theorem Lane.discardFrame_clk (l : Lane) (link : Nat) : (l.discardFrame link).clk = l.clk := rfl
@[simp] theorem Lane.discardFrame_bcn (l : Lane) (link : Nat) : (l.discardFrame link).bcn = l.bcn := rfl
@[simp] theorem Lane.discardFrame_xla (l : Lane) (link : Nat) : (l.discardFrame link).xla = l.xla := rfl
@[simp] theorem Lane.discardFrame_pcl (l : Lane) (link : Nat) : (l.discardFrame link).pcl = l.pcl := rfl
@[simp] theorem Lane.discardFrame_cen (l : Lane) (link : Nat) : (l.discardFrame link).cen = l.cen := rfl
@[simp] theorem Lane.discardFrame_fcl (l : Lane) (link : Nat) : (l.discardFrame link).fcl = l.fcl := rfl
@[simp] theorem Lane.discardFrame_cmu (l : Lane) (link : Nat) : (l.discardFrame link).cmu = l.cmu := rfl
@[simp] theorem Lane.discardFrame_afe (l : Lane) (link : Nat) : (l.discardFrame link).afe = l.afe := rfl
@[simp] theorem Lane.discardFrame_pfb (l : Lane) (link : Nat) : (l.discardFrame link).pfb = l.pfb := rfl
@[simp] theorem Lane.discardFrame_gdc (l : Lane) (link : Nat) : (l.discardFrame link).gdc = l.gdc := rfl
@[simp] theorem Lane.discardFrame_drive (l : Lane) (link : Nat) : (l.discardFrame link).drive = l.drive := rfl
@[simp] theorem Lane.discardFrame_sfu (l : Lane) (link : Nat) : (l.discardFrame link).sfu = l.sfu := rfl
@[simp] theorem Lane.discardFrame_wck (l : Lane) (link : Nat) : (l.discardFrame link).wck = l.wck := rfl
@[simp] theorem Lane.discardFrame_can (l : Lane) (link : Nat) : (l.discardFrame link).can = l.can := rfl
@[simp] theorem Lane.discardFrame_hif (l : Lane) (link : Nat) : (l.discardFrame link).hif = l.hif := rfl
@[simp] theorem Lane.discardFrame_mbx (l : Lane) (link : Nat) : (l.discardFrame link).mbx = l.mbx := rfl
@[simp] theorem Lane.discardFrame_stage (l : Lane) (link : Nat) : (l.discardFrame link).stage = l.stage := rfl
@[simp] theorem Lane.discardFrame_inMap (l : Lane) (link : Nat) : (l.discardFrame link).inMap = l.inMap := rfl
@[simp] theorem Lane.discardFrame_hostKeys (l : Lane) (link : Nat) : (l.discardFrame link).hostKeys = l.hostKeys := rfl
@[simp] theorem Lane.discardFrame_norCap (l : Lane) (link : Nat) : (l.discardFrame link).norCap = l.norCap := rfl
@[simp] theorem Lane.discardFrame_stm (l : Lane) (link : Nat) : (l.discardFrame link).stm = l.stm := rfl
@[simp] theorem Lane.discardFrame_nor (l : Lane) (link : Nat) : (l.discardFrame link).nor = l.nor := rfl
@[simp] theorem Lane.discardFrame_nand (l : Lane) (link : Nat) : (l.discardFrame link).nand = l.nand := rfl
@[simp] theorem Lane.discardFrame_pmu (l : Lane) (link : Nat) : (l.discardFrame link).pmu = l.pmu := rfl
@[simp] theorem Lane.discardFrame_otp (l : Lane) (link : Nat) : (l.discardFrame link).otp = l.otp := rfl
@[simp] theorem Lane.discardFrame_boot (l : Lane) (link : Nat) : (l.discardFrame link).boot = l.boot := rfl
@[simp] theorem Lane.discardFrame_sec (l : Lane) (link : Nat) : (l.discardFrame link).sec = l.sec := rfl
@[simp] theorem Lane.discardFrame_trc (l : Lane) (link : Nat) : (l.discardFrame link).trc = l.trc := rfl
@[simp] theorem Lane.discardFrame_tap (l : Lane) (link : Nat) : (l.discardFrame link).tap = l.tap := rfl
@[simp] theorem Lane.discardFrame_staPartial (l : Lane) (link : Nat) : (l.discardFrame link).staPartial = l.staPartial := rfl
@[simp] theorem Lane.discardFrame_bus (l : Lane) (link : Nat) : (l.discardFrame link).bus = l.bus := rfl
@[simp] theorem Lane.discardFrame_free (l : Lane) (link : Nat) : (l.discardFrame link).free = l.free := rfl
@[simp] theorem Lane.discardFrame_out (l : Lane) (link : Nat) : (l.discardFrame link).out = l.out := rfl

/-! ### What the updates write -/

@[simp] theorem Lane.atTick_now (l : Lane) (t : Nat) : (l.atTick t).clk.now = l.clk.base + t := rfl
@[simp] theorem Lane.atTick_base (l : Lane) (t : Nat) : (l.atTick t).clk.base = l.clk.base := rfl
@[simp] theorem Lane.atTick_cycles (l : Lane) (t : Nat) : (l.atTick t).clk.cycles = l.clk.cycles := rfl
@[simp] theorem Lane.atTick_phase (l : Lane) (t : Nat) : (l.atTick t).clk.phase = l.clk.phase := rfl
@[simp] theorem Lane.atTick_len (l : Lane) (t : Nat) : (l.atTick t).clk.len = l.clk.len := rfl
@[simp] theorem Lane.atTick_tick (l : Lane) (t : Nat) : (l.atTick t).tick = t := by simp [Lane.tick]
@[simp] theorem Lane.emit_out (l : Lane) (e : Emit) : (l.emit e).out = e :: l.out := rfl
@[simp] theorem Lane.drew_free (l : Lane) : (l.drew).free = l.free + 1 := rfl
@[simp] theorem Lane.onXla_xla (l : Lane) (f : Xla → Xla) : (l.onXla f).xla = f l.xla := rfl
@[simp] theorem Lane.onPcl_pcl (l : Lane) (f : Pcl → Pcl) : (l.onPcl f).pcl = f l.pcl := rfl
@[simp] theorem Lane.onHif_hif (l : Lane) (f : Hif → Hif) : (l.onHif f).hif = f l.hif := rfl
@[simp] theorem Lane.setWord_regs (l : Lane) (k : Nat) (w : Word) : (l.setWord k w).regs = setRegWord l.regs k w := rfl
theorem Lane.gated_of_on (l m : Lane) (d : Nat) (h : l.domOn d = true) : l.gated d m = m := if_pos h
theorem Lane.gated_of_off (l m : Lane) (d : Nat) (h : l.domOn d = false) : l.gated d m = l := by
  unfold Lane.gated; rw [h]; rfl
/-- A unit either acts or, with its domain not ON, leaves the lane as it was. -/
theorem Lane.gated_cases (l m : Lane) (d : Nat) : l.gated d m = m ∨ l.gated d m = l := by
  unfold Lane.gated; split
  · exact .inl rfl
  · exact .inr rfl
/-- An access that waits changes nothing but the list of those that wait. -/
theorem Lane.stall_frame (l : Lane) (ini : Nat) (addr : Word) (w : Option Word) (d : Option (BitVec 64 × BitVec 8)) :
    l.stall ini addr w d = { l with pmu := (l.stall ini addr w d).pmu } := rfl
@[simp] theorem Lane.atTick_domOn (l : Lane) (t d : Nat) : (l.atTick t).domOn d = l.domOn d := rfl

@[simp] theorem Lane.snuffDrive_snuff (l : Lane) : l.snuffDrive.drive.snuff = true := rfl

/-! ### Values by lane -/

@[simp] theorem Tri.get_set_self {α : Type} (t : Tri α) (l : LaneId) (v : α) : (t.set l v).get l = v := by cases l <;> rfl
theorem Tri.get_set_ne {α : Type} (t : Tri α) (l x : LaneId) (v : α) (h : x ≠ l) : (t.set l v).get x = t.get x := by
  cases l <;> cases x <;> first | rfl | exact absurd rfl h
@[simp] theorem Tri.get_all {α : Type} (v : α) (l : LaneId) : (Tri.all v).get l = v := by cases l <;> rfl
@[simp] theorem Tri.get_map {α β : Type} (f : α → β) (t : Tri α) (l : LaneId) : (t.map f).get l = f (t.get l) := by cases l <;> rfl
theorem LaneId.ofCode_code (l : LaneId) : LaneId.ofCode l.code = some l := by cases l <;> rfl

end Sys2Proof.Machine
end

