-- ==== Sys2Proof/Laws/Ops.lean ====
section
/-!
SUPPORT. Registers and their fields after a write, and what each shared operation can do.
-/
namespace Sys2Proof.Machine

open Sys2Proof

/-! ### Bit fields -/

theorem bitsOf_lt (w : Word) (lo n : Nat) : bitsOf w lo n < 2 ^ n := Nat.mod_lt _ (Nat.two_pow_pos n)

theorem setBits_toNat (w : Word) (lo n v : Nat) (h : lo + n ≤ 32) :
    (setBits w lo n v).toNat = w.toNat % 2 ^ lo + v % 2 ^ n * 2 ^ lo + w.toNat / 2 ^ (lo + n) * 2 ^ (lo + n) := by
  have hw : w.toNat < 2 ^ 32 := w.isLt
  have h1 : w.toNat / 2 ^ lo % 2 ^ n * 2 ^ lo ≤ w.toNat := by
    calc w.toNat / 2 ^ lo % 2 ^ n * 2 ^ lo ≤ w.toNat / 2 ^ lo * 2 ^ lo := Nat.mul_le_mul_right _ (Nat.mod_le _ _)
      _ ≤ w.toNat := Nat.div_mul_le_self _ _
  have h2 : w.toNat / 2 ^ (lo + n) = w.toNat / 2 ^ lo / 2 ^ n := by rw [Nat.pow_add, Nat.div_div_eq_div_mul]
  have h3 := Nat.div_add_mod (w.toNat / 2 ^ lo) (2 ^ n)
  have h4 := Nat.div_add_mod w.toNat (2 ^ lo)
  have e : w.toNat - w.toNat / 2 ^ lo % 2 ^ n * 2 ^ lo + v % 2 ^ n * 2 ^ lo =
      w.toNat % 2 ^ lo + v % 2 ^ n * 2 ^ lo + w.toNat / 2 ^ (lo + n) * 2 ^ (lo + n) := by
    rw [h2, Nat.pow_add]
    generalize w.toNat / 2 ^ lo = q at *
    generalize w.toNat = W at *
    generalize v % 2 ^ n = V at *
    have : q * 2 ^ lo = q / 2 ^ n * (2 ^ lo * 2 ^ n) + q % 2 ^ n * 2 ^ lo := by
      nth_rewrite 1 [← h3]; ring
    rw [Nat.mul_comm] at h4
    omega
  have hlt : w.toNat % 2 ^ lo + v % 2 ^ n * 2 ^ lo + w.toNat / 2 ^ (lo + n) * 2 ^ (lo + n) < 2 ^ 32 := by
    have a1 : w.toNat % 2 ^ lo < 2 ^ lo := Nat.mod_lt _ (Nat.two_pow_pos lo)
    have a2 : v % 2 ^ n < 2 ^ n := Nat.mod_lt _ (Nat.two_pow_pos n)
    have a3 : w.toNat / 2 ^ (lo + n) < 2 ^ (32 - (lo + n)) := by
      rw [Nat.div_lt_iff_lt_mul (Nat.two_pow_pos _), ← Nat.pow_add]
      have : 32 - (lo + n) + (lo + n) = 32 := by omega
      rw [this]; exact hw
    have b2 : v % 2 ^ n * 2 ^ lo + 2 ^ lo ≤ 2 ^ (lo + n) := by
      have : (v % 2 ^ n + 1) * 2 ^ lo ≤ 2 ^ n * 2 ^ lo := Nat.mul_le_mul_right _ a2
      rw [Nat.pow_add]; nlinarith
    have b3 : w.toNat / 2 ^ (lo + n) * 2 ^ (lo + n) + 2 ^ (lo + n) ≤ 2 ^ 32 := by
      have : (w.toNat / 2 ^ (lo + n) + 1) * 2 ^ (lo + n) ≤ 2 ^ (32 - (lo + n)) * 2 ^ (lo + n) := Nat.mul_le_mul_right _ a3
      rw [← Nat.pow_add] at this
      have e : 32 - (lo + n) + (lo + n) = 32 := by omega
      rw [e] at this; nlinarith
    omega
  unfold setBits
  rw [BitVec.toNat_ofNat, e, Nat.mod_eq_of_lt hlt]

/-- A field reads the value written to it. -/
theorem bitsOf_setBits (w : Word) (lo n v : Nat) (h : lo + n ≤ 32) : bitsOf (setBits w lo n v) lo n = v % 2 ^ n := by
  unfold bitsOf
  rw [setBits_toNat w lo n v h]
  have a1 : w.toNat % 2 ^ lo < 2 ^ lo := Nat.mod_lt _ (Nat.two_pow_pos lo)
  have e : w.toNat % 2 ^ lo + v % 2 ^ n * 2 ^ lo + w.toNat / 2 ^ (lo + n) * 2 ^ (lo + n) =
      w.toNat % 2 ^ lo + 2 ^ lo * (v % 2 ^ n + 2 ^ n * (w.toNat / 2 ^ (lo + n))) := by rw [Nat.pow_add]; ring
  rw [e, Nat.add_mul_div_left _ _ (Nat.two_pow_pos lo), Nat.div_eq_of_lt a1, Nat.zero_add, Nat.add_mul_mod_self_left, Nat.mod_mod]

/-- A field below another is not touched by a write to it. -/
theorem bitsOf_setBits_below (w : Word) (lo n v lo2 n2 : Nat) (h : lo + n ≤ 32) (h2 : lo2 + n2 ≤ lo) :
    bitsOf (setBits w lo n v) lo2 n2 = bitsOf w lo2 n2 := by
  unfold bitsOf
  rw [setBits_toNat w lo n v h]
  have e : w.toNat % 2 ^ lo + v % 2 ^ n * 2 ^ lo + w.toNat / 2 ^ (lo + n) * 2 ^ (lo + n) =
      w.toNat % 2 ^ lo + 2 ^ (lo2 + n2) * (2 ^ (lo - (lo2 + n2)) * (v % 2 ^ n + 2 ^ n * (w.toNat / 2 ^ (lo + n)))) := by
    have : 2 ^ lo = 2 ^ (lo2 + n2) * 2 ^ (lo - (lo2 + n2)) := by rw [← Nat.pow_add]; congr 1; omega
    rw [← Nat.mul_assoc, ← this, Nat.pow_add]; ring
  rw [← Nat.mod_mul_right_div_self, ← Nat.mod_mul_right_div_self, ← Nat.pow_add, e, Nat.add_mul_mod_self_left,
    Nat.mod_mod_of_dvd _ (Nat.pow_dvd_pow 2 h2)]

/-- A field above another is not touched by a write to it. -/
theorem bitsOf_setBits_above (w : Word) (lo n v lo2 n2 : Nat) (h : lo + n ≤ 32) (h2 : lo + n ≤ lo2) :
    bitsOf (setBits w lo n v) lo2 n2 = bitsOf w lo2 n2 := by
  unfold bitsOf
  rw [setBits_toNat w lo n v h]
  have a1 : w.toNat % 2 ^ lo < 2 ^ lo := Nat.mod_lt _ (Nat.two_pow_pos lo)
  have a2 : v % 2 ^ n < 2 ^ n := Nat.mod_lt _ (Nat.two_pow_pos n)
  have b2 : w.toNat % 2 ^ lo + v % 2 ^ n * 2 ^ lo < 2 ^ (lo + n) := by
    have : (v % 2 ^ n + 1) * 2 ^ lo ≤ 2 ^ n * 2 ^ lo := Nat.mul_le_mul_right _ a2
    rw [Nat.pow_add]; nlinarith
  have hh : 2 ^ lo2 = 2 ^ (lo + n) * 2 ^ (lo2 - (lo + n)) := by rw [← Nat.pow_add]; congr 1; omega
  rw [hh, ← Nat.div_div_eq_div_mul, ← Nat.div_div_eq_div_mul, Nat.mul_comm (w.toNat / 2 ^ (lo + n)),
    Nat.add_mul_div_left _ _ (Nat.two_pow_pos _), Nat.div_eq_of_lt b2, Nat.zero_add]

/-! ### Registers -/

@[simp] theorem regWord_set_self (m : Sparse Word) (k : Nat) (w : Word) : regWord (setRegWord m k w) k = w :=
  Sparse.get_set_self (resetWord k) m k w

theorem regWord_set_ne (m : Sparse Word) (k j : Nat) (w : Word) (h : j ≠ k) : regWord (setRegWord m k w) j = regWord m j :=
  Sparse.get_set_ne (resetWord k) m k j h w (resetWord j)

@[simp] theorem Lane.word_setWord_self (l : Lane) (k : Nat) (w : Word) : (l.setWord k w).word k = w := regWord_set_self l.regs k w

theorem Lane.word_setWord_ne (l : Lane) (k j : Nat) (w : Word) (h : j ≠ k) : (l.setWord k w).word j = l.word j :=
  regWord_set_ne l.regs k j w h

theorem Lane.word_wr_ne (l : Lane) (f : Fld) (v i j k : Nat) (h : k ≠ f.at_ i j) : (l.wr f v i j).word k = l.word k :=
  Lane.word_setWord_ne l _ _ _ h

/-- A field of a register reads the value written to it. -/
theorem Lane.rd_wr_self (l : Lane) (f : Fld) (v i j : Nat) (h : f.lo + f.w ≤ 32) : (l.wr f v i j).rd f i j = v % 2 ^ f.w := by
  simp only [Lane.rd, cfgRd, Lane.wr, Lane.setWord_regs, regWord_set_self]
  exact bitsOf_setBits _ _ _ _ h

/-- A field of another register keeps its value. -/
theorem Lane.rd_wr_ne (l : Lane) (f g : Fld) (v i j i2 j2 : Nat) (h : g.at_ i2 j2 ≠ f.at_ i j) :
    (l.wr f v i j).rd g i2 j2 = l.rd g i2 j2 := by
  simp only [Lane.rd, cfgRd, Lane.wr, Lane.setWord_regs, regWord_set_ne _ _ _ _ h]

/-- A field of the same register below or above the one written keeps its value. -/
theorem Lane.rd_wr_apart (l : Lane) (f g : Fld) (v i j i2 j2 : Nat) (h : f.lo + f.w ≤ 32) (hg : g.lo + g.w ≤ f.lo ∨ f.lo + f.w ≤ g.lo) :
    (l.wr f v i j).rd g i2 j2 = l.rd g i2 j2 := by
  by_cases hk : g.at_ i2 j2 = f.at_ i j
  · simp only [Lane.rd, cfgRd, Lane.wr, Lane.setWord_regs, hk, regWord_set_self]
    rcases hg with hg | hg
    · exact bitsOf_setBits_below _ _ _ _ _ _ h hg
    · exact bitsOf_setBits_above _ _ _ _ _ _ h hg
  · exact Lane.rd_wr_ne l f g v i j i2 j2 hk

theorem Lane.on_flag_self (l : Lane) (f : Fld) (b : Bool) (i j : Nat) (h : f.lo + f.w ≤ 32) (hw : 0 < f.w) :
    (l.flag f b i j).on f i j = b := by
  have h1 : 1 < 2 ^ f.w := Nat.one_lt_two_pow (by omega)
  simp only [Lane.on, Lane.flag, Lane.rd_wr_self l f b.toNat i j h]
  cases b <;> simp [Nat.mod_eq_of_lt h1]

/-! ### Shared operations -/

/-- A control message: on a link that is not up it does nothing, an invalid frame is discarded, and a valid one acts with its sender heard. -/
theorem Lane.control_cases (l : Lane) (code link : Nat) (h : CtlHdr) (f : LaneId → Lane → Lane) :
    (l.linkUp link = false ∧ l.control code link h f = l) ∨
    (l.linkUp link = true ∧ l.ctlOk code h = true ∧ l.control code link h f = f (l.peerOf link) (l.hear link)) ∨
    (l.linkUp link = true ∧ l.ctlOk code h = false ∧ l.control code link h f = l.discardFrame link) := by
  unfold Lane.control
  cases h1 : l.linkUp link <;> cases h2 : l.ctlOk code h <;> simp

end Sys2Proof.Machine
end

