-- ==== Sys2Proof/Laws/Records.lean ====
section
/-! SUPPORT. What the recorder's operations and the completion of a command leave alone: the safety unit and the cross-lane
agreement unit. Proofs about a command that leaves a record or completes cite these and never unfold the recorder. -/
namespace Sys2Proof.Machine
open Sys2Proof

theorem Lane.recFirst_keeps (l : Lane) : l.recFirst.sfu = l.sfu ∧ l.recFirst.xla = l.xla := by
  unfold Lane.recFirst; split <;> exact ⟨rfl, rfl⟩

theorem Lane.recBlock_keeps (l : Lane) : l.recBlock.1.sfu = l.sfu ∧ l.recBlock.1.xla = l.xla := by
  have cut : ∀ (l1 : Lane) (x : Bool), (l1.sfu = l.sfu ∧ l1.xla = l.xla) → (fun n : Lane => n.sfu = l.sfu ∧ n.xla = l.xla) (match l1.nand.lowest l1.freeBlocks with
    | some b => (({ l1.journal (.taken b) with nand := { (l1.journal (.taken b)).nand with used := (l1.journal (.taken b)).nand.used ++ [b] }, stm := { (l1.journal (.taken b)).stm with block := b } } : Lane), x)
    | none => (l1, x)).1 := by
    intro l1 x h; split <;> exact h
  unfold Lane.recBlock
  simp only
  split
  · exact ⟨rfl, rfl⟩
  · refine cut _ _ ?_
    split
    · exact (l.eraseBlock _).recFirst_keeps
    · exact ⟨rfl, rfl⟩

theorem Lane.programPage_keeps (l : Lane) : l.programPage.1.sfu = l.sfu ∧ l.programPage.1.xla = l.xla := by
  unfold Lane.programPage
  split
  · exact l.recBlock_keeps
  · exact ⟨rfl, rfl⟩

theorem Lane.recordLine_keeps (l : Lane) (r : Rec) : (l.recordLine r).sfu = l.sfu ∧ (l.recordLine r).xla = l.xla := by
  unfold Lane.recordLine; split <;> exact ⟨rfl, rfl⟩

theorem Lane.buffer_keeps (l : Lane) (r : Rec) : (l.buffer r).sfu = l.sfu ∧ (l.buffer r).xla = l.xla := by
  unfold Lane.buffer
  simp only
  split
  · exact Lane.recordLine_keeps _ r
  · split
    · have h := Lane.recordLine_keeps ({ l.savePage with stm := { l.savePage.stm with page := l.savePage.stm.page ++ [r], pageAt := if l.savePage.stm.page = [] then l.clk.now else l.savePage.stm.pageAt } } : Lane) r
      exact ⟨h.1.trans l.programPage_keeps.1, h.2.trans l.programPage_keeps.2⟩
    · exact ⟨rfl, rfl⟩

theorem Lane.tookRsn_keeps (l : Lane) : l.tookRsn.sfu = l.sfu ∧ l.tookRsn.xla = l.xla := by
  unfold Lane.tookRsn; exact ⟨rfl, rfl⟩

theorem Lane.sysRecord_keeps (l : Lane) (t : Nat) (b : List Nat) : (l.sysRecord t b).sfu = l.sfu ∧ (l.sysRecord t b).xla = l.xla := by
  have h := l.tookRsn_keeps
  unfold Lane.sysRecord Lane.record
  simp only
  generalize l.tookRsn = l1 at h ⊢
  have hb : (l1.bump STM.REC_STATUS_DROPPED).sfu = l1.sfu ∧ (l1.bump STM.REC_STATUS_DROPPED).xla = l1.xla := ⟨rfl, rfl⟩
  generalize l1.bump STM.REC_STATUS_DROPPED = l2 at hb ⊢
  rw [← h.1, ← h.2]
  split
  · exact l1.buffer_keeps _
  · split
    · split
      · exact ⟨rfl, rfl⟩
      · exact hb
    · exact ⟨h.1.symm, h.2.symm⟩

theorem Lane.pushUnless_keeps (l : Lane) (m : Bool) (q : Nat) (c : Completion) : (l.pushUnless m q c).sfu = l.sfu ∧ (l.pushUnless m q c).xla = l.xla := by
  unfold Lane.pushUnless Lane.pushCompletion
  simp only
  split
  · exact ⟨rfl, rfl⟩
  · split <;> exact ⟨rfl, rfl⟩

theorem Lane.finish_keeps (l : Lane) (img : CmdImage) (needs : Bool) (st r0 r1 : Nat) : (l.finish img needs st r0 r1).sfu = l.sfu ∧ (l.finish img needs st r0 r1).xla = l.xla := by
  unfold Lane.finish Lane.finishFrom
  split
  · exact (Lane.pushUnless_keeps _ _ _ _)
  · exact ⟨rfl, rfl⟩
end Sys2Proof.Machine
end

