-- ==== Sys2Proof/WellFormed.lean ====
section
/-!
DEFINITION. Which commands are well formed: every operand names a thing that the part has (a link, queue, core, bridge, port,
domain, fault source, initiator). A command that is not has the effect of one that finds its condition unmet.
-/
namespace Sys2Proof

/-- Whether a command's operands name things that the part has. -/
def Instr.wellFormed (i : Instr) : Bool :=
  match i with
  | .cycleStart _ _ _ => true
  | .episodeClose _ _ => true
  | .inputVectorClose _ => true
  | .agreementFrame _ _ link _ => decide (link < 2)
  | .inputAgreement _ => true
  | .sourceInjection _ => true
  | .sfuEvaluation _ => true
  | .lastLightExpiry _ _ => true
  | .fastFlowDeadlineCheck _ => true
  | .outputExchange _ => true
  | .outputFrame _ _ link _ => decide (link < 2)
  | .majorityCommit _ => true
  | .statusSend _ => true
  | .statusMessage _ _ link _ _ => decide (link < 2)
  | .fenceMessage _ _ link _ _ => decide (link < 2)
  | .claim _ _ link _ named => decide (link < 2) && decide (named < 4)
  | .move _ _ link _ target _ => decide (link < 2) && decide (target < 3)
  | .authorityMoveApply _ => true
  | .commitReady _ _ link _ _ _ => decide (link < 2)
  | .commitApply _ => true
  | .hostCmd _ _ link _ _ => decide (link < 2)
  | .hostCommandAgreed _ _ _ _ _ => true
  | .agreementTimeout _ _ _ => true
  | .join _ _ link _ => decide (link < 2)
  | .xferSend _ _ _ _ _ => true
  | .xfer _ _ link _ _ _ => decide (link < 2)
  | .xferCut _ _ link _ _ _ => decide (link < 2)
  | .cutCycleStart _ => true
  | .cleanPeriodComplete _ => true
  | .transferTimeout _ _ => true
  | .syncStartDecision _ _ _ => true
  | .syncStart _ _ link _ _ => decide (link < 2)
  | .initialStart _ => true
  | .cycleMarkerReceive _ link _ => decide (link < 2)
  | .pulseToggleReceive _ link _ => decide (link < 2)
  | .linkBlockLockLost _ _ link => decide (link < 2)
  | .linkTrainingComplete _ _ link _ => decide (link < 2)
  | .lockstepWindowCompare _ _ _ _ _ _ => true
  | .coreBusWrite _ _ _ _ _ _ => true
  | .comparatorRehearsal _ _ _ _ => true
  | .laneSramRead _ _ ini _ _ => decide (ini < 17)
  | .laneSramWrite _ _ ini _ _ _ _ => decide (ini < 17)
  | .sramScrub _ _ _ => true
  | .coreLocalMemoryError _ _ _ _ _ _ => true
  | .commsCoreWatchdog _ _ => true
  | .debugHaltRequest _ _ => true
  | .debugResume _ _ => true
  | .debugSingleStep _ _ => true
  | .debugCoreWrite _ _ _ _ => true
  | .breakpointHit _ _ watch idx => decide (idx < if watch then 4 else 8)
  | .replayQueueDrain _ _ => true
  | .taperCoreUnresponsive _ _ core => decide (core < 4)
  | .nodePreemption _ _ core => decide (core < 4)
  | .pclTableScrub _ _ bank _ _ _ => decide (bank < 2)
  | .pass _ _ core => decide (core < 4)
  | .const _ _ core => decide (core < 4)
  | .add _ _ core => decide (core < 4)
  | .sub _ _ core => decide (core < 4)
  | .mul _ _ core => decide (core < 4)
  | .mac _ _ core => decide (core < 4)
  | .div _ _ core => decide (core < 4)
  | .abs _ _ core => decide (core < 4)
  | .neg _ _ core => decide (core < 4)
  | .scale _ _ core => decide (core < 4)
  | .min _ _ core => decide (core < 4)
  | .max _ _ core => decide (core < 4)
  | .limit _ _ core => decide (core < 4)
  | .sqrt _ _ core => decide (core < 4)
  | .atan2 _ _ core => decide (core < 4)
  | .sincos _ _ core => decide (core < 4)
  | .cmp _ _ core => decide (core < 4)
  | .select _ _ core => decide (core < 4)
  | .bits _ _ core => decide (core < 4)
  | .logic _ _ core => decide (core < 4)
  | .edge _ _ core => decide (core < 4)
  | .debounce _ _ core => decide (core < 4)
  | .counter _ _ core => decide (core < 4)
  | .timer _ _ core => decide (core < 4)
  | .lpf1 _ _ core => decide (core < 4)
  | .biquad _ _ core => decide (core < 4)
  | .ratelim _ _ core => decide (core < 4)
  | .deadband _ _ core => decide (core < 4)
  | .movavg _ _ core => decide (core < 4)
  | .integ _ _ core => decide (core < 4)
  | .deriv _ _ core => decide (core < 4)
  | .delay _ _ core => decide (core < 4)
  | .lut1 _ _ core => decide (core.no < 4)
  | .lut2 _ _ core => decide (core.no < 4)
  | .steermap _ _ core => decide (core.no < 4)
  | .rangechk _ _ core => decide (core < 4)
  | .xchk _ _ core => decide (core < 4)
  | .plaus _ _ core => decide (core < 4)
  | .validor _ _ core => decide (core < 4)
  | .stuck _ _ core => decide (core < 4)
  | .bridgecmd _ _ core => decide (core < 4)
  | .safeout _ _ core => decide (core < 4)
  | .sigenc _ _ core => decide (core < 4)
  | .sigdec _ _ core => decide (core < 4)
  | .agechk _ _ core => decide (core < 4)
  | .mux4 _ _ core => decide (core < 4)
  | .statemach _ _ core => decide (core < 4)
  | .poly _ _ core => decide (core < 4)
  | .loopSlotPassage _ _ slot => decide (slot.no < 8)
  | .profileGeneratorPassage _ _ gen => decide (gen < 4)
  | .tableMemoryWrite _ _ ini _ _ => decide (ini < 17)
  | .tableMemoryScrub _ _ _ => true
  | .pwmPeriodBoundary _ _ b => decide (b < 2)
  | .startTimeout _ _ b => decide (b < 2)
  | .currentSample _ b _ _ _ => decide (b < 2)
  | .deferredSectorChange _ _ b => decide (b < 2)
  | .fastConversion _ _ _ => true
  | .slowConversion _ _ _ => true
  | .offsetCalibrationComplete _ _ ch => decide (ch < 4)
  | .chopperDeferredChange _ _ => true
  | .overvoltageTimerExpiry _ _ => true
  | .lineEdgeAccepted _ _ _ _ => true
  | .lineGlitchRejected _ _ line => decide (line < 18)
  | .glitchWindowEnd _ _ => true
  | .chatterClear _ _ line => decide (line < 18)
  | .pfbVectorLatch _ => true
  | .ssiTransactionStart _ _ port _ => decide (port < 2)
  | .ssiFrameComplete _ _ port _ => decide (port < 2)
  | .sentFrameReceived _ _ recv _ _ => decide (recv < 2)
  | .pfbArmWrite _ _ ini _ => decide (ini < 17)
  | .shootThroughCommand _ _ leg _ => decide (leg < 6)
  | .desaturationTrip _ _ x => decide (x.sw < 13)
  | .hardShortTrip _ _ x => decide (x.sw < 13)
  | .retryWaitExpiry _ _ unit => decide (unit < 3)
  | .vgdUndervoltage _ _ => true
  | .vgdLockoutClear _ _ => true
  | .vgdFirstRise _ _ => true
  | .driveDieVbusComparator _ _ _ => true
  | .adaptiveEdgeMeasured _ _ k _ _ => decide (k < 3)
  | .driveDieUpdate _ _ _ _ => true
  | .snuffCommand _ _ => true
  | .snuffRelease _ _ => true
  | .autonomousSnuff _ _ => true
  | .safetyInputSample _ _ _ => true
  | .safeOutputTestPulse _ _ out => decide (out < 2)
  | .safeOutputTestPulseEnd _ _ out _ => decide (out < 2)
  | .safeOutputCurrentLimit _ _ out => decide (out < 2)
  | .commissioningSessionLost _ _ => true
  | .faultEvent _ _ src _ _ => decide (src < 256)
  | .faultRecovery _ _ src => decide (src < 256)
  | .injectSourceEvent _ _ ini src => decide (ini < 17) && decide (src < 256)
  | .injectSignatureFlip _ _ ini => decide (ini < 17)
  | .injectSramSingleBit _ _ ini => decide (ini < 17)
  | .injectSramDoubleBit _ _ ini => decide (ini < 17)
  | .injectTableDoubleBit _ _ ini => decide (ini < 17)
  | .functionLevelReset _ _ fn => decide (fn < 2)
  | .pcieLinkDown _ _ => true
  | .pciePowerStateChange _ _ fn _ _ => decide (fn < 2)
  | .sqTail _ _ fn q _ => decide (fn < 2) && decide (q < 8)
  | .cqHead _ _ fn q _ => decide (fn < 2) && decide (q < 8)
  | .resume _ _ fn q _ => decide (fn < 2) && decide (q < 8)
  | .cancel _ _ fn q _ => decide (fn < 2) && decide (q < 8)
  | .descriptorFetch _ _ q ws _ => decide (q < 8) && decide (ws.length = 12)
  | .payloadBurst _ _ q _ _ _ _ => decide (q < 8)
  | .completionPost _ _ q => decide (q < 8)
  | .completionWaitTimeout _ _ q => decide (q < 8)
  | .qpEnableWrite _ _ ini q _ => decide (ini < 17) && decide (q < 8)
  | .nop _ _ q => decide (q < 8)
  | .resultRead _ _ q => decide (q < 8)
  | .statsRead _ _ q => decide (q < 8)
  | .recorderRead _ _ q _ => decide (q < 8)
  | .map _ _ q => decide (q < 8)
  | .unmap _ _ q => decide (q < 8)
  | .fence _ _ q => decide (q < 8)
  | .stageOpen _ _ _ => true
  | .stageWrite _ _ _ => true
  | .stageCheck _ _ _ => true
  | .commit _ _ _ => true
  | .stageAbort _ _ _ => true
  | .driveEnable _ _ _ => true
  | .driveReenable _ _ _ => true
  | .safeStop _ _ _ => true
  | .safeTorqueOff _ _ _ => true
  | .authMove _ _ _ => true
  | .laneUpdate _ _ _ _ => true
  | .commOpen _ _ _ => true
  | .commKeepalive _ _ _ => true
  | .commClose _ _ _ => true
  | .confirmCheck _ _ _ => true
  | .imageWrite _ _ _ => true
  | .keyEnrol _ _ _ _ _ => true
  | .lifecycleAdvance _ _ _ _ => true
  | .testRequestInService _ _ _ _ => true
  | .testRequestRehearse _ _ _ => true
  | .mailboxDataWrite _ _ ini m w _ => decide (ini < 17) && decide (m < 8) && decide (w < 16)
  | .mailboxPost _ _ ini m _ => decide (ini < 17) && decide (m < 8)
  | .mailboxAck _ _ ini m _ => decide (ini < 17) && decide (m < 8)
  | .sessionOpen _ _ fn _ _ => decide (fn < 2)
  | .sessionOpenAgreed _ _ _ => true
  | .sessionClose _ _ _ => true
  | .echo _ _ m => decide (m < 8)
  | .netDiag _ _ m => decide (m < 8)
  | .addrTable _ _ m => decide (m < 8)
  | .error _ _ m => decide (m < 8)
  | .ptpSyncMessage _ _ port _ => decide (port < 2)
  | .ptpSyncTimeout _ _ => true
  | .wickBoundary _ _ _ => true
  | .wickSlotTransmit _ _ _ _ => true
  | .wickDataFrame _ _ port _ _ => decide (port < 2)
  | .announce _ _ port _ _ => decide (port < 2)
  | .ack _ _ port _ _ => decide (port < 2)
  | .confirm _ _ port _ _ => decide (port < 2)
  | .wickControlSubwindow _ _ => true
  | .bestEffortFrame _ _ port _ _ => decide (port < 2)
  | .ethernetLinkChange _ _ port _ => decide (port < 2)
  | .canTxBufferDue _ _ n buf => decide (n < 6) && decide (buf < 32)
  | .canFrameTransmitted _ _ n => decide (n < 6)
  | .canFrameReceived _ _ n _ => decide (n < 6)
  | .canErrorStateChange _ _ n _ _ => decide (n < 6)
  | .canBusOffRecovery _ _ n => decide (n < 6)
  | .addressClaimContention _ _ n _ _ => decide (n < 6)
  | .addressClaimRequest _ _ n => decide (n < 6)
  | .addressClaimSettled _ _ n => decide (n < 6)
  | .xspiOperationComplete _ _ _ => true
  | .xspiTimeout _ _ cs _ => decide (cs < 2)
  | .norWindowRead _ _ ini _ => decide (ini < 17)
  | .storageMount _ _ _ _ _ => true
  | .recorderPageProgram _ _ => true
  | .nandScrub _ _ _ _ _ _ _ => true
  | .staticWearLevel _ _ => true
  | .supplyMonitorReset _ _ rail _ => decide (rail < 4)
  | .vbatPowerOn _ _ => true
  | .resetN _ _ _ => true
  | .crystalOrPllFault _ _ _ _ => true
  | .bootSequence _ _ _ => true
  | .laneReady _ _ => true
  | .domainVoteWithdrawn _ _ dom => decide (dom < 7)
  | .domainVoteArrives _ _ dom => decide (dom < 7)
  | .hostVoteWrite _ _ ini _ => decide (ini < 17)
  | .enterDoze _ _ ini => decide (ini < 17)
  | .enterBank _ _ ini => decide (ini < 17)
  | .enterEmber _ _ ini => decide (ini < 17)
  | .entryDrainWaitEnd _ _ => true
  | .entryStepComplete _ _ dom => decide (dom < 8)
  | .quiesceTimeout _ _ dom => decide (dom < 8)
  | .keyOn _ _ => true
  | .keyOff _ _ => true
  | .rtcAlarm _ _ => true
  | .pwrWake _ _ _ => true
  | .pciePerst _ _ _ => true
  | .debugAttach _ _ => true
  | .keyoffDelayExpiry _ _ => true
  | .keyoffEntryRetry _ _ => true
  | .rtcSet _ _ ini _ => decide (ini < 17)
  | .fabricAccessTimeout _ _ => true
  | .fatDisableWrite _ _ ini _ => decide (ini < 17)
  | .temperatureReading _ _ _ _ => true
  | .debugSignatureWrite _ _ level _ => decide (level < 3)
  | .debugGrantAgreed _ _ _ => true
  | .debugLockoutEnd _ _ => true
  | .lbistPowerUpStart _ _ => true
  | .keyoffTestStart _ => true
  | .lbistPartitionComplete _ _ _ _ => true
  | .bypass _ _ => true
  | .idcode _ _ => true
  | .samplePreload _ _ => true
  | .extest _ _ => true
  | .gdpRequest _ _ _ => true
  | .traceDataRead _ _ ini => decide (ini < 17)
  | .statisticsBoundary _ _ => true
  | .gdcLockWrite _ _ ini _ => decide (ini < 17)
  | .blockLockSet _ _ ini _ => decide (ini < 17)
  | .registerWrite _ _ ini _ _ => decide (ini < 17)
  | .registerRead _ _ ini _ => decide (ini < 17)
  | .unmappedAccess _ _ ini _ _ => decide (ini < 17)
  | .probeDetach _ _ => true
  | .pcieLinkUp _ _ speed => decide (speed < 4)
  | .supplyRisingThreshold _ _ rail => decide (rail < 4)

end Sys2Proof
end

