-- ==== Sys2Proof/Tests/Slice0.lean ====
section
/-!
SUPPORT. Tests of the model on fixed states, terms that are not well formed, and for each statement a state and operands that meet its
hypotheses.
-/
namespace Sys2Proof.Tests

open Sys2Proof Sys2Proof.Machine

-- One theorem after the other: many kernel evaluations that wait for each other would each take a thread.
set_option Elab.async false

/-! ### Small states -/

/-- The part after reset with lane A replaced. -/
def tState (v : Lane) : State := State.reset.setLane .a v
/-- Lane A after reset in a lane state. -/
def tLane (st : LaneState) : Lane := (Lane.reset .a).setOwn st
/-- Lane A in a lane state with both links up. -/
def tUp (st : LaneState) : Lane := ((tLane st).flag XLA.LINK_STATUS_UP true 0).flag XLA.LINK_STATUS_UP true 1
/-- A control frame of cycle 0 from lane B to every lane, without payload, of message code `code`. -/
def tCtl (code : Nat) : CtlHdr := ({ type := 3, src := 1, dest := 3, ccn := 0 } : CtlHdr).withCrc code
/-- An activation of cycle 0. -/
def tAct : Activation := { seq := 0, bank := 0, nominal := 0, start := 0, release := 0 }
/-- A valid agreement frame of cycle 0 without values. -/
def tAgree : AgreeFrame :=
  ({ type := 1, src := 1, lstate := 3, smode := 0, vset := 0, ccn := 0, auth := 3, twin := false, cfgTag := 0, values := [] } : AgreeFrame).withCrc
/-- A valid output frame of cycle 0 without tokens. -/
def tOut : OutFrame :=
  ({ type := 2, src := 1, vset := 0, rxm := 0, held := false, ccnLo := 0, tokens := [], digest := 0 } : OutFrame).withCrc
/-- An image of a host command with the given opcode and arguments. -/
def tCmd (opcode : Nat) (args : List Word := []) : CmdImage :=
  { cid := 1, flags := 0, opcode := opcode, length := 0, args := args, queue := 0, fn := 0, hash := 0 }
/-- An image of STAGE_OPEN. -/
def tImg : CmdImage := tCmd 0x10
/-- A move to lane B at cycle 0. -/
def tMove : MoveReq := { target := .b, at_ := 0, confirm := Tri.all false, img := tCmd 0x23 }
/-- A peer that matches a lane after reset. -/
def tPeer : PeerInfo := { known := true, lifecycle := 2 }
/-- An AUTHORITY in SNUFFED with both links up that knows lane B, which matches. -/
def tHost : Lane := (tUp .authority).onXla fun x => { x with peers := ⟨{}, tPeer, {}⟩, auth := some .a, vset := Tri.only .a }
/-- A lane in RESYNC with its transfer from lane B in the given phase. -/
def tJoiner (phase : Nat) : Lane := ((tUp .resync).wr XLA.RESYNC_STATUS_PHASE phase).wr XLA.RESYNC_STATUS_DONOR 1
/-- A lane in SYNC with both links trained that knows both others, which match, in SYNC. -/
def tAll : Lane :=
  (((tUp .sync).flag XLA.LINK_STATUS_TRAINED true 0).flag XLA.LINK_STATUS_TRAINED true 1).onXla fun x => { x with
      peers := ⟨{}, tPeer, tPeer⟩, lst := Tri.all .sync }
/-- A commit of cycle 0 in one step. -/
def tReq : CommitReq := { m := 0, expect := none, twoStep := false, img := tCmd 0x13 }
/-- A STATUS message of the AUTHORITY that lists an image. -/
def tStatus (img : CmdImage) : StatusMsg :=
  { lstate := 4, linkHeard := Tri.all false, pulseHeard := Tri.all false, silent := Tri.all 0, window := 0, acn := 0, tag := 0
    lifecycle := 2, sealed := true, twin := false, recordOk := false, images := [img], smode := 0, ringReady := false, covered := 0 }
/-- An AUTHORITY alone in its voting set that has checked its staging bank and declared itself ready for tReq. -/
def tCommit : Lane :=
  { tHost with hif := { commit := some tReq }, stage := { isOpen := true, checked := true }
               xla := { tHost.xla with
                 ready := ⟨some (0, 0), none, none⟩
                 statusPrev := ⟨some { tStatus (tCmd 0x33) with commit := some { at_ := tReq.m, tag := some 0, reason := 0, got := Tri.all true } }, none, none⟩ } }
/-- An AUTHORITY alone in its voting set with one authenticated command. -/
def tAuthed (img : CmdImage) : Lane := 
  { tHost with hif := { authed := [{ img := img }] }, xla := { tHost.xla with statusOld := ⟨some (tStatus img), none, none⟩ } }
/-- The register that an access of an initiator reaches, if it reaches one whose domain is ON. -/
def tReach (n : Lane) (ini key : Nat) : Bool :=
  match n.regAccess ini (privAddr key) true with | .ok k _ => n.domOn (blockDomain (k / 0x10000)) | _ => false
/-! ### Ill-formed terms, one for each check, beside a well-formed one -/

theorem test_illFormed_agreementFrame_link : (Instr.agreementFrame .a 0 2 tAgree).wellFormed = false ∧ (Instr.agreementFrame .a 0 0 tAgree).wellFormed = true := by decide
theorem test_illFormed_breakpointHit_idx : (Instr.breakpointHit .a 0 false 8).wellFormed = false ∧ (Instr.breakpointHit .a 0 false 0).wellFormed = true := by decide
theorem test_illFormed_taperCoreUnresponsive_core : (Instr.taperCoreUnresponsive .a 0 4).wellFormed = false ∧ (Instr.taperCoreUnresponsive .a 0 0).wellFormed = true := by decide
theorem test_illFormed_loopSlotPassage_slot : (Instr.loopSlotPassage .a 0 ⟨8, []⟩).wellFormed = false ∧ (Instr.loopSlotPassage .a 0 ⟨0, []⟩).wellFormed = true := by decide
theorem test_illFormed_profileGeneratorPassage_gen : (Instr.profileGeneratorPassage .a 0 4).wellFormed = false ∧ (Instr.profileGeneratorPassage .a 0 0).wellFormed = true := by decide
theorem test_illFormed_tableMemoryWrite_ini : (Instr.tableMemoryWrite .a 0 17 0 0).wellFormed = false ∧ (Instr.tableMemoryWrite .a 0 0 0 0).wellFormed = true := by decide
theorem test_illFormed_pwmPeriodBoundary_b : (Instr.pwmPeriodBoundary .a 0 2).wellFormed = false ∧ (Instr.pwmPeriodBoundary .a 0 0).wellFormed = true := by decide
theorem test_illFormed_offsetCalibrationComplete_ch : (Instr.offsetCalibrationComplete .a 0 4).wellFormed = false ∧ (Instr.offsetCalibrationComplete .a 0 0).wellFormed = true := by decide
theorem test_illFormed_lineGlitchRejected_line : (Instr.lineGlitchRejected .a 0 18).wellFormed = false ∧ (Instr.lineGlitchRejected .a 0 0).wellFormed = true := by decide
theorem test_illFormed_ssiTransactionStart_port : (Instr.ssiTransactionStart .a 0 2 false).wellFormed = false ∧ (Instr.ssiTransactionStart .a 0 0 false).wellFormed = true := by decide
theorem test_illFormed_sentFrameReceived_recv : (Instr.sentFrameReceived .a 0 2 0 []).wellFormed = false ∧ (Instr.sentFrameReceived .a 0 0 0 []).wellFormed = true := by decide
theorem test_illFormed_shootThroughCommand_leg : (Instr.shootThroughCommand .a 0 6 false).wellFormed = false ∧ (Instr.shootThroughCommand .a 0 0 false).wellFormed = true := by decide
theorem test_illFormed_desaturationTrip_sw : (Instr.desaturationTrip .a 0 ⟨13, 0⟩).wellFormed = false ∧ (Instr.desaturationTrip .a 0 ⟨0, 0⟩).wellFormed = true := by decide
theorem test_illFormed_retryWaitExpiry_unit : (Instr.retryWaitExpiry .a 0 3).wellFormed = false ∧ (Instr.retryWaitExpiry .a 0 0).wellFormed = true := by decide
theorem test_illFormed_adaptiveEdgeMeasured_k : (Instr.adaptiveEdgeMeasured .a 0 3 false 0).wellFormed = false ∧ (Instr.adaptiveEdgeMeasured .a 0 0 false 0).wellFormed = true := by decide
theorem test_illFormed_safeOutputTestPulse_out : (Instr.safeOutputTestPulse .a 0 2).wellFormed = false ∧ (Instr.safeOutputTestPulse .a 0 0).wellFormed = true := by decide
theorem test_illFormed_faultEvent_src : (Instr.faultEvent .a 0 256 0 none).wellFormed = false ∧ (Instr.faultEvent .a 0 0 0 none).wellFormed = true := by decide
theorem test_illFormed_functionLevelReset_fn : (Instr.functionLevelReset .a 0 2).wellFormed = false ∧ (Instr.functionLevelReset .a 0 0).wellFormed = true := by decide
theorem test_illFormed_sqTail_q : (Instr.sqTail .a 0 0 8 0).wellFormed = false ∧ (Instr.sqTail .a 0 0 0 0).wellFormed = true := by decide
theorem test_illFormed_mailboxDataWrite_m : (Instr.mailboxDataWrite .a 0 0 8 0 0).wellFormed = false ∧ (Instr.mailboxDataWrite .a 0 0 0 0 0).wellFormed = true := by decide
theorem test_illFormed_mailboxDataWrite_w : (Instr.mailboxDataWrite .a 0 0 0 16 0).wellFormed = false ∧ (Instr.mailboxDataWrite .a 0 0 0 0 0).wellFormed = true := by decide
theorem test_illFormed_canTxBufferDue_n : (Instr.canTxBufferDue .a 0 6 0).wellFormed = false ∧ (Instr.canTxBufferDue .a 0 0 0).wellFormed = true := by decide
theorem test_illFormed_canTxBufferDue_buf : (Instr.canTxBufferDue .a 0 0 32).wellFormed = false ∧ (Instr.canTxBufferDue .a 0 0 0).wellFormed = true := by decide
theorem test_illFormed_xspiTimeout_cs : (Instr.xspiTimeout .a 0 2 false).wellFormed = false ∧ (Instr.xspiTimeout .a 0 0 false).wellFormed = true := by decide
theorem test_illFormed_supplyMonitorReset_rail : (Instr.supplyMonitorReset .a 0 4 0).wellFormed = false ∧ (Instr.supplyMonitorReset .a 0 0 0).wellFormed = true := by decide
theorem test_illFormed_domainVoteWithdrawn_dom : (Instr.domainVoteWithdrawn .a 0 7).wellFormed = false ∧ (Instr.domainVoteWithdrawn .a 0 0).wellFormed = true := by decide
theorem test_illFormed_entryStepComplete_dom : (Instr.entryStepComplete .a 0 8).wellFormed = false ∧ (Instr.entryStepComplete .a 0 0).wellFormed = true := by decide
theorem test_illFormed_debugSignatureWrite_level : (Instr.debugSignatureWrite .a 0 3 false).wellFormed = false ∧ (Instr.debugSignatureWrite .a 0 0 false).wellFormed = true := by decide
theorem test_illFormed_pcieLinkUp_speed : (Instr.pcieLinkUp .a 0 4).wellFormed = false ∧ (Instr.pcieLinkUp .a 0 0).wellFormed = true := by decide
theorem test_illFormed_claim_named : (Instr.claim .a 0 0 (tCtl 4) 4).wellFormed = false ∧ (Instr.claim .a 0 0 (tCtl 4) 3).wellFormed = true := by decide
theorem test_illFormed_move_target : (Instr.move .a 0 0 (tCtl 5) 3 0).wellFormed = false ∧ (Instr.move .a 0 0 (tCtl 5) 2 0).wellFormed = true := by decide
theorem test_illFormed_pclTableScrub_bank :
    (Instr.pclTableScrub .a 0 2 false 0 .none).wellFormed = false ∧ (Instr.pclTableScrub .a 0 1 false 0 .none).wellFormed = true := by decide

/-! ### Values that the spec works out -/

/-- The worked example after R15: 37.5 A of 100 A is 0x06000, and -150 A is 0x28000. -/
theorem test_codes_of_R13 : toS18 24576 = 0x06000 ∧ toS18 (-98304) = 0x28000 ∧ s18 0x28000 = -98304 := by decide
/-- Ties round toward +∞ (R177), and a value beyond S18 saturates (R178). -/
theorem test_rounding : roundDiv 3 2 = 2 ∧ roundDiv (-3) 2 = -1 ∧ toS18 131072 = 0x1FFFF ∧ toS18 (-131073) = 0x20000 := by decide
/-- The worked example of a scheduled gain (05_control_engine.md): the integral increment and the output. -/
theorem test_gain_example : roundDiv (33554 * 6554) 256 = 859035 ∧ (round18 548530937).toNat = 8370 := by decide
/-- The mid-value of three (R105). -/
theorem test_midValue : midValue 3 0x3FFFF 5 = 3 ∧ midValue 7 7 0 = 7 := by decide
/-- Gray code 0b110 stands for 4 (R265). -/
theorem test_gray : grayToBin 6 = 4 ∧ grayToBin 7 = 5 := by decide +kernel
/-- The register offsets that 18_register_index.md works out: CMU.WINDOW[1] and PMU.HOST_VOTE. -/
theorem test_offsets : CMU.WINDOW_TS.at_ 1 0 = 0x2001C8 ∧ PMU.HOST_VOTE_DOM.key = 0x40001C := by decide
/-- The same example: CMU.WINDOW[1] is read in the unprivileged view, and a write of CMU.CFG[1] there is a violation. -/
theorem test_views :
    (match (tLane .standby).regAccess 0xB 0x502001C8 false with | .ok k _ => decide (k = 0x2001C8) | _ => false) = true ∧
    (match (tLane .standby).regAccess 0xB 0x50200180 true with | .violation => true | _ => false) = true := by decide +kernel
/-- W_MIN is 1,970 ns and CTL_WIN 7,880 ns in the worked example of 12_networks.md. -/
theorem test_windows :
    (let n := (((tLane .standby).wr WCK.CFG_RING_NODES 4).wr WCK.TIMING_HOP 50).wr WCK.TIMING_GUARD 20
     (wMin n.regs, ctlWin n.regs) = (197, 788)) := by decide +kernel
/-- Vigil's private windows hold registers that the model does not read out, and only Vigil reaches them (R32, R517). -/
theorem test_vigil_only :
    (match (tLane .standby).regAccess 0 0x40050000 false with | .violation => true | _ => false) = true ∧
    (match (tLane .standby).regAccess 6 0x40050000 false with | .hidden => true | _ => false) = true := by decide +kernel

/-! ### Single steps -/

/-- A step takes the front of the queue: a notice of a NAND read with no NAND mounted leaves the lane at its tick. -/
theorem test_step : (match step { tState (tLane .standby) with pending := [.xspiOperationComplete .a 600 (.nandRead 0 1 false)] } with
    | .next s => decide (s.pending = []) && decide ((s.lane .a).clk.now = 600) | _ => false) = true := by decide +kernel
/-- SAMPLE/PRELOAD outside MAKER selects the bypass register. -/
theorem test_samplePreload : (match exec (.samplePreload .b 0) State.reset with
    | .next s => decide ((s.lane .b).tap = .bypass) | _ => false) = true := by decide +kernel
/-- RESET_N low for 1 µs resets the lane with code 3, for less it does nothing. -/
theorem test_resetN : (match exec (.resetN .c 0 1000) State.reset with
      | .next s => decide ((s.lane .c).rd CRU.RESET_CAUSE_LAST = 3) | _ => false) = true ∧
    (match exec (.resetN .c 0 999) State.reset with
      | .next s => decide ((s.lane .c).rd CRU.RESET_CAUSE_LAST = 1) | _ => false) = true := by decide +kernel
/-- A read of an RC field clears it: the second read of FCL's RC count finds zero. -/
theorem test_readClears : (match exec (.registerRead .a 0 0 (privAddr FCL.EVENT_COUNT_COUNT.key)) (tState ((tLane .standby).bump FCL.EVENT_COUNT_COUNT)) with
    | .next s => decide ((s.lane .a).word FCL.EVENT_COUNT_COUNT.key = 0) && decide ((s.lane .a).bus = .done 1) | _ => false) = true := by decide +kernel
/-- An access to an offset without a register raises source 0x08 and fails (R20). -/
theorem test_unmapped : (match exec (.registerRead .a 0 0 0x4000FFFC) State.reset with
    | .next s => decide ((s.lane .a).bus = .error) && decide (((s.lane .a).src 8).events = 1) | _ => false) = true := by decide +kernel
theorem witness_StepTakesFrontCommand : ∃ (c : Instr) (cs : List Instr) (s : State), s.pending = c :: cs :=
  ⟨.nop .a 0 0, [], { State.reset with pending := [.nop .a 0 0] }, rfl⟩

theorem witness_EmptyQueueIdles : ∃ s : State, s.pending = [] := ⟨State.reset, rfl⟩

theorem witness_CommandsActOnTheirOwnLane : ∃ (c : Instr) (s t : State) (x : LaneId),
    exec c s = .next t ∧ x ≠ c.lane :=
  ⟨.debugLockoutEnd .a 0, State.reset, _, .b, rfl, by decide⟩

theorem witness_QueueDrainsInAsManySteps : ∃ (s : State) (n : Nat), n ≤ s.pending.length ∧ n ≠ 0 :=
  ⟨{ State.reset with pending := [.nop .a 0 0] }, 1, by decide, by decide⟩

theorem witness_NoLegConductsTwice :
    (let n : Lane := ({ (tLane .standby).setBridge 0 { pat := .drive, a := 1000, h := 2000 } with
       drive := { vgdRisen := true, snuff := false } } : Lane).flag CMU.CFG_CHOP true 0
     n.drive.snuff = false ∧ n.changedAt (1 / 6) ≤ 500 ∧ n.gate 500 1 = true ∧ n.gate 2000 (1 ^^^ 1) = true ∧
     500 + n.rd GDC.BR_CFG_DEADTIME (1 / 6) < 2000) := by
  and_intros <;> decide +kernel

theorem witness_EveryStepIsSafe : ∃ s t : State, s.lettersKept = true ∧ step s = .next t ∧ t ≠ s :=
  ⟨{ State.reset with pending := [.debugLockoutEnd .a 0] }, _, by decide, rfl, by decide +kernel⟩

theorem witness_CyclePhasesComplete :
    ((tState (tLane .standby)).lane .a).computes = true ∧ ((tState (tLane .standby)).lane .a).flowsRest = false ∧
    (((tLane .standby).onXla fun x => { x with commitHold := true }).computes = true ∧
      ((tLane .standby).onXla fun x => { x with commitHold := true }).flowsRest = true) ∧
    ((tState (tLane .standby)).lane .a).own.beats = true ∧ (((tState (tLane .standby)).lane .a).atTick 1200).judgeLate.computes = true ∧
    ((tState (tLane .boot)).lane .a).computes = false ∧ ((tState (tLane .boot)).lane .a).own.beats = false ∧
    ((tState ((tLane .standby).setAct 0 (some tAct))).lane .a).act 0 = some tAct ∧
    ((tLane .standby).setAct 0 (some tAct)).sinksPlaced tAct = true ∧
    ((tLane .standby).setAct 0 (some { tAct with dead := true })).act 0 = some { tAct with dead := true } ∧
    ((tState ((tLane .standby).setAct 0 (some tAct))).lane .a).computes = true ∧
    (tLane .standby).domOn 6 = true ∧ ((tLane .standby).wr PMU.DOM_STATE_STATE (2 ^ 12)).domOn 6 = false := by decide

theorem witness_CycleStartCompletes :
    ((tState (tLane .standby)).lane .a).own ≠ .off ∧ ((tState (tLane .standby)).lane .a).sec.silent = false ∧
    ((tState (tLane .standby)).lane .a).pmu.accepted = none ∧ ((tState (tLane .standby)).lane .a).xla.committed = false ∧
    (let n : Lane := { tLane .standby with pmu := { accepted := some 2, shown := true } }
     n.own ≠ .off ∧ n.sec.silent = false ∧ n.pmu.accepted = some 2 ∧ n.pmu.shown = true) ∧ (tLane .off).own = .off ∧
    ((tState ((tLane .standby).onXla fun x => { x with committed := true })).lane .a).xla.committed = true ∧
    (let n : Lane := { (tLane .authority).onXla (fun x => { x with mode := .lastLight }) with sfu := { llStart := some 0 }, clk := { now := 600000000 * 300 } }
     n.xla.mode = .lastLight ∧ n.sfu.llStart = some 0 ∧ 0 + 600000000 * n.rd SFU.LL_CFG_TIME ≤ n.clk.now ∧
     0 < 0 + 600000000 * n.rd SFU.LL_CFG_TIME) ∧ (tLane .standby).xla.mode ≠ .lastLight := by decide

theorem witness_CycleStartAdvancesTime :
    ((tLane .standby).countsCcn = true ∧ (tLane .standby).own.beats = true ∧ (tLane .boot).countsCcn = true ∧ (tLane .boot).own.beats = false) ∧
    (let n : Lane := { (tLane .standby) with
       xla := { (tLane .standby).xla with auth := some .b, lst := ⟨.standby, .authority, .standby⟩, markOff := ⟨none, some 8, none⟩ } }
     n.countsCcn = true ∧ n.reference = some .b ∧ LaneId.b ≠ n.id ∧ n.xla.migration = false ∧ n.xla.markOff.get .b = some 8 ∧
     -((n.cycleLen / 1500 : Nat) : Int) ≤ 8 ∧ (8 : Int) ≤ ((n.cycleLen / 1500 : Nat) : Int)) := by decide

theorem witness_FramesReceivedComplete :
    (let n := (tState (tUp .standby)).lane .a
     n.linkUp 0 = true ∧ n.own = .standby ∧ tAgree.crcOk = true ∧ tAgree.type = 1 ∧ tAgree.ccn = n.ccn ∧
     tOut.crcOk = true ∧ tOut.type = 2 ∧ tOut.ccnLo = n.ccn.setWidth 8 ∧ (3210 < 3211) ∧ { tOut with digest := 1 }.crcOk = false) ∧
    (tUp .sync).own = .sync ∧ (tUp .sync).linkUp 0 = true ∧
    ((({ tAgree with lstate := 4, ccn := 7 } : AgreeFrame).withCrc).crcOk = true ∧ LaneState.ofCode 4 = .authority) ∧
    ((tState (tLane .standby)).lane .a).linkUp 0 = false ∧
    (let n := (tUp .standby).onXla fun q => { q with lst := ⟨.standby, .authority, .standby⟩, vset := ⟨true, true, true⟩ }
     n.own = .standby ∧ n.leftOut { tAgree with lstate := 4, vset := 7 } = false ∧ n.leftOut { tAgree with lstate := 4, vset := 6 } = true) := by decide +kernel

/-- A lane in SYNC with both links up that knows lane B, which matches, in SYNC. -/
def tSync : Lane := { (tUp .sync) with xla := { (tUp .sync).xla with peers := ⟨{}, tPeer, {}⟩, lst := ⟨.sync, .sync, .off⟩ } }
theorem witness_ControlMessagesComplete :
    ((tState (tUp .standby)).lane .a).linkUp 0 = true ∧
    ([0x01, 0x02, 0x03, 0x04, 0x05, 0x06, 0x0A].all fun c => ((tState (tUp .standby)).lane .a).ctlOk c (tCtl c)) = true ∧
    ((tUp .standby).onXla fun q => { q with migration := true, move := some tMove }).xla.migration = true ∧
    ((tUp .standby).onXla fun q => { q with migration := true, move := some tMove }).xla.move = some tMove ∧
    (tUp .standby).hif.known.contains tImg = false ∧ ((tState tSync).lane .a).linkUp 0 = true ∧ ((tState tSync).lane .a).own = .sync := by
  and_intros <;> decide +kernel
/-- A lane in SYNC whose authority-elect is lane B, since it is itself in twin mode. -/
def tElect : Lane := ((tSync).flag BCN.MODE_TWIN true).wr XLA.AUTH_ORDER_FIRST 1
theorem witness_ControlMessagesComplete_syncStart :
    ((tState tElect).lane .a).linkUp 0 = true ∧ ((tState tElect).lane .a).own = .sync ∧ (((tState tElect).lane .a).hear 0).elect = some .b ∧
    ((tState tElect).lane .a).peerOf 0 = .b ∧ ((tState tElect).lane .a).ctlOk 0x0A (tCtl 0x0A) = true := by decide +kernel

theorem witness_InvalidControlMessagesAreDiscarded :
    ((tState (tUp .standby)).lane .a).linkUp 0 = true ∧ (tCtl 0x02).crcOk 0x01 = false ∧ (tCtl 0x02).crcOk 0x02 = true ∧
    ((tState (tUp .standby)).lane .a).linkUp 2 = false := by decide +kernel

theorem witness_AuthorityAndStartComplete :
    (let n := (tState ((tLane .standby).onXla fun q => { q with move := some tMove })).lane .a
     n.xla.move = some tMove ∧ tMove.at_ = n.ccn ∧ n.own.healthy = true) ∧
    (let n := tCommit
     n.hif.commit = some tReq ∧ tReq.stepped = false ∧ n.ccn = tReq.m ∧ tReq.twoStep = false ∧ n.own.healthy = true ∧ n.commitVerdict tReq = 0) ∧
    (let n := { tCommit with stage := { isOpen := true, checked := true, cfg := { regs := [(XLA.AUTH_ORDER_FIRST.key, 0x12)] } } }
     n.commitVerdict { tReq with twoStep := true } = 0) ∧
    (let n := { tCommit with stage := {} }
     n.hif.commit = some tReq ∧ n.ccn = tReq.m ∧ n.commitVerdict tReq ≠ 0) ∧
    (let n := tAuthed (tCmd 0x14)
     (n.agreedNow (tCmd 0x14) = true ∧ (n.take (tCmd 0x14)).keyoffBusy = false)) ∧
    (let n := { tAuthed (tCmd 0x14) with clk := { now := 600000000 } }
     n.hif.authed.find? (fun p => decide (p.img = tCmd 0x14) && !p.seen) = some { img := tCmd 0x14 } ∧ 0 + 600000 * n.rd HIF.AGREE_CFG_TIMEOUT ≤ n.clk.now) ∧
    (let n := tAll
     n.own = .sync ∧ n.elect = some .a ∧ n.xla.startAt = none ∧ n.clk.now < 1 ∧ n.matching.length = 2) ∧
    (let n : Lane := { tSync.onXla (fun q => { q with readyAt := some 0 }) with clk := { now := 78000000 } }
     n.own = .sync ∧ n.elect = some .a ∧ n.xla.readyAt = some 0 ∧ 0 + 78000000 ≤ n.clk.now) ∧
    (let n := tAll.onXla fun q => { q with startAt := some 12000 }
     n.xla.startAt = some 12000 ∧ n.elect = some .a ∧ n.own = .sync ∧ n.heldFenced = false ∧ n.bcn.stopped = false ∧ n.bcn.halted = false) := by
  and_intros <;> decide +kernel

/-- A control frame of cycle 0 from lane B to lane A with a payload of 256 bytes. -/
def tBlk (code : Nat) : CtlHdr := ({ type := 3, src := 1, dest := 0, ccn := 0, payload := List.replicate 256 0 } : CtlHdr).withCrc code
theorem test_frame_crc (h : CtlHdr) (c : Nat) (h1 : h.payload.length ≤ 256) (h2 : c ≠ 8 ∨ h.payload.length = 256) :
    (h.withCrc c).crcOk c = true := by
  have e : (h.withCrc c).crcOk c = (decide (h.payload.length ≤ 256) && (decide (c ≠ 8) || decide (h.payload.length = 256)) &&
      decide (crcBits (h.bits c) = crcBits (h.bits c))) := rfl
  rw [e]; simpa using ⟨h1, h2⟩
theorem witness_JoinAndTransferComplete :
    (let n := tHost
     n.linkUp 0 = true ∧ n.ctlOk 0x07 (tCtl 0x07) = true ∧ n.own.healthy = true ∧ (n.hear 0).admits (n.peerOf 0) = true ∧
     ((n.hear 0).setPeer .b .resync).donorFor .b = n.id) ∧ (tUp .sync).own.healthy = false ∧
    (let n := tHost.onXla fun q => { q with donorTo := some .b }
     let b := n.xferState .b
     n.xla.donorTo = some .b ∧ n.clk.phase = .background ∧ n.own.healthy = true ∧ n.linkUp (n.linkTo .b) = true ∧
       b.all (n.xferState .b).contains = true ∧ (n.readBlock b).2 = true ∧
       ((n.readBlock b).1.onXla fun q => { q with sent := sentAfter q.sent b }).xferLeft .b = [] ∧ n.mayCut = true ∧
       (({ n with mem := { n.mem with sramErr := [(0x2000, 2)] } } : Lane).readBlock [.sramWord 0x2000 0]).2 = false) ∧
    (let n := tJoiner 1
     n.linkUp 0 = true ∧ ((tBlk 8).crcOk 8 = true ∧ (tBlk 8).type = 3 ∧ (tBlk 8).ccn = n.ccn ∧ (tBlk 8).dest = n.id.code) ∧
       n.ctlOk 0x09 (tCtl 0x09) = true ∧
       ((n.hear 0).awaitTransfer (n.peerOf 0)).receives (n.peerOf 0) = true ∧ ahead n.ccn 5 = true ∧ n.own = .resync ∧
       n.rd XLA.RESYNC_STATUS_PHASE = 1) ∧
    (let n := (tJoiner 1).onXla fun q => { q with cut := some 0, accepted := some 0 }
     n.xla.cut = some n.ccn ∧ n.xla.accepted = some 0 ∧ 0 + 30000000 ≤ ({ n with clk := { now := 30000000 } } : Lane).clk.now) ∧
    (let n := (tJoiner 2).wr XLA.RESYNC_CLEAN_COUNT 50000
     n.own = .resync ∧ n.rd XLA.RESYNC_STATUS_PHASE = 2 ∧ ceilDiv 600000000 n.cycleLen ≤ n.rd XLA.RESYNC_CLEAN_COUNT) := by
  refine ⟨by decide +kernel, by decide, by decide +kernel, ⟨by decide, ⟨test_frame_crc ⟨3, 1, 0, 0, List.replicate 256 0, 0⟩ 8 (le_of_eq List.length_replicate) (.inr List.length_replicate), by decide, by decide, by decide⟩,
    by decide +kernel, by decide, by decide, by decide, by decide⟩, by decide, by decide⟩

theorem witness_MarkersAndLinksComplete :
    (let n := (tState ((tUp .standby).onXla fun x => { x with auth := some .b, lst := ⟨.standby, .authority, .standby⟩ })).lane .a
     n.linkUp 0 = true ∧ n.xla.markOff.get (n.peerOf 0) = none ∧ n.reference = some (n.peerOf 0) ∧ n.xla.migration = false ∧
     n.reference ≠ some (n.peerOf 1) ∧ ((tUp .standby).onXla fun x => { x with auth := none }).reference = none) ∧
    iabs (-300) ≤ 300 ∧ 300 < iabs 301 ∧ ((tLane .standby).flag XLA.LINK_STATUS_BLOCK_LOCK true 1).on XLA.LINK_STATUS_BLOCK_LOCK 1 = true ∧
    (tLane .standby).on XLA.LINK_STATUS_TRAINED 1 = false := by decide

theorem witness_AgreedValueFollowsItsClass :
    (tLane .standby).rd XLA.VAL_CFG_CLASS 0 = 0 ∧ ((tLane .standby).wr XLA.VAL_CFG_CLASS 1 127).rd XLA.VAL_CFG_CLASS 127 = 1 ∧
    ((tLane .standby).wr XLA.VAL_CFG_CLASS 2 5).rd XLA.VAL_CFG_CLASS 5 = 2 ∧
    iabs (s18 5 - s18 (5 : Val)) ≤ ((tLane .standby).rd XLA.VAL_CFG_TOL 0 : Int) ∧ ((tLane .standby).rd XLA.VAL_CFG_TOL 0 : Int) < iabs (s18 0x1FFFF - s18 (0x20000 : Val)) ∧
    LaneId.a.code = ((tLane .standby).wr XLA.VAL_CFG_CLASS 1 0).rd XLA.VAL_CFG_OWNER 0 ∧ LaneId.b.code ≠ (tLane .standby).rd XLA.VAL_CFG_OWNER 0 := by decide +kernel

/-- A vote with one token. -/
def tVote (x : LaneId) (v : Val) : Vote := ⟨x, { tOut with tokens := [v] }, 0⟩
theorem witness_CommittedFrameHasTwoLanes :
    verdict3 1 .a (tVote .a 7) (tVote .b 7) (tVote .c 9) = (.commit (tVote .a 7).out, some (.c, false)) ∧
    (tVote .a 7).id ≠ (tVote .b 7).id ∧ (tVote .a 7).id ≠ (tVote .c 9).id ∧ (tVote .b 7).id ≠ (tVote .c 9).id ∧
    sameVote 1 (tVote .a 7) (tVote .b 7) = true ∧ verdict3 1 .c (tVote .a 7) (tVote .b 7) (tVote .c 9) = (.minority 2, none) := by decide +kernel

theorem witness_ModeMovesAreListed :
    (tLane .standby).xla.mode = .snuffed ∧ ((tLane .standby).onXla fun x => { x with mode := .triplex, noMaj := true }).xla.mode = .triplex ∧
    ((tLane .standby).onXla fun x => { x with mode := .triplex, noMaj := true }).xla.noMaj = true ∧
    (let n := (tLane .standby).onXla fun x => { x with mode := .duplex, lostNow := ⟨false, true, true⟩ }
     n.xla.mode = .duplex ∧ 2 ≤ (n.peers.filter fun x => n.xla.lostNow.get x).length) ∧
    ((tLane .standby).onXla fun x => { x with mode := .lastLight }).xla.mode = .lastLight ∧
    ((tLane .standby).onXla fun x => { x with mode := .safeStop }).xla.mode = .safeStop := by decide +kernel

/-- Lane A in STANDBY with its pair in lockstep k core cycles after its start. -/
def tCore (k : Nat) : Lane := { (tLane .standby).flag BCN.MODE_LOCKSTEP true with clk := { base := k, now := k } }
/-- A write of one word. -/
def tWr (addr data : Nat) : BusWr := { addr := BitVec.ofNat 32 addr, data := BitVec.ofNat 64 data, strobe := 0xFF }
theorem witness_LockstepComplete :
    (let n := ((tState (tCore 130)).lane .a).atTick 0
     n.domOn 0 = true ∧ n.comparing = true ∧ 128 ≤ n.coreCount ∧ n.coreCount % 128 = 2 ∧ n.bcn.flip = false ∧ n.bcn.stopped = false ∧
     n.bcn.halted = false ∧ n.bcn.sigMain = n.bcn.sigChk) ∧
    (tWr 0x10000000 1).addr ≠ (tWr 0x10000008 1).addr ∧ (tWr 0x10000000 1).data ≠ (tWr 0x10000000 2).data ∧
    (let n := ((tState (tCore 600000)).lane .a).atTick 0
     n.comparing = true ∧ 0 < n.coreCount ∧ n.coreCount % 600000 = 0) ∧
    ((tCore 0).flag BCN.MODE_LOCKSTEP false).on BCN.MODE_LOCKSTEP = false ∧ ((tCore 0).flag BCN.MODE_LOCKSTEP false).bcn.stopped = false := by
  and_intros <;> decide +kernel

theorem witness_MemoryErrorsComplete :
    inSram 0x105FFFFF = true ∧ inSram 0x10600000 = false ∧ (tLane .standby).sramRight 0 0x105FFFFF false = true ∧
    (tLane .standby).domOn 0 = true ∧ (tLane .standby).domOn 2 = true ∧
    (tLane .standby).mem.err (word64 0x105FFFFF) = 0 ∧ (tLane .standby).bcn.scrubTick = none ∧ (tLane .standby).cen.scrubTick = none ∧
    (let n : Lane := { tLane .standby with bcn := { scrubTick := some 0, scrubAt := 786431 }, cen := { scrubTick := some 0, scrubAt := 262143 }
                                           clk := { now := 6000000 } }
     0 + 2 * n.rd BCN.SRAM_CTRL_SCRUB_INTERVAL ≤ n.clk.now ∧ 0 + n.rd CEN.TBL_SCRUB_INTERVAL ≤ n.clk.now ∧
     n.bcn.commsAt + 6000000 ≤ n.clk.now ∧ 0 < 0 + 2 * n.rd BCN.SRAM_CTRL_SCRUB_INTERVAL ∧ 0 < 0 + n.rd CEN.TBL_SCRUB_INTERVAL) ∧
    (tLane .standby).clk.now < (tLane .standby).bcn.commsAt + 6000000 := by decide

theorem witness_SramWriteStoresItsBytes :
    inSram 0x10000000 = true ∧ inSram 0x105FFFFF = true ∧ (tLane .standby).sramRight 0xD 0x10000000 true = false ∧
    (tLane .standby).sramRight 0x3 0x105FFFFF true = true ∧ (tLane .standby).mem.err (word64 0x105FFFFF) = 0 ∧ (tLane .standby).domOn 0 = true := by decide

theorem witness_SramKeepsWhatIsWritten :
    inSram (0x105FFFF8 : Word).toNat = true ∧ inSram (0x105FFFFF : Word).toNat = true ∧ word64 (0x105FFFFF : Word).toNat = word64 (0x105FFFF8 : Word).toNat ∧
    (Lane.reset .a).sramRight 0 0x105FFFF8 true = true ∧ (Lane.reset .a).sramRight 5 0x105FFFFF false = true ∧ (Lane.reset .a).fcl.armed ≠ 2 ∧
    (Lane.reset .a).fcl.armed ≠ 3 ∧ (Lane.reset .a).domOn 0 = true := by decide

theorem witness_TableMemoryWritesComplete :
    inTable 0x200FFFFC = true ∧ inTable 0x20100000 = false ∧ (tLane .standby).domOn 2 = true ∧
    (let n : Lane := { tLane .standby with stage := { isOpen := true } }
     n.stage.isOpen = true ∧ n.referenced 262143 = false ∧ n.fcl.armed ≠ 4) ∧ (tLane .standby).stage.isOpen = false := by
  and_intros <;> decide +kernel

/-- Lane A in a lifecycle state, sealed, at a debug level. -/
def tDbg (lc lvl : Nat) (st : LaneState) (halted : Bool := false) : Lane :=
  { tLane st with otp := { (tLane st).otp with lifecycle := lc, sealed := decide (lc ≠ 2) }, sec := { (tLane st).sec with level := lvl }, bcn := { halted := halted } }
theorem witness_DebugComplete :
    ((tDbg 2 2 .standby).haltAccepted = true ∧ 2 ≤ (tDbg 2 2 .standby).dbgLevel ∧ (tDbg 2 1 .standby).dbgLevel < 2 ∧
      (tDbg 2 1 .standby).haltAccepted = true) ∧
    ((tDbg 3 2 .authority).haltAccepted = false ∧ (tDbg 0 0 .off).haltAccepted = false) ∧
    (2 ≤ (tDbg 1 0 .standby true).dbgLevel ∧ (tDbg 1 0 .standby true).bcn.halted = true) ∧ (7 < (if false then 4 else 8)) ∧
    ((tDbg 2 2 .standby).bcn.halted = false) ∧ (tDbg 2 2 .standby).domOn 0 = true ∧
    (Sparse.get none ({ breaks := [(11, some 0x100)] } : Bcn).breaks (if true then 8 + 3 else 3)).isSome = true ∧
    (Sparse.get none ({} : Bcn).breaks 0) = none ∧
    ({ replay := [(.step, 0)], stalled := [DbgAct.step] } : Bcn).replay = (.step, 0) :: [] ∧ ({ stalled := [DbgAct.step] } : Bcn).stalled = .step :: [] := by decide

/-- A lane in which core c runs a node of the given operator. -/
def tRun (code c : Nat) : Lane :=
  (tLane .standby).onPcl fun p => { p with nodes := [(5, BitVec.ofNat 128 code)]
                                           cores := [(c, { run := some { bank := 0, node := 5, flow := 0, seq := 0, prio := 0, ready := 0 } })] }
theorem witness_ArithmeticOperatorsComplete : ∀ k < 48, ∀ c < 4, runsOp (tRun k c) c { bank := 0, node := 5, flow := 0, seq := 0, prio := 0, ready := 0 } k := by
  unfold runsOp; decide

theorem witness_FilterAndCheckOperatorsComplete : runsOp (tRun 0x2F 3) 3 { bank := 0, node := 5, flow := 0, seq := 0, prio := 0, ready := 0 } 0x2F ∧
    runsOp (tRun 0x18 0) 0 { bank := 0, node := 5, flow := 0, seq := 0, prio := 0, ready := 0 } 0x18 := by unfold runsOp; decide

/-- A lane whose engine unit u is enabled in flow 0 with an activation and nothing wired. -/
def tUnit (f : Fld) (i : Nat) : Lane := ((tLane .standby).flag f true i).setAct 0 (some tAct)
theorem witness_PercolatorCommandsComplete :
    (let n := (tLane .standby).setCore 3 { run := some { bank := 0, node := 5, flow := 2, seq := 0, prio := 2, ready := 0 }
                                           preempt := some { bank := 0, node := 6, flow := 1, seq := 0, prio := 1, ready := 0 } }
     n.domOn 1 = true ∧ (n.core 3).run.isSome = true ∧ (n.core 3).preempt.isSome = true ∧
     (n.setCore 3 { (n.core 3).tally n.clk.now with preempt := none }).mayRun { bank := 0, node := 6, flow := 1, seq := 0, prio := 1, ready := 0 } = true) ∧
    (let n : Lane := { tRun 0x04 3 with clk := { now := 1000 } }
     (n.core 3).run = some { bank := 0, node := 5, flow := 0, seq := 0, prio := 0, ready := 0 } ∧
     0 + wcetOf (ndOpcode (n.pcl.node 0 5)) + n.rd PCL.SUPERVISE_MARGIN < n.clk.now) ∧
    (let n := tUnit CEN.SLOT_CFG_ENABLE 7
     n.domOn 2 = true ∧ n.passageOf 7 = some (0, tAct) ∧ n.passageOf 6 = none) ∧
    (let n := tUnit PGN.CFG_ENABLE 3
     n.passageOf 11 = some (0, tAct)) := by
  and_intros <;> decide +kernel

theorem witness_NodeCompletionFrame : (∀ p st a m, (opAdd p st a m).reads = [] ∧ (opInteg p st a m).reads = []) ∧
    (Lane.reset .a).mem.sramErr = [] ∧ (Lane.reset .a).fcl.armed ≠ 2 ∧ (Lane.reset .a).fcl.armed ≠ 3 := by
  refine ⟨?_, by decide⟩
  intro p st a m; exact ⟨rfl, by unfold opInteg; simp only; split <;> rfl⟩

/-- A running activation of flow 0 whose node 5, an ADD on core 0, has one arc, number 9, to output index 0. -/
def tSink : Lane :=
  (((tRun 0x02 0).setAct 0 (some tAct)).onPcl fun p => { p with nodes := [(5, BitVec.ofNat 128 (2 + 2 ^ 76 + 9 * 2 ^ 64))], arcs := [(9, 1)] })
theorem witness_NodeResultReachesItsSink :
    tSink.actIs 0 0 = true ∧ ndOutCnt (tSink.pcl.node 0 5) 0 = 1 ∧ ndOutCnt (tSink.pcl.node 0 5) 1 = 0 ∧
    ndOutBase (tSink.pcl.node 0 5) 0 = 9 ∧ arcKind (tSink.pcl.arc 0 9) = 1 ∧
    tSink.mem.sramErr = [] ∧ tSink.fcl.armed ≠ 2 ∧ tSink.fcl.armed ≠ 3 := by decide
/-- The same activation in a lane in BOOT, the node with one parameter word, whose 64-bit word is uncorrectable. -/
def tSinkUe : Lane :=
  { (((tLane .boot).setAct 0 (some tAct)).onPcl fun p =>
      { p with nodes := [(5, BitVec.ofNat 128 (2 + 2 ^ 76 + 9 * 2 ^ 64 + 2 ^ 116))], arcs := [(9, 1)] }) with mem := { sramErr := [(word64 (tSink.paramAddr (tSink.pcl.node 0 5)), 2)] } }
theorem tSinkUe_load : tSinkUe.nodeLoad 0 (tSinkUe.pcl.node 0 5) = (tSinkUe.drew.sramUe 1 273678336 (Config.syndrome tSinkUe.free), false) := by
  have hp : tSinkUe.paramAddr (tSinkUe.pcl.node 0 5) = 273678336 := by decide
  have hn : 4 * ndParamLen (tSinkUe.pcl.node 0 5) = 4 := by decide
  have hb : ndPersist (tSinkUe.pcl.node 0 5) = false := by decide
  have hw : wordsOver 273678336 4 = [273678336] := by decide
  have he : tSinkUe.mem.err 273678336 = 2 := by decide
  unfold Lane.nodeLoad Lane.sramLoad; rw [hp, hn, hb, hw]
  simp only [List.foldl_cons, List.foldl_nil, Lane.sramCheck, he]; simp
theorem tSinkUe_any : ∀ k < 256, let n := tSinkUe.drew.sramUe 1 273678336 (BitVec.ofNat 8 k)
    n.actIs 0 0 = true ∧ n.pcl.node 0 5 = tSinkUe.pcl.node 0 5 ∧ n.pcl.arc 0 9 = tSinkUe.pcl.arc 0 9 := by decide +kernel
theorem witness_NodeResultReachesItsSink_uncorrectable :
    let d := tSinkUe.pcl.node 0 5; let m := tSinkUe.nodeLoad 0 d
    m.2 = false ∧ m.1.actIs 0 0 = true ∧ m.1.pcl.node 0 5 = d ∧ m.1.pcl.arc 0 9 = tSinkUe.pcl.arc 0 9 ∧ ndOutBase d 0 = 9 ∧
    ndOutCnt d 0 = 1 ∧ ndOutCnt d 1 = 0 ∧ arcKind (tSinkUe.pcl.arc 0 9) = 1 := by
  dsimp only; rw [tSinkUe_load]
  have h := tSinkUe_any (Config.syndrome tSinkUe.free).toNat (Config.syndrome tSinkUe.free).isLt
  rw [BitVec.ofNat_toNat, BitVec.setWidth_eq] at h
  dsimp only at h ⊢
  exact ⟨rfl, h.1, h.2.1, h.2.2, by decide, by decide, by decide, by decide⟩

theorem witness_ArithmeticSaturates :
    s18 (0x20000 : Val) ≠ 0 ∧ pS [mkW 0x3FFFF, mkW 1] 0 ≤ pS [mkW 0x3FFFF, mkW 1] 1 ∧ s18 (0x20000 : Val) < pS [mkW 0x3FFFF, mkW 1] 0 := by decide

theorem witness_StatefulOperatorsKeepTheirBounds :
    allOk [⟨0, 0, true, 1⟩, ⟨0, 0, true, 0⟩] = true ∧ startedBit ≤ (stW [mkW (startedBit + 5)] 0).toNat ∧ allOk [⟨0, 0, false, 1⟩] = false ∧
    (stW [mkW 7] 0).toNat % 262144 ≤ pU [mkW 7] 0 := by decide

theorem witness_SlotOutputWithinLimits :
    (let r := (((tLane .standby).wrS CEN.SLOT_OHI_VALUE 131071 7).wrS CEN.SLOT_OLO_VALUE (-131072) 7).regs
     (-131072 : Int) ≤ effLimit r 7 65536 (cfgRdS r CEN.SLOT_OLO_VALUE 7) ∧
     effLimit r 7 65536 (cfgRdS r CEN.SLOT_OLO_VALUE 7) ≤ effLimit r 7 65536 (cfgRdS r CEN.SLOT_OHI_VALUE 7) ∧
     effLimit r 7 65536 (cfgRdS r CEN.SLOT_OHI_VALUE 7) ≤ 131071) := by decide

theorem witness_ProfileGeneratorKeepsItsLimits :
    -549755813888 ≤ ({} : GenSt).acc ∧ ({} : GenSt).acc ≤ 549755813887 ∧
    (let v := genStep (Lane.reset .a).regs 3 false false 65536 { vcap := 5, vel := 5 } (true, 7) (true, 0x10000) (true, 0) (false, 0)
     0 ≤ v.vcap) := by decide

theorem witness_CommutationComplete :
    (tLane .standby).domOn 6 = true ∧ ((tLane .standby).cycleLen ≤ 150000 ∧ (tLane .standby).isBoundary 1 0 = true ∧ (tLane .standby).isBoundary 1 1 = false) ∧
    150000 < ((tLane .standby).wr CRU.CYCLE_TICKS 150001).cycleLen ∧
    (let n : Lane := ((({ tLane .standby with drive := { snuff := false } } : Lane).setBridge 1 { startAt := some 0 }).wr CMU.APPLIED_START 2 1).wr
        CMU.START_CFG_TIMEOUT 0 1 |>.wr CMU.CMD_WORD 0x20000 1
     (n.bridge 1).startAt = some 0 ∧ 0 + 600000 * n.rd CMU.START_CFG_TIMEOUT 1 ≤ n.clk.now ∧ n.rd CMU.APPLIED_START 1 ≠ 0 ∧ n.topEntry 1 = 0) ∧
    (((tLane .standby).setBridge 1 { deferred := some (5, 0) }).bridge 1).deferred = some (5, 0) ∧
    (let n : Lane := { tLane .standby with afe := { calN := [(3, 1024)], calSum := [(3, 8388608)] } }
     Sparse.get 0 n.afe.calN 3 = 1024 ∧ iabs (((roundDiv (Sparse.get 0 n.afe.calSum 3 : Nat) 1024).toNat : Int) - 8192) ≤ n.rd AFE.CTRL_CAL_LIMIT) ∧
    (let n : Lane := { tLane .standby with afe := { calN := [(0, 1024)] } }
     (n.rd AFE.CTRL_CAL_LIMIT : Int) < iabs (((roundDiv (Sparse.get 0 n.afe.calSum 0 : Nat) 1024).toNat : Int) - 8192)) ∧
    ({ deferred := some (true, 0) } : Gdc).deferred = some (true, 0) ∧
    (let n : Lane := { tLane .standby with gdc := { ovSince := some 0 }, clk := { now := 600 * 65535 } }
     n.gdc.ovSince = some 0 ∧ 0 + 600 * n.rd GDC.OV_TIME_T_OV1 ≤ n.clk.now) := by
  and_intros <;> decide +kernel

theorem witness_SampleWindowAvoidsEdges :
    longest (admissible 300 60 [400, 2000]) = some (700, 1080) ∧ longest (admissible 1200 60 [0, 1000]) = none := by decide

theorem witness_CountsAndCodesAreExact : (2 ^ 32 - 1 < 2 ^ 32) ∧ 4294967295 < (if 0 = 0 then 2 ^ 32 else 0) ∧ 3 < (if 4 = 0 then 2 ^ 32 else 4) ∧
    onTime 16383 12000 60 = 12000 := by decide

theorem witness_FeedbackComplete :
    (let n := (tLane .standby).setLine 17 { level := some true, chatter := some 0 }
     (n.line 17).level.isSome = true ∧ (n.line 17).chatter = some 0 ∧ (n.line 16).level = none) ∧
    (let n : Lane := { (tLane .standby).setLine 0 { chatter := some 0 } with clk := { now := 600000 * 65536 } }
     0 + 600000 * n.rd PFB.CHATTER_CFG_CLEAR_MS ≤ n.clk.now ∧ n.windowEnds = true) ∧
    (let n : Lane := { (tLane .standby).flag PFB.SSI_CFG_ENABLE true 1 with clk := { cycles := 2 } }
     n.groupOn 5 = true ∧ n.ssiStarts 1 (n.rdS PFB.SSI_TIMING_START 1).toNat = true ∧ n.ssiStarts 1 11999 = false) ∧
    (let n : Lane := { tLane .standby with pfb := { ssi := [(1, { running := true })] }, clk := { now := 100000000 } }
     (Sparse.get {} n.pfb.ssi 1).running = true ∧ n.ssiSampleAt 1 (n.ssiBits 1) ≤ n.clk.now) ∧
    (((tLane .standby).flag PFB.SENT_CFG_ENABLE true 1).groupOn 7 = true ∧ (tLane .standby).groupOn 7 = false) ∧
    tReach (tLane .standby) 0 PFB.ARM_INDEX.key = true ∧ (tLane .standby).domOn 6 = true ∧ (tLane .standby).windowEnds = false := by
  and_intros <;> decide +kernel

theorem witness_DriveDieComplete :
    (tLane .standby).domOn 6 = true ∧
    (let n : Lane := { tLane .standby with drive := { vgdRisen := true, vbusReq := true }, clk := { now := 1000000 } }
     n.watched 12 = true ∧ n.watchedSince 12 + n.blankTicks 12 ≤ n.clk.now ∧ n.watchedSince 12 + 60 ≤ n.clk.now) ∧ (tLane .standby).watched 0 = false ∧
    (let n : Lane := { (tLane .standby).setProt 2 .waiting with clk := { now := 600000 * 65536 } }
     n.prot 2 = .waiting ∧ n.waitOver (Sparse.get 0 n.drive.waitAt 2) = true ∧ n.waitOver n.drive.uvAt = true) ∧
    (let d : Drive := { vgdRisen := true, uvlo := true }
     d.vgdRisen = true ∧ d.uvlo = true ∧ d.notice = false ∧ d.uvLatch = false) ∧
    ((tLane .standby).xla.mode = .snuffed ∧ (tLane .standby).releaseDue 0 = false) ∧
    (let n : Lane := { (tLane .standby).onXla (fun q => { q with mode := .triplex }) with drive := { release := true, relAt := 3, lastUpd := 4 } }
     n.releaseDue 0 = true ∧ n.xla.mode ≠ .snuffed ∧ n.own.healthy = true ∧ n.bcn.halted = false) ∧
    (let n : Lane := { tLane .standby with drive := { snuff := false, linkUp := true }, clk := { now := 600000 } }
     n.drive.linkUp = true ∧ n.drive.auto_ = false ∧ n.updatesMissing = true) := by
  and_intros <;> decide +kernel

theorem witness_GateOutputsFollowTheFirstEntry :
    (let d : Drive := {}
     (!d.vgdRisen || d.uvlo || d.uvLatch) = true) ∧
    (let n : Lane := { tLane .standby with drive := { vgdRisen := true, legsOff := 32, snuff := false, ovHold := true } }
     (!n.drive.vgdRisen || n.drive.uvlo || n.drive.uvLatch) = false ∧ n.drive.legsOff.testBit (3 * 1 + 11 % 6 / 2) = true ∧
     n.drive.legsOff.testBit (3 * 0 + 5 % 6 / 2) = false ∧ (n.prot 0).latched = false ∧ n.prot 0 ≠ .waiting ∧ n.drive.snuff = false ∧ n.drive.ovHold = true) ∧
    (tLane .standby).snuffWait 1 = 300 ∧ ((tLane .standby).setProt 2 .twoLeg).prot 2 ≠ .normal := by decide

theorem witness_SafetyCommandsComplete :
    (let n : Lane := { (tLane .standby).wr SFU.SO_CFG_TEST_INT 1 1 with sfu := { outs := [(1, { on := true })] }, clk := { now := 60000000 } }
     n.domOn 6 = true ∧ (n.safeOut 1).on = true ∧ (n.safeOut 0).on = false ∧ (n.safeOut 1).pulse = false ∧ n.rd SFU.SO_CFG_TEST_INT 1 ≠ 0 ∧
     (n.safeOut 1).testAt + n.rd SFU.SO_CFG_TEST_INT 1 * 60000000 ≤ n.clk.now) ∧
    (let n : Lane := { (tLane .standby).wr SFU.SO_CFG_PULSE 1 0 with sfu := { outs := [(0, { on := true, pulse := true })] }, clk := { now := 6000 } }
     (n.safeOut 0).pulse = true ∧ (n.safeOut 0).testAt + 6000 * n.rd SFU.SO_CFG_PULSE 0 ≤ n.clk.now ∧
     0 < (n.safeOut 0).testAt + 6000 * n.rd SFU.SO_CFG_PULSE 0) ∧
    (let n : Lane := { tLane .standby with sfu := { session := true }, clk := { now := 150000000 } }
     n.sfu.session = true ∧ n.sfu.lastAlive + 150000000 ≤ n.clk.now) ∧ (tLane .standby).sfu.session = false := by
  and_intros <;> decide +kernel

theorem witness_FaultCommandsComplete :
    (let n : Lane := { tLane .standby with fcl := { src := [(0x38, { active := true })] }, clk := { cycles := 100000 } }
     n.mayRecover 0x38 = true ∧ (n.wr FCL.SRC_REC_K 1 0x38).mayRecover 0x38 = true ∧ (n.wr FCL.SRC_REC_K 1 0x38).rd FCL.SRC_REC_K 0x38 ≠ 0 ∧
     (n.wr FCL.SRC_REC_K 0 0x38).rd FCL.SRC_REC_K 0x38 = 0 ∧ (n.wr FCL.SRC_REC_K 0 0x38).mayRecover 0x38 = true ∧ n.on FCL.EPISODE_OPEN = false) ∧
    (let n : Lane := { tLane .standby with otp := { (tLane .standby).otp with lifecycle := 1 } }
     tReach n 0 FCL.INJECT_GO.key = true ∧ n.otp.lifecycle = 1) ∧
    tReach (tLane .standby) 0 FCL.INJECT_GO.key = true ∧ (tLane .standby).otp.lifecycle ≠ 1 := by
  and_intros <;> decide +kernel

theorem witness_LeavingTheVotingSet :
    (let n := (tLane .standby).onXla fun q => { q with fences := [0, 0] }
     n.own ≠ .fenced ∧ n.out = [] ∧ 2 ≤ (within n.clk.now tenMinutes n.xla.fences).length) := by decide

theorem witness_NoteEventsOnlyCount :
    (srcInfo 0x04).isSome = true ∧ (tLane .standby).rd DBG.TRACE_CFG_TRIG ≠ 2 ∧
    ((tLane .standby).severityOf 0x04 0 (((tLane .standby).clk.cycles :: within 0 ((tLane .standby).msCycles ((tLane .standby).rd FCL.SRC_CFG_ESC_T 0x04)) []).take 15)).1 = .note := by decide

/-- Lane A with its PCIe link up and queue 0 enabled for function 0. -/
def tLink : Lane := (((tLane .standby).flag HIF.STATUS_LINK_UP true).flag HIF.STATUS_BME_P true).flag QDM.QP_CFG_ENABLE true 0
/-- A descriptor with the given opcode. -/
def tDesc (opcode : Nat) (length : Nat := 0) (addr : Nat := 0) : Desc :=
  { seq := 1, cid := 1, flags := 0, opcode := opcode, length := length, addr := BitVec.ofNat 32 addr, args := [] }
/-- tLink with an In command of 512 bytes in transfer, and with a page of the window mapped for function 0. -/
def tMoving : Lane :=
  (tLink.setQp 0 { cmd := some { desc := tDesc 0x08 512 0x80000000, slot := 0, stage := .input } }).onHif fun h =>
    { h with cache := [(0x80000, 0x1003)] }
theorem witness_QueueCommandsComplete :
    ((tLane .standby).queueFn 0 = 0 ∧ (tLane .standby).sqSize 0 = 16 ∧ (tLane .standby).cqSize 0 = 16) ∧
    (let n := (tLink.setQp 0 { cmd := some { desc := tDesc 0, slot := 0, halted := true } }).setWord (QDM.QP_STATUS_TOKEN.at_ 0 0) 5
     (n.qp 0).cmd = some { desc := tDesc 0, slot := 0, halted := true } ∧ n.word (QDM.QP_STATUS_TOKEN.at_ 0 0) = 5) ∧
    (let n := tLink.wr QDM.SQ_PTR_TAIL 1 0
     n.mayFetch 0 = true ∧ n.hif.updated = false ∧ descOk (Desc.ofWords (0x000100FF :: List.replicate 11 0)) = false ∧ descOk (Desc.ofWords (0x00010010 :: List.replicate 11 0)) = true ∧
     (Desc.ofWords (0x00010010 :: List.replicate 11 0)).opcode = 0x10 ∧ n.permitted 0x10 0 = true ∧
     n.permitted 0x10 1 = false ∧ (opRow 0x08).map OpRow.pay = some .input ∧ descOk (Desc.ofWords ([0x00010008, 1, 0x80000000, 16] ++ List.replicate 8 0)) = true) := by
  and_intros <;> decide +kernel
theorem witness_QueueCommandsComplete_bursts :
    (tMoving.winsBurst 0 = true ∧ ((tMoving.issueBurst 0 0x80000000).translate 0 0x80000000 false).1 = 0 ∧ 0 + min (256 - 0x80000000 % 256) (512 - 0) < 512) ∧
    ((tMoving.issueBurst 0 0x80001000).translate 0 0x80001000 true).1 ≠ 0 ∧
    (let n := tLink.setQp 0 { waiting := [{ cid := 1, seq := 1, status := 0, bytes := 0, irq := false, sqHead := 0, due := 0 }] }
     (n.qp 0).waiting.length = 1 ∧ n.cqRoom 0 = true ∧ n.fnRuns (n.queueFn 0) = true ∧ (n.qp 0).waiting.all n.postable = true ∧
     n.fenced (.port .pcie) = false ∧ (n.wr QDM.CQ_PTR_HEAD 1 0).cqRoom 0 = false) ∧ tLink.domOn 5 = true ∧
    (tLink.wr PMU.DOM_STATE_STATE (2 ^ 10)).domOn 5 = false ∧
    tReach (tLane .standby) 0 (QDM.QP_CFG_ENABLE.at_ 7 0) = true := by
  and_intros <;> decide +kernel

theorem witness_LocalCommandsComplete :
    (∀ op ∈ [0x00, 0x02, 0x03, 0x04, 0x08, 0x09, 0x0A], let c : Cmd := { desc := tDesc op 256, slot := 0, stage := .ready, pay := .mapPages [] }
      ((tLink.setQp 0 { cmd := some c }).qp 0).cmd = some c ∧ c.halted = false ∧ c.desc.opcode = op) ∧
    (tLink.mapAll []).2 = (0, true) ∧ ((tLink.wr XTU.POOL_TABLES 0).mapAll [(0x80000001, 1, 0)]).2 = (0, false) ∧
    tLink.domOn 4 = true ∧ tLink.on STM.STATUS_NAND_MOUNTED = false ∧ (tLink.flag STM.STATUS_NAND_MOUNTED true).on STM.STATUS_NAND_MOUNTED = true ∧
    (tLink.qp 0).cmd = none := by
  and_intros <;> decide +kernel

theorem witness_AgreedCommandsComplete :
    (∀ op ∈ [0x10, 0x11, 0x12, 0x13, 0x14, 0x20, 0x21, 0x22, 0x23, 0x24, 0x28, 0x29, 0x2A, 0x2B, 0x30, 0x31, 0x32, 0x38],
      (tAuthed (tCmd op [1])).agreedNow (tCmd op [1]) = true ∧ ((tAuthed (tCmd op [1])).take (tCmd op [1])).keyoffBusy = false ∧ (tCmd op [1]).opcode = op) ∧
    (tCmd 0x20 [0]).args.getD 0 0 = 0 ∧ (tAuthed (tCmd 0x20 [0])).agreedNow (tCmd 0x20 [0]) = true ∧
    (tAuthed (tCmd 0x38 [2])).agreedNow (tCmd 0x38 [2]) = true ∧ (tLane .standby).agreedNow tImg = false := by
  and_intros <;> decide +kernel
theorem witness_AgreedCommandsComplete_keyoff :
    (let n : Lane := { tAuthed tImg with pmu := { keyOffAt := some 0, key := false }, clk := { now := 600000 * 65536 * 10, base := 600000 * 65536 * 10 } }
     n.agreedNow tImg = true ∧ (n.take tImg).keyoffBusy = true) := by decide

/-- Lane A with a message in mailbox m: its type, its segment, whether it is the last, and the bytes of the payload that count. -/
def tMail (m type : Nat) (seg : Nat := 0) (last : Bool := true) (len : Nat := 4) : Lane :=
  let w0 := BitVec.ofNat 32 (type * 2 ^ 24 + seg * 2 ^ 12 + last.toNat * 2 ^ 11 + len)
  let ws : List Word := w0 :: 7 :: List.replicate 13 0
  let l1 := (((tLane .standby).setWord (MBX.DATA_WORD.at_ m 0) w0).setWord (MBX.DATA_WORD.at_ m 1) 7).setWord (MBX.DATA_WORD.at_ m 15)
    (crc32c (ws.flatMap wordBytes))
  { l1.setFull m true with hif := { sess0 := some 7 } }
/-- tMail with the last segment of a SESSION_OPEN whose first two have brought 112 bytes. -/
def tOpening (len : Nat) : Lane :=
  let n := tMail 0 0x01 2 true len
  { n with mbx := { n.mbx with seg := [(0, 2)], parts := [(0, List.replicate 112 0)] } }
theorem witness_MailboxAndSessionComplete :
    tReach (tLane .standby) (mailSender 7) (MBX.DATA_WORD.at_ 7 15) = true ∧ (tLane .standby).mailFull 7 = false ∧ ((tLane .standby).setFull 7 true).mailFull 7 = true ∧
    tReach (tLane .standby) (mailSender 1) (MBX.POST_GO.at_ 1 0) = true ∧ tReach (tLane .standby) (mailReceiver 4) (MBX.ACK_GO.at_ 4 0) = true := by decide
theorem witness_MailboxAndSessionComplete_messages :
    (let n := tMail 4 0x20
     n.mailFull 4 = true ∧ n.mailLast 4 = true ∧ n.mailType 4 = 0x20 ∧ n.mailSound 4 = true) ∧ (tMail 2 0x21).mailSound 2 = true ∧
    (tMail 3 0x22).mailSound 3 = true ∧ (tMail 0 0x7F).mailSound 0 = true ∧ (tMail 0 0x55).mailSound 0 = false := by
  and_intros <;> decide +kernel
theorem witness_MailboxAndSessionComplete_sessions :
    (let n := tMail 0 0x03
     n.mailSound 0 = true ∧ n.hif.sess0 = some (leWord (Sparse.get [] n.mbx.parts 0 ++ n.mailBytes 0)) ∧ 4 ≤ (n.mailBytes 0).length) ∧
    (let n := tOpening 2
     n.mailSound 0 = true ∧ n.mailLast 0 = true ∧ n.mailType 0 = 0x01 ∧ (Sparse.get [] n.mbx.parts 0 ++ n.mailBytes 0).length = 114 ∧
     n.hostKeyFor 0 = true ∧ n.hostKeyFor 1 = false) ∧
    (let n := tOpening 4
     n.mailSound 0 = true ∧ (Sparse.get [] n.mbx.parts 0 ++ n.mailBytes 0).length ≠ 114) ∧
    (let n := tMail 2 0x20 0 false 56
     n.mailFull 2 = true ∧ n.mailSound 2 = true ∧ n.mailLast 2 = false ∧ n.mailType 2 = 0x20) ∧
    (let n := tAuthed (openImage 0 5)
     (n.hif.authed.any fun p => decide (p.img = openImage 0 5) && !p.seen) = true ∧ n.xla.vset.get n.id = true ∧ n.agreedNow (openImage 0 5) = true) := by
  and_intros <;> decide +kernel

/-- An AUTHORITY in SNUFFED from reset at standstill, confirmed, with three healthy lanes. -/
def tReady : Lane :=
  { (tLane .authority).onXla (fun x => { x with lst := ⟨.authority, .standby, .standby⟩, agreed := [] }) with sfu := { fromReset := true, still := true, confirmed := true } }
theorem witness_DriveEnableNeedsItsConditions :
    tReady.sfu.ask = none ∧ (tReady.driveEnable (tCmd 0x20 [0])).sfu.ask = some (false, tCmd 0x20 [0]) ∧
    (let n := ({ tReady with sfu := { tReady.sfu with ask := some (false, tCmd 0x20 [0]) } } : Lane)
     n.sfuFunctions.sfu.enable = none ∧ n.sfuEvaluate.sfu.enable = some .triplex) := by
  and_intros <;> decide +kernel

/-- A lane whose network runs with both ports up, as node 0 of a ring of two nodes, in Wick cycle 0 of 100 µs. -/
def tNet : Lane :=
  let n1 := (((((tLane .standby).flag WCK.CFG_ENABLE true).flag WCK.PORT_CFG_ENABLE true 0).flag WCK.PORT_CFG_ENABLE true 1).flag
    WCK.PORT_STATUS_LINK true 0).flag WCK.PORT_STATUS_LINK true 1
  let n2 := (((n1.wr WCK.CFG_RING_NODES 2).setWord WCK.NODE_MASK_NODES.key 3).wr WCK.CYCLE_LENGTH 10000).wr WCK.PTP_SYNC_LIMIT 10
  let n3 := (((n2.flag WCK.SLOT_VALID true 0 0).wr WCK.SLOT_OFFSET 500 0 0).wr WCK.SLOT_OWNER 1 0 0).flag WCK.MSG_CFG_ENABLE true 0
  { n3.wr WCK.MSG_CFG_LEN 8 0 with wck := { syncRun := 2, syncAt := some 0, txOk := true } }
/-- The lane tNet x steps of 10 ns after its boundary. -/
def tNetAt (x : Nat) : Lane := { tNet with clk := { now := 6 * x } }
/-- A sound frame of a kind and a node in slot 0. -/
def tFrame (kind node : Nat) : WickFrame :=
  ({ dst := tNet.groupMac, src := 0, tag := none, etherType := tNet.rd WCK.ETH_ETHERTYPE, fcsOk := true, crc := 0, version := 1, kind := kind
     slot := 0, dir := 0, wcn := 0, mode := 0, lane := 0, primary := false, hold := false, node := node, len := 8, txage := 0, hops := 2
     payload := 1 } : WickFrame).withCrc
theorem witness_WickCommandsComplete :
    (tNet.wickRuns = true ∧ tNet.portSends 0 = true ∧ tNet.portSends 1 = true ∧ tNet.rd WCK.PTP_SYNC_LIMIT = 10 ∧ tNet.wck.syncRun = 2) ∧
    (let n := (tNet.flag WCK.STATUS_SYNCED true).wr WCK.PTP_SYNC_EXP 3
     n.wck.syncAt = some 0 ∧ 0 * 2 ^ n.rd WCK.PTP_SYNC_EXP + 3 * 600000000 ≤ 225000000 * 2 ^ n.rd WCK.PTP_SYNC_EXP ∧ n.on WCK.STATUS_SYNCED = true) ∧
    (let n := (tNetAt 1000).wr WCK.CFG_NODE 1
     n.wickAt = 2 * n.rd WCK.SLOT_OFFSET 0 0 ∧ n.wck.txOk = true ∧ n.own.healthy = true ∧ n.on WCK.SLOT_VALID (2 * n.rd WCK.STATUS_MODE + 0) 0 = true ∧
     n.rd WCK.SLOT_OWNER (2 * n.rd WCK.STATUS_MODE + 0) 0 = n.rd WCK.CFG_NODE ∧ n.on WCK.MSG_CFG_ENABLE (n.rd WCK.SLOT_MSG 0 0) = true) ∧
    (tLane .standby).wickRuns = false := by
  and_intros <;> decide +kernel
theorem witness_WickCommandsComplete_frames :
    (let f := tFrame 0 1; let n := tNetAt 1000
     n.isWick f.toEthHdr = true ∧ n.inAnyWindow f.dir n.wickAt = true ∧ f.node ≠ n.rd WCK.CFG_NODE ∧
     inSlotWindow n.regs (n.rd WCK.STATUS_MODE) f.dir f.slot n.wickAt = true ∧ n.dataValid f = true ∧
     n.inAnyWindow f.dir 5000 = false ∧ n.dataValid { f with fcsOk := false } = false) ∧
    (∀ k ∈ [1, 2, 3], let n := tNetAt (10000 - ctlWin tNet.regs + wMin tNet.regs)
      inSubWindow n.regs (tFrame k 1).node n.wickAt = true ∧ n.isWick (tFrame k 1).toEthHdr = true ∧
      n.inAnyWindow 0 n.wickAt = true ∧ ctlSound (tFrame k 1) k = true) ∧
    (tFrame 0 0).node = tNet.rd WCK.CFG_NODE := by
  and_intros <;> decide +kernel
theorem witness_WickCommandsComplete_rest :
    (let n := (tNet.setWord WCK.WCN_VALUE.key 4).setWord WCK.SW_WCN_VALUE.key 5
     n.word WCK.WCN_VALUE.key + 1 = n.word WCK.SW_WCN_VALUE.key) ∧
    (let n := tNetAt (10000 - ctlWin tNet.regs)
     inSubWindow n.regs (n.rd WCK.CFG_NODE) n.wickAt = true) ∧
    (let n := (tNetAt 9999).setQueue 1 [(false, 16384)]
     let l1 := n.drainQueue 64 (1 - 0) n.wickAt
     n.on WCK.PORT_CFG_BE_BREAK (1 - 0) = false ∧ 16384 < queueBytes (l1.wck.queue (1 - 0)) + 64 ∧ l1.wck.queue (1 - 0) ≠ []) ∧
    (let n := tNetAt 9800
     let l1 := n.drainQueue 64 (1 - 0) n.wickAt
     l1.wck.queue (1 - 0) = [] ∧ l1.portSends (1 - 0) = true ∧ l1.beFits (1 - 0) n.wickAt 64 = true ∧
     l1.beFits (1 - 0) n.wickAt 1522 = false ∧ queueBytes (l1.wck.queue (1 - 0)) + 1522 ≤ 16384) ∧
    tNet.on WCK.PORT_CFG_ENABLE 1 = true ∧ tNet.on WCK.PORT_STATUS_LINK 1 = true ∧ tNet.domOn 3 = true := by
  and_intros <;> decide +kernel

/-- A lane with controller 5 on the bus with ISO 11783 addresses. -/
def tCan : Lane :=
  (((tLane .standby).flag CAN.CTRL_ENABLE true 5).flag CAN.CTRL_ISO true 5).wr CAN.STATUS_ISO_STATE 1 5
/-- A frame of the identifier 0x123. -/
def tCanFrame : CanFrame := { ide := false, id := 0x123, remote := false, fdf := false, brs := false, dlc := 8, payload := 7 }
theorem witness_CanCommandsComplete :
    (let n := (tCan.flag CAN.TXB_CFG_ENABLE true 5 31).wr CAN.TXB_CFG_PERIOD 1 5 31
     let m : Lane := { n with can := { enAt := [(5, some 0)] }, clk := { now := 600000 } }
     m.canOn 5 = true ∧ m.on CAN.TXB_CFG_ENABLE 5 31 = true ∧ Sparse.get 0 m.can.times (32 * 5 + 31) < m.canTimes 5 31) ∧ tCan.canOn 6 = false ∧
    (let n : Lane := { tCan.flag CAN.TXB_CFG_ENABLE true 5 31 with can := { due := [(191, some 7)] } }
     n.canTalks 5 = true ∧ n.canNext 5 = some 31 ∧ tCan.canNext 5 = none) ∧
    (tCan.canFilter 5 tCanFrame = none ∧ (tCan.flag CAN.RXF_CFG_ENABLE true 5 31).canFilter 5 tCanFrame = some 31 ∧
     tCan.fenced (.port (.can 5)) = false) ∧
    (let n := (tCan.wr CAN.STATUS_STATE 2 5).flag CAN.CTRL_AUTO_REC true 5
     n.rd CAN.STATUS_STATE 5 = 2 ∧ n.on CAN.CTRL_AUTO_REC 5 = true ∧ tCan.rd CAN.STATUS_STATE 5 = 0 ∧ (tCan.flag CAN.CTRL_AUTO_REC false 5).on CAN.CTRL_AUTO_REC 5 = false) := by
  and_intros <;> decide +kernel
theorem witness_CanCommandsComplete_addresses :
    tCan.on CAN.CTRL_ISO 5 = true ∧ tCan.rd CAN.STATUS_ISO_STATE 5 = 1 ∧ tCan.isoName 5 < 2 ^ 63 ∧ 0 ≤ tCan.isoName 5 ∧
    tCan.isoNext 5 (tCan.iso 5).alt = none ∧ tCan.fenced (.port (.can 5)) = false ∧
    ((tCan.wr CAN.ISO_CFG_ALT_COUNT 1 5).wr CAN.ISO_CFG_PREF_A 128 5).isoNext 5 (tCan.iso 5).alt = some 131 ∧ (tCan.iso 5).claimAt + 150000000 ≤ 150000000 := by
  decide +kernel
theorem witness_CanCommandsComplete_comms : ({ tCan with clk := { now := 1200000 } } : Lane).commsRuns = true := by
  unfold Lane.commsRuns; rw [Bool.and_eq_true]
  exact ⟨by decide +kernel, decide_eq_true (Nat.le_trans (Nat.add_le_add_left (Nat.min_le_left _ _) _) (by decide))⟩

theorem witness_WickFramesAreTakenOnlyWhenValid :
    (match exec (.wickDataFrame .a 6000 0 (tFrame 0 1).toEthHdr (tFrame 0 1).toWickHdr) (tState tNet) with | .next _ => true | _ => false) = true ∧
    inSlotWindow tNet.regs (tNet.rd WCK.STATUS_MODE) 0 0 400 = false ∧ tNet.dataValid { tFrame 0 1 with wcn := 1 } = false ∧
    tNet.isWick { (tFrame 0 1).toEthHdr with etherType := 0x800 } = false := by decide +kernel

/-- A lane with both devices mounted, a NAND of 2,048 blocks with two blocks in use and a NOR program in progress. -/
def tStore : Lane :=
  let n := (((tLane .standby).flag STM.STATUS_NAND_MOUNTED true).flag STM.STATUS_NOR_MOUNTED true).wr STM.NAND_GEOM_BLOCKS 64
  { n.wr STM.NAND_CFG_WL_DELTA 1 with
      nand := { built := true, used := [0, 1], erases := [(1, 5)] }, norCap := 0x4000000
      stm := { norOp := some { img := tCmd 0x30, slot := 1, cfg := false, off := 0, bytes := 256, image := none } } }
/-- An image of firmware, with the header of R497, that passes every check of a sealed part in DEVELOP. -/
def tFw : Image :=
  { header := [0x4C47494D, 0x101, 0, 0, 512] ++ List.replicate 59 0, sigOk := true, hashOk := true, sections := [] }
theorem witness_StorageCommandsComplete :
    (tStore.stm.norOp.isSome = true ∧ slotWhole tStore.otp { fw := some tFw } = true ∧ (slotReject tStore.otp { fw := some tFw }).1 = 0) ∧
    (tStore.on STM.STATUS_NAND_MOUNTED = true ∧ tStore.nand.bad.contains 3 = false ∧ 3 < tStore.rd STM.NAND_GEOM_BLOCKS ∧
     tStore.nand.used.contains 3 = false) ∧ ((tStore.bump XSP.STATUS_TIMEOUTS).fault 0xD0).stm.norOp.isSome = true ∧
    (tStore.domOn 4 = true ∧ (tStore.wr PMU.DOM_STATE_STATE (2 ^ 8)).domOn 4 = false ∧ (tStore.flag STM.STATUS_NOR_BUSY true).on STM.STATUS_NOR_BUSY = true ∧ tStore.norCap ≤ 0x6FFFFFFF - 0x60000000) ∧
    ((tLane .standby).on XSP.STATUS_CS0_UP = false ∧ (tLane .standby).on XSP.STATUS_CS1_UP = false) := by
  and_intros <;> decide +kernel
theorem witness_StorageCommandsComplete_wear :
    (let n : Lane := { tStore with clk := { now := 600000 * 65536 }, stm := { page := [{ rsn := 0, ccn := 0, rtcS := 0, rtcSub := 0, smode := 0, auth := 3, lstate := 0, type := 1, body := [] }] } }
     n.stm.page ≠ [] ∧ n.stm.pageAt + 600000 * n.rd STM.REC_CFG_FLUSH_MS ≤ n.clk.now) ∧ tStore.pageDue = false ∧
    (tStore.openPass.scrubBlockDue 1 = true ∧ tStore.openPass.scrubBlockDue 3 = false ∧
     0 ≤ ((tStore.openPass.nandRead 1 0 0).passRead 1).rd STM.NAND_CFG_SCRUB_THR ∧
     ((tStore.openPass.nandRead 1 0 0).passRead 1).rd STM.NAND_CFG_SCRUB_THR < 256 ∧
     ((tStore.openPass.nandRead 1 0 0).passRead 1).freshBlock.isSome = true) ∧
    (tStore.nand.lowest tStore.nand.used = some 0 ∧ tStore.nand.highest tStore.nand.used = some 1 ∧
     (tStore.nand.highest tStore.freeBlocks).isSome = true ∧ tStore.nand.wear 0 + tStore.rd STM.NAND_CFG_WL_DELTA < tStore.nand.wear 1) := by
  and_intros <;> decide +kernel

/-- Lane A in BOOT after reset with a booted slot, no power-up test pending and both storage devices. -/
def tBooted : Lane :=
  let n := ((tLane .boot).flag STM.STATUS_NOR_MOUNTED true).flag STM.STATUS_NAND_MOUNTED true
  { n with boot := { loaded := true, quick := true } }
/-- Lane A in BOOT with a slot directory that names slot 0 ACTIVE, which holds firmware that passes. -/
def tBooting : Lane :=
  let d : NorDir := { dseq := 0, active := 0, state0 := 3, state1 := 0, fw0 := 0, fw1 := 0, cfg0 := 0, cfg1 := 0 }
  { (tLane .boot).flag STM.STATUS_NOR_MOUNTED true with nor := { dir0 := dirWords d, slot0 := { fw := some tFw } } }
theorem witness_ResetAndBootComplete :
    monitored_ (tLane .standby).pmu.power 0 = true ∧ monitored_ (tLane .standby).pmu.power 3 = true ∧ (tLane .standby).pmu.power = .run ∧
    iabs 50 ≤ 50 ∧
    (let n : Lane := { (tLane .standby).wr PMU.SUPPLY_GOOD 3 with pmu := { power := .ember, waking := true } }
     n.pmu.waking = true ∧ (n.wr PMU.SUPPLY_GOOD (n.rd PMU.SUPPLY_GOOD ||| 4)).rd PMU.SUPPLY_GOOD = 7) ∧
    (let n : Lane := { (tLane .standby).wr PMU.SUPPLY_GOOD 1 with pmu := { power := .ember, waking := true } }
     n.rd PMU.SUPPLY_GOOD ≠ 3 ∧ (n.wr PMU.SUPPLY_GOOD (n.rd PMU.SUPPLY_GOOD ||| 4)).rd PMU.SUPPLY_GOOD ≠ 7) := by
  and_intros <;> decide +kernel
theorem witness_ResetAndBootComplete_boot :
    (tBooting.own = .boot ∧ tBooting.boot.loaded = false ∧ tBooting.boot.quick = false ∧ tBooting.boot.failed = false ∧ (tLane .boot).norDir = none ∧
     tBooting.rd CRU.RESET_CAUSE_LAST ≠ 6) ∧
    (let n := (tBooting.bootLine 2).bootLine 3
     (n.trySlots [0]).2 = some 0 ∧ tBooting.norDir.map (fun d => bootOrder d false) = some [0] ∧ (n.trySlots [0]).1.norDir.isSome = true) ∧
    (tBooted.own = .boot ∧ tBooted.boot.loaded = true ∧ tBooted.powerUpPassed = true ∧ tBooted.tooHot = false ∧
     tBooted.on SEC.STATUS_CFG_LOADED = false) := by
  and_intros <;> decide +kernel
theorem witness_ResetAndBootComplete_loaded :
    (let n := tBooted.flag SEC.STATUS_CFG_LOADED true
     (firstBlock (n.activeCfg.checks n.mem false (decide (n.otp.lifecycle = 3)) (n.rd WCK.CFG_MODE_REQ))).isNone = false ∧
     n.powerUpPassed = true ∧ n.on SEC.STATUS_CFG_LOADED = true) := by decide +kernel

/-- Lane A in DOZE with every wake source enabled and an alarm at second 1 that has come. -/
def tDoze : Lane :=
  { ((tLane .sync).wr PMU.WAKE_CFG_EN 0x7F).setWord PMU.RTC_ALARM_SECONDS.key 1 with pmu := { power := .doze, rtc := 65536, key := false } }
/-- Lane A with an entry into a state in progress. -/
def tEntry (target step : Nat) (wake : Option Nat) : Lane :=
  { (tLane .sync).wr PMU.WAKE_CFG_EN 0x7F with pmu := { entry := some { target := target, step := step, saved := 0, wake := wake } } }
theorem witness_PowerCommandsComplete :
    (let n := (tLane .sync).flag PMU.DOM_CFG_KEEP false 3
     n.pmu.power = .run ∧ n.entryTarget = 0 ∧ n.domState 3 = 0 ∧ (n.votersOf 3).isEmpty = true) ∧
    (((tLane .sync).votersOf 0).isEmpty = false ∧ ((tLane .sync).setDrop 0 1 false).dropStep 0 ≠ 0 ∧ ((tLane .sync).setDom 0 2).domState 0 = 2 ∧
     (((tLane .sync).setDom 0 2).votersOf 0).isEmpty = false) ∧
    (∀ k ∈ [PMU.HOST_VOTE_DOM.key, PMU.RTC_SET_SECONDS.key, CRU.FAT_CFG_CYCLES.key, PMU.CTRL_ENTER.key],
      (match (tLane .sync).regAccess 0 (privAddr k) true with | .ok j _ => decide (j = k) | _ => false) = true ∧
      (tLane .sync).domOn (blockDomain (k / 0x10000)) = true) ∧
    tReach (tLane .sync) 0xB PMU.CTRL_ENTER.key = true := by
  and_intros <;> decide +kernel
theorem witness_PowerCommandsComplete_entries :
    (let n : Lane := { tLane .sync with pmu := { request := some (1, 0) } }
     n.draining 1 = false ∧ n.stillHeld 1 = none) ∧
    (let n : Lane := { (tLane .standby) with pmu := { request := some (1, 0) } }
     (n.stillHeld 1).isSome = true ∧ 0 + 30000000 ≤ 30000000) ∧
    (tEntry 1 1 none).pmu.entry.map Entry.step = some 1 ∧ (tEntry 2 3 (some 1)).pmu.entry.map Entry.wake = some (some 1) ∧
    (tEntry 2 3 none).overran 3 0 = false ∧ (let n := (tLane .sync).setDrop 3 1 true
     n.dropStep 3 = 1 ∧ n.dropVoted 3 = true ∧ (n.setDrop 3 1 false).dropVoted 3 = false ∧ n.overran (n.dropStep 3) (Sparse.get 0 n.pmu.dropAt 3) = false ∧
     Sparse.get 0 n.pmu.dropAt 3 + 4096 < 4097) ∧
    (let n : Lane := { tLane .sync with pmu := { stalled := [⟨0, 0, none, none, 0⟩] } }
     0 + 2 * n.rd CRU.FAT_CFG_CYCLES ≤ 2 ^ 32 ∧ 0 < 0 + 2 * n.rd CRU.FAT_CFG_CYCLES) ∧
    ((tLane .sync).tempDue = true ∧ ({ tLane .sync with pmu := { tempAt := some 0 } } : Lane).tempDue = false) := by
  and_intros <;> decide +kernel
theorem witness_PowerCommandsComplete_wakes :
    (∀ k ∈ [1, 2, 3, 4, 5, 7], (tDoze.rd PMU.WAKE_CFG_EN).testBit (k - 1) = true ∧ wakes tDoze.pmu.power k = true) ∧ tDoze.pmu.entry = none ∧ tDoze.pmu.key = false ∧ ({ tDoze with pmu := { power := .doze, key := true } } : Lane).pmu.key = true ∧
    (tDoze.filtered PMU.WAKE_CFG_KEY_DEB 2 = true ∧ tDoze.filtered PMU.WAKE_CFG_KEY_DEB 0 = false ∧ tDoze.filtered PMU.WAKE_CFG_WAKE_FILT 1000000 = true ∧
     tDoze.filtered PMU.WAKE_CFG_WAKE_FILT 0 = false) ∧
    (tDoze.word PMU.RTC_ALARM_SECONDS.key ≠ 0 ∧ (tDoze.word PMU.RTC_ALARM_SECONDS.key).toNat ≤ tDoze.rtcNow / 32768) ∧
    (let n : Lane := { (tLane .sync).wr PMU.KEYOFF_STATE 2 with pmu := { keyOffAt := some 0 } }
     n.pmu.key = false ∧ n.keyoffState ≠ 0 ∧ n.pmu.keyTest = false ∧ n.pmu.keyReq = none ∧ n.otp.selfTest = true ∧
     0 + 600000 * n.rd PMU.KEYOFF_DELAY ≤ 600000 * 2 ^ 32) ∧
    (({ lifecycle := 4 } : Otp).selfTest = false) ∧ (tLane .sync).on CRU.STATUS_FAT_OFF = false ∧ (tLane .sync).pmu.power = .run := by
  and_intros <;> decide +kernel

theorem witness_LateWakeEventIsLatched :
    (∀ target ∈ [1, 2, 3], let n := tEntry target 4 none
      n.pmu.entry.map Entry.step = some 4 ∧ n.pmu.entry.map Entry.wake = some none ∧ (n.rd PMU.WAKE_CFG_EN).testBit 0 = true ∧
      wakes (targetPower target) 1 = true ∧ n.filtered PMU.WAKE_CFG_KEY_DEB 2 = true ∧ n.pmu.key = false) ∧ (tEntry 3 4 (some 1)).pmu.entry.map Entry.wake = some (some 1) := by decide +kernel

theorem witness_DebugAndTestComplete :
    ((tLane .standby).otp.lifecycle = 2 ∧ (tLane .standby).sec.blocked = none) ∧
    (let n : Lane := { tAuthed (grantImage .a 2) with sec := { ask := some 2 } }
     n.agreedNow (grantImage n.id 2) = true ∧ n.sec.ask = some 2) ∧
    (let n : Lane := { tLane .boot with clk := { now := 600000 * (52 + 18 * LaneId.a.code) }, boot := { loaded := true } }
     n.own = .boot ∧ n.boot.loaded = true ∧ n.boot.quick = false ∧ n.otp.selfTest = true ∧ n.rd CRU.RESET_CAUSE_LAST ≠ 8 ∧ n.rd BST.STATUS_OCCASION = 0 ∧
     n.boot.released + 600000 * (52 + 18 * n.id.code) = n.clk.now) ∧
    (let n : Lane := { tLane .standby with pmu := { keyTest := true } }
     n.xla.mode = .snuffed ∧ n.ccn.toNat % 8192 = 2048 * n.id.code ∧ n.on BST.STATUS_RUNNING = false) := by
  and_intros <;> decide +kernel
theorem witness_DebugAndTestComplete_tests :
    (let n := ((tLane .boot).flag BST.STATUS_RUNNING true).wr BST.STATUS_PART 5
     n.on BST.STATUS_RUNNING = true ∧ n.rd BST.STATUS_PART = 5 ∧ (n.wr BST.STATUS_OCCASION 1).rd BST.STATUS_OCCASION = 1 ∧
     (n.wr BST.STATUS_OCCASION 2).rd BST.STATUS_OCCASION = 2) ∧
    gdpNeeds .exchange ≤ (tLane .standby).dbgLevel ∧ (tLane .standby).dbgLevel < gdpNeeds .trace ∧
    ((match (tLane .standby).regAccess 0 (privAddr DBG.TRACE_DATA_WORD.key) false with | .ok j _ => decide (j = DBG.TRACE_DATA_WORD.key) | _ => false) = true ∧
     (tLane .standby).domOn (blockDomain (DBG.TRACE_DATA_WORD.key / 0x10000)) = true ∧ (tLane .standby).on DBG.TRACE_CFG_FLOW = false) ∧
    (let n : Lane := { (tLane .standby).wr STA.CFG_PERIOD 50 with clk := { base := 12000 } }
     n.rd STA.CFG_PERIOD ≠ 0 ∧ n.ccn.toNat % n.rd STA.CFG_PERIOD = 0 ∧ n.clk.base ≠ n.pcl.statSince) := by
  and_intros <;> decide +kernel

/-- What an access of an initiator finds, and whether the register's domain is ON; the row's RWL and RC fields. -/
def tRow (n : Lane) (ini key : Nat) (w : Bool) : Option (Nat × Bool × Bool × Bool) :=
  match n.regAccess ini (privAddr key) w with
  | .ok k r => some (k, n.domOn (blockDomain (k / 0x10000)), decide (r.rwl = 0), decide (r.rc = 0))
  | _ => none
theorem witness_RegisterAccessesComplete :
    (tRow (tLane .standby) 0 GDC.LOCK_LOCK.key true = some (GDC.LOCK_LOCK.key, true, true, true) ∧ GDC.LOCK_LOCK.key = GDC.LOCK_LOCK.key / 0x10000 * 0x10000 + 0xFC ∧
     GDC.LOCK_LOCK.key / 0x10000 < 256) ∧
    tRow (tLane .standby) 0 (0x02 * 0x10000 + 0xFC) true = some (0x0200FC, true, true, true) ∧
    (let k := GDC.SNUFF_CFG_ST_ACT.key
     (tRow (tLane .standby) 0 k true).map (fun e => (e.1, e.2.1, e.2.2.1)) = some (k, true, false) ∧ (tLane .standby).locked k = false ∧
     ((tLane .standby).setWord 0x2200FC 1).locked k = true ∧ k % 0x10000 ≠ 0xFC ∧
     k ∉ [PFB.ARM_INDEX.key, FCL.INJECT_GO.key, PMU.CTRL_ENTER.key, PMU.RTC_SET_SECONDS.key, CRU.FAT_CFG_CYCLES.key, DBG.TRACE_CFG_ENABLE.key, DBG.TRACE_CCN_CCN.key]) := by
  and_intros <;> decide +kernel
theorem witness_RegisterAccessesComplete_errors :
    (tRow (tLane .standby) 0 FCL.EVENT_COUNT_COUNT.key false).isSome = true ∧
    (let n := (tLane .standby).setDom 5 1
     (tRow n 0 HIF.STATUS_LINK_UP.key true).map (fun e => e.2.1) = some false) ∧
    (match (tLane .standby).regAccess 0xB 0x5000FFFC true with | .unmapped => true | _ => false) = true ∧ inRegs 0x5000FFFC = true ∧
    (match (tLane .standby).regAccess 0 (BitVec.ofNat 32 (0x50000000 + PMU.HOST_VOTE_DOM.key)) true with | .violation => true | _ => false) = true := by
  and_intros <;> decide +kernel
end Sys2Proof.Tests
end

section
/-!
PROOFS. Events of severity NOTE (R351, R353): what the trace's trigger, which every event may pull, leaves alone; the lane that such an
event leaves, in one equation; and from that equation the statement NoteEventsOnlyCount (O46).
-/
namespace Sys2Proof.Machine

open Sys2Proof

/-! ### Sources -/

@[simp] theorem Lane.src_setSrc_self (l : Lane) (n : Nat) (s : Src) : (l.setSrc n s).src n = s :=
  Sparse.get_set_self ({} : Src) l.fcl.src n s

theorem Lane.src_setSrc_ne (l : Lane) (n k : Nat) (s : Src) (h : k ≠ n) : (l.setSrc n s).src k = l.src k :=
  Sparse.get_set_ne ({} : Src) l.fcl.src n k h s {}

@[simp] theorem Lane.word_setSrc (l : Lane) (n k : Nat) (s : Src) : (l.setSrc n s).word k = l.word k := rfl

theorem Lane.word_bump_ne (l : Lane) (f : Fld) (i j n k : Nat) (h : k ≠ f.at_ i j) : (l.bump f i j n).word k = l.word k :=
  Lane.word_wr_ne l f _ i j k h

theorem Lane.word_flag_ne (l : Lane) (f : Fld) (b : Bool) (i j k : Nat) (h : k ≠ f.at_ i j) : (l.flag f b i j).word k = l.word k :=
  Lane.word_wr_ne l f _ i j k h

theorem Lane.word_eq_of_regs_eq (l m : Lane) (k : Nat) (h : m.regs = l.regs) : m.word k = l.word k := congrArg (regWord · k) h

/-- Lanes with the same word of a register read its fields alike. -/
theorem Lane.rd_eq_of_word_eq (l m : Lane) (f : Fld) (i j : Nat) (h : m.word (f.at_ i j) = l.word (f.at_ i j)) :
    m.rd f i j = l.rd f i j := congrArg (bitsOf · f.lo f.w) h

theorem Lane.flag_frame (l : Lane) (f : Fld) (b : Bool) (i j : Nat) :
    l.flag f b i j = { l with regs := (l.flag f b i j).regs } := rfl

/-! ### The trigger of the trace (R538) -/

/-- The trigger does nothing, or sets its flag in DBG.TRACE_STATUS and the count of records still to come. -/
theorem Lane.trigger_cases (l : Lane) : l.trigger = l ∨ ∃ left,
    l.trigger = { l with regs := (l.flag DBG.TRACE_STATUS_TRIGGERED true).regs, trc := { l.trc with left := left } } := by
  unfold Lane.trigger
  split
  · exact .inr ⟨some (l.rd DBG.TRACE_CFG_POST), by rw [l.flag_frame]⟩
  · exact .inl rfl

theorem Lane.triggerSource_cases (l : Lane) (n : Nat) : l.triggerSource n = l ∨ ∃ left,
    l.triggerSource n = { l with regs := (l.flag DBG.TRACE_STATUS_TRIGGERED true).regs, trc := { l.trc with left := left } } := by
  unfold Lane.triggerSource
  split
  · exact l.trigger_cases
  · exact .inl rfl

theorem Lane.triggerSource_of_trig_ne (l : Lane) (n : Nat) (h : l.rd DBG.TRACE_CFG_TRIG ≠ 2) : l.triggerSource n = l :=
  if_neg fun hc => h hc.1

@[simp] theorem Lane.triggerSource_fcl (l : Lane) (n : Nat) : (l.triggerSource n).fcl = l.fcl := by
  obtain h | ⟨_, h⟩ := l.triggerSource_cases n <;> rw [h]

@[simp] theorem Lane.triggerSource_clk (l : Lane) (n : Nat) : (l.triggerSource n).clk = l.clk := by
  obtain h | ⟨_, h⟩ := l.triggerSource_cases n <;> rw [h]

@[simp] theorem Lane.triggerSource_src (l : Lane) (n k : Nat) : (l.triggerSource n).src k = l.src k := by
  simp only [Lane.src, Lane.triggerSource_fcl]

theorem Lane.triggerSource_word (l : Lane) (n k : Nat) (h : k ≠ DBG.TRACE_STATUS_TRIGGERED.at_ 0 0) :
    (l.triggerSource n).word k = l.word k := by
  obtain hc | ⟨_, hc⟩ := l.triggerSource_cases n
  · rw [hc]
  · have hregs : (l.triggerSource n).regs = (l.flag DBG.TRACE_STATUS_TRIGGERED true).regs := by rw [hc]
    exact (Lane.word_eq_of_regs_eq _ _ k hregs).trans (l.word_flag_ne DBG.TRACE_STATUS_TRIGGERED true 0 0 k h)

theorem Lane.triggerSource_rd (l : Lane) (n : Nat) (f : Fld) (i : Nat) (h : f.at_ i 0 ≠ DBG.TRACE_STATUS_TRIGGERED.at_ 0 0) :
    (l.triggerSource n).rd f i = l.rd f i :=
  Lane.rd_eq_of_word_eq _ _ _ _ _ (l.triggerSource_word n _ h)

/-- No source's configuration register is the trace's status register: they lie on multiples of 8, and it does not. -/
theorem srcCfg_key_ne (n : Nat) : FCL.SRC_CFG_SEV.at_ n 0 ≠ DBG.TRACE_STATUS_TRIGGERED.at_ 0 0 := by
  change 0x021000 + 0x8 * n + 0x0 * 0 ≠ 0x0A000C
  omega

theorem Lane.triggerSource_msCycles (l : Lane) (n ms : Nat) : (l.triggerSource n).msCycles ms = l.msCycles ms := by
  have h : (l.triggerSource n).cycleLen = l.cycleLen := l.triggerSource_rd n CRU.CYCLE_TICKS 0 (by decide)
  simp only [Lane.msCycles, h]

@[simp] theorem Lane.triggerSource_severityOf (l : Lane) (n m : Nat) (info : Word) (hist : List Nat) :
    (l.triggerSource n).severityOf m info hist = l.severityOf m info hist := by
  have hcfg (f : Fld) (h : f.at_ m 0 ≠ DBG.TRACE_STATUS_TRIGGERED.at_ 0 0) := l.triggerSource_rd n f m h
  unfold Lane.severityOf Lane.on
  rw [hcfg FCL.SRC_CFG_COUNT (srcCfg_key_ne m), hcfg FCL.SRC_CFG_ESC_N (srcCfg_key_ne m),
    hcfg FCL.SRC_CFG_ESC_SEV (srcCfg_key_ne m), hcfg FCL.SRC_CFG_SEV (srcCfg_key_ne m)]

/-! ### An event of severity NOTE -/

/-- The cycles of the last events of source n, newest first, with one more event now: those that counting looks at (R348, R349). -/
def Lane.eventHist (l : Lane) (n : Nat) : List Nat :=
  (l.clk.cycles :: within l.clk.cycles (l.msCycles (l.rd FCL.SRC_CFG_ESC_T n)) (l.src n).hist).take 15

/-- What the FCL keeps of source n once a NOTE event of it is counted (R353). -/
def Lane.notedSrc (l : Lane) (n : Nat) (info : Word) : Src :=
  { l.src n with events := satN 16 ((l.src n).events + 1), hist := l.eventHist n, lastSev := .note, info := info, merged := false }

@[simp] theorem Lane.triggerSource_eventHist (l : Lane) (n m : Nat) : (l.triggerSource n).eventHist m = l.eventHist m := by
  simp only [Lane.eventHist, Lane.triggerSource_clk, Lane.triggerSource_src, Lane.triggerSource_msCycles,
    l.triggerSource_rd n FCL.SRC_CFG_ESC_T m (srcCfg_key_ne m)]

@[simp] theorem Lane.triggerSource_notedSrc (l : Lane) (n m : Nat) (info : Word) :
    (l.triggerSource n).notedSrc m info = l.notedSrc m info := by
  simp only [Lane.notedSrc, Lane.triggerSource_src, Lane.triggerSource_eventHist]

section
variable (l : Lane) (n : Nat) (info : Word) (inj : Bool) (hn : (srcInfo n).isSome = true)
  (hs : (l.severityOf n info (l.eventHist n)).1 = .note)
include hn hs

/-- A NOTE event is counted and writes no log entry. -/
theorem Lane.raiseCore_of_note :
    l.raiseCore n info inj = ((l.bump FCL.EVENT_COUNT_COUNT).setSrc n (l.notedSrc n info), false) := by
  have hlisted : ¬ (srcInfo n).isNone = true := by simpa [Option.isSome_iff_ne_none] using hn
  simp only [Lane.eventHist] at hs
  simp only [Lane.raiseCore, if_neg hlisted, hs, if_true, Lane.notedSrc, Lane.eventHist]

/-- A NOTE event leaves the lane as the trace's trigger leaves it, with the count of all events and its own source's mark moved on. -/
theorem Lane.fault_of_note :
    l.fault n info inj = ((l.triggerSource n).bump FCL.EVENT_COUNT_COUNT).setSrc n (l.notedSrc n info) := by
  have h := (l.triggerSource n).raiseCore_of_note n info inj hn (by simpa using hs)
  simp [Lane.fault, h]

/-- A NOTE event writes no register but the count of all events and, through the trace's trigger, DBG.TRACE_STATUS. -/
theorem Lane.fault_word_of_note (k : Nat) (hc : k ≠ FCL.EVENT_COUNT_COUNT.key)
    (ht : k ≠ DBG.TRACE_STATUS_TRIGGERED.at_ 0 0) : (l.fault n info inj).word k = l.word k := by
  rw [l.fault_of_note n info inj hn hs, Lane.word_setSrc, Lane.word_bump_ne _ _ _ _ _ _ hc, l.triggerSource_word n k ht]

/-- Of what the FCL keeps outside its registers, a NOTE event moves on its own source alone. -/
theorem Lane.fault_fcl_of_note : (l.fault n info inj).fcl = (l.setSrc n (l.notedSrc n info)).fcl := by
  simp [l.fault_of_note n info inj hn hs, Lane.setSrc]

/-- Where no trace trigger waits for a source, a NOTE event changes the count of all events and its own source's mark alone. -/
theorem Lane.fault_of_note_untraced (ht : l.rd DBG.TRACE_CFG_TRIG ≠ 2) :
    l.fault n info inj = (l.bump FCL.EVENT_COUNT_COUNT).setSrc n (l.notedSrc n info) := by
  rw [l.fault_of_note n info inj hn hs, l.triggerSource_of_trig_ne n ht]

end

/-- No entry of the fault log lies on the count of all events or on the trace's status: entries lie on multiples of 16. -/
theorem logEntry_key_ne (e : Nat) :
    FCL.LOG0_VALID.at_ e 0 ≠ FCL.EVENT_COUNT_COUNT.key ∧ FCL.LOG0_VALID.at_ e 0 ≠ DBG.TRACE_STATUS_TRIGGERED.at_ 0 0 := by
  change 0x020400 + 0x10 * e + 0x0 * 0 ≠ 0x020014 ∧ 0x020400 + 0x10 * e + 0x0 * 0 ≠ 0x0A000C
  omega

/-- Settles O46: a NOTE event's effect is the one equation of `Lane.fault_of_note`, and none of the episode's registers is the count of all
events or the trace's status. -/
theorem noteEventsOnlyCount : Obligations.NoteEventsOnlyCount := by
  unfold Obligations.NoteEventsOnlyCount
  intro l n info inj hn hist hs v
  have hword := l.fault_word_of_note n info inj hn hs
  have hfcl := l.fault_fcl_of_note n info inj hn hs
  have hsrc : ∀ k, v.src k = (l.setSrc n (l.notedSrc n info)).src k := fun k => by simp only [v, Lane.src, hfcl]
  have hself : v.src n = l.notedSrc n info := (hsrc n).trans (l.src_setSrc_self n _)
  refine ⟨hword _ (by decide) (by decide), hword _ (by decide) (by decide), hword _ (by decide) (by decide),
    Lane.rd_eq_of_word_eq _ _ _ _ _ (hword _ (by decide) (by decide)), fun e => hword _ (logEntry_key_ne e).1 (logEntry_key_ne e).2,
    (congrArg Fcl.rank hfcl :), (congrArg Fcl.openedAt hfcl :), (congrArg Fcl.reactAt hfcl :), (congrArg Fcl.epFenced hfcl :),
    (congrArg Src.mergedEp hself :), (congrArg Src.reacted hself :), (congrArg Src.active hself :), (congrArg Src.fence hself :),
    (congrArg Src.demand hself :), (congrArg Src.events hself :), (congrArg Src.info hself :),
    fun k hk => (hsrc k).trans (l.src_setSrc_ne n k _ hk), fun ht => ?_⟩
  have hv : v = (l.bump FCL.EVENT_COUNT_COUNT).setSrc n (l.notedSrc n info) := l.fault_of_note_untraced n info inj hn hs ht
  constructor
  · rw [hv]; rfl
  · intro k hk
    rw [hv, Lane.word_setSrc, Lane.word_bump_ne _ _ _ _ _ _ hk]

end Sys2Proof.Machine
end

section
/-!
PROOFS. A wake event in step 4 of an entry of the lane (R474): what a wake event does to an entry that holds none, and where the end of step 4
leaves the lane; from these the statement LateWakeEventIsLatched (O58).
-/
namespace Sys2Proof.Machine

open Sys2Proof

/-! ### The power unit replaced -/

@[simp] theorem Lane.pmu_onPmu (l : Lane) (f : Pmu → Pmu) : (l.onPmu f).pmu = f l.pmu := rfl

@[simp] theorem Lane.rd_onPmu (l : Lane) (f : Pmu → Pmu) (d : Fld) (i j : Nat) : (l.onPmu f).rd d i j = l.rd d i j := rfl

/-! ### The commands -/

theorem exec_keyOn (l : LaneId) (h : KeyHeld) (s : State) : exec (.keyOn l h) s = execKeyOn l h s := rfl

theorem exec_entryStepComplete (l : LaneId) (t d : Nat) (s : State) :
    exec (.entryStepComplete l t d) s = execEntryStepComplete l t d s := rfl

/-- The power unit that shows the key on: the key-off delay and its requests are over (R480). -/
def Pmu.keyShownOn (p : Pmu) : Pmu := { p with key := true, keyOffAt := none, keyTest := false, keyReq := none }

/-- KEY_ON, the key having been off and now on for the length of its filter, is wake event 1 of a lane that shows the key on. -/
theorem completes_keyOn (s : State) (l : LaneId) (t ms : Nat) (hf : ((s.lane l).atTick t).filtered PMU.WAKE_CFG_KEY_DEB ms = true)
    (hk : ((s.lane l).atTick t).pmu.key = false) :
    Completes (.keyOn l ⟨t, ms⟩) s l ((((s.lane l).atTick t).onPmu Pmu.keyShownOn).wakeEvent 1).resumeStalled := by
  simp only [Completes, exec_keyOn, execKeyOn, hf, hk, Bool.not_false, Bool.and_self, if_true]
  rfl

/-- ENTRY_STEP_COMPLETE of the lane's own entry ends the entry's step. -/
theorem completes_entryStepComplete (s : State) (l : LaneId) (t : Nat) (e : Entry) (he : ((s.lane l).atTick t).pmu.entry = some e) :
    Completes (.entryStepComplete l t 7) s l (((s.lane l).atTick t).entryStep e).resumeStalled := by
  simp only [Completes, exec_entryStepComplete, execEntryStepComplete, he, if_true]

/-! ### Wake events during an entry -/

/-- The lane with wake source src latched in its entry e. -/
def Lane.latchWake (l : Lane) (e : Entry) (src : Nat) : Lane := l.onPmu fun p => { p with entry := some { e with wake := some src } }

/-- An enabled source that wakes the entry's target is latched in an entry that holds none. -/
theorem Lane.wakeEvent_eq_latchWake (l : Lane) (e : Entry) (src : Nat) (he : l.pmu.entry = some e) (hw : e.wake = none)
    (hen : (l.rd PMU.WAKE_CFG_EN).testBit (src - 1) = true) (hwk : wakes (targetPower e.target) src = true) :
    l.wakeEvent src = l.latchWake e src := by
  simp only [Lane.wakeEvent, Lane.latchWake, he, hw, hen, hwk, Option.isNone_none, Bool.and_self, Bool.not_true, Bool.false_eq_true,
    if_true, if_false]

/-- The key (source 1) wakes a lane from every power state that an entry leads to (R478). -/
theorem wakes_targetPower_key (target : Nat) : wakes (targetPower target) 1 = true := by
  unfold targetPower
  split <;> rfl

/-! ### The end of step 4 -/

/-- Only step 1 has a bound to overrun. -/
theorem Lane.overran_of_late (l : Lane) (step since : Nat) (h : 4 ≤ step) : l.overran step since = false := by
  have hne : step ≠ 1 := by omega
  simp [Lane.overran, hne]

section
variable (l : Lane) (e : Entry) (h : 4 ≤ e.step)
include h

/-- No abort point is left from step 4 on: a latched source waits for the entry to complete, and wakes the lane from there. -/
theorem Lane.entryStep_of_late_latched (w : Nat) (hw : e.wake = some w) : l.entryStep e = (l.completeEntry e).wakeUp w := by
  simp only [Lane.entryStep, l.overran_of_late e.step e.since h, h.not_gt, hw, Bool.false_eq_true, if_false]

theorem Lane.entryStep_of_late_unlatched (hw : e.wake = none) : l.entryStep e = l.completeEntry e := by
  simp only [Lane.entryStep, l.overran_of_late e.step e.since h, h.not_gt, hw, Bool.false_eq_true, if_false]

end

/-- Completion sets the power unit last, after the records, the domain states and the result: whatever those do, the entry is over and the
power state is its target's. -/
theorem Lane.completeEntry_reached (l : Lane) (e : Entry) :
    (l.completeEntry e).pmu.entry = none ∧ (l.completeEntry e).pmu.power = targetPower e.target := by
  simp only [Lane.completeEntry, targetPower]
  split <;> exact ⟨rfl, rfl⟩

/-- Settles O58: showing the key on leaves the entry and the enabled sources alone, so KEY_ON latches as every wake event does; and from step 4
on the end of the step completes the entry first. -/
theorem lateWakeEventIsLatched : Obligations.LateWakeEventIsLatched := by
  unfold Obligations.LateWakeEventIsLatched
  refine ⟨?latch, ?keyOn, ?complete⟩
  case latch =>
    intro l e src he _ hw hen hwk
    exact l.wakeEvent_eq_latchWake e src he hw hen hwk
  case keyOn =>
    intro s l t ms e n hf hk he _ hw hen _ _
    have hlatch : (n.onPmu Pmu.keyShownOn).wakeEvent 1 = (n.onPmu Pmu.keyShownOn).latchWake e 1 :=
      Lane.wakeEvent_eq_latchWake _ e 1 he hw hen (wakes_targetPower_key e.target)
    have hdone := completes_keyOn s l t ms hf hk
    rw [hlatch] at hdone
    exact hdone
  case complete =>
    intro s l t e n he hstep _ _
    obtain ⟨hentry, hpower⟩ := n.completeEntry_reached e
    have hdone : Completes (.entryStepComplete l t 7) s l (n.entryStep e).resumeStalled := completes_entryStepComplete s l t e he
    refine ⟨hentry, hpower, fun w hw => ?_, fun hw => ?_⟩
    · rwa [n.entryStep_of_late_latched e hstep w hw] at hdone
    · rwa [n.entryStep_of_late_unlatched e hstep hw] at hdone

end Sys2Proof.Machine
end

section
/-!
PROOFS. What every command does to the part as a whole: it answers a next state in which the lane that it names is replaced, and the queue
and the other lanes are as before. From this one fact come the statements about steps and runs (O1 to O5) and, with the gate outputs of a leg,
those about safe states (O6 to O9).
-/
namespace Sys2Proof.Machine

open Sys2Proof

/-! ### Commands -/

/-- Every command's arm of `exec` answers the state with the lane that it names replaced. -/
theorem exec_replaces_lane (c : Instr) (s : State) : ∃ v, exec c s = .next (s.setLane c.lane v) := by
  cases c <;> exact ⟨_, rfl⟩

/-- A next state of a command is the state before with the named lane replaced. -/
theorem eq_setLane_of_exec (c : Instr) (s t : State) (h : exec c s = .next t) : ∃ v, t = s.setLane c.lane v := by
  obtain ⟨v, hv⟩ := exec_replaces_lane c s
  exact ⟨v, Host.Outcome.next.inj (h.symm.trans hv)⟩

/-- Settles O1: it is the definition of a step. -/
theorem stepTakesFrontCommand : Obligations.StepTakesFrontCommand := by
  intro c cs s h
  simp only [step, h]

/-- Settles O2: it is the definition of a step. -/
theorem emptyQueueIdles : Obligations.EmptyQueueIdles := by
  intro s h
  simp only [step, h]

/-- Settles O3: a command replaces its own lane alone. -/
theorem commandsActOnTheirOwnLane : Obligations.CommandsActOnTheirOwnLane := by
  intro c s t h
  obtain ⟨v, rfl⟩ := eq_setLane_of_exec c s t h
  exact ⟨State.setLane_pending s c.lane v, fun x hx => State.setLane_lane_ne s c.lane x v hx⟩

/-- Settles O4: every arm of `exec` answers a next state. -/
theorem everyCommandCompletes : Obligations.EveryCommandCompletes := by
  intro c s
  obtain ⟨v, hv⟩ := exec_replaces_lane c s
  exact ⟨_, hv⟩

/-! ### Steps and runs -/

/-- A step answers a next state, whose queue is the queue without its first command. -/
theorem step_drops_front (s : State) : ∃ t, step s = .next t ∧ t.pending = s.pending.drop 1 := by
  match h : s.pending with
  | [] => exact ⟨s, emptyQueueIdles s h, by simp [h]⟩
  | c :: cs =>
    obtain ⟨v, hv⟩ := exec_replaces_lane c { s with pending := cs }
    exact ⟨_, (stepTakesFrontCommand c cs s h).trans hv, State.setLane_pending _ _ v⟩

/-- A run of n steps answers a next state, whose queue is the queue without its first n commands. -/
theorem runSteps_drops (n : Nat) (s : State) : ∃ t, runSteps n s = .next t ∧ t.pending = s.pending.drop n := by
  induction n generalizing s with
  | zero => exact ⟨s, rfl, rfl⟩
  | succ n ih =>
    obtain ⟨m, hm, hq⟩ := step_drops_front s
    obtain ⟨t, ht, hd⟩ := ih m
    refine ⟨t, ?_, ?_⟩
    · simpa only [runSteps, hm] using ht
    · rw [hd, hq, List.drop_drop, Nat.add_comm]

/-- Settles O5: each step of the run takes one command from the front of the queue. -/
theorem queueDrainsInAsManySteps : Obligations.QueueDrainsInAsManySteps :=
  fun s n _ => runSteps_drops n s

end Sys2Proof.Machine
end

section
/-!
PROOFS. The gate outputs of a bridge switch (R282, R283, R288): the on-times that each entry of R288 gives it, and from these the statements
NoLegConductsTwice (O7), EveryStepIsSafe (O8), ResetIsSafe (O6), GateOutputsFollowTheFirstEntry (O42), and the values at reset (O9).
-/
namespace Sys2Proof.Machine

open Sys2Proof

/-! ### The two switches of a leg -/

theorem two_mul_xor_one (k : Nat) : 2 * k ^^^ 1 = 2 * k + 1 := Nat.xor_one_of_even ⟨k, two_mul k⟩

/-- The other switch of a leg belongs to the same bridge and leg and lies on the other side. -/
theorem legMate (sw : Nat) (h : sw < 12) :
    (sw ^^^ 1) < 12 ∧ (sw ^^^ 1) / 6 = sw / 6 ∧ (sw ^^^ 1) % 6 / 2 = sw % 6 / 2 ∧ decide ((sw ^^^ 1) % 2 = 0) = !decide (sw % 2 = 0) := by
  decide +revert

/-- A bridge switch is on just when its command asks for it, the other gate of its leg is not asked for, and its deadtime is over. -/
theorem Lane.gate_eq_true_iff (l : Lane) (now sw : Nat) (h : sw ≠ 12) : l.gate now sw = true ↔
    (l.onTime? now sw).isSome = true ∧ l.onTime? now (sw ^^^ 1) = none ∧ l.deadUntil now sw ≤ now := by
  simp [Lane.gate, h, and_assoc]

/-- The drive die never turns on a switch while the other switch of its leg is asked for (R282, R283). -/
theorem Lane.gates_of_leg_apart (l : Lane) (now k : Nat) (hk : k < 6) :
    ¬(l.gate now (2 * k) = true ∧ l.gate now (2 * k + 1) = true) := by
  rintro ⟨hhigh, hlow⟩
  rw [l.gate_eq_true_iff now _ (by omega)] at hhigh hlow
  rw [two_mul_xor_one] at hhigh
  simp [hhigh.2.1] at hlow

theorem Lane.legsApart_eq_true (l : Lane) (now : Nat) : l.legsApart now = true := by
  simp only [Lane.legsApart, List.all_eq_true, List.mem_range]
  intro k hk
  have h := l.gates_of_leg_apart now k hk
  simpa only [Bool.not_eq_true', Bool.and_eq_false_iff, Bool.not_eq_true, not_and_or] using h

/-! ### The on-times of a switch by the entry of R288 that applies -/

/-- Only one on-time of a pattern ends by itself. -/
theorem Lane.patternOn_end_unique (l : Lane) (b leg : Nat) (high : Bool) (e f : Nat × Nat) (he : e ∈ l.patternOn b leg high)
    (hf : f ∈ l.patternOn b leg high) (hee : e.2 ≠ endless) (hfe : f.2 ≠ endless) : e = f := by
  unfold Lane.patternOn at he hf
  revert he hf
  repeat' split
  all_goals grind

section
variable (l : Lane) (sw : Nat)

/-- Whether an entry 1 to 4 of R288 holds the switch off: its unit is held off, or its leg rests after a shoot-through command. -/
def Lane.switchHeldOff : Bool := l.heldOff (sw / 6) || l.drive.legsOff.testBit (3 * (sw / 6) + sw % 6 / 2)

theorem Lane.onTimes_of_heldOff (h : l.switchHeldOff sw = true) : l.onTimes sw = [] := if_pos h

theorem Lane.onTimes_of_snuff (h : l.switchHeldOff sw = false) (hs : l.drive.snuff = true) : l.onTimes sw =
    if shortSwitch (l.snuffAct (sw / 6)) (decide (sw % 2 = 0)) then [(l.drive.snuffAt + l.snuffWait (sw / 6), endless)] else [] := by
  have h' : ¬ (l.heldOff (sw / 6) || l.drive.legsOff.testBit (3 * (sw / 6) + sw % 6 / 2)) = true := by simpa [Lane.switchHeldOff] using h
  simp only [Lane.onTimes, if_neg h', hs, if_true]

theorem Lane.onTimes_of_ovHold (h : l.switchHeldOff sw = false) (hs : l.drive.snuff = false) (ho : l.drive.ovHold = true) :
    l.onTimes sw =
      if shortSwitch (1 + l.drive.ovSide / 2 ^ (sw / 6) % 2) (decide (sw % 2 = 0)) then [(0, endless)] else [] := by
  have h' : ¬ (l.heldOff (sw / 6) || l.drive.legsOff.testBit (3 * (sw / 6) + sw % 6 / 2)) = true := by simpa [Lane.switchHeldOff] using h
  simp only [Lane.onTimes, if_neg h', hs, ho, Bool.false_eq_true, if_false, if_true]

/-- The on-time of a pattern in absolute ticks, for a period that began at tick at_. -/
def absOnTime (at_ : Nat) (e : Nat × Nat) : Nat × Nat := (at_ + e.1, if e.2 = endless then endless else at_ + e.2)

theorem Lane.onTimes_of_pattern (h : l.switchHeldOff sw = false) (hs : l.drive.snuff = false) (ho : l.drive.ovHold = false) :
    l.onTimes sw = (l.patternOn (sw / 6) (sw % 6 / 2) (decide (sw % 2 = 0))).map (absOnTime (l.bridge (sw / 6)).from_) := by
  have h' : ¬ (l.heldOff (sw / 6) || l.drive.legsOff.testBit (3 * (sw / 6) + sw % 6 / 2)) = true := by simpa [Lane.switchHeldOff] using h
  simp only [Lane.onTimes, if_neg h', hs, ho, Bool.false_eq_true, if_false]
  rfl

/-- Outside the Snuff action at most one on-time of a switch ends by itself. -/
theorem Lane.onTimes_end_unique (hs : l.drive.snuff = false) (e f : Nat × Nat) (he : e ∈ l.onTimes sw) (hf : f ∈ l.onTimes sw)
    (hee : e.2 < endless) (hfe : f.2 < endless) : e = f := by
  cases h : l.switchHeldOff sw with
  | true => simp [l.onTimes_of_heldOff sw h] at he
  | false =>
    cases ho : l.drive.ovHold with
    | true =>
      rw [l.onTimes_of_ovHold sw h hs ho] at he
      split at he
      · obtain rfl := List.mem_singleton.mp he
        exact absurd hee (lt_irrefl _)
      · simp at he
    | false =>
      rw [l.onTimes_of_pattern sw h hs ho, List.mem_map] at he hf
      obtain ⟨e', he', rfl⟩ := he
      obtain ⟨f', hf', rfl⟩ := hf
      have hne (g : Nat × Nat) (at_ : Nat) (hg : (absOnTime at_ g).2 < endless) : g.2 ≠ endless :=
        fun hg' => absurd hg (by simp [absOnTime, hg'])
      rw [l.patternOn_end_unique _ _ _ e' f' he' hf' (hne e' _ hee) (hne f' _ hfe)]

end

/-! ### One switch after the other (R282) -/

/-- A switch that was on at t1 and is no more asked for at t2 was last turned off after t1. -/
theorem Lane.lastOff_of_on (l : Lane) (sw t1 t2 : Nat) (hs : l.drive.snuff = false) (hc : l.changedAt (sw / 6) ≤ t1) (ht : t1 < t2)
    (ht2 : t2 < endless) (hon : (l.onTime? t1 sw).isSome = true) (hoff : l.onTime? t2 sw = none) :
    ∃ e, l.lastOff t2 sw = some e ∧ t1 < e := by
  obtain ⟨e, he⟩ := Option.isSome_iff_exists.mp hon
  have hmem : e ∈ l.onTimes sw := List.mem_of_find?_eq_some he
  have hin : e.1 ≤ t1 ∧ t1 < e.2 := by simpa using List.find?_some he
  have hend : e.2 ≤ t2 := by
    have h := List.find?_eq_none.mp hoff e hmem
    simp only [Bool.and_eq_true, decide_eq_true_eq, not_and, not_lt] at h
    exact h (by omega)
  have hlast : ∃ x, (((l.onTimes sw).map fun e => e.2).filter
      fun e => decide (e ≤ t2) && decide (l.changedAt (sw / 6) < e)).getLast? = some x := by
    rw [← Option.isSome_iff_exists, List.getLast?_isSome]
    refine List.ne_nil_of_mem (a := e.2) (List.mem_filter.mpr ⟨List.mem_map_of_mem hmem, ?_⟩)
    simp only [Bool.and_eq_true, decide_eq_true_eq]
    omega
  obtain ⟨x, hx⟩ := hlast
  have hxm := List.mem_of_getLast? hx
  simp only [List.mem_filter, List.mem_map, Bool.and_eq_true, decide_eq_true_eq] at hxm
  obtain ⟨⟨f, hf, rfl⟩, hle, -⟩ := hxm
  have hfe : f = e := l.onTimes_end_unique sw hs f e hf hmem (by omega) (by omega)
  exact ⟨f.2, by simp only [Lane.lastOff, hx], by rw [hfe]; exact hin.2⟩

/-- A switch that comes on after the other switch of its leg was on comes on later than a deadtime after that. -/
theorem Lane.deadtime_between (l : Lane) (sw t1 t2 : Nat) (hsw : sw < 12) (hs : l.drive.snuff = false)
    (hc : l.changedAt (sw / 6) ≤ t1) (ht : t1 < t2) (ht2 : t2 < endless) (h1 : l.gate t1 sw = true) (h2 : l.gate t2 (sw ^^^ 1) = true) :
    t1 + l.rd GDC.BR_CFG_DEADTIME (sw / 6) < t2 := by
  obtain ⟨hmate, hunit, -, -⟩ := legMate sw hsw
  rw [l.gate_eq_true_iff _ _ (by omega)] at h1 h2
  obtain ⟨-, hoff, hdead⟩ := h2
  rw [Nat.xor_xor_cancel_right] at hoff
  obtain ⟨e, he, hlt⟩ := l.lastOff_of_on sw t1 t2 hs hc ht ht2 h1.1 hoff
  simp only [Lane.deadUntil, Nat.xor_xor_cancel_right, he, hs, Bool.false_eq_true, if_false, hunit] at hdead
  omega

/-- Settles O7. -/
theorem noLegConductsTwice : Obligations.NoLegConductsTwice := by
  intro l k hk
  refine ⟨fun now => l.gates_of_leg_apart now k hk, fun sw t1 t2 hsw hs hc ht ht2 h1 h2 => ?_⟩
  exact l.deadtime_between sw t1 t2 (by omega) hs hc ht ht2 h1 h2

/-! ### Safe states -/

/-- A state whose lanes carry their letters is safe: no lane ever drives both switches of a leg. -/
theorem State.safe_of_lettersKept (s : State) (h : s.lettersKept = true) : s.safe = true := by
  simp [State.safe, h, Lane.legsApart_eq_true]

theorem State.lettersKept_iff (s : State) : s.lettersKept = true ↔ ∀ x, (s.lane x).id = x := by
  simp only [State.lettersKept, Bool.and_eq_true, decide_eq_true_eq]
  exact ⟨fun h x => by cases x; exacts [h.1.1, h.1.2, h.2], fun h => ⟨⟨h .a, h .b⟩, h .c⟩⟩

/-- A step keeps the letters: a command replaces a lane under its own letter. -/
theorem step_keeps_letters (s t : State) (hs : s.lettersKept = true) (h : step s = .next t) : t.lettersKept = true := by
  rw [State.lettersKept_iff] at hs ⊢
  match hp : s.pending with
  | [] =>
    obtain rfl := Host.Outcome.next.inj ((emptyQueueIdles s hp).symm.trans h)
    exact hs
  | c :: cs =>
    rw [stepTakesFrontCommand c cs s hp] at h
    obtain ⟨v, rfl⟩ := eq_setLane_of_exec c _ t h
    exact fun x => State.setLane_letters _ c.lane x v (by rw [State.lane_pending]; exact hs x)

/-- Settles O8: a step keeps the letters, and no lane ever drives both switches of a leg. -/
theorem everyStepIsSafe : Obligations.EveryStepIsSafe :=
  fun s t hs h => t.safe_of_lettersKept (step_keeps_letters s t hs h)

/-- Settles O6. -/
theorem resetIsSafe : Obligations.ResetIsSafe :=
  ⟨State.reset.safe_of_lettersKept rfl, rfl⟩

theorem resetWord_cycleTicks : resetWord (CRU.CYCLE_TICKS.at_ 0 0) = 12000#32 := by decide

theorem Lane.reset_cycleLen (x : LaneId) : (Lane.reset x).cycleLen = 12000 := by
  simp only [Lane.cycleLen, Lane.rd, cfgRd, regWord, Lane.reset, Sparse.get, resetWord_cycleTicks]
  decide

/-- Settles O9: each value stands in the reset lane or is its register's reset word. -/
theorem resetValues : Obligations.ResetValues := by
  intro x
  rw [State.reset_lane]
  refine ⟨?_, rfl, rfl, rfl, Lane.reset_cycleLen x, rfl, rfl, rfl⟩
  cases x <;> rfl

/-! ### Gate outputs (R288) -/

/-- A switch is asked for when one of its on-times holds the tick. -/
theorem Lane.isSome_onTime? (l : Lane) (now sw : Nat) :
    (l.onTime? now sw).isSome = (l.onTimes sw).any fun e => decide (e.1 ≤ now) && decide (now < e.2) := List.isSome_find?

theorem Lane.gate_eq (l : Lane) (now sw : Nat) (h : sw ≠ 12) : l.gate now sw =
    ((l.onTime? now sw).isSome && !(l.onTime? now (sw ^^^ 1)).isSome && decide (l.deadUntil now sw ≤ now)) := by
  simp [Lane.gate, h]

theorem Lane.switchHeldOff_mate (l : Lane) (sw : Nat) (h : sw < 12) : l.switchHeldOff (sw ^^^ 1) = l.switchHeldOff sw := by
  obtain ⟨-, hunit, hleg, -⟩ := legMate sw h
  simp only [Lane.switchHeldOff, hunit, hleg]

/-- A short turns on one side of a leg only. -/
theorem shortSwitch_mate (act : Nat) (high : Bool) (h : shortSwitch act high = true) : shortSwitch act (!high) = false := by
  unfold shortSwitch at *
  grind

section
variable (l : Lane) (now sw : Nat)

theorem Lane.gate_of_not_asked (h12 : sw ≠ 12) (h : (l.onTime? now sw).isSome = false) : l.gate now sw = false := by
  simp [l.gate_eq now sw h12, h]

/-- Where the leg's command is a short from tick t0 on, a switch is on just when the short has begun, takes it, and its deadtime is over. -/
theorem Lane.gate_of_short (act t0 : Nat) (h12 : sw < 12) (hend : now < endless)
    (hon : ∀ x, (x = sw ∨ x = sw ^^^ 1) → l.onTimes x = if shortSwitch act (decide (x % 2 = 0)) then [(t0, endless)] else []) :
    l.gate now sw = (shortSwitch act (decide (sw % 2 = 0)) && decide (t0 ≤ now) && decide (l.deadUntil now sw ≤ now)) := by
  have hasked : ∀ x, (x = sw ∨ x = sw ^^^ 1) →
      (l.onTime? now x).isSome = (shortSwitch act (decide (x % 2 = 0)) && decide (t0 ≤ now)) := by
    intro x hx
    rw [l.isSome_onTime?, hon x hx]
    cases shortSwitch act (decide (x % 2 = 0)) <;> simp [hend]
  rw [l.gate_eq now sw (by omega), hasked sw (.inl rfl), hasked _ (.inr rfl), (legMate sw h12).2.2.2]
  cases hs : shortSwitch act (decide (sw % 2 = 0)) with
  | true => simp [shortSwitch_mate act _ hs]
  | false => simp

theorem Lane.asked_of_pattern (h : l.switchHeldOff sw = false) (hs : l.drive.snuff = false) (ho : l.drive.ovHold = false)
    (hend : now < endless) :
    (l.onTime? now sw).isSome = (l.patternOn (sw / 6) (sw % 6 / 2) (decide (sw % 2 = 0))).any fun e =>
      decide ((l.bridge (sw / 6)).from_ + e.1 ≤ now) && (decide (e.2 = endless) || decide (now < (l.bridge (sw / 6)).from_ + e.2)) := by
  rw [l.isSome_onTime?, l.onTimes_of_pattern sw h hs ho, List.any_map]
  congr 1
  funext e
  rw [Bool.eq_iff_iff]
  by_cases he : e.2 = endless <;> simp [absOnTime, he, hend]

end

/-- Settles O42: each entry of R288 gives its on-times, and the gate follows them. -/
theorem gateOutputsFollowTheFirstEntry : Obligations.GateOutputsFollowTheFirstEntry := by
  intro l now sw hsw hend b leg high held off asked
  obtain ⟨-, hunit, hleg, hside⟩ := legMate sw hsw
  have hoff : off = l.switchHeldOff sw := rfl
  have hmate := l.switchHeldOff_mate sw hsw
  refine ⟨fun h => ?heldOff, fun h hs hw => ?snuffWaits, fun h hs hw => ?snuff, fun h hs ho => ?overvoltage, fun h hs ho => ?pattern,
    fun h => ?chopper⟩
  case heldOff =>
    refine l.gate_of_not_asked now sw (by omega) ?_
    rw [l.isSome_onTime?, l.onTimes_of_heldOff sw h, List.any_nil]
  case snuffWaits =>
    refine l.gate_of_not_asked now sw (by omega) ?_
    rw [l.isSome_onTime?, l.onTimes_of_snuff sw h hs]
    have hw' : ¬ l.drive.snuffAt + l.snuffWait (sw / 6) ≤ now := not_le.mpr hw
    split <;> simp [hw']
  case snuff =>
    rw [l.gate_of_short now sw (l.snuffAct b) (l.drive.snuffAt + l.snuffWait b) hsw hend]
    · simp [hw, high]
    · rintro x (rfl | rfl)
      · exact l.onTimes_of_snuff _ h hs
      · rw [l.onTimes_of_snuff _ (hmate.trans h) hs, hunit]
  case overvoltage =>
    rw [l.gate_of_short now sw (1 + l.drive.ovSide / 2 ^ b % 2) 0 hsw hend]
    · simp [high]
    · rintro x (rfl | rfl)
      · exact l.onTimes_of_ovHold _ h hs ho
      · rw [l.onTimes_of_ovHold _ (hmate.trans h) hs ho, hunit]
  case pattern =>
    rw [l.gate_eq now sw (by omega), l.asked_of_pattern now sw h hs ho hend, l.asked_of_pattern now _ (hmate.trans h) hs ho hend, hunit,
      hleg, hside]
  case chopper =>
    have hheld : held 2 = l.heldOff 2 := rfl
    rw [hheld] at h
    obtain h | h := h <;> simp [Lane.gate, Lane.chopperOn, h]

end Sys2Proof.Machine
end

section
/-!
PROOFS. The cycle timer (R33, R34, R96, R97): the length of the next cycle, and what the timer leaves; from these the statement
CycleStartAdvancesTime (O12).
-/
namespace Sys2Proof.Machine

open Sys2Proof

/-! ### Integers held within limits -/

theorem clampInt_le (lo hi x : Int) (h : lo ≤ hi) : clampInt lo hi x ≤ hi := by unfold clampInt; grind

theorem le_clampInt (lo hi x : Int) (h : lo ≤ hi) : lo ≤ clampInt lo hi x := by unfold clampInt; grind

theorem clampInt_of_mem (lo hi x : Int) (h1 : lo ≤ x) (h2 : x ≤ hi) : clampInt lo hi x = x := by unfold clampInt; grind

/-! ### The length of the next cycle -/

/-- The offset that the next cycle's length takes up: that of a follower's reference, outside a migration hold cycle. -/
def Lane.trimOffset (l : Lane) : Int :=
  match l.reference with
  | some au => if au = l.id ∨ l.xla.migration then 0 else (l.xla.markOff.get au).getD 0
  | none => 0

/-- The trim range: the configured length divided by 1,500, in whole ticks (R97). -/
def Lane.trimRange (l : Lane) : Int := (l.cycleLen / 1500 : Nat)

theorem Lane.trimRange_bounds (l : Lane) : -l.trimRange ≤ l.trimRange ∧ l.trimRange ≤ l.cycleLen := by
  unfold Lane.trimRange
  omega

/-- With a reference the next cycle is the configured length less the offset, held within the trim range. -/
theorem Lane.nextLen_eq (l : Lane) : ((l.nextLen false).1 : Int) = l.cycleLen - clampInt (-l.trimRange) l.trimRange l.trimOffset := by
  obtain ⟨hrange, hlen⟩ := l.trimRange_bounds
  have hle := clampInt_le _ _ l.trimOffset hrange
  exact Int.toNat_of_nonneg (sub_nonneg.mpr (hle.trans hlen))

theorem Lane.trimOffset_of_follower (l : Lane) (au : LaneId) (off : Int) (hr : l.reference = some au) (hne : au ≠ l.id)
    (hm : l.xla.migration = false) (ho : l.xla.markOff.get au = some off) : l.trimOffset = off := by
  simp [Lane.trimOffset, hr, hne, hm, ho]

/-! ### What the timer leaves -/

theorem Lane.feedChecker_frame (l : Lane) (i : BeaconIn) : l.feedChecker i = { l with bcn := (l.feedChecker i).bcn } := by
  unfold Lane.feedChecker
  split <;> rfl

@[simp] theorem Lane.feedChecker_clk (l : Lane) (i : BeaconIn) : (l.feedChecker i).clk = l.clk := by rw [Lane.feedChecker_frame]
@[simp] theorem Lane.feedChecker_own (l : Lane) (i : BeaconIn) : (l.feedChecker i).own = l.own := by rw [Lane.feedChecker_frame]; rfl
@[simp] theorem Lane.feedChecker_out (l : Lane) (i : BeaconIn) : (l.feedChecker i).out = l.out := by rw [Lane.feedChecker_frame]
@[simp] theorem Lane.feedChecker_ccn (l : Lane) (i : BeaconIn) : (l.feedChecker i).ccn = l.ccn := by rw [Lane.feedChecker_frame]; rfl

@[simp] theorem Lane.setWord_own (l : Lane) (k : Nat) (w : Word) : (l.setWord k w).own = l.own := rfl
@[simp] theorem Lane.wrS_own (l : Lane) (f : Fld) (v : Int) (i j : Nat) : (l.wrS f v i j).own = l.own := rfl

theorem Lane.wrS_ccn (l : Lane) (f : Fld) (v : Int) (h : XLA.CCN_CCN.key ≠ f.at_ 0 0) : (l.wrS f v).ccn = l.ccn :=
  Lane.word_wr_ne l f _ 0 0 _ h

@[simp] theorem Lane.wrS_trim_ccn (l : Lane) (v : Int) : (l.wrS XLA.ALIGN_TRIM v).ccn = l.ccn := l.wrS_ccn _ v (by decide)
@[simp] theorem Lane.wrS_offset_ccn (l : Lane) (v : Int) : (l.wrS XLA.ALIGN_OFFSET v).ccn = l.ccn := l.wrS_ccn _ v (by decide)
@[simp] theorem Lane.setWord_ccn_self (l : Lane) (w : Word) : (l.setWord XLA.CCN_CCN.key w).ccn = w := Lane.word_setWord_self l _ w

/-- The lane as the timer begins a cycle of length len: the CCN moved on where it counts cycles, TRIM, and OFFSET 0 at the
AUTHORITY. -/
def Lane.beginCycle (l : Lane) (len : Nat) (trim : Int) : Lane :=
  let ran := match l.pmu.power with | .run => l.clk.len | _ => 0
  let l1 := { l with clk := l.clk.start (l.clk.base + l.clk.len) len, nand := { l.nand with runTicks := l.nand.runTicks + ran } }
  let l2 := (if l.countsCcn then l1.setWord XLA.CCN_CCN.key (l.ccn + 1) else l1).wrS XLA.ALIGN_TRIM trim
  if l.own = .authority then l2.wrS XLA.ALIGN_OFFSET 0 else l2

theorem Lane.beginCycle_holds (l : Lane) (len : Nat) (trim : Int) (hc : l.countsCcn = true) :
    (l.beginCycle len trim).clk = l.clk.start (l.clk.base + l.clk.len) len ∧ (l.beginCycle len trim).own = l.own ∧
      (l.beginCycle len trim).out = l.out ∧ (l.beginCycle len trim).ccn = l.ccn + 1 := by
  unfold Lane.beginCycle
  simp only [hc, if_true]
  split <;> simp [Lane.own]

/-- The timer begins the cycle, feeds the checker core and announces the cycle. -/
theorem Lane.tickOver_eq (l : Lane) (hold : Bool) :
    l.tickOver hold = ((l.beginCycle (l.nextLen hold).1 (l.nextLen hold).2).feedChecker .cycleStart).announceStart := rfl

section
variable (l : Lane)

@[simp] theorem Lane.announceStart_clk : l.announceStart.clk = l.clk := by
  unfold Lane.announceStart; split <;> rfl

@[simp] theorem Lane.announceStart_ccn : l.announceStart.ccn = l.ccn := by
  unfold Lane.announceStart; split <;> rfl

/-- A lane in a state of R95 sends its pulse, its marker and its heartbeat; another the heartbeat alone. -/
theorem Lane.announceStart_out :
    l.announceStart.out = if l.own.beats then .heartbeat :: .marker :: .pulse :: l.out else .heartbeat :: l.out := by
  unfold Lane.announceStart; split <;> rfl

end

/-- Settles O12: the timer begins the cycle, and the length's offset is held within the trim range. -/
theorem cycleStartAdvancesTime : Obligations.CycleStartAdvancesTime := by
  intro l hc
  obtain ⟨hclk, hown, hout, hccn⟩ := l.beginCycle_holds (l.nextLen false).1 (l.nextLen false).2 hc
  rw [l.tickOver_eq false]
  generalize l.beginCycle (l.nextLen false).1 (l.nextLen false).2 = m at *
  have hlen : (m.clk.len : Int) = l.cycleLen - clampInt (-l.trimRange) l.trimRange l.trimOffset := by rw [hclk]; exact l.nextLen_eq
  obtain ⟨hrange, -⟩ := l.trimRange_bounds
  have hlo := le_clampInt _ _ l.trimOffset hrange
  have hhi := clampInt_le _ _ l.trimOffset hrange
  have hr : ((l.cycleLen / 1500 : Nat) : Int) = l.trimRange := rfl
  rw [Lane.tick, Lane.announceStart_clk, Lane.announceStart_out, Lane.announceStart_ccn, Lane.feedChecker_clk, Lane.feedChecker_own,
    Lane.feedChecker_out, Lane.feedChecker_ccn, hown, hout, hr]
  refine ⟨by rw [hclk]; rfl, ?tick, by rw [hclk]; rfl, hccn, fun hb => if_pos hb, fun hb => if_neg (by simp [hb]), ?longest, ?shortest, ?follower⟩
  case tick => simp [hclk, Clk.start]
  case longest => rw [hlen]; linarith
  case shortest => rw [hlen]; linarith
  case follower =>
    intro au off href hne hmig hoff h1 h2
    rw [hlen, l.trimOffset_of_follower au off href hne hmig hoff, clampInt_of_mem _ _ _ h1 h2]

end Sys2Proof.Machine
end

section
/-!
PROOFS. The agreement of values and of frames, and the system mode (R45, R46, R103 to R115): AgreedValueFollowsItsClass (O19),
CommittedFrameHasTwoLanes (O20) and ModeMovesAreListed (O21).
-/
namespace Sys2Proof.Machine

open Sys2Proof

/-! ### S18 codes -/

theorem s18_bounds (v : Val) : -131072 ≤ s18 v ∧ s18 v ≤ 131071 := by
  unfold s18
  have h1 := BitVec.le_toInt v
  have h2 := BitVec.toInt_lt (x := v)
  omega

@[simp] theorem ofInt_s18 (v : Val) : BitVec.ofInt 18 (s18 v) = v := BitVec.ofInt_toInt

theorem s18_ofInt (x : Int) (h1 : -131072 ≤ x) (h2 : x ≤ 131071) : s18 (BitVec.ofInt 18 x) = x := by
  unfold s18
  rw [BitVec.toInt_ofInt]
  exact Int.bmod_eq_of_le (by norm_num; omega) (by norm_num; omega)

/-! ### The agreed value (R103 to R106) -/

/-- The mid-value is one of the three values, with the value of the middle one. -/
theorem midValue_cases (a b c : Val) : let v := midValue a b c
    (v = a ∧ s18 v = s18 a ∨ v = b ∧ s18 v = s18 b ∨ v = c ∧ s18 v = s18 c) ∧
    s18 v = imax (imin (s18 a) (s18 b)) (imin (imax (s18 a) (s18 b)) (s18 c)) := by
  simp only [midValue, imax, imin]
  split_ifs <;> simp

section
variable (l : Lane) (k : Nat) (prev : Val)

theorem Lane.agreeValue_voted3 (x y z : LaneId) (a b c : Val) (h : l.rd XLA.VAL_CFG_CLASS k = 0) :
    l.agreeValue k [(x, a), (y, b), (z, c)] prev = midValue a b c := by simp only [Lane.agreeValue, h]

theorem Lane.agreeValue_voted2 (x y : LaneId) (a b : Val) (h : l.rd XLA.VAL_CFG_CLASS k = 0) : l.agreeValue k [(x, a), (y, b)] prev =
    if beyond (l.rd XLA.VAL_CFG_TOL k) a b then prev else BitVec.ofInt 18 (Int.fdiv (s18 a + s18 b) 2) := by simp only [Lane.agreeValue, h]

/-- The owner's value is the first of the values used that comes from the owner. -/
theorem Lane.agreeValue_own (vs : List (LaneId × Val)) (h : l.rd XLA.VAL_CFG_CLASS k = 1) : l.agreeValue k vs prev =
    ((vs.find? fun v => decide (v.1.code = l.rd XLA.VAL_CFG_OWNER k)).map Prod.snd).getD prev := by
  simp only [Lane.agreeValue, h]
  split <;> simp [*]

theorem Lane.agreeValue_discrete3 (x y z : LaneId) (a b c : Val) (h : l.rd XLA.VAL_CFG_CLASS k = 2) :
    l.agreeValue k [(x, a), (y, b), (z, c)] prev = (a &&& b) ||| (a &&& c) ||| (b &&& c) := by simp only [Lane.agreeValue, h]

theorem Lane.agreeValue_discrete2 (x y : LaneId) (a b : Val) (h : l.rd XLA.VAL_CFG_CLASS k = 2) : l.agreeValue k [(x, a), (y, b)] prev =
    if l.on XLA.VAL_CFG_DUP_RULE k then a ||| b else a &&& b := by simp only [Lane.agreeValue, h]

theorem Lane.agreeValue_single (x : LaneId) (a : Val) (h : l.rd XLA.VAL_CFG_CLASS k ≠ 1) : l.agreeValue k [(x, a)] prev = a := by
  unfold Lane.agreeValue
  split
  · contradiction
  · rfl
  · rfl

theorem Lane.agreeValue_none : l.agreeValue k [] prev = prev := by
  unfold Lane.agreeValue
  split <;> rfl

end

/-- Settles O19: one equation of `agreeValue` for each class and number of values used. -/
theorem agreedValueFollowsItsClass : Obligations.AgreedValueFollowsItsClass := by
  refine ⟨fun l k x y z a b c prev h => ?voted3, fun l k x y a b prev h => ?voted2, fun l k vs prev h => ?own,
    fun l k x y z a b c prev i h => ?discrete3, fun l k x y a b prev h => l.agreeValue_discrete2 k prev x y a b h,
    fun l k x a prev h => l.agreeValue_single k prev x a h, fun l k prev => l.agreeValue_none k prev⟩
  case voted3 =>
    rw [l.agreeValue_voted3 k prev x y z a b c h]
    obtain ⟨hone, hmid⟩ := midValue_cases a b c
    refine ⟨hone.imp And.left (Or.imp And.left And.left), ?_⟩
    simp only [hmid, imin, imax]
    grind
  case voted2 =>
    rw [l.agreeValue_voted2 k prev x y a b h]
    obtain ⟨ha, ha'⟩ := s18_bounds a
    obtain ⟨hb, hb'⟩ := s18_bounds b
    refine ⟨fun hw => ?_, fun hb => if_pos (decide_eq_true hb)⟩
    rw [if_neg (by simpa [beyond] using hw), Int.fdiv_eq_ediv_of_nonneg _ (by decide), s18_ofInt _ (by omega) (by omega)]
  case own =>
    rw [l.agreeValue_own k prev vs h]
    refine ⟨fun before e after hvs hbefore he => ?_, fun hall => ?_⟩
    · have hnone : (before.find? fun v => decide (v.1.code = l.rd XLA.VAL_CFG_OWNER k)) = none := by simpa using hbefore
      rw [hvs, List.find?_append, hnone, Option.none_or, List.find?_cons_of_pos (by simpa using he)]
      rfl
    · rw [List.find?_eq_none.mpr (by simpa using hall)]
      rfl
  case discrete3 =>
    rw [l.agreeValue_discrete3 k prev x y z a b c h]
    simp only [BitVec.getLsbD_or, BitVec.getLsbD_and]
    cases a.getLsbD i <;> cases b.getLsbD i <;> cases c.getLsbD i <;> simp

/-! ### The majority of three votes (R110, R111, R114, R115) -/

/-- The items on which lanes vote: n tokens, then the digest and the configuration tag. -/
def Vote.item (n : Nat) (v : Vote) (k : Nat) : Nat :=
  if k < n then (v.token k).toNat else if k = n then v.out.digest.toNat else v.tag.toNat

theorem Vote.item_token (n : Nat) (v : Vote) (k : Nat) (h : k < n) : v.item n k = (v.token k).toNat := if_pos h
@[simp] theorem Vote.item_digest (n : Nat) (v : Vote) : v.item n n = v.out.digest.toNat := by simp [Vote.item]
@[simp] theorem Vote.item_tag (n : Nat) (v : Vote) : v.item n (n + 1) = v.tag.toNat := by simp [Vote.item]

/-- A property of every item is one of every token, of the digest and of the tag. -/
theorem forall_items_iff (n : Nat) (p : Nat → Prop) : (∀ k < n + 2, p k) ↔ (∀ k < n, p k) ∧ p n ∧ p (n + 1) := by
  constructor
  · exact fun h => ⟨fun k hk => h k (by omega), h n (by omega), h (n + 1) (by omega)⟩
  · rintro ⟨htoken, hdigest, htag⟩ k hk
    obtain hk | rfl | rfl : k < n ∨ k = n ∨ k = n + 1 := by omega
    exacts [htoken k hk, hdigest, htag]

section
variable (n : Nat) (a b c : Vote)

theorem sameVote_iff : sameVote n a b = true ↔ ∀ k < n + 2, a.item n k = b.item n k := by
  rw [forall_items_iff]
  have htoken : (∀ k < n, a.item n k = b.item n k) ↔ ∀ k < n, a.token k = b.token k := by
    refine forall₂_congr fun k hk => ?_
    rw [Vote.item_token n a k hk, Vote.item_token n b k hk, BitVec.toNat_inj]
  rw [htoken, Vote.item_digest, Vote.item_digest, Vote.item_tag, Vote.item_tag, BitVec.toNat_inj, BitVec.toNat_inj]
  simp [sameVote, sameTokens, and_assoc]

theorem inMinority_eq_false_iff : inMinority n a b c = false ↔ ∀ k < n + 2, b.item n k = c.item n k → a.item n k = b.item n k := by
  rw [forall_items_iff]
  have htoken : (∀ k < n, b.item n k = c.item n k → a.item n k = b.item n k) ↔ ∀ k < n, b.token k = c.token k → a.token k = b.token k := by
    refine forall₂_congr fun k hk => ?_
    simp only [Vote.item_token n _ k hk, BitVec.toNat_inj]
  rw [htoken]
  simp [inMinority, and_assoc, BitVec.toNat_inj]

theorem threeWay_eq_false_iff : threeWay n a b c = false ↔
    ∀ k < n + 2, a.item n k = b.item n k ∨ b.item n k = c.item n k ∨ a.item n k = c.item n k := by
  rw [forall_items_iff]
  have htoken : (∀ k < n, a.item n k = b.item n k ∨ b.item n k = c.item n k ∨ a.item n k = c.item n k) ↔
      ∀ k < n, a.token k = b.token k ∨ b.token k = c.token k ∨ a.token k = c.token k := by
    refine forall₂_congr fun k hk => ?_
    simp only [Vote.item_token n _ k hk, BitVec.toNat_inj]
  rw [htoken]
  simp only [Vote.item_digest, Vote.item_tag, BitVec.toNat_inj]
  simp only [threeWay, Bool.or_eq_false_iff, List.any_eq_false, List.mem_range, Bool.and_eq_true, Bool.and_eq_false_iff, decide_eq_true_eq,
    decide_eq_false_iff_not, not_and_or, not_not, and_assoc, or_assoc]

variable (htw : threeWay n a b c = false)
include htw

/-- With no item of three values, two votes of which neither is in minority agree in everything. -/
theorem sameVote_of_not_inMinority :
    (inMinority n b a c = false → inMinority n c a b = false → sameVote n b c = true) ∧
    (inMinority n a b c = false → inMinority n c a b = false → sameVote n a c = true) ∧
    (inMinority n a b c = false → inMinority n b a c = false → sameVote n a b = true) := by
  rw [threeWay_eq_false_iff] at htw
  simp only [inMinority_eq_false_iff, sameVote_iff]
  grind

end

section
variable (n : Nat) (me : LaneId) (a b c : Vote)

/-- The verdict when vote m alone is in minority against p and q: its own lane leaves, and the others commit p. -/
def againstMinority (m p q : Vote) : Verdict × Option (LaneId × Bool) :=
  let lost := m.out.held && !p.out.held && !q.out.held
  if m.id = me then (if lost then .frameLost else .minority (minorityCause n m p), none) else (.commit p.out, some (m.id, lost))

/-- The verdict on three votes by the lanes in minority: none, one or more. -/
theorem verdict3_eq : verdict3 n me a b c =
    if threeWay n a b c then (.noMajority, none)
    else match inMinority n a b c, inMinority n b a c, inMinority n c a b with
      | false, false, false => (.commit a.out, none)
      | true, false, false => againstMinority n me a b c
      | false, true, false => againstMinority n me b a c
      | false, false, true => againstMinority n me c a b
      | _, _, _ => (.noMajority, none) := by
  unfold verdict3
  cases inMinority n a b c <;> cases inMinority n b a c <;> cases inMinority n c a b <;> rfl

/-- What the lanes against a single minority commit is the first of the other two votes. -/
theorem againstMinority_commit (m p q : Vote) (f : OutFrame) (o : Option (LaneId × Bool))
    (h : againstMinority n me m p q = (.commit f, o)) : f = p.out := by
  unfold againstMinority at h
  grind

/-- Against a single minority both other lanes commit, and its own lane leaves by a cause of the vote or for its lost frame. -/
theorem againstMinority_other (m p q : Vote) (h : m.id ≠ me) : ∃ o, againstMinority n me m p q = (.commit p.out, o) :=
  ⟨_, if_neg h⟩

theorem againstMinority_self (m p q : Vote) (h : m.id = me) : againstMinority n me m p q = (.frameLost, none) ∨
    ∃ k, (k = 0x2 ∨ k = 0x3 ∨ k = 0x9) ∧ againstMinority n me m p q = (.minority k, none) := by
  simp only [againstMinority, if_pos h]
  split
  · exact .inl rfl
  · refine .inr ⟨_, ?_, rfl⟩
    unfold minorityCause
    grind

variable (hs : sameVote n a b = true)
include hs

/-- Two equal votes leave no item with three values, and neither of them is in minority. -/
theorem of_sameVote : threeWay n a b c = false ∧ inMinority n a b c = false ∧ inMinority n b a c = false := by
  rw [sameVote_iff] at hs
  rw [threeWay_eq_false_iff, inMinority_eq_false_iff, inMinority_eq_false_iff]
  grind

/-- On two equal votes the verdict follows whether the third is in minority. -/
theorem verdict3_of_sameVote : verdict3 n me a b c =
    if inMinority n c a b then againstMinority n me c a b else (.commit a.out, none) := by
  obtain ⟨htw, ha, hb⟩ := of_sameVote n a b c hs
  rw [verdict3_eq, htw, ha, hb]
  cases inMinority n c a b <;> rfl

end

/-- Settles O20: whatever is committed is the frame of one of two votes that no minority holds, and two equal votes leave the third alone in
minority, if any. -/
theorem committedFrameHasTwoLanes : Obligations.CommittedFrameHasTwoLanes := by
  refine ⟨fun n me a b c f o h => ?committed, fun n a b c hab hac hbc hs => ⟨fun me hme => ?both, ?third⟩⟩
  case committed =>
    rw [verdict3_eq] at h
    cases htw : threeWay n a b c with
    | true => simp [htw] at h
    | false =>
      obtain ⟨hbc, hac, hab⟩ := sameVote_of_not_inMinority n a b c htw
      rw [htw, if_neg Bool.false_ne_true] at h
      match ha : inMinority n a b c, hb : inMinority n b a c, hc : inMinority n c a b with
      | false, false, false =>
        simp only [ha, hb, hc, Prod.mk.injEq, Verdict.commit.injEq] at h
        exact ⟨a, b, .inl ⟨rfl, rfl⟩, .inl h.1.symm, hab ha hb⟩
      | true, false, false =>
        simp only [ha, hb, hc] at h
        exact ⟨b, c, .inr (.inr ⟨rfl, rfl⟩), .inl (againstMinority_commit n me a b c f o h), hbc hb hc⟩
      | false, true, false =>
        simp only [ha, hb, hc] at h
        exact ⟨a, c, .inr (.inl ⟨rfl, rfl⟩), .inl (againstMinority_commit n me b a c f o h), hac ha hc⟩
      | false, false, true =>
        simp only [ha, hb, hc] at h
        exact ⟨a, b, .inl ⟨rfl, rfl⟩, .inl (againstMinority_commit n me c a b f o h), hab ha hb⟩
      | true, true, _ | true, _, true | _, true, true => simp [ha, hb, hc] at h
  case both =>
    rw [verdict3_of_sameVote n me a b c hs]
    split
    · obtain ⟨o, ho⟩ := againstMinority_other n me c a b (by rintro rfl; obtain h | h := hme <;> simp_all)
      exact ⟨_, o, ho, .inl rfl⟩
    · exact ⟨_, _, rfl, .inl rfl⟩
  case third =>
    rw [verdict3_of_sameVote n c.id a b c hs]
    cases hc : inMinority n c a b with
    | true => exact .inr (againstMinority_self n c.id c a b rfl)
    | false =>
      obtain ⟨htw, ha, -⟩ := of_sameVote n a b c hs
      exact .inl ⟨(sameVote_of_not_inMinority n a b c htw).2.1 ha hc, rfl⟩

/-! ### The system mode at a cycle start (R45, R46) -/

section
variable (l : Lane) (bad : Bool)

/-- The number of lanes lost in this cycle. -/
def Lane.lostCount : Nat := (l.peers.filter fun x => l.xla.lostNow.get x).length

/-- The triggers that stop the part in TRIPLEX and DUPLEX: no majority, failed CLAIMs, or two lanes lost in one cycle. -/
def Lane.stopTrigger : Bool := l.xla.noMaj || l.xla.claimFail || bad || decide (2 ≤ l.lostCount)

/-- The move to SAFE STOP for such a trigger. -/
def Lane.failedMove : ModeMove := .stop ⟨6, false, match l.sfu.toStop with | some c => c.sto | none => false⟩

theorem Lane.modeMove_snuffed (h : l.xla.mode = .snuffed) : l.modeMove bad =
    match l.sfu.enable with | some m => if l.lostCount = 0 then .to m 0 else .stay | none => .stay := by
  unfold Lane.modeMove
  simp only [h]
  rfl

theorem Lane.modeMove_triplex (h : l.xla.mode = .triplex) : l.modeMove bad =
    if l.stopTrigger bad then l.failedMove
    else match l.sfu.toStop with
      | some c => .stop c
      | none => if l.lostCount = 1 then .to .duplex l.xla.lossCause else .stay := by
  unfold Lane.modeMove
  simp only [h]
  rfl

theorem Lane.modeMove_duplex (h : l.xla.mode = .duplex) : l.modeMove bad =
    if l.stopTrigger bad || (decide (l.remaining.length ≤ 1) && l.on BCN.MODE_TWIN) then l.failedMove
    else match l.sfu.toStop with
      | some c => .stop c
      | none => if l.remaining.length ≤ 1 then .to .lastLight l.xla.lossCause else if l.remaining.length = 3 then .to .triplex 0 else .stay := by
  unfold Lane.modeMove
  simp only [h]
  rfl

theorem Lane.modeMove_lastLight (h : l.xla.mode = .lastLight) : l.modeMove bad = .stay ∨ ∃ c, l.modeMove bad = .stop c := by
  unfold Lane.modeMove
  simp only [h]
  cases l.sfu.toStop with
  | some c => exact .inr ⟨_, rfl⟩
  | none =>
    dsimp only
    split
    · exact .inr ⟨_, rfl⟩
    · exact .inl rfl

theorem Lane.modeMove_safeStop (h : l.xla.mode = .safeStop) :
    l.modeMove bad = if l.sfu.endCode = 0 then .stay else .ended l.sfu.endCode := by
  unfold Lane.modeMove
  simp only [h]

end

/-- Settles O21: the moves of each mode, read off its equation. -/
theorem modeMovesAreListed : Obligations.ModeMovesAreListed := by
  intro l bad lost
  refine ⟨fun h => ?snuffed, fun h => ?triplex, fun h => ?duplex, fun h => l.modeMove_lastLight bad h, fun h => ?safeStop, fun hmode ht => ?stops⟩
  case snuffed =>
    rw [l.modeMove_snuffed bad h]
    cases l.sfu.enable with
    | none => exact .inl rfl
    | some m =>
      by_cases hl : l.lostCount = 0
      · exact .inr ⟨m, rfl, hl, if_pos hl⟩
      · exact .inl (if_neg hl)
  case triplex =>
    rw [l.modeMove_triplex bad h]
    split
    · exact .inr (.inr ⟨_, rfl⟩)
    · cases l.sfu.toStop with
      | some c => exact .inr (.inr ⟨c, rfl⟩)
      | none =>
        by_cases hl : l.lostCount = 1
        · exact .inr (.inl ⟨hl, _, if_pos hl⟩)
        · exact .inl (if_neg hl)
  case duplex =>
    rw [l.modeMove_duplex bad h]
    by_cases hf : (l.stopTrigger bad || (decide (l.remaining.length ≤ 1) && l.on BCN.MODE_TWIN)) = true
    · exact .inr (.inr (.inr ⟨_, if_pos hf⟩))
    · rw [if_neg hf]
      cases l.sfu.toStop with
      | some c => exact .inr (.inr (.inr ⟨c, rfl⟩))
      | none =>
        by_cases h1 : l.remaining.length ≤ 1
        · have htwin : l.on BCN.MODE_TWIN = false := by simp_all
          exact .inr (.inr (.inl ⟨h1, htwin, _, if_pos h1⟩))
        · by_cases h3 : l.remaining.length = 3
          · exact .inr (.inl ⟨h3, by rw [if_neg h1, if_pos h3]⟩)
          · exact .inl (by rw [if_neg h1, if_neg h3])
  case safeStop =>
    rw [l.modeMove_safeStop bad h]
    split
    · exact .inl rfl
    · exact .inr rfl
  case stops =>
    have hstop : l.stopTrigger bad = true := by
      change _ ∨ _ ∨ _ ∨ 2 ≤ l.lostCount at ht
      simpa [Lane.stopTrigger, or_assoc] using ht
    obtain h | h := hmode
    · exact ⟨_, (l.modeMove_triplex bad h).trans (if_pos hstop)⟩
    · exact ⟨_, (l.modeMove_duplex bad h).trans (if_pos (by simp [hstop]))⟩

end Sys2Proof.Machine
end

section
/-!
PROOFS. Lane SRAM under accesses of the bus (R75 to R78): what a store leaves of the bytes and of the stored errors, and what a read answers;
from these the statements SramWriteStoresItsBytes (O24) and SramKeepsWhatIsWritten (O25).
-/
namespace Sys2Proof.Machine

open Sys2Proof

/-! ### What a command completes with -/

/-- A command whose arm of `exec` answers w in the named lane completes with w. -/
theorem Completes.of_eq {c : Instr} {s : State} {l : LaneId} {v w : Lane} (h : exec c s = .next (s.setLane l w)) (hw : w = v) :
    Completes c s l v := hw ▸ h

/-! ### Bytes -/

theorem Memory.byte_write_in (m : Memory) (a v s n i : Nat) (h : i < n) :
    (m.write a v s n).byte (a + i) = if s.testBit i then BitVec.ofNat 8 (v / 256 ^ i) else m.byte (a + i) := by
  induction n generalizing m a v s i with
  | zero => omega
  | succ n ih =>
    cases i with
    | zero =>
      rw [Memory.write, Memory.byte_write_out _ _ _ _ _ _ (by omega)]
      by_cases hs : s % 2 = 1 <;> simp [hs, Nat.testBit_zero]
    | succ i =>
      have ha : a + (i + 1) = a + 1 + i := by omega
      have hkeep : (if s % 2 = 1 then m.setByte a (BitVec.ofNat 8 v) else m).byte (a + 1 + i) = m.byte (a + 1 + i) := by
        split
        · exact m.byte_setByte_ne a _ _ (by omega)
        · rfl
      rw [Memory.write, ha, ih _ _ _ _ i (by omega), hkeep, Nat.testBit_succ, Nat.div_div_eq_div_mul, ← Nat.pow_succ']

/-- A write changes the bytes of lane SRAM alone. -/
theorem Memory.write_frame (m : Memory) (a v s n : Nat) : m.write a v s n = { m with sram := (m.write a v s n).sram } := by
  induction n generalizing m a v s with
  | zero => rfl
  | succ n ih =>
    rw [Memory.write, ih]
    split <;> rfl

@[simp] theorem Memory.write_err (m : Memory) (a v s n wa : Nat) : (m.write a v s n).err wa = m.err wa := by
  rw [Memory.write_frame]; rfl

@[simp] theorem Memory.err_setErr_self (m : Memory) (wa e : Nat) : (m.setErr wa e).err wa = e := Sparse.get_set_self 0 m.sramErr wa e

theorem Memory.err_setErr_ne (m : Memory) (wa e w : Nat) (h : w ≠ wa) : (m.setErr wa e).err w = m.err w :=
  Sparse.get_set_ne 0 m.sramErr wa w h e 0

theorem Memory.err_setErr (m : Memory) (wa e w : Nat) : (m.setErr wa e).err w = if w = wa then e else m.err w := by
  split
  · subst_vars; exact m.err_setErr_self _ e
  · exact m.err_setErr_ne wa e w ‹_›

@[simp] theorem Memory.read_setErr (m : Memory) (wa e a n : Nat) : (m.setErr wa e).read a n = m.read a n := by
  induction n generalizing a with
  | zero => rfl
  | succ n ih => simp only [Memory.read, ih, Memory.setErr_byte]

/-! ### A 64-bit word written -/

/-- The stored error that an armed injection places in the word written (R356). -/
def Lane.placedError (l : Lane) : Nat := if l.fcl.armed = 2 then 1 else if l.fcl.armed = 3 then 2 else 0

/-- What is armed after a 64-bit word has been written: the injection that placed an error is spent. -/
def Lane.armedAfter (l : Lane) : Nat := if l.fcl.armed = 2 ∨ l.fcl.armed = 3 then 0 else l.fcl.armed

theorem Lane.wordWritten_eq (l : Lane) (wa : Nat) :
    l.wordWritten wa = { l with mem := l.mem.setErr wa l.placedError, fcl := { l.fcl with armed := l.armedAfter } } := by
  unfold Lane.wordWritten Lane.placedError Lane.armedAfter
  by_cases h2 : l.fcl.armed = 2 <;> by_cases h3 : l.fcl.armed = 3 <;> simp [h2, h3]

/-- A read of a word that holds no stored error and meets none passes. -/
theorem Lane.sramCheck_clean (l : Lane) (ini wa : Nat) (back : Bool) (h : l.mem.err wa = 0) : l.sramCheck ini wa .none back = (l, true) := by
  simp only [Lane.sramCheck, h]

/-- A store of a whole word, or into a word that holds no stored error and meets none, is performed. -/
theorem Lane.store64_performed (l : Lane) (ini wa data strobe : Nat) (h : strobe = 0xFF ∨ l.mem.err wa = 0) :
    l.store64 ini wa data strobe = (({ l with mem := l.mem.write wa data strobe 8 } : Lane).wordWritten wa, true) := by
  have hcheck : (if strobe = 0xFF then (l, true) else l.sramCheck ini wa .none false) = (l, true) := by
    obtain h | h := h
    · exact if_pos h
    · rw [l.sramCheck_clean ini wa false h, ite_self]
  simp only [Lane.store64, hcheck, if_true]

/-! ### Accesses of the bus -/

/-- The lane after a store into the word at wa that is performed. -/
def Lane.stored (l : Lane) (wa : Nat) (data : BitVec 64) (strobe : BitVec 8) : Lane :=
  (({ l with mem := l.mem.write wa data.toNat strobe.toNat 8 } : Lane).wordWritten wa).busDone 0

section
variable (s : State) (l : LaneId) (t ini : Nat) (addr : Word) (hin : inSram addr.toNat = true)
include hin

theorem completes_laneSramWrite (data : BitVec 64) (strobe : BitVec 8) (hr : ((s.lane l).atTick t).sramRight ini addr.toNat true = true)
    (hd : ((s.lane l).atTick t).domOn 0 = true)
    (he : strobe.toNat = 0xFF ∨ ((s.lane l).atTick t).mem.err (word64 addr.toNat) = 0) :
    Completes (.laneSramWrite l t ini addr data strobe .none) s l (((s.lane l).atTick t).stored (word64 addr.toNat) data strobe) := by
  refine .of_eq rfl ?_
  generalize (s.lane l).atTick t = n at *
  have hstore := n.store64_performed ini (word64 addr.toNat) data.toNat strobe.toNat he
  simp [hin, Lane.sramPut, hr, hd, Lane.sramWrite, hstore, Lane.stored]

theorem completes_laneSramRead (hr : ((s.lane l).atTick t).sramRight ini addr.toNat false = true)
    (hd : ((s.lane l).atTick t).domOn 0 = true) (he : ((s.lane l).atTick t).mem.err (word64 addr.toNat) = 0) :
    Completes (.laneSramRead l t ini addr .none) s l
      (((s.lane l).atTick t).readDone ini (BitVec.ofNat 64 (((s.lane l).atTick t).mem.read (word64 addr.toNat) 8))) := by
  refine .of_eq rfl ?_
  generalize (s.lane l).atTick t = n at *
  simp [hin, Lane.sramGet, hr, hd, Lane.sramRead, n.sramCheck_clean ini _ true he]

end

theorem Lane.stored_eq (l : Lane) (wa : Nat) (data : BitVec 64) (strobe : BitVec 8) : l.stored wa data strobe =
    { l with mem := (l.mem.write wa data.toNat strobe.toNat 8).setErr wa l.placedError, fcl := { l.fcl with armed := l.armedAfter }
             bus := .done 0 } := by
  rw [Lane.stored, Lane.wordWritten_eq]
  rfl

@[simp] theorem Lane.readDone_bus (l : Lane) (ini : Nat) (d : BitVec 64) : (l.readDone ini d).bus = .done d := rfl

/-- Settles O24: the store's equation, byte by byte. -/
theorem sramWriteStoresItsBytes : Obligations.SramWriteStoresItsBytes := by
  intro s l t ini addr data strobe n hin hr hd he
  refine ⟨_, completes_laneSramWrite s l t ini addr hin data strobe hr hd (.inr he), rfl, ?_⟩
  change let v := n.stored (word64 addr.toNat) data strobe; _
  rw [Lane.stored_eq]
  refine ⟨fun i hi => ?inside, fun b hb => ?outside, fun w => ?errors, rfl, ?frame⟩
  case inside =>
    rw [Memory.setErr_byte, Memory.byte_write_in _ _ _ _ _ _ hi, BitVec.testBit_toNat]
    simp only [BitVec.extractLsb', Nat.shiftRight_eq_div_pow, Nat.pow_mul]
  case outside => rw [Memory.setErr_byte, Memory.byte_write_out _ _ _ _ _ _ hb]
  case errors =>
    rw [Memory.err_setErr, Memory.write_err, Lane.placedError]
    by_cases hw : w = word64 addr.toNat <;> simp [hw, he]
  case frame =>
    rw [Memory.write_frame]
    rfl

/-- Settles O25: the bytes of a full store read back as the data. -/
theorem sramKeepsWhatIsWritten : Obligations.SramKeepsWhatIsWritten := by
  intro s l t t' ini ini' addr addr' data n hin hin' hword hd hr hr' h2 h3
  have hstored := ((s.lane l).atTick t).stored_eq (word64 addr.toNat) data 0xFF
  refine ⟨_, _, completes_laneSramWrite s l t ini addr hin data 0xFF hr hd (.inl rfl),
    completes_laneSramRead _ l t' ini' addr' hin' ?right ?on ?clean, ?read⟩
  all_goals simp only [State.setLane_lane, hstored, hword]
  case right => exact hr'
  case on => exact hd
  case clean =>
    change (Memory.setErr _ _ _).err _ = 0
    rw [Memory.err_setErr_self, Lane.placedError]
    simp_all [n]
  case read =>
    change BusRes.done (BitVec.ofNat 64 ((Memory.setErr _ _ _).read _ 8)) = .done data
    have hall : (0xFF : BitVec 8).toNat = 2 ^ 8 - 1 := rfl
    rw [Memory.read_setErr, hall, Memory.read_write, Nat.mod_eq_of_lt (show data.toNat < 256 ^ 8 from data.isLt), BitVec.ofNat_toNat,
      BitVec.setWidth_eq]

end Sys2Proof.Machine
end

section
/-!
PROOFS. The operators' arithmetic (R176 to R178, R567): saturation, rounding to nearest and the bitwise square root, and the bounds of the
operators that keep a state; from these the statements ArithmeticSaturates (O33) and StatefulOperatorsKeepTheirBounds (O34).
-/
namespace Sys2Proof.Machine

open Sys2Proof

/-! ### Saturation and rounding -/

/-- An S18 code reads as its integer, held between the least and the greatest code. -/
theorem s18_toS18 (x : Int) : s18 (toS18 x) = clampInt (-131072) 131071 x :=
  s18_ofInt _ (le_clampInt _ _ x (by decide)) (clampInt_le _ _ x (by decide))

theorem s18_toS18_of_mem (x : Int) (h1 : -131072 ≤ x) (h2 : x ≤ 131071) : s18 (toS18 x) = x := by
  rw [s18_toS18, clampInt_of_mem _ _ _ h1 h2]

@[simp] theorem toS18_s18 (v : Val) : toS18 (s18 v) = v := by
  obtain ⟨h1, h2⟩ := s18_bounds v
  rw [toS18, clampInt_of_mem _ _ _ h1 h2, ofInt_s18]

/-- The rounded quotient is the integer nearest to the exact one, ties upward (R177). -/
theorem roundDiv_near (num den : Int) (h : 0 < den) :
    2 * den * roundDiv num den ≤ 2 * num + den ∧ 2 * num + den < 2 * den * (roundDiv num den + 1) := by
  rw [roundDiv, Int.fdiv_eq_ediv_of_nonneg _ (by omega)]
  have hlt := Int.lt_mul_ediv_self_add (x := 2 * num + den) (k := 2 * den) (by omega)
  exact ⟨Int.mul_ediv_self_le (by omega), by rwa [mul_add, mul_one]⟩

/-- A quotient by a negative divisor is rounded as that of the negated operands. -/
theorem roundQuot_eq (num den : Int) :
    roundQuot num den = roundDiv (if den < 0 then -num else num) (iabs den) := by
  unfold roundQuot iabs
  split <;> rfl

theorem iabs_pos (x : Int) (h : x ≠ 0) : 0 < iabs x := by unfold iabs; split <;> omega

/-! ### The square root -/

/-- The bitwise search keeps r² at most n and finds the root below r + 2^k. -/
theorem isqrtBits_spec (k n r : Nat) (h1 : r * r ≤ n) (h2 : n < (r + 2 ^ k) * (r + 2 ^ k)) :
    isqrtBits k n r * isqrtBits k n r ≤ n ∧ n < (isqrtBits k n r + 1) * (isqrtBits k n r + 1) := by
  induction k generalizing r with
  | zero => exact ⟨h1, h2⟩
  | succ k ih =>
    simp only [isqrtBits]
    split
    · exact ih _ ‹_› (by rwa [Nat.add_assoc, ← Nat.two_mul, ← Nat.pow_succ'])
    · exact ih _ h1 (by omega)

/-- The rounded root r of n lies within half a unit of the exact one: (2r - 1)² ≤ 4n < (2r + 1)². -/
theorem roundSqrt_near (n : Nat) (h : n < 2 ^ 38) : (2 * roundSqrt n - 1) * (2 * roundSqrt n - 1) ≤ 4 * n ∧
    4 * n < (2 * roundSqrt n + 1) * (2 * roundSqrt n + 1) := by
  obtain ⟨h1, h2⟩ := isqrtBits_spec 19 n 0 (by omega) (by omega)
  unfold roundSqrt
  generalize isqrtBits 19 n 0 = r at h1 h2
  simp only
  split
  · have hr : 2 * (r + 1) - 1 = 2 * r + 1 := by omega
    rw [hr]
    constructor <;> nlinarith
  · refine ⟨?_, by nlinarith⟩
    have hle : (2 * r - 1) * (2 * r - 1) ≤ (2 * r) * (2 * r) := Nat.mul_le_mul (by omega) (by omega)
    nlinarith

theorem roundSqrt_lt (n k : Nat) (hk : k ≤ 18) (h : n < 2 ^ (2 * k)) : roundSqrt n ≤ 2 ^ k := by
  have hn : n < 2 ^ 38 := h.trans_le (Nat.pow_le_pow_right (by omega) (by omega))
  obtain ⟨h1, -⟩ := roundSqrt_near n hn
  by_contra hlt
  have hr : 2 * 2 ^ k + 1 ≤ 2 * roundSqrt n - 1 := by omega
  have hsq := Nat.mul_le_mul hr hr
  rw [two_mul, pow_add] at h
  generalize 2 ^ k = q at *
  nlinarith

theorem toU18_ofNat (r : Nat) (h : r ≤ 262143) : (toU18 (r : Int)).toNat = r := by
  rw [toU18, clampInt_of_mem _ _ _ (by omega) (by omega), BitVec.ofInt_natCast, BitVec.toNat_ofNat]
  exact Nat.mod_eq_of_lt (by omega)

/-! ### Parameters and state words -/

theorem signedOf_bounds (v : Nat) (h : v < 262144) : -131072 ≤ signedOf 18 v ∧ signedOf 18 v ≤ 131071 := by
  unfold signedOf
  norm_num
  split <;> omega

theorem pU_lt (p : List Word) (i : Nat) : pU p i < 262144 := Nat.mod_lt _ (by decide)

theorem pS_bounds (p : List Word) (i : Nat) : -131072 ≤ pS p i ∧ pS p i ≤ 131071 := signedOf_bounds _ (pU_lt p i)

theorem ofNat18_toNat (n : Nat) (h : n < 262144) : (BitVec.ofNat 18 n).toNat = n := by
  rw [BitVec.toNat_ofNat]; exact Nat.mod_eq_of_lt h

/-- Settles O33: each operator's result is its exact result narrowed by saturation, after rounding where the result has a fraction. -/
theorem arithmeticSaturates : Obligations.ArithmeticSaturates := by
  intro x y z p st m a b c tok A B C sat near
  refine ⟨rfl, ⟨rfl, s18_toS18 _⟩, ⟨rfl, s18_toS18 _⟩, ⟨rfl, s18_toS18 _⟩, ⟨rfl, ?abs⟩, ⟨rfl, ?min⟩, ⟨rfl, ?max⟩,
    ⟨rfl, _, roundDiv_near _ 65536 (by decide), s18_toS18 _⟩, ⟨rfl, _, roundDiv_near _ 65536 (by decide), s18_toS18 _⟩, fun hb => ?div,
    fun hb => ?divZero, ⟨rfl, ?sqrt⟩, fun hp => ⟨rfl, ?limit⟩⟩
  case abs =>
    change s18 (toS18 (iabs a)) = _
    obtain ⟨h1, h2⟩ := s18_bounds x
    unfold iabs
    split
    · exact s18_toS18 _
    · exact s18_toS18_of_mem _ h1 h2
  case min =>
    change s18 (toS18 (if a ≤ b then a else b)) = _
    split <;> rw [toS18_s18]
  case max =>
    change s18 (toS18 (if a ≤ b then b else a)) = _
    split <;> rw [toS18_s18]
  case div =>
    have hdiv : (opDiv p st B m).o0 = (true, toS18 (roundQuot (a * 65536) b)) := by
      rw [opDiv, if_neg (by exact hb)]
      rfl
    rw [hdiv, roundQuot_eq]
    exact ⟨rfl, _, roundDiv_near _ _ (iabs_pos b hb), s18_toS18 _⟩
  case divZero =>
    rw [opDiv, if_pos (by exact hb)]
  case sqrt =>
    have hlt : x.toNat * 65536 < 2 ^ (2 * 17) := by have := x.isLt; omega
    have hle : roundSqrt (x.toNat * 65536) ≤ 262143 := (roundSqrt_lt _ 17 (by decide) hlt).trans (by decide)
    have hr : (opSqrt p st A m).o0.2.toNat = roundSqrt (x.toNat * 65536) := toU18_ofNat _ hle
    rw [hr]
    exact roundSqrt_near _ (hlt.trans (by decide))
  case limit =>
    have hlo := pS_bounds p 0
    have hhi := pS_bounds p 1
    have hval : s18 (opLimit p st A m).o0.2 = clampInt (pS p 0) (pS p 1) a :=
      s18_toS18_of_mem _ (hlo.1.trans (le_clampInt _ _ _ hp)) ((clampInt_le _ _ _ hp).trans hhi.2)
    refine ⟨hval ▸ le_clampInt _ _ _ hp, hval ▸ clampInt_le _ _ _ hp, fun h1 h2 => ⟨?_, ?_⟩, fun h => ?_⟩
    · have hin : clampInt (pS p 0) (pS p 1) a = a := clampInt_of_mem _ _ _ h1 h2
      change (true, toS18 (clampInt (pS p 0) (pS p 1) a)) = _
      rw [hin, toS18_s18]
    · change (true, flagVal (decide (a < pS p 0) || decide (pS p 1 < a))) = _
      rw [decide_eq_false h1.not_gt, decide_eq_false h2.not_gt]
      rfl
    · change (true, flagVal (decide (a < pS p 0) || decide (pS p 1 < a))) = _
      rw [← Bool.decide_or, decide_eq_true h]
      rfl

/-! ### The operators that keep a state -/

theorem opCounter_of_ok {p st : List Word} {a : List Tok} {m : Memory} (h : allOk a = true) : ∃ n < 262144,
    (opCounter p st a m).o0 = (true, BitVec.ofNat 18 n) ∧ (opCounter p st a m).st = [mkW n] ∧
    ((stW st 0).toNat % 262144 ≤ pU p 0 → n ≤ pU p 0) := by
  have hc : (stW st 0).toNat % 262144 < 262144 := Nat.mod_lt _ (by decide)
  have hp := pU_lt p 0
  rw [opCounter, if_pos h]
  exact ⟨_, by split_ifs <;> omega, rfl, rfl, fun hle => by split_ifs <;> omega⟩

theorem opTimer_of_ok {p st : List Word} {a : List Tok} {m : Memory} (h : allOk a = true) : ∃ n ≤ pU p 0,
    (opTimer p st a m).o0.2 = BitVec.ofNat 18 n ∧ (opTimer p st a m).st = [mkW n] ∧
    (opTimer p st a m).o1 = (true, flagVal (decide (n = pU p 0))) := by
  simp only [opTimer, h, if_true]
  exact ⟨_, by split <;> omega, rfl, rfl, rfl⟩

theorem flagVal_eq_one (b : Bool) : flagVal b = 1 ↔ b = true := by cases b <;> decide

/-- A rate limit that has started moves from its last output by the step to its input, held between minus fall and rise, and saturated. -/
theorem opRatelim_of_ok {p st : List Word} {a : List Tok} {m : Memory} (h : allOk a = true) (hs : startedBit ≤ (stW st 0).toNat) :
    let out := signedOf 18 ((stW st 0).toNat % 262144)
    s18 (opRatelim p st a m).o0.2 = clampInt (-131072) 131071 (out + clampInt (-(pU p 1 : Int)) (pU p 0) (argS a 0 - out)) := by
  simp only [opRatelim, h, if_true, decide_eq_true hs, s18_toS18]

theorem flagVal_ite_eq_or (flip a b : Bool) :
    (true, flagVal (if flip then a else b)) = (true, flagVal b) ∨ (true, flagVal (if flip then a else b)) = (true, flagVal a) := by
  cases flip
  · exact .inl rfl
  · exact .inr rfl

theorem opDebounce_of_ok {p st : List Word} {a : List Tok} {m : Memory} (h : allOk a = true) :
    (opDebounce p st a m).o0 = (true, flagVal ((stW st 0).toNat.testBit 14)) ∨ (opDebounce p st a m).o0 = (true, flagVal (argBit a 0 0)) := by
  rw [opDebounce, if_pos h]
  exact flagVal_ite_eq_or _ _ _

/-- What an operator with a state does with an invalid input: the state words stay and neither output is valid (R180). -/
def keepsOnInvalid (r : OpRes) (st : List Word) : Prop := r.st = st ∧ r.o0.1 = false ∧ r.o1.1 = false

theorem stateful_keepsOnInvalid {p st : List Word} {a : List Tok} {m : Memory} (h : allOk a = false) :
    ∀ op ∈ [opCounter, opTimer, opRatelim, opDebounce, opEdge, opCmp, opInteg, opLpf1, opBiquad, opDeriv, opRangechk, opXchk, opPlaus,
      opStuck, opStatemach], keepsOnInvalid (op p st a m) st := by
  simp [keepsOnInvalid, opCounter, opTimer, opRatelim, opDebounce, opEdge, opCmp, opInteg, opLpf1, opBiquad, opDeriv, opRangechk, opXchk,
    opPlaus, opStuck, opStatemach, h]

/-- Settles O34: the bound of each operator is that of the value it computes from a valid input; an invalid one leaves its state. -/
theorem statefulOperatorsKeepTheirBounds : Obligations.StatefulOperatorsKeepTheirBounds := by
  intro p st a m
  refine ⟨fun h => ⟨?counter, ?timer, fun hs => ?ratelim, opDebounce_of_ok h⟩, fun h op hop => stateful_keepsOnInvalid h op hop⟩
  case counter =>
    obtain ⟨n, hn, ho, hst, hle⟩ := opCounter_of_ok (p := p) (st := st) (m := m) h
    rw [ho, hst]
    simpa only [ofNat18_toNat n hn, true_and, and_true] using hle
  case timer =>
    obtain ⟨n, hle, ho, hst, h1⟩ := opTimer_of_ok (p := p) (st := st) (m := m) h
    rw [ho, hst, h1, ofNat18_toNat n (hle.trans_lt (pU_lt p 0))]
    exact ⟨hle, rfl, by rw [Prod.mk.injEq, flagVal_eq_one, decide_eq_true_iff]; exact and_iff_right rfl⟩
  case ratelim =>
    obtain ⟨h1, h2⟩ := signedOf_bounds _ (Nat.mod_lt (stW st 0).toNat (show 0 < 262144 by decide))
    obtain ⟨h3, h4⟩ : -131072 ≤ argS a 0 ∧ argS a 0 ≤ 131071 := s18_bounds _
    rw [opRatelim_of_ok h hs]
    unfold clampInt
    refine ⟨?_, ?_, fun h5 h6 => ?_⟩ <;> split_ifs <;> omega

end Sys2Proof.Machine
end

section
/-!
PROOFS. The engine's limits: a loop slot within its effective limits (SlotOutputWithinLimits, O35) and a profile generator within its
velocity, acceleration and jerk limits (ProfileGeneratorKeepsItsLimits, O36).
-/
namespace Sys2Proof.Machine

open Sys2Proof

theorem iabs_le_iff (x b : Int) : iabs x ≤ b ↔ -b ≤ x ∧ x ≤ b := by unfold iabs; split <;> omega

theorem iabs_clampInt_le (b x : Int) (h : 0 ≤ b) : iabs (clampInt (-b) b x) ≤ b :=
  (iabs_le_iff _ _).mpr ⟨le_clampInt _ _ x (by omega), clampInt_le _ _ x (by omega)⟩

/-- Saturation to A40 moves a sum with a value in range by no more than the sum's own step. -/
theorem iabs_satA40_sub_le (acc d b : Int) (h1 : -549755813888 ≤ acc) (h2 : acc ≤ 549755813887) (hd : iabs d ≤ b) :
    iabs (satA40 (acc + d) - acc) ≤ b := by
  rw [iabs_le_iff] at *
  unfold satA40 clampInt
  split_ifs <;> omega

/-! ### Loop slots (R190 to R196) -/

section
variable {r : Sparse Word} {m : Memory} {k tau : Nat} {snuffed : Bool} {st : SlotSt} {ref fb ff x : Int}

/-- The value a slot delivers is its sum of terms, held within the effective limits. -/
theorem slotStep_out : ∃ raw, (slotStep r m k tau snuffed st ref fb ff x).out =
    toS18 (clampInt (effLimit r k tau (cfgRdS r CEN.SLOT_OLO_VALUE k)) (effLimit r k tau (cfgRdS r CEN.SLOT_OHI_VALUE k)) raw) := ⟨_, rfl⟩

/-- The integrator is held within the effective limits, with the wind-up rule or without it. -/
theorem slotStep_integ : ∃ v, (slotStep r m k tau snuffed st ref fb ff x).integ =
    clampInt (effLimit r k tau (cfgRdS r CEN.SLOT_OLO_VALUE k) * 65536) (effLimit r k tau (cfgRdS r CEN.SLOT_OHI_VALUE k) * 65536) v :=
  ⟨_, (apply_ite (clampInt _ _) _ _ _).symm⟩

/-- In SNUFFED the increment is 0, so the wind-up rule cannot hold and the integrator is 0 held within the limits. -/
theorem slotStep_integ_snuffed : (slotStep r m k tau true st ref fb ff x).integ =
    clampInt (effLimit r k tau (cfgRdS r CEN.SLOT_OLO_VALUE k) * 65536) (effLimit r k tau (cfgRdS r CEN.SLOT_OHI_VALUE k) * 65536) 0 := by
  simp [slotStep]

end

/-- Settles O35: output and integrator are values held within the effective limits, and the derivative reads the feedback alone. -/
theorem slotOutputWithinLimits : Obligations.SlotOutputWithinLimits := by
  intro r m k tau snuffed st ref ref' fb ff x hi lo v hlo hle hhi
  obtain ⟨raw, hout⟩ : ∃ raw, v.out = toS18 (clampInt lo hi raw) := slotStep_out
  obtain ⟨acc, hinteg⟩ : ∃ acc, v.integ = clampInt (lo * 65536) (hi * 65536) acc := slotStep_integ
  have hval : s18 v.out = clampInt lo hi raw :=
    hout ▸ s18_toS18_of_mem _ (hlo.trans (le_clampInt _ _ _ hle)) ((clampInt_le _ _ _ hle).trans hhi)
  have hle' : lo * 65536 ≤ hi * 65536 := by omega
  refine ⟨hval ▸ le_clampInt _ _ _ hle, hval ▸ clampInt_le _ _ _ hle, hinteg ▸ le_clampInt _ _ _ hle', hinteg ▸ clampInt_le _ _ _ hle',
    rfl, ?_, rfl, rfl, rfl⟩
  rintro rfl
  exact slotStep_integ_snuffed

/-! ### Profile generators (R198 to R204) -/

section
variable {r : Sparse Word} {g : Nat} {snuffed wired : Bool} {c : Nat} {st : GenSt} {target scale ctl preset : Out}

/-- A passage without a preset, outside SNUFFED: the ceiling falls by at most AMAX; the acceleration takes one jerk-limited step and the velocity
follows it under the ceiling, unless the generator comes to rest; where it arrives it stands at its target. -/
theorem genStep_moves (h : (snuffed || (ctl.1 && ctl.2.getLsbD 1)) = false) :
    let vlim : Int := cfgRd r PGN.VMAX_LIMIT g * imin (imin (if scale.1 then u18 scale.2 else 0) c) 65536 / 65536
    let v := genStep r g snuffed wired c st target scale ctl preset
    v.vcap = imax vlim (st.vcap - cfgRd r PGN.AMAX_LIMIT g) ∧
    (∃ d rest, v.acc = (if rest = true then 0 else satA40 (st.acc + clampInt (-(cfgRd r PGN.JMAX_LIMIT g : Int)) (cfgRd r PGN.JMAX_LIMIT g) d)) ∧
      v.vel = if rest = true then 0 else clampInt (-v.vcap) v.vcap (st.vel + satA40 (st.acc + clampInt (-(cfgRd r PGN.JMAX_LIMIT g : Int))
        (cfgRd r PGN.JMAX_LIMIT g) d))) ∧
    (v.arrived = true → v.pos = s18 target.2 * 65536 ∧ v.vel = 0 ∧ v.acc = 0 ∧ v.stopping = false) := by
  have h' : ¬ (snuffed || (ctl.1 && ctl.2.getLsbD 1)) = true := Bool.eq_false_iff.mp h
  rw [genStep, if_neg h']
  refine ⟨rfl, ⟨_, _, rfl, rfl⟩, fun harr => ?_⟩
  have hstop : (ctl.2.getLsbD 0 || !target.1 || !ctl.1) = false := by
    simp only [Bool.and_eq_true, Bool.not_eq_true'] at harr
    exact harr.1.1
  exact ⟨if_pos harr, if_pos (Bool.or_eq_true_iff.mpr (.inr harr)), if_pos (Bool.or_eq_true_iff.mpr (.inr harr)), hstop⟩

end

/-- Settles O36: the limits are those of the one jerk-limited step a passage takes; a preset passage sets the state outright. -/
theorem profileGeneratorKeepsItsLimits : Obligations.ProfileGeneratorKeepsItsLimits := by
  intro r g snuffed wired c st target scale ctl preset vlim v
  refine ⟨fun hs hp h1 h2 => ?moves, fun h => ?preset⟩
  case moves =>
    obtain ⟨hcap, ⟨d, rest, hacc, hvel⟩, harr⟩ := genStep_moves (r := r) (g := g) (snuffed := snuffed) (wired := wired) (c := c) (st := st)
      (target := target) (scale := scale) (ctl := ctl) (preset := preset) (by rw [hs, hp]; rfl)
    change v.vcap = imax vlim _ at hcap
    refine ⟨?_, ?_, ?_, fun h0 => ?_, fun hne => ?_, harr⟩
    · rw [hcap]; unfold imax; split <;> omega
    · rw [hcap]; unfold imax; split <;> omega
    · rw [hcap]; unfold imax; split <;> omega
    · change v.vel = _ at hvel
      rw [hvel]
      split
      · exact h0
      · exact iabs_clampInt_le _ _ h0
    · have hmove : ¬ rest = true := fun hrest => hne (hvel.trans (if_pos hrest))
      change v.acc = _ at hacc
      rw [hacc, if_neg hmove]
      exact iabs_satA40_sub_le _ _ _ h1 h2 (iabs_clampInt_le _ _ (Int.natCast_nonneg _))
  case preset =>
    have hv : v = genStep r g snuffed wired c st target scale ctl preset := rfl
    have hpre : (snuffed || (ctl.1 && ctl.2.getLsbD 1)) = true := Bool.or_eq_true_iff.mpr h
    rw [genStep, if_pos hpre] at hv
    rw [hv]
    exact ⟨rfl, rfl, rfl, fun hw hpre => if_pos (by rw [hw, hpre]; rfl)⟩

end Sys2Proof.Machine
end

section
/-!
PROOFS. The search for the sample window (R221; SampleWindowAvoidsEdges, O38) and the exactness of codes, counts and on-times
(CountsAndCodesAreExact, O39).
-/
namespace Sys2Proof.Machine

open Sys2Proof

/-! ### The sample window -/

/-- The intervals cover what is admissible: each is non-empty and admissible throughout, and every admissible stretch lies within one of them. -/
def covers (adm : List (Int × Int)) (ok : Int → Prop) : Prop :=
  (∀ iv ∈ adm, iv.1 ≤ iv.2 ∧ ∀ t, iv.1 ≤ t → t ≤ iv.2 → ok t) ∧
  (∀ x y : Int, x ≤ y → (∀ t, x ≤ t → t ≤ y → ok t) → ∃ iv ∈ adm, iv.1 ≤ x ∧ y ≤ iv.2)

theorem mem_cutOpen_iff {x y : Int} {adm : List (Int × Int)} {jv : Int × Int} (h : x < y) : jv ∈ cutOpen x y adm ↔
    ∃ iv ∈ adm, (iv.1 ≤ imin iv.2 x ∧ jv = (iv.1, imin iv.2 x)) ∨ (imax iv.1 y ≤ iv.2 ∧ jv = (imax iv.1 y, iv.2)) := by
  simp [cutOpen, List.mem_flatMap, h, List.mem_ite_nil_right]

/-- Cutting an open interval that holds an integer leaves a cover of what is admissible outside it. -/
theorem covers_cutOpen {x y : Int} {adm : List (Int × Int)} {ok : Int → Prop} (h : x + 1 < y) (hc : covers adm ok) :
    covers (cutOpen x y adm) (fun t => ok t ∧ (t ≤ x ∨ y ≤ t)) := by
  obtain ⟨hin, hall⟩ := hc
  constructor
  · intro jv hj
    obtain ⟨iv, hiv, ⟨hne, rfl⟩ | ⟨hne, rfl⟩⟩ := (mem_cutOpen_iff (by omega)).mp hj
    · refine ⟨hne, fun t h1 h2 => ⟨(hin iv hiv).2 t h1 ?_, .inl ?_⟩⟩ <;> simp only [imin] at h2 <;> split at h2 <;> omega
    · refine ⟨hne, fun t h1 h2 => ⟨(hin iv hiv).2 t ?_ h2, .inr ?_⟩⟩ <;> simp only [imax] at h1 <;> split at h1 <;> omega
  · intro a b hab hok
    obtain ⟨iv, hiv, h1, h2⟩ := hall a b hab fun t ha hb => (hok t ha hb).1
    obtain hb | ha : b ≤ x ∨ y ≤ a := by
      by_contra hmid
      have hleft := (hok a le_rfl hab).2
      have hgap := (hok (x + 1) (by omega) (by omega)).2
      omega
    · refine ⟨(iv.1, imin iv.2 x), (mem_cutOpen_iff (by omega)).mpr ⟨iv, hiv, .inl ⟨?_, rfl⟩⟩, h1, ?_⟩ <;> simp only [imin] <;> split <;> omega
    · refine ⟨(imax iv.1 y, iv.2), (mem_cutOpen_iff (by omega)).mpr ⟨iv, hiv, .inr ⟨?_, rfl⟩⟩, ?_, h2⟩ <;> simp only [imax] <;> split <;> omega

theorem covers_foldl_cutOpen (settle guard : Nat) (es : List Int) (adm : List (Int × Int)) (ok : Int → Prop) (hc : covers adm ok) :
    covers (es.foldl (fun adm e => cutOpen (e - 120 - guard) (e + settle) adm) adm)
      (fun t => ok t ∧ ∀ e ∈ es, t ≤ e - 120 - guard ∨ e + settle ≤ t) := by
  induction es generalizing adm ok with
  | nil => simpa using hc
  | cons e es ih =>
    have := ih _ _ (covers_cutOpen (x := e - 120 - guard) (y := e + settle) (by omega) hc)
    simpa only [List.foldl_cons, List.forall_mem_cons, and_assoc] using this

theorem covers_admissible (settle guard : Nat) (edges : List Int) : covers (admissible settle guard edges) (fun t => 0 ≤ t ∧ t ≤ 1080 ∧
    ∀ e ∈ edges, -(settle : Int) ≤ e → e ≤ 1200 + guard → t ≤ e - 120 - guard ∨ e + settle ≤ t) := by
  have hwhole : covers [(0, 1080)] (fun t => 0 ≤ t ∧ t ≤ 1080) :=
    ⟨by simp +contextual, fun x y hxy h => ⟨_, List.mem_singleton_self _, (h x le_rfl hxy).1, (h y hxy le_rfl).2⟩⟩
  simpa [admissible, and_assoc, List.mem_filter] using covers_foldl_cutOpen settle guard
    (edges.filter fun e => decide (-(settle : Int) ≤ e) && decide (e ≤ 1200 + guard)) _ _ hwhole

theorem longest_eq_none {adm : List (Int × Int)} (h : longest adm = none) : adm = [] := by
  cases adm with
  | nil => rfl
  | cons iv rest =>
    simp only [longest] at h
    split at h
    · cases h
    · split at h <;> cases h

/-- The interval chosen is one of the list, and none is longer. -/
theorem longest_spec {adm : List (Int × Int)} {iv : Int × Int} (h : longest adm = some iv) :
    iv ∈ adm ∧ ∀ jv ∈ adm, jv.2 - jv.1 ≤ iv.2 - iv.1 := by
  induction adm generalizing iv with
  | nil => cases h
  | cons kv rest ih =>
    simp only [longest] at h
    split at h
    · next hnone =>
      cases h
      simp [longest_eq_none hnone]
    · next jv hsome =>
      obtain ⟨hmem, hmax⟩ := ih hsome
      split at h <;> cases h
      · exact ⟨.tail _ hmem, List.forall_mem_cons.mpr ⟨by omega, hmax⟩⟩
      · exact ⟨.head _, List.forall_mem_cons.mpr ⟨le_rfl, fun jv hj => (hmax jv hj).trans (by omega)⟩⟩

/-- Settles O38: the admissible intervals cover exactly the starts clear of every edge, and the search takes the longest of them. -/
theorem sampleWindowAvoidsEdges : Obligations.SampleWindowAvoidsEdges := by
  intro settle guard edges clear
  obtain ⟨hin, hall⟩ := covers_admissible settle guard edges
  refine ⟨fun iv hiv => ?_, fun hnone t ht => ?_⟩
  · obtain ⟨hmem, hmax⟩ := longest_spec hiv
    obtain ⟨hne, hclear⟩ := hin iv hmem
    refine ⟨hne, hclear, fun x y hxy h => ?_⟩
    obtain ⟨jv, hj, h1, h2⟩ := hall x y hxy h
    have := hmax jv hj
    omega
  · obtain ⟨iv, hiv, -, -⟩ := hall t t le_rfl fun u h1 h2 => by rwa [le_antisymm h2 h1]
    simp [longest_eq_none hnone] at hiv

/-! ### Codes, counts and on-times -/

/-- The XOR of the first k shifts of a Gray code telescopes. -/
theorem foldl_gray (b k : Nat) : (List.range k).foldl (fun acc i => acc ^^^ (b ^^^ b / 2) / 2 ^ i) 0 = b ^^^ b / 2 ^ k := by
  induction k with
  | zero => simp
  | succ k ih =>
    have hshift : (b ^^^ b / 2) / 2 ^ k = b / 2 ^ k ^^^ b / 2 ^ (k + 1) := by
      rw [Nat.xor_div_two_pow, Nat.div_div_eq_div_mul, ← Nat.pow_succ']
    rw [List.range_succ, List.foldl_append, ih, List.foldl_cons, List.foldl_nil, hshift, Nat.xor_assoc, ← Nat.xor_assoc (b / 2 ^ k),
      Nat.xor_self, Nat.zero_xor]

theorem grayToBin_gray (b : Nat) (h : b < 2 ^ 32) : grayToBin (b ^^^ b / 2) = b := by
  rw [grayToBin, foldl_gray, Nat.div_eq_of_lt h, Nat.xor_zero]

theorem cntStep_lt (m n : Nat) (up : Bool) (h : n < if m = 0 then 2 ^ 32 else m) : cntStep m n up < if m = 0 then 2 ^ 32 else m := by
  unfold cntStep
  split_ifs at h ⊢ <;> omega

theorem cntStep_cntStep (m n : Nat) (up : Bool) (h : n < if m = 0 then 2 ^ 32 else m) : cntStep m (cntStep m n up) (!up) = n := by
  obtain rfl | hm := eq_or_ne m 0
  · rw [if_pos rfl] at h
    cases up <;> simp only [cntStep, Bool.not_true, Bool.not_false, if_true, Bool.false_eq_true, if_false] <;> omega
  · rw [if_neg hm] at h
    cases up with
    | false =>
      simp only [cntStep, hm, Bool.not_false, if_true, Bool.false_eq_true, if_false]
      obtain rfl | hn := eq_or_ne n 0
      · rw [if_pos rfl, if_pos (by omega)]
      · rw [if_neg hn, if_neg (by omega)]; omega
    | true =>
      simp only [cntStep, hm, Bool.not_true, if_true, Bool.false_eq_true, if_false]
      obtain hn | hn := eq_or_ne (n + 1) m
      · rw [if_pos hn, if_pos rfl]; omega
      · rw [if_neg hn, if_neg n.succ_ne_zero]; omega

/-- Settles O39: the Gray decoding telescopes, each count step has its inverse, and the on-time rule cuts short pulses at both ends. -/
theorem countsAndCodesAreExact : Obligations.CountsAndCodesAreExact := by
  refine ⟨grayToBin_gray, fun m n up h => ⟨cntStep_lt m n up h, cntStep_cntStep m n up h⟩, fun duty p m hd hm => ?_⟩
  have hle : duty * p / 16384 ≤ p := Nat.div_le_of_le_mul (Nat.mul_le_mul_right p hd.le)
  unfold onTime
  dsimp only
  split_ifs <;> omega

end Sys2Proof.Machine
end

section
/-!
PROOFS. The completion of a node (R154, R157): dispatch keeps the release buffer and the tables, delivery keeps all but the Percolator, the
words of the node's state stay within its working copy; from these the statements NodeCompletionFrame (O31) and NodeResultReachesItsSink (O32).
-/
namespace Sys2Proof.Machine

open Sys2Proof

/-! ### What the Percolator's own actions leave -/

/-- The lane m is l but for its Percolator. -/
def Lane.percolates (l m : Lane) : Prop := ∃ p, m = { l with pcl := p }

/-- The lane m is l but for its Percolator, whose release buffer and tables are those of l. -/
def Lane.schedules (l m : Lane) : Prop :=
  ∃ p, m = { l with pcl := p } ∧ p.rels = l.pcl.rels ∧ p.nodes = l.pcl.nodes ∧ p.arcs = l.pcl.arcs

theorem Lane.percolates.rfl {l : Lane} : l.percolates l := ⟨l.pcl, Eq.refl _⟩

theorem Lane.percolates.trans {l m n : Lane} (h1 : l.percolates m) (h2 : m.percolates n) : l.percolates n := by
  obtain ⟨p, rfl⟩ := h1
  obtain ⟨q, rfl⟩ := h2
  exact ⟨q, Eq.refl _⟩

theorem Lane.percolates.eq {l m : Lane} (h : l.percolates m) : m = { l with pcl := m.pcl } := by obtain ⟨p, rfl⟩ := h; rfl

theorem Lane.schedules.rfl {l : Lane} : l.schedules l := ⟨l.pcl, Eq.refl _, Eq.refl _, Eq.refl _, Eq.refl _⟩

theorem Lane.schedules.trans {l m n : Lane} (h1 : l.schedules m) (h2 : m.schedules n) : l.schedules n := by
  obtain ⟨p, rfl, hr, hn, ha⟩ := h1
  obtain ⟨q, rfl, hr', hn', ha'⟩ := h2
  exact ⟨q, Eq.refl _, hr'.trans hr, hn'.trans hn, ha'.trans ha⟩

theorem Lane.schedules.percolates {l m : Lane} (h : l.schedules m) : l.percolates m := by
  obtain ⟨p, rfl, -, -, -⟩ := h
  exact ⟨p, Eq.refl _⟩

theorem Lane.schedules.rels {l m : Lane} (h : l.schedules m) : m.pcl.rels = l.pcl.rels := by obtain ⟨p, rfl, hr, -, -⟩ := h; exact hr

theorem Lane.schedules.node {l m : Lane} (h : l.schedules m) (bank n : Nat) : m.pcl.node bank n = l.pcl.node bank n := by
  obtain ⟨p, rfl, -, hn, -⟩ := h
  exact congrArg (Sparse.get 0 · (1024 * bank + n)) hn

theorem Lane.schedules.arc {l m : Lane} (h : l.schedules m) (bank a : Nat) : m.pcl.arc bank a = l.pcl.arc bank a := by
  obtain ⟨p, rfl, -, -, ha⟩ := h
  exact congrArg (Sparse.get 0 · (4096 * bank + a)) ha

/-- What every action of a list leaves, the list leaves. -/
theorem foldl_schedules {α : Type} {f : Lane → α → Lane} (hf : ∀ (m : Lane) x, m.schedules (f m x)) (xs : List α) (l : Lane) :
    l.schedules (xs.foldl f l) := by
  induction xs generalizing l with
  | nil => exact .rfl
  | cons x xs ih => exact (hf l x).trans (ih _)

theorem foldl_percolates {α : Type} {f : Lane → α → Lane} (hf : ∀ (m : Lane) x, m.percolates (f m x)) (xs : List α) (l : Lane) :
    l.percolates (xs.foldl f l) := by
  induction xs generalizing l with
  | nil => exact .rfl
  | cons x xs ih => exact (hf l x).trans (ih _)

/-! ### Dispatch (R147, R159, R160) -/

theorem Lane.setCore_schedules (l : Lane) (c : Nat) (k : Core) : l.schedules (l.setCore c k) := ⟨_, rfl, rfl, rfl, rfl⟩

theorem Lane.setAct_schedules (l : Lane) (flow : Nat) (a : Option Activation) : l.schedules (l.setAct flow a) := ⟨_, rfl, rfl, rfl, rfl⟩

theorem Lane.wait_schedules (l : Lane) (ws : List Work) : l.schedules (l.onPcl fun p => { p with waiting := ws }) := ⟨_, rfl, rfl, rfl, rfl⟩

theorem Lane.beginService_schedules (l : Lane) (flow : Nat) (seq : BitVec 16) : l.schedules (l.beginService flow seq) := by
  unfold Lane.beginService
  split
  · split
    · exact l.setAct_schedules _ _
    · exact .rfl
  · exact .rfl

theorem Lane.startNode_schedules (l : Lane) (c : Nat) (w : Work) : l.schedules (l.startNode c w) := by
  refine .trans ?_ (Lane.beginService_schedules _ _ _)
  exact (l.setCore_schedules c _).trans ⟨_, rfl, rfl, rfl, rfl⟩

theorem Lane.place_schedules (l : Lane) (w : Work) : l.schedules (l.place w) := by
  unfold Lane.place
  split
  · exact l.startNode_schedules _ w
  · split <;> exact l.setCore_schedules _ _

theorem Lane.placeOrWait_schedules (l : Lane) (w : Work) : l.schedules (l.placeOrWait w) := by
  unfold Lane.placeOrWait
  split
  · exact l.place_schedules w
  · exact l.wait_schedules _

theorem Lane.startOrWait_schedules (l : Lane) (c : Nat) (w : Work) : l.schedules (l.startOrWait c w) := by
  unfold Lane.startOrWait
  split
  · exact l.startNode_schedules c w
  · exact l.wait_schedules _

theorem Lane.takeFrom_schedules (l : Lane) (c q : Nat) (w : Work) : l.schedules (l.takeFrom c q w) :=
  (l.setCore_schedules q _).trans (Lane.startNode_schedules _ c w)

theorem Lane.takeNext_schedules (l : Lane) (c : Nat) : l.schedules (l.takeNext c) := by
  unfold Lane.takeNext
  dsimp only
  split
  · exact .rfl
  split
  · exact (l.setCore_schedules c _).trans (Lane.startOrWait_schedules _ _ _)
  split
  · split
    · exact l.takeFrom_schedules c c _
    · exact l.setCore_schedules c _
  · exact l.setCore_schedules c _
  · exact l.takeFrom_schedules c c _
  · split
    · split
      · exact l.takeFrom_schedules c _ _
      · exact .rfl
    · exact .rfl

theorem Lane.pump_schedules (l : Lane) : l.schedules l.pump :=
  (foldl_schedules Lane.takeNext_schedules _ l).trans ((Lane.wait_schedules _ _).trans (foldl_schedules Lane.placeOrWait_schedules _ _))

theorem Lane.unitDone_schedules (l : Lane) (flow : Nat) : l.schedules (l.unitDone flow) := by
  unfold Lane.unitDone
  split
  · dsimp only
    split
    · exact (l.setAct_schedules flow _).trans ⟨_, rfl, rfl, rfl, rfl⟩
    · exact l.setAct_schedules flow _
  · exact .rfl

/-! ### Delivery (R149, R157, R163) -/

theorem Lane.addRel_percolates (l : Lane) (r : Rel) : l.percolates (l.addRel r) := ⟨_, rfl⟩

theorem Lane.deliver_percolates (l : Lane) (bank arc : Nat) (t : Tok) : l.percolates (l.deliver bank arc t) := by
  unfold Lane.deliver
  dsimp only
  split
  · split <;> exact ⟨_, rfl⟩
  · exact ⟨_, rfl⟩
  · exact ⟨_, rfl⟩

theorem Lane.sendArc_percolates (l : Lane) (bank arc : Nat) (t : Tok) : l.percolates (l.sendArc bank arc t) := by
  unfold Lane.sendArc
  split
  · exact l.addRel_percolates _
  · exact l.deliver_percolates bank arc t

theorem Lane.sendOutput_percolates (l : Lane) (w : Work) (o : Nat) (v : Out) : l.percolates (l.sendOutput w o v) :=
  foldl_percolates (fun m _ => m.sendArc_percolates _ _ _) _ l

/-- A token on a latched arc, or on one that ends in an output index, joins the release buffer. -/
theorem Lane.sendArc_of_sink (l : Lane) (bank arc : Nat) (t : Tok) (h : arcLatched (l.pcl.arc bank arc) = true ∨ arcKind (l.pcl.arc bank arc) = 1) :
    l.sendArc bank arc t = l.addRel ⟨t.flow, t.seq, bank, arc, t.valid, t.value⟩ := by
  unfold Lane.sendArc
  split
  · rfl
  · next hlatch =>
    have hkind := h.resolve_left hlatch
    simp only [Lane.deliver, hkind]

theorem Lane.sendOutput_of_none (l : Lane) (w : Work) (o : Nat) (v : Out) (h : ndOutCnt (l.pcl.node w.bank w.node) o = 0) :
    l.sendOutput w o v = l := by
  simp only [Lane.sendOutput, h, List.range_zero, List.foldl_nil]

theorem Lane.sendOutput_of_one (l : Lane) (w : Work) (o : Nat) (v : Out) (h : ndOutCnt (l.pcl.node w.bank w.node) o = 1) :
    l.sendOutput w o v = l.sendArc w.bank (ndOutBase (l.pcl.node w.bank w.node) o) ⟨w.flow, w.seq, v.1, v.2⟩ := by
  simp only [Lane.sendOutput, h, List.range_one, List.foldl_cons, List.foldl_nil, Nat.add_zero]

/-! ### Lane SRAM without errors -/

theorem Sparse.set_nil (d : α) [DecidableEq α] (k : Nat) : Sparse.set d ([] : Sparse α) k d = [] := by simp [Sparse.set, Sparse.del]

/-- Lane SRAM stores no error and no injection of one is armed. -/
def Lane.sramSound (l : Lane) : Prop := l.mem.sramErr = [] ∧ l.fcl.armed ≠ 2 ∧ l.fcl.armed ≠ 3

theorem Lane.sramSound.err {l : Lane} (h : l.sramSound) (wa : Nat) : l.mem.err wa = 0 := by rw [Memory.err, h.1]; rfl

theorem Lane.sramSound.sramLoad {l : Lane} (h : l.sramSound) (ini a n : Nat) : l.sramLoad ini a n = (l, true) := by
  unfold Lane.sramLoad
  generalize wordsOver a n = ws
  induction ws with
  | nil => rfl
  | cons w ws ih => rw [List.foldl_cons, l.sramCheck_clean ini w true (h.err w)]; exact ih

theorem Lane.sramSound.nodeLoad {l : Lane} (h : l.sramSound) (c : Nat) (d : BitVec 128) : l.nodeLoad c d = (l, true) := by
  simp only [Lane.nodeLoad, h.sramLoad, ite_self, Bool.and_self]

/-- The lane m is l but for the bytes of lane SRAM from lo up to hi. -/
def Lane.storesWithin (lo hi : Nat) (l m : Lane) : Prop :=
  (∃ s, m = { l with mem := { l.mem with sram := s } }) ∧ ∀ b, b < lo ∨ hi ≤ b → m.mem.byte b = l.mem.byte b

theorem Lane.storesWithin.rfl {lo hi : Nat} {l : Lane} : l.storesWithin lo hi l := ⟨⟨_, Eq.refl _⟩, fun _ _ => Eq.refl _⟩

theorem Lane.storesWithin.trans {lo hi : Nat} {l m n : Lane} (h1 : l.storesWithin lo hi m) (h2 : m.storesWithin lo hi n) :
    l.storesWithin lo hi n := by
  obtain ⟨⟨s, rfl⟩, hb⟩ := h1
  obtain ⟨⟨s', rfl⟩, hb'⟩ := h2
  exact ⟨⟨s', Eq.refl _⟩, fun b h => (hb' b h).trans (hb b h)⟩

theorem Lane.storesWithin.mono {lo hi lo' hi' : Nat} {l m : Lane} (h : l.storesWithin lo hi m) (h1 : lo' ≤ lo) (h2 : hi ≤ hi') :
    l.storesWithin lo' hi' m :=
  ⟨h.1, fun b hb => h.2 b (by omega)⟩

theorem Lane.storesWithin.sramSound {lo hi : Nat} {l m : Lane} (h : l.storesWithin lo hi m) (hs : l.sramSound) : m.sramSound := by
  obtain ⟨⟨s, rfl⟩, -⟩ := h
  exact hs

/-- A byte that no strobe bit names reads as before a write of a 64-bit word. -/
theorem Memory.byte_write_masked (m : Memory) (wa v s b : Nat) (h : ∀ i < 8, b = wa + i → s.testBit i = false) :
    (m.write wa v s 8).byte b = m.byte b := by
  by_cases hb : b < wa ∨ wa + 8 ≤ b
  · exact m.byte_write_out wa v s 8 b hb
  · obtain ⟨i, rfl⟩ := Nat.exists_eq_add_of_le (show wa ≤ b by omega)
    rw [m.byte_write_in wa v s 8 i (by omega), h i (by omega) rfl, if_neg Bool.false_ne_true]

theorem Lane.sramSound.store64 {l : Lane} (h : l.sramSound) (ini wa data strobe lo hi : Nat) 
    (hm : ∀ i < 8, strobe.testBit i = decide (lo ≤ wa + i ∧ wa + i < hi)) : l.storesWithin lo hi (l.store64 ini wa data strobe).1 := by
  have heq : (l.store64 ini wa data strobe).1 = { l with mem := l.mem.write wa data strobe 8 } := by
    have hclean : l.mem.err wa = 0 := h.err wa
    obtain ⟨herr, h2, h3⟩ := h
    rw [l.store64_performed ini wa data strobe (.inr hclean), Lane.wordWritten_eq, Memory.write_frame]
    simp only [Lane.placedError, Lane.armedAfter, h2, h3, if_false, or_self, Memory.setErr, herr, Sparse.set_nil]
  rw [heq]
  refine ⟨⟨(l.mem.write wa data strobe 8).sram, by rw [← Memory.write_frame]⟩, fun b hb => l.mem.byte_write_masked wa data strobe b ?_⟩
  rintro i hi rfl
  rw [hm i hi, decide_eq_false_iff_not]
  omega

/-- Words stored at an address aligned to 4 change the bytes they take up, and no others. -/
theorem Lane.sramSound.storeWords (ini : Nat) : ∀ (ws : List Word) {l : Lane} (_ : l.sramSound) (a : Nat) (_ : 4 ∣ a),
    l.storesWithin a (a + 4 * ws.length) (l.storeWords ini a ws)
  | [], _, _, _, _ => .rfl
  | [w], l, h, a, ha => by
    simp only [Lane.storeWords, List.length_singleton]
    split
    · refine h.store64 ini a _ 0x0F a (a + 4) fun i hi => ?_
      interval_cases i <;> simp [Nat.testBit]
    · refine h.store64 ini (a - 4) _ 0xF0 a (a + 4) fun i hi => ?_
      interval_cases i <;> simp [Nat.testBit] <;> omega
  | w :: v :: ws, l, h, a, ha => by
    simp only [Lane.storeWords, List.length_cons]
    split
    · have h1 := h.store64 ini a (w.toNat + v.toNat * 2 ^ 32) 0xFF a (a + 8) fun i hi => by
        interval_cases i <;> simp [Nat.testBit]
      exact (h1.mono le_rfl (by omega)).trans
        ((storeWords ini ws (h1.sramSound h) (a + 8) (by omega)).mono (by omega) (by omega))
    · have h1 := h.store64 ini (a - 4) (w.toNat * 2 ^ 32) 0xF0 a (a + 4) fun i hi => by
        interval_cases i <;> simp [Nat.testBit] <;> omega
      exact (h1.mono le_rfl (by omega)).trans
        ((storeWords ini (v :: ws) (h1.sramSound h) (a + 4) (by omega)).mono (by omega) (by simp only [List.length_cons]; omega))

/-! ### Completing a node -/

theorem Lane.dvd_stateAddr (l : Lane) (d : BitVec 128) (working : Bool) : 4 ∣ l.stateAddr d working := by
  unfold Lane.stateAddr Lane.paramAddr
  split <;> omega

/-- What a node that has read its parameters and state leaves: its state stored where it keeps one, its outputs sent. -/
def Lane.deliverRead (l : Lane) (c : Nat) (w : Work) (d : BitVec 128) (r : OpRes) : Lane :=
  if l.actIs w.flow w.seq then
    (((if ndPersist d then l.storeWords (c + 1) (l.stateAddr d true) r.st else l).unitDone w.flow).sendOutput w 0 r.o0).sendOutput w 1 r.o1
  else l

/-- What a node that met an uncorrectable word leaves: two free values with VALID 0 are sent, and nothing is stored (log entry 35). -/
def Lane.deliverUnread (l : Lane) (w : Work) : Lane :=
  if l.actIs w.flow w.seq then
    ((({ l with free := l.free + 2 } : Lane).unitDone w.flow).sendOutput w 0 (false, BitVec.ofInt 18 (Config.openValue l.free))).sendOutput w 1
      (false, BitVec.ofInt 18 (Config.openValue (l.free + 1)))
  else l

/-- The lane with core c freed of node w. -/
def Lane.freed (l : Lane) (c : Nat) (w : Work) : Lane :=
  l.setCore c { (l.core c).tally l.clk.now with
    run := none, busy := ((l.core c).tally l.clk.now).busy + (l.clk.now - w.start) }

theorem Lane.freed_schedules (l : Lane) (c : Nat) (w : Work) : l.schedules (l.freed c w) := l.setCore_schedules c _

/-- The result of operator f on the operands, parameters and state of node w. -/
def Lane.nodeResult (l : Lane) (w : Work) (f : OpFn) : OpRes :=
  let d := l.pcl.node w.bank w.node
  f (l.mem.words (l.paramAddr d) (ndParamLen d)) (l.mem.words (l.stateAddr d false) (stateSize (ndOpcode d))) w.args l.mem

section
variable {l : Lane} {c : Nat} {w : Work} {f : OpFn} (hf : ∀ p st a m, (f p st a m).reads = [])
include hf

theorem Lane.completeNode_of_read (h : (l.nodeLoad c (l.pcl.node w.bank w.node)).2 = true) : l.completeNode c w f =
    (((l.nodeLoad c (l.pcl.node w.bank w.node)).1.freed c w).deliverRead c w (l.pcl.node w.bank w.node) (l.nodeResult w f)).pump := by
  simp only [Lane.completeNode, hf, Lane.tableReads, List.foldl_nil, h, Bool.and_true, Lane.openOut, if_true]
  rfl

theorem Lane.completeNode_of_unread (h : (l.nodeLoad c (l.pcl.node w.bank w.node)).2 = false) :
    l.completeNode c w f = (((l.nodeLoad c (l.pcl.node w.bank w.node)).1.freed c w).deliverUnread w).pump := by
  simp only [Lane.completeNode, hf, Lane.tableReads, List.foldl_nil, h, Bool.and_false, Lane.openOut, Bool.false_eq_true, if_false]
  rfl

end

/-- What is sent when a node completes, with its release, keeps all but the Percolator. -/
theorem Lane.sendBoth_percolates (l : Lane) (w : Work) (o0 o1 : Out) : l.percolates (((l.unitDone w.flow).sendOutput w 0 o0).sendOutput w 1 o1) :=
  (l.unitDone_schedules w.flow).percolates.trans ((Lane.sendOutput_percolates _ w 0 o0).trans (Lane.sendOutput_percolates _ w 1 o1))

/-- With one arc to a sink or latched on output 0 and none on output 1, what is sent is one entry of the release buffer. -/
theorem Lane.sendBoth_rels {l : Lane} {w : Work} {d : BitVec 128} {arc : Word} (o0 o1 : Out) (hd : l.pcl.node w.bank w.node = d)
    (ha : l.pcl.arc w.bank (ndOutBase d 0) = arc) (h0 : ndOutCnt d 0 = 1) (h1 : ndOutCnt d 1 = 0) (hk : arcLatched arc = true ∨ arcKind arc = 1) :
    (((l.unitDone w.flow).sendOutput w 0 o0).sendOutput w 1 o1).pcl.rels =
      l.pcl.rels ++ [⟨w.flow, w.seq, w.bank, ndOutBase d 0, o0.1, o0.2⟩] := by
  have hsched := l.unitDone_schedules w.flow
  have hd' : (l.unitDone w.flow).pcl.node w.bank w.node = d := (hsched.node _ _).trans hd
  have ha' : (l.unitDone w.flow).pcl.arc w.bank (ndOutBase d 0) = arc := (hsched.arc _ _).trans ha
  have hone : (l.unitDone w.flow).sendOutput w 0 o0 = (l.unitDone w.flow).addRel ⟨w.flow, w.seq, w.bank, ndOutBase d 0, o0.1, o0.2⟩ := by
    rw [Lane.sendOutput_of_one _ _ _ _ (hd'.symm ▸ h0), hd', Lane.sendArc_of_sink _ _ _ _ (ha'.symm ▸ hk)]
  have hnone : ndOutCnt (((l.unitDone w.flow).addRel ⟨w.flow, w.seq, w.bank, ndOutBase d 0, o0.1, o0.2⟩).pcl.node w.bank w.node) 1 = 0 :=
    (congrArg (ndOutCnt · 1) hd').trans h1
  rw [hone, Lane.sendOutput_of_none _ _ _ _ hnone]
  exact congrArg (· ++ [_]) hsched.rels

theorem Lane.deliverRead_percolates (l : Lane) (c : Nat) (w : Work) (d : BitVec 128) (r : OpRes) (h : ndPersist d = false) :
    l.percolates (l.deliverRead c w d r) := by
  simp only [Lane.deliverRead, h, Bool.false_eq_true, if_false]
  split
  · exact l.sendBoth_percolates w r.o0 r.o1
  · exact .rfl

/-- A node that has read its words from sound memory stores its state within its working copy; the rest is the Percolator's. -/
theorem Lane.deliverRead_stores {l : Lane} (h : l.sramSound) (c : Nat) (w : Work) (d : BitVec 128) (r : OpRes) :
    ∃ m, l.storesWithin (l.stateAddr d true) (l.stateAddr d true + if ndPersist d then 4 * r.st.length else 0) m ∧
      m.percolates (l.deliverRead c w d r) := by
  rw [Lane.deliverRead]
  by_cases hact : l.actIs w.flow w.seq = true
  · rw [if_pos hact]
    refine ⟨_, ?_, Lane.sendBoth_percolates _ w r.o0 r.o1⟩
    split
    · exact h.storeWords (c + 1) r.st _ (l.dvd_stateAddr d true)
    · exact .rfl
  · rw [if_neg hact]
    exact ⟨l, .rfl, .rfl⟩

theorem Lane.deliverUnread_eq (l : Lane) (w : Work) : ∃ p k, l.deliverUnread w = { l with pcl := p, free := k } := by
  unfold Lane.deliverUnread
  split
  · exact ⟨_, _, (Lane.sendBoth_percolates _ w _ _).eq⟩
  · exact ⟨l.pcl, l.free, rfl⟩

/-- Settles O31: dispatch and delivery keep to the Percolator, and the state's words to the working copy. -/
theorem nodeCompletionFrame : Obligations.NodeCompletionFrame := by
  intro n c w f hf d r v m
  refine ⟨fun herr h2 h3 => ?sound, fun h => ?any⟩
  case sound =>
    have hs : n.sramSound := ⟨herr, h2, h3⟩
    have hload : n.nodeLoad c (n.pcl.node w.bank w.node) = (n, true) := hs.nodeLoad c d
    have hv : v = ((n.freed c w).deliverRead c w d r).pump := by
      have := Lane.completeNode_of_read hf (congrArg Prod.snd hload)
      rwa [hload] at this
    obtain ⟨m', ⟨hst, hbytes⟩, hperc⟩ := Lane.deliverRead_stores (l := n.freed c w) hs c w d r
    obtain ⟨s, rfl⟩ := hst
    obtain ⟨p, hp⟩ := hperc.trans (Lane.pump_schedules _).percolates
    rw [hv, hp]
    refine ⟨rfl, fun b hb => ?_⟩
    refine hbytes b ?_
    change b < n.stateAddr d true ∨ n.stateAddr d true + _ ≤ b
    obtain hnone | hout := hb
    · rw [hnone, if_neg Bool.false_ne_true]
      omega
    · split <;> omega
  case any =>
    cases hread : m.2 with
    | true =>
      have hnone : ndPersist d = false := h.resolve_left (by rw [hread]; exact Bool.noConfusion)
      obtain ⟨p, hp⟩ := (m.1.freed_schedules c w).percolates.trans
        ((Lane.deliverRead_percolates _ c w d r hnone).trans (Lane.pump_schedules _).percolates)
      have hv : v = { m.1 with pcl := p } := (Lane.completeNode_of_read hf hread).trans hp
      rw [hv]
    | false =>
      have hv : v = ((m.1.freed c w).deliverUnread w).pump := Lane.completeNode_of_unread hf hread
      obtain ⟨p, k, hp⟩ := (m.1.freed c w).deliverUnread_eq w
      rw [hv, (Lane.pump_schedules _).percolates.eq, hp]
      rfl

/-- Settles O32: of the one token sent the release buffer holds the entry, and dispatch keeps the buffer. -/
theorem nodeResultReachesItsSink : Obligations.NodeResultReachesItsSink := by
  intro n c w f hf d r arc m h0 h1 hk
  refine ⟨fun herr h2 h3 hact => ?read, fun hread hact hnode harc => ?unread⟩
  case read =>
    have hs : n.sramSound := ⟨herr, h2, h3⟩
    have hload : n.nodeLoad c (n.pcl.node w.bank w.node) = (n, true) := hs.nodeLoad c d
    have hv : n.completeNode c w f = ((n.freed c w).deliverRead c w d r).pump := by
      have := Lane.completeNode_of_read hf (congrArg Prod.snd hload)
      rwa [hload] at this
    have hact' : (n.freed c w).actIs w.flow w.seq = true := hact
    rw [hv, (Lane.pump_schedules _).rels, Lane.deliverRead, if_pos hact']
    split
    · obtain ⟨⟨s, hst⟩, -⟩ := Lane.sramSound.storeWords (c + 1) r.st (l := n.freed c w) hs _ (Lane.dvd_stateAddr _ d true)
      rw [hst]
      exact Lane.sendBoth_rels r.o0 r.o1 rfl rfl h0 h1 hk
    · exact Lane.sendBoth_rels r.o0 r.o1 rfl rfl h0 h1 hk
  case unread =>
    have hact' : (m.1.freed c w).actIs w.flow w.seq = true := hact
    rw [Lane.completeNode_of_unread hf hread, (Lane.pump_schedules _).rels, Lane.deliverUnread, if_pos hact']
    exact Lane.sendBoth_rels _ _ hnode harc h0 h1 hk

end Sys2Proof.Machine
end

section
/-!
PROOFS. What a record of the recorder and the Snuff action leave, and the lane that leaves its voting set (R123, R125): the statement
LeavingTheVotingSet (O45).
-/
namespace Sys2Proof.Machine

open Sys2Proof

/-! ### Records of the recorder -/

/-- The registers that a record of the recorder may write. -/
def recordKeys : List Nat := [STM.REC_FIRST_RSN.key, STM.REC_STATUS_OVERWRITES.key, STM.STATUS_NAND_BUSY.key]

/-- The lane m is l but for the recorder, its registers and what was sent, to which no control message was added. -/
def Lane.records (l m : Lane) : Prop :=
  ∃ s n r o, m = { l with stm := s, nand := n, regs := r, out := o } ∧ (∀ k ∉ recordKeys, regWord r k = regWord l.regs k) ∧
    ∀ h c, Emit.control h c ∈ o ↔ Emit.control h c ∈ l.out

theorem Lane.records.rfl {l : Lane} : l.records l := ⟨_, _, _, _, Eq.refl _, fun _ _ => Eq.refl _, fun _ _ => Iff.rfl⟩

theorem Lane.records.trans {l m n : Lane} (h1 : l.records m) (h2 : m.records n) : l.records n := by
  obtain ⟨s, n, r, o, rfl, hr, ho⟩ := h1
  obtain ⟨s', n', r', o', rfl, hr', ho'⟩ := h2
  exact ⟨s', n', r', o', Eq.refl _, fun k hk => (hr' k hk).trans (hr k hk), fun h c => (ho' h c).trans (ho h c)⟩

/-- A change of the recorder's own state alone. -/
theorem Lane.records_of_state (l : Lane) (s : Stm) (n : Nand) : l.records { l with stm := s, nand := n } :=
  ⟨s, n, l.regs, l.out, Eq.refl _, fun _ _ => Eq.refl _, fun _ _ => Iff.rfl⟩

theorem Lane.records_wr (l : Lane) (f : Fld) (v : Nat) (h : f.key ∈ recordKeys) : l.records (l.wr f v) :=
  ⟨l.stm, l.nand, _, l.out, Eq.refl _, fun k hk => l.word_wr_ne f v 0 0 k fun hkey => hk (hkey ▸ h), fun _ _ => Iff.rfl⟩

theorem Lane.recFirst_records (l : Lane) : l.records l.recFirst := by
  unfold Lane.recFirst
  split <;> exact l.records_wr _ _ (by decide)

theorem Lane.nandBusy_records (l : Lane) : l.records l.nandBusy := l.records_wr STM.STATUS_NAND_BUSY _ (by decide)

theorem Lane.journal_records (l : Lane) (e : JEntry) : l.records (l.journal e) := l.records_of_state l.stm _

theorem Lane.eraseBlock_records (l : Lane) (b : Nat) : l.records (l.eraseBlock b) :=
  l.nandBusy_records.trans ((Lane.journal_records _ _).trans (Lane.records_of_state _ _ _))

theorem Lane.recBlock_records (l : Lane) : l.records l.recBlock.1 := by
  have hfresh : ∀ (m : Lane) (x : Bool), l.records m → l.records (match m.nand.lowest m.freeBlocks with
      | some b => (({ m.journal (.taken b) with
          nand := { (m.journal (.taken b)).nand with used := (m.journal (.taken b)).nand.used ++ [b] }
          stm := { (m.journal (.taken b)).stm with block := b } } : Lane), x)
      | none => (m, x)).1 := by
    intro m x h
    split
    · exact h.trans ((m.journal_records _).trans (Lane.records_of_state _ _ _))
    · exact h
  unfold Lane.recBlock
  dsimp only
  split
  · exact .rfl
  · refine hfresh _ _ ?_
    split
    · exact (l.eraseBlock_records _).trans ((Lane.recFirst_records _).trans (Lane.records_wr _ _ _ (by decide)))
    · exact .rfl

theorem Lane.programPage_records (l : Lane) : l.records l.programPage.1 := by
  unfold Lane.programPage
  split
  · exact l.recBlock_records.trans ((Lane.nandBusy_records _).trans ((Lane.journal_records _ _).trans (Lane.records_of_state _ _ _)))
  · exact .rfl

theorem Lane.savePage_records (l : Lane) : l.records l.savePage := l.programPage_records.trans (Lane.records_of_state _ _ _)

theorem Lane.recordLine_records (l : Lane) (r : Rec) : l.records (l.recordLine r) := by
  unfold Lane.recordLine
  split
  · exact .rfl
  · exact ⟨l.stm, l.nand, l.regs, _, Eq.refl _, fun _ _ => Eq.refl _, fun h c => by simp⟩

theorem Lane.buffer_records (l : Lane) (r : Rec) : l.records (l.buffer r) := by
  unfold Lane.buffer
  dsimp only
  split
  · exact (l.records_of_state _ l.nand).trans (Lane.recordLine_records _ r)
  · split
    · exact l.savePage_records.trans ((Lane.records_of_state _ _ _).trans (Lane.recordLine_records _ r))
    · exact .rfl

theorem Lane.record_records (l : Lane) (type : Nat) (body : List Nat) : l.records (l.record type body) :=
  (l.records_of_state l.stm _).trans (Lane.buffer_records _ _)

/-! ### The Snuff action and lane events -/

theorem Lane.word_endStart_ne (l : Lane) (b k : Nat) (h : k ≠ CMU.APPLIED_START.at_ b 0) : (l.endStart b).word k = l.word k :=
  Lane.word_wr_ne (l.setBridge b { l.bridge b with startAt := none }) CMU.APPLIED_START 0 b 0 k h

/-- The command of the Snuff action writes no register but the start bits of the two bridges. -/
theorem Lane.word_snuffDrive_ne (l : Lane) (k : Nat) (h0 : k ≠ CMU.APPLIED_START.at_ 0 0) (h1 : k ≠ CMU.APPLIED_START.at_ 1 0) :
    l.snuffDrive.word k = l.word k := by
  have hregs : l.snuffDrive.regs = (if l.drive.snuff then l else l.noteAll).endStarts.regs := rfl
  rw [Lane.word_eq_of_regs_eq _ _ k hregs, Lane.endStarts, Lane.word_endStart_ne _ 1 k h1, Lane.word_endStart_ne _ 0 k h0]
  obtain ⟨d, hd⟩ := l.noteAll_frame
  rw [hd]
  split <;> rfl

theorem Lane.snuffDrive_out (l : Lane) : l.snuffDrive.out = .snuff :: l.out := by
  obtain ⟨_, _, _, _, h⟩ := l.snuffDrive_frame
  rw [h]

theorem Lane.msix_control (l : Lane) (fn vec : Nat) (h : CtlHdr) (c : CtlMsg) : Emit.control h c ∈ (l.msix fn vec).out ↔ Emit.control h c ∈ l.out := by
  unfold Lane.msix
  split
  · simp [Lane.emit]
  · exact Iff.rfl

/-- A lane event is signalled by vectors of the two functions alone. -/
theorem Lane.laneEvent_control (l : Lane) (h : CtlHdr) (c : CtlMsg) : Emit.control h c ∈ l.laneEvent.out ↔ Emit.control h c ∈ l.out :=
  (Lane.msix_control _ 1 9 h c).trans (l.msix_control 0 9 h c)

/-! ### A change of the lane's own state -/

/-- A lane that changes its state leaves a record and signals it: beyond the state, and the outputs of an unhealthy lane, the recorder, its
registers and the vectors sent are all that changes. -/
theorem Lane.goState_of_ne {l : Lane} {st : LaneState} (h : l.own ≠ st) :
    ∃ m, (l.setOwn st).records m ∧ l.goState st = m.laneEvent := ⟨_, Lane.record_records _ _ _, if_neg h⟩

theorem Lane.setOwn_own (l : Lane) (st : LaneState) : (l.setOwn st).own = st := Tri.get_set_self _ _ _

section
variable {l : Lane} {st : LaneState} (h : l.own ≠ st)
include h

theorem Lane.goState_own : (l.goState st).own = st := by
  obtain ⟨m, ⟨s, n, r, o, rfl, -, -⟩, heq⟩ := Lane.goState_of_ne h
  rw [heq, Lane.own, Lane.laneEvent_xla, Lane.laneEvent_id]
  exact l.setOwn_own st

theorem Lane.goState_vset : (l.goState st).xla.vset = l.xla.vset := by
  obtain ⟨m, ⟨s, n, r, o, rfl, -, -⟩, heq⟩ := Lane.goState_of_ne h
  rw [heq, Lane.laneEvent_xla]
  rfl

theorem Lane.goState_drive : (l.goState st).drive = l.drive := by
  obtain ⟨m, ⟨s, n, r, o, rfl, -, -⟩, heq⟩ := Lane.goState_of_ne h
  rw [heq, Lane.laneEvent_drive]
  rfl

theorem Lane.goState_gdc : (l.goState st).gdc = l.gdc := by
  obtain ⟨m, ⟨s, n, r, o, rfl, -, -⟩, heq⟩ := Lane.goState_of_ne h
  rw [heq, Lane.laneEvent_gdc]
  rfl

theorem Lane.goState_mem : (l.goState st).mem = l.mem := by
  obtain ⟨m, ⟨s, n, r, o, rfl, -, -⟩, heq⟩ := Lane.goState_of_ne h
  rw [heq, Lane.laneEvent_mem]
  rfl

theorem Lane.goState_word (k : Nat) (hk : k ∉ recordKeys) : (l.goState st).word k = l.word k := by
  obtain ⟨m, ⟨s, n, r, o, rfl, hr, -⟩, heq⟩ := Lane.goState_of_ne h
  rw [heq, Lane.word_eq_of_regs_eq _ _ k (Lane.laneEvent_regs _)]
  exact hr k hk

theorem Lane.goState_control (hd : CtlHdr) (c : CtlMsg) : Emit.control hd c ∈ (l.goState st).out ↔ Emit.control hd c ∈ l.out := by
  obtain ⟨m, ⟨s, n, r, o, rfl, -, ho⟩, heq⟩ := Lane.goState_of_ne h
  rw [heq, Lane.laneEvent_control]
  exact ho hd c

theorem Lane.goState_rd (f : Fld) (hk : f.key ∉ recordKeys) : (l.goState st).rd f = l.rd f :=
  Lane.rd_eq_of_word_eq l _ f 0 0 (Lane.goState_word h _ hk)

end

/-! ### Leaving the voting set -/

/-- The lane that leaves, its drive die in the Snuff action and FENCE sent where it announces its leaving. -/
def Lane.snuffLeaving (l : Lane) (cause : Nat) (announce : Bool) : Lane :=
  (if announce then l.sendCtl 3 (.fence cause) else l).snuffDrive

/-- The fence history after a fence now: a counted one joins those of the last ten minutes. -/
def Lane.fencesAfter (l : Lane) (cause : Nat) : List Nat :=
  if causeCounted cause then l.clk.now :: within l.clk.now tenMinutes l.xla.fences else l.xla.fences

/-- The lane with the fence recorded in XLA.FENCE_STATUS and XLA.FENCE_CCN (R125). -/
def Lane.fenceRecorded (m l : Lane) (cause : Nat) : Lane :=
  let l2 := ((m.bump XLA.FENCE_STATUS_TOTAL).wr XLA.FENCE_STATUS_LAST_CAUSE cause).wr XLA.FENCE_CCN_CCN l.ccn.toNat
  if causeCounted cause && decide (3 ≤ (l.fencesAfter cause).length) then l2.flag XLA.FENCE_STATUS_PERMANENT true else l2

/-- The lane that leaves, with its fence recorded and out of its set, before its state becomes FENCED. -/
def Lane.leaving (l : Lane) (cause : Nat) (announce : Bool) : Lane :=
  let l3 := (l.snuffLeaving cause announce).fenceRecorded l cause
  { l3 with xla := { l3.xla with vset := l3.xla.vset.set l.id false, fences := l.fencesAfter cause } }

theorem Lane.leaveVset_eq (l : Lane) (cause : Nat) (announce : Bool) : l.leaveVset cause announce = (l.leaving cause announce).goState .fenced := rfl

/-- The lane m is l but for its registers. -/
def Lane.writes (l m : Lane) : Prop := ∃ r, m = { l with regs := r }

theorem Lane.writes.rfl {l : Lane} : l.writes l := ⟨l.regs, Eq.refl _⟩

theorem Lane.writes.trans {l m n : Lane} (h1 : l.writes m) (h2 : m.writes n) : l.writes n := by
  obtain ⟨r, rfl⟩ := h1
  obtain ⟨r', rfl⟩ := h2
  exact ⟨r', Eq.refl _⟩

theorem Lane.wr_writes (l : Lane) (f : Fld) (v i j : Nat) : l.writes (l.wr f v i j) := ⟨_, rfl⟩

theorem Lane.bump_writes (l : Lane) (f : Fld) (i j n : Nat) : l.writes (l.bump f i j n) := ⟨_, rfl⟩

/-- Recording a fence writes registers alone. -/
theorem Lane.fenceRecorded_writes (m l : Lane) (cause : Nat) : m.writes (m.fenceRecorded l cause) := by
  have h := (m.bump_writes XLA.FENCE_STATUS_TOTAL 0 0 1).trans
    ((Lane.wr_writes _ XLA.FENCE_STATUS_LAST_CAUSE cause 0 0).trans (Lane.wr_writes _ XLA.FENCE_CCN_CCN l.ccn.toNat 0 0))
  unfold Lane.fenceRecorded
  dsimp only
  split
  · exact h.trans (Lane.wr_writes _ _ _ _ _)
  · exact h

section
variable (m l : Lane) (cause : Nat)

/-- The flag of a permanent fence keeps the other fields of the fence registers. -/
theorem Lane.fenceRecorded_rd (f : Fld) (h : XLA.FENCE_STATUS_PERMANENT.lo + XLA.FENCE_STATUS_PERMANENT.w ≤ f.lo ∨ f.key ≠ XLA.FENCE_STATUS_PERMANENT.key) :
    (m.fenceRecorded l cause).rd f =
      (((m.bump XLA.FENCE_STATUS_TOTAL).wr XLA.FENCE_STATUS_LAST_CAUSE cause).wr XLA.FENCE_CCN_CCN l.ccn.toNat).rd f := by
  unfold Lane.fenceRecorded
  dsimp only
  split
  · obtain h | h := h
    · exact Lane.rd_wr_apart _ _ f _ 0 0 0 0 (by decide) (.inr h)
    · exact Lane.rd_wr_ne _ _ f _ 0 0 0 0 h
  · rfl

theorem Lane.fenceRecorded_cause (h : cause < 16) : (m.fenceRecorded l cause).rd XLA.FENCE_STATUS_LAST_CAUSE = cause := by
  rw [m.fenceRecorded_rd l cause _ (.inl (by decide)), Lane.rd_wr_ne _ _ _ _ 0 0 0 0 (by decide), Lane.rd_wr_self _ _ _ 0 0 (by decide)]
  exact Nat.mod_eq_of_lt h

theorem Lane.fenceRecorded_total : (m.fenceRecorded l cause).rd XLA.FENCE_STATUS_TOTAL = min (m.rd XLA.FENCE_STATUS_TOTAL + 1) 255 := by
  have hlt : m.rd XLA.FENCE_STATUS_TOTAL < 2 ^ 8 := bitsOf_lt _ _ _
  rw [m.fenceRecorded_rd l cause _ (.inl (by decide)), Lane.rd_wr_ne _ _ _ _ 0 0 0 0 (by decide),
    Lane.rd_wr_apart _ _ _ _ 0 0 0 0 (by decide) (by decide), Lane.bump, Lane.rd_wr_self _ _ _ 0 0 (by decide)]
  change satN 8 (m.rd XLA.FENCE_STATUS_TOTAL + 1) % 2 ^ 8 = _
  generalize m.rd XLA.FENCE_STATUS_TOTAL = n at *
  unfold satN
  split <;> omega

theorem Lane.fenceRecorded_ccn : (m.fenceRecorded l cause).rd XLA.FENCE_CCN_CCN = l.ccn.toNat := by
  rw [m.fenceRecorded_rd l cause _ (.inr (by decide)), Lane.rd_wr_self _ _ _ 0 0 (by decide)]
  exact Nat.mod_eq_of_lt l.ccn.isLt

theorem Lane.fenceRecorded_permanent (hc : causeCounted cause = true) (hn : 3 ≤ (l.fencesAfter cause).length) :
    (m.fenceRecorded l cause).on XLA.FENCE_STATUS_PERMANENT = true := by
  unfold Lane.fenceRecorded
  dsimp only
  rw [if_pos (by rw [hc, decide_eq_true hn]; rfl)]
  exact Lane.on_flag_self _ _ _ _ _ (by decide) (by decide)

end

/-- Leaving changes registers, the drive die and its unit, the voting set and the fence history, and sends what it sends. -/
theorem Lane.leaving_eq (l : Lane) (cause : Nat) (announce : Bool) : ∃ r, l.leaving cause announce = { l.snuffLeaving cause announce with
    regs := r, xla := { l.xla with vset := l.xla.vset.set l.id false, fences := l.fencesAfter cause } } := by
  obtain ⟨r, hr⟩ := (l.snuffLeaving cause announce).fenceRecorded_writes l cause
  refine ⟨r, ?_⟩
  rw [Lane.leaving, hr]
  cases announce <;> simp [Lane.snuffLeaving, Lane.sendCtl]

section
variable (l : Lane) (cause : Nat) (announce : Bool)

theorem Lane.snuffLeaving_word (k : Nat) (h0 : k ≠ CMU.APPLIED_START.at_ 0 0) (h1 : k ≠ CMU.APPLIED_START.at_ 1 0) :
    (l.snuffLeaving cause announce).word k = l.word k := by
  rw [Lane.snuffLeaving, Lane.word_snuffDrive_ne _ k h0 h1]
  cases announce <;> rfl

theorem Lane.snuffLeaving_mem : (l.snuffLeaving cause announce).mem = l.mem := by
  rw [Lane.snuffLeaving, Lane.snuffDrive_mem]
  cases announce <;> rfl

theorem Lane.snuffLeaving_id : (l.snuffLeaving cause announce).id = l.id := by
  rw [Lane.snuffLeaving, Lane.snuffDrive_id]
  cases announce <;> rfl

/-- The FENCE message with the cause is among what was sent just when the lane announces its leaving. -/
theorem Lane.snuffLeaving_sent (h : ∀ hd, Emit.control hd (.fence cause) ∉ l.out) :
    (∃ hd, Emit.control hd (.fence cause) ∈ (l.snuffLeaving cause announce).out) ↔ announce = true := by
  rw [Lane.snuffLeaving, Lane.snuffDrive_out]
  cases announce with
  | false => simp [h]
  | true => simp [Lane.sendCtl]

theorem Lane.leaving_own : (l.leaving cause announce).own = l.own := by
  obtain ⟨r, hr⟩ := l.leaving_eq cause announce
  rw [hr]
  change l.xla.lst.get (l.snuffLeaving cause announce).id = _
  rw [Lane.snuffLeaving_id]
  rfl

end

/-- Settles O45: the lane is recorded, snuffed and out of its set before its state changes, and the change of state keeps that. -/
theorem leavingTheVotingSet : Obligations.LeavingTheVotingSet := by
  intro l cause announce hcause hown hsent v
  have hv : v = (l.leaving cause announce).goState .fenced := l.leaveVset_eq cause announce
  clear_value v
  subst hv
  have hne : (l.leaving cause announce).own ≠ .fenced := by rwa [Lane.leaving_own]
  obtain ⟨r, hr⟩ := l.leaving_eq cause announce
  have hvset : ((l.leaving cause announce).goState .fenced).xla.vset = l.xla.vset.set l.id false := (Lane.goState_vset hne).trans (by rw [hr])
  have hdrive : ((l.leaving cause announce).goState .fenced).drive = (l.snuffLeaving cause announce).drive := (Lane.goState_drive hne).trans (by rw [hr])
  have hgdc : ((l.leaving cause announce).goState .fenced).gdc = (l.snuffLeaving cause announce).gdc := (Lane.goState_gdc hne).trans (by rw [hr])
  have hout : (l.leaving cause announce).out = (l.snuffLeaving cause announce).out := by rw [hr]
  refine ⟨Lane.goState_own hne, ?_, fun x hx => ?_, ?_, ?_, ?_, ?shown, ?total, ?ccn, ?sent, ?mem, fun h1 h9 hn => ?held⟩
  · rw [hvset]; exact Tri.get_set_self _ _ _
  · rw [hvset]; exact Tri.get_set_ne _ _ _ _ hx
  · rw [hdrive]; rfl
  · rw [hdrive]; rfl
  · rw [hgdc]; rfl
  case shown => exact (Lane.goState_rd hne _ (by decide)).trans (Lane.fenceRecorded_cause _ l cause hcause)
  case total =>
    have hword := l.snuffLeaving_word cause announce (XLA.FENCE_STATUS_TOTAL.at_ 0 0) (by decide) (by decide)
    have hrec := Lane.fenceRecorded_total (l.snuffLeaving cause announce) l cause
    rw [Lane.rd_eq_of_word_eq l _ _ 0 0 hword] at hrec
    exact (Lane.goState_rd hne _ (by decide)).trans hrec
  case ccn => exact (Lane.goState_rd hne _ (by decide)).trans (Lane.fenceRecorded_ccn _ l cause)
  case sent =>
    rw [← l.snuffLeaving_sent cause announce hsent, ← hout]
    exact exists_congr fun hd => Lane.goState_control hne hd _
  case mem => exact (Lane.goState_mem hne).trans ((congrArg Lane.mem hr).trans (l.snuffLeaving_mem cause announce))
  case held =>
    have hc : causeCounted cause = true := by simp [causeCounted, h1, h9]
    have hlen : 3 ≤ (l.fencesAfter cause).length := by rw [Lane.fencesAfter, if_pos hc, List.length_cons]; omega
    have hperm : ((l.leaving cause announce).goState .fenced).on XLA.FENCE_STATUS_PERMANENT = true := by
      have hrd : ((l.leaving cause announce).goState .fenced).rd XLA.FENCE_STATUS_PERMANENT = (l.leaving cause announce).rd XLA.FENCE_STATUS_PERMANENT :=
        Lane.goState_rd hne _ (by decide)
      rw [Lane.on, hrd]
      exact Lane.fenceRecorded_permanent (l.snuffLeaving cause announce) l cause hc hlen
    rw [Lane.heldFenced, hperm]
    rfl

end Sys2Proof.Machine
end

section
/-!
PROOFS. The drive enable (R328): a request is handed on by its opcode alone, and granted only where every condition holds; the statement
DriveEnableNeedsItsConditions (O51). A Wick data frame that arrives (R407 to R410): WickFramesAreTakenOnlyWhenValid (O54).
-/
namespace Sys2Proof.Machine

open Sys2Proof

theorem Lane.refuseEnable_sfu (l : Lane) (img : CmdImage) (r : Nat) : (l.refuseEnable img r).sfu = l.sfu :=
  (Lane.finish_keeps _ img false 8 r 0).1.trans (l.sysRecord_keeps _ _).1

/-- A request that the opcode hands on is that of its own image, with ARG0 0 or 1, in a part that drives and lets PWM run. -/
theorem Lane.driveEnable_ask {l : Lane} {img i : CmdImage} {re : Bool} (h0 : l.sfu.ask = none) (h : (l.driveEnable img).sfu.ask = some (re, i)) :
    i = img ∧ l.otp.drives = true ∧ l.runsPwm = true ∧ (img.args.getD 0 0).toNat = re.toNat := by
  simp only [Lane.driveEnable] at h
  split at h
  · rw [Lane.refuseEnable_sfu, h0] at h
    cases h
  · next hok =>
    simp only [Bool.or_eq_true, Bool.not_eq_true', decide_eq_true_eq, not_or, Bool.not_eq_false, not_le] at hok
    obtain ⟨⟨hdrives, hpwm⟩, harg⟩ := hok
    obtain ⟨rfl, rfl⟩ : decide ((img.args.getD 0 0).toNat = 1) = re ∧ img = i := by simpa using h
    refine ⟨rfl, hdrives, hpwm, ?_⟩
    obtain h0 | h1 : (img.args.getD 0 0).toNat = 0 ∨ (img.args.getD 0 0).toNat = 1 := by omega
    · rw [h0]; rfl
    · rw [h1]; rfl

/-- The mode that condition 1 of R328 leads to: out of SNUFFED, with at most one twin lane and the healthy lanes of the mode. -/
theorem Lane.enableMode_eq_inr {l : Lane} {re : Bool} {m : SysMode} (h : l.enableMode re = .inr m) :
    l.xla.mode = .snuffed ∧ (if re then l.sfu.cmdStop && l.sfu.still else l.sfu.fromReset) = true ∧ l.twinCount ≤ 1 ∧
    ((m = .triplex ∧ l.healthySet.members.length = 3) ∨
      (m = .duplex ∧ l.healthySet.members.length = 2 ∧ l.on SFU.CFG_DUPLEX_START = true)) := by
  simp only [Lane.enableMode] at h
  generalize (if re then l.sfu.cmdStop && l.sfu.still else l.sfu.fromReset) = source at h ⊢
  split at h
  · cases h
  · next hfrom =>
    simp only [Bool.or_eq_true, Bool.not_eq_true', decide_eq_true_eq, not_or, Bool.not_eq_false, not_le, Bool.and_eq_true] at hfrom
    obtain ⟨⟨hmode, hsource⟩, htwin⟩ := hfrom
    refine ⟨hmode, hsource, by omega, ?_⟩
    split at h
    · next h3 => cases h; exact .inl ⟨rfl, h3⟩
    · split at h
      · next h2 =>
        split at h
        · next hdup => cases h; exact .inr ⟨rfl, h2, hdup⟩
        · cases h
      · cases h

/-- No condition of R328 after the first is unmet. -/
theorem Lane.enableUnmet_eq_zero {l : Lane} (h : l.enableUnmet = 0) :
    (l.sfu.confirmed || l.sfu.session || l.otp.openDev) = true ∧
    (l.inputDemand 1 || l.inputDemand 2 || l.sfu.soWord.getLsbD 6 || l.sfu.soWord.getLsbD 7 || l.faultDemand 0 || l.faultDemand 1 ||
      l.sfu.hostSs1 || l.sfu.hostSto) = false ∧
    l.sfu.still = true ∧ (l.sfu.slpActive && !l.posInside) = false := by
  unfold Lane.enableUnmet at h
  split at h
  · cases h
  next hconf =>
  split at h
  · cases h
  next hdemand =>
  split at h
  · cases h
  next hstill =>
  split at h
  · cases h
  next hpos => exact ⟨Bool.of_not_eq_false fun hnone => hconf (congrArg Bool.not hnone), Bool.eq_false_iff.mpr hdemand, by simpa using hstill, Bool.eq_false_iff.mpr hpos⟩

/-- A request that is judged is granted with the mode of condition 1 when every other condition is met, and refused otherwise. -/
theorem Lane.judgeEnable_enable {l : Lane} {m : SysMode} (h0 : l.sfu.enable = none) (h : l.judgeEnable.sfu.enable = some m) :
    ∃ re img, l.sfu.ask = some (re, img) ∧ l.enableMode re = .inr m ∧ l.enableUnmet = 0 := by
  have hrefused : ∀ img r, (({ l with sfu := { l.sfu with ask := none } } : Lane).refuseEnable img r).sfu.enable = none := fun img r =>
    (congrArg Sfu.enable (Lane.refuseEnable_sfu _ img r)).trans h0
  unfold Lane.judgeEnable at h
  split at h
  · next re img hask =>
    refine ⟨re, img, hask, ?_⟩
    dsimp only at h
    split at h
    · rw [hrefused] at h; cases h
    · next m' hmode =>
      split at h
      · rw [hrefused] at h; cases h
      · next hunmet =>
        rw [(Lane.finish_keeps _ img false 0 0 0).1, (Lane.sysRecord_keeps _ _ _).1] at h
        cases h
        exact ⟨hmode, not_not.mp hunmet⟩
  · rw [h0] at h; cases h

/-- Settles O51: the opcode hands on its own request, and what is granted passed the mode's condition and every other. -/
theorem driveEnableNeedsItsConditions : Obligations.DriveEnableNeedsItsConditions := by
  refine ⟨fun l img i re h0 h => Lane.driveEnable_ask h0 h, fun l m => ?_⟩
  intro n h0 h
  obtain ⟨re, img, hask, hmode, hunmet⟩ := Lane.judgeEnable_enable (l := n) h0 h
  obtain ⟨hsnuffed, hsource, htwin, hlanes⟩ := Lane.enableMode_eq_inr hmode
  obtain ⟨hconf, hdemands, hstill, hpos⟩ := Lane.enableUnmet_eq_zero hunmet
  simp only [Bool.or_eq_false_iff] at hdemands
  obtain ⟨⟨⟨⟨⟨⟨⟨h1, h2⟩, h6⟩, h7⟩, hf0⟩, hf1⟩, hss1⟩, hsto⟩ := hdemands
  refine ⟨re, img, hask, hsnuffed, hstill, htwin, ?reset, ?stop, ?confirmed, h1, h2, hf0, hf1, h6, h7, hss1, hsto, ?position, hlanes⟩
  case reset => rintro rfl; exact hsource
  case stop => rintro rfl; exact (Bool.and_eq_true_iff.mp hsource).1
  case confirmed => simpa [or_assoc] using hconf
  case position => intro hact; simpa [hact] using hpos

/-! ### Frames of the Wick network (R407 to R410) -/

/-- The lane m has the Wick buffers of l, whatever it noted of the frames it heard, and has sent what l has. -/
def Lane.wickKeeps (l m : Lane) : Prop :=
  m.wck.arrived = l.wck.arrived ∧ m.wck.pub = l.wck.pub ∧ m.wck.atStart = l.wck.atStart ∧ m.wck.buf = l.wck.buf ∧ m.wck.snap = l.wck.snap ∧
    m.out = l.out

theorem Lane.wickKeeps.trans {l m n : Lane} (h : l.wickKeeps m) (k : m.wickKeeps n) : l.wickKeeps n := by
  obtain ⟨h1, h2, h3, h4, h5, h6⟩ := h
  obtain ⟨k1, k2, k3, k4, k5, k6⟩ := k
  exact ⟨k1.trans h1, k2.trans h2, k3.trans h3, k4.trans h4, k5.trans h5, k6.trans h6⟩

theorem Lane.missed_wickKeeps (l : Lane) (f : WickFrame) :
    l.wickKeeps ((l.bump WCK.MISSED_HI (f.dir % 2)).netCount (4 + f.dir % 2)) := by
  simp -implicitDefEqProofs [Lane.wickKeeps, Lane.netCount]

theorem Lane.noteFrame_wickKeeps (l : Lane) (port : Nat) (f : WickFrame) : l.wickKeeps (l.noteFrame port f) := by
  unfold Lane.noteFrame
  split
  · exact ⟨rfl, rfl, rfl, rfl, rfl, rfl⟩
  · dsimp only
    split <;> exact ⟨rfl, rfl, rfl, rfl, rfl, rfl⟩

theorem Lane.forwardWick_wck (l : Lane) (f : WickFrame) : (l.forwardWick f).wck = l.wck := by
  unfold Lane.forwardWick
  split <;> rfl

theorem Lane.forwardWick_out (l : Lane) (f : WickFrame) :
    (l.forwardWick f).out = l.out ∨ 1 < f.hops ∧ (l.forwardWick f).out = .wick (f.dir % 2) { f with hops := f.hops - 1 } :: l.out := by
  unfold Lane.forwardWick
  split
  · next h => exact .inr ⟨of_decide_eq_true (Bool.and_eq_true_iff.mp h).1, rfl⟩
  · exact .inl rfl

/-- A frame that arrives is not heard, is noted, is counted as missed, or, inside its own window, is forwarded and taken. -/
theorem Lane.wickArrive_cases (l : Lane) (port : Nat) (f : WickFrame) (own : Bool) (take : Lane → Lane) :
    l.wickKeeps (l.wickArrive port f own take) ∨
    (own = true ∧ f.node ≠ l.rd WCK.CFG_NODE ∧ l.isWick f.toEthHdr = true ∧
      l.wickArrive port f own take = take ((l.noteFrame port f).forwardWick f)) := by
  have hnote := l.noteFrame_wickKeeps port f
  unfold Lane.wickArrive
  split
  · next hruns =>
    dsimp only
    split
    · exact .inl hnote
    · next hnode =>
      split
      · exact .inl (hnote.trans (Lane.missed_wickKeeps _ f))
      · split
        · next hown => exact .inr ⟨hown, hnode, (Bool.and_eq_true_iff.mp hruns).2, rfl⟩
        · exact .inl hnote
  · exact .inl ⟨rfl, rfl, rfl, rfl, rfl, rfl⟩

/-- A data frame that is taken changes the frames that await publication alone. -/
theorem Lane.takeData_keeps (l : Lane) (port : Nat) (f : WickFrame) :
    (l.takeData port f).wck.pub = l.wck.pub ∧ (l.takeData port f).wck.atStart = l.wck.atStart ∧ (l.takeData port f).wck.buf = l.wck.buf ∧
    (l.takeData port f).wck.snap = l.wck.snap ∧ (l.takeData port f).out = l.out := by
  simp -implicitDefEqProofs [Lane.takeData, Lane.netCount]

/-- What WICK_DATA_FRAME does with a frame inside its window: a valid data frame is taken, another is not. -/
def Lane.takeIfValid (n : Lane) (port : Nat) (f : WickFrame) (m : Lane) : Lane :=
  if n.dataValid f && decide (f.kind = 0) then m.takeData port f else m

theorem Lane.takeIfValid_keeps (n m : Lane) (port : Nat) (f : WickFrame) :
    (n.dataValid f = false ∨ f.kind ≠ 0 → (n.takeIfValid port f m).wck.arrived = m.wck.arrived) ∧
    (n.takeIfValid port f m).wck.pub = m.wck.pub ∧ (n.takeIfValid port f m).wck.atStart = m.wck.atStart ∧
    (n.takeIfValid port f m).wck.buf = m.wck.buf ∧ (n.takeIfValid port f m).wck.snap = m.wck.snap ∧ (n.takeIfValid port f m).out = m.out := by
  unfold Lane.takeIfValid
  split
  · next h =>
    obtain ⟨hvalid, hkind⟩ := Bool.and_eq_true_iff.mp h
    refine ⟨fun hno => ?_, m.takeData_keeps port f⟩
    obtain hno | hno := hno
    · rw [hno] at hvalid; cases hvalid
    · exact absurd (of_decide_eq_true hkind) hno
  · exact ⟨fun _ => rfl, rfl, rfl, rfl, rfl, rfl⟩

/-- Settles O54: only a frame inside its window reaches the branch that forwards it, and only a valid data frame is taken there. -/
theorem wickFramesAreTakenOnlyWhenValid : Obligations.WickFramesAreTakenOnlyWhenValid := by
  intro s t' l t port f hexec n v inside
  have ht' : t' = s.setLane l (n.wickArrive (port % 2) f inside (n.takeIfValid (port % 2) f)) := (Host.Outcome.next.inj hexec).symm
  have hv : v = { n.wickArrive (port % 2) f inside (n.takeIfValid (port % 2) f) with id := l } := by
    rw [← State.setLane_lane s l, ← ht']
  have hwck : v.wck = (n.wickArrive (port % 2) f inside (n.takeIfValid (port % 2) f)).wck := by rw [hv]
  have hsent : v.out = (n.wickArrive (port % 2) f inside (n.takeIfValid (port % 2) f)).out := by rw [hv]
  rw [hwck, hsent]
  obtain ⟨harr, hpub, hstart, hbuf, hsnap, hout⟩ | ⟨hown, hnode, hwick, htaken⟩ :=
    n.wickArrive_cases (port % 2) f inside (n.takeIfValid (port % 2) f)
  · exact ⟨fun _ => harr, hpub, hstart, hbuf, hsnap, .inl hout, fun _ => hout⟩
  · obtain ⟨harr, hpub, hstart, hbuf, hsnap, hout⟩ := n.noteFrame_wickKeeps (port % 2) f
    obtain ⟨karr, kpub, kstart, kbuf, ksnap, kout⟩ := n.takeIfValid_keeps ((n.noteFrame (port % 2) f).forwardWick f) (port % 2) f
    have hforward := (n.noteFrame (port % 2) f).forwardWick_out f
    rw [Lane.forwardWick_wck] at karr kpub kstart kbuf ksnap
    rw [htaken, kout]
    rw [hout] at hforward
    refine ⟨fun h => (karr ?_).trans harr, kpub.trans hpub, kstart.trans hstart, kbuf.trans hbuf, ksnap.trans hsnap,
      hforward.imp_right And.right, fun h => ?_⟩
    · exact h.resolve_left (by rw [hown]; exact Bool.noConfusion)
    · obtain hkept | ⟨hhops, -⟩ := hforward
      · exact hkept
      · obtain h | h | h | h := h
        · rw [hown] at h; cases h
        · exact absurd h hnode
        · omega
        · rw [hwick] at h; cases h

end Sys2Proof.Machine
end

section
/-!
PROOFS. The phases of the control cycle and the cycle start: CyclePhasesComplete (O10) and CycleStartCompletes (O11).
-/
namespace Sys2Proof.Machine

open Sys2Proof

theorem ite_of_eq_false {α : Sort*} {b : Bool} {x y : α} (h : b = false) : (if b then x else y) = y := if_neg (Bool.eq_false_iff.mp h)

/-- Settles O10: each phase's command is the branch of its condition. -/
theorem cyclePhasesComplete : Obligations.CyclePhasesComplete := by
  refine ⟨?vector, ?agreement, ?sources, ?safety, ?deadline, ?exchange, fun s l => rfl, ?status⟩
  case vector => exact fun s l => ⟨fun h => .of_eq rfl (if_pos h), fun h => .of_eq rfl (ite_of_eq_false h)⟩
  case agreement => exact fun s l => ⟨fun h => .of_eq rfl (if_pos h), fun h => .of_eq rfl (ite_of_eq_false h)⟩
  case sources =>
    intro s l n n1
    refine ⟨fun hc hr => .of_eq rfl ((if_pos hc).trans ?_), fun hc hr => .of_eq rfl ((if_pos hc).trans ?_), fun hc => .of_eq rfl (ite_of_eq_false hc)⟩
    · change (slowFlows.foldl (fun (m : Lane) f => m.slowInject n.flowsRest f) (if n.flowsRest then n1 else n1.activate 0 n.ccn n.ccn)).pump = _
      rw [hr]
      rfl
    · change (slowFlows.foldl (fun (m : Lane) f => m.slowInject n.flowsRest f) (if n.flowsRest then n1 else n1.activate 0 n.ccn n.ccn)).pump = _
      rw [hr]
      rfl
  case safety => exact fun s l => ⟨fun h => .of_eq rfl (Lane.gated_of_on _ _ _ h), fun h => .of_eq rfl (Lane.gated_of_off _ _ _ h)⟩
  case deadline =>
    intro s l n
    refine ⟨fun a ha ⟨hplaced, hlive⟩ => .of_eq rfl ?_, fun a ha h => .of_eq rfl ?_, fun hnone => .of_eq rfl ?_⟩
    · rw [ha]
      exact if_pos (by rw [hplaced, hlive]; rfl)
    · rw [ha]
      refine ite_of_eq_false ?_
      obtain h | h := h
      · rw [h]; rfl
      · rw [h]; exact Bool.and_false _
    · rw [hnone]
  case exchange =>
    intro s l n n1
    refine ⟨fun a hc ha hlive => .of_eq rfl ((if_pos hc).trans ?_), fun a hc ha hdead => .of_eq rfl ((if_pos hc).trans ?_),
      fun hc hnone => .of_eq rfl ((if_pos hc).trans ?_), fun hc => .of_eq rfl (ite_of_eq_false hc)⟩
    · rw [ha]
      exact ite_of_eq_false hlive
    · rw [ha]
      exact if_pos hdead
    · rw [hnone]; rfl
  case status =>
    intro s l n
    exact ⟨fun h => ⟨_, .of_eq rfl (if_pos h), rfl, rfl⟩, fun h => .of_eq rfl (ite_of_eq_false h)⟩

/-- Settles O11: the branches of the cycle start, of the close of an episode and of the expiry, each taken under its condition. -/
theorem cycleStartCompletes : Obligations.CycleStartCompletes := by
  refine ⟨?start, fun s l t h => .of_eq rfl (if_pos h), fun s l t h => .of_eq rfl (ite_of_eq_false h), ?expiry, ?unmet⟩
  case start =>
    intro s l rb0 rb1 n
    refine ⟨fun hoff hsilent hopen => .of_eq rfl ?_, fun target hoff hsilent hacc hshown => .of_eq rfl ?_, fun h => .of_eq rfl ?_⟩
    · have hruns : (decide (n.own = .off) || n.sec.silent) = false := by rw [decide_eq_false hoff, hsilent]; rfl
      rw [Lane.cycleStart, ite_of_eq_false hruns]
      obtain hnone | hunshown := hopen
      · rw [hnone]
      · rw [hunshown]
        cases n.pmu.accepted <;> rfl
    · have hruns : (decide (n.own = .off) || n.sec.silent) = false := by rw [decide_eq_false hoff, hsilent]; rfl
      rw [Lane.cycleStart, ite_of_eq_false hruns, hacc, hshown]
    · refine if_pos ?_
      obtain hoff | hsilent := h
      · rw [decide_eq_true hoff]; rfl
      · rw [hsilent]; exact Bool.or_true _
  case expiry =>
    intro s l t t0 n hd hm hll
    refine ⟨fun h => .of_eq rfl ?_, fun h => .of_eq rfl ?_⟩
    · rw [Lane.gated_of_on _ _ _ hd, hm, hll]
      exact if_pos h
    · rw [Lane.gated_of_on _ _ _ hd, hm, hll]
      exact if_neg h.not_ge
  case unmet =>
    intro s l t n h
    refine .of_eq rfl ?_
    cases hd : n.domOn 6
    · exact Lane.gated_of_off _ _ _ hd
    · rw [Lane.gated_of_on _ _ _ hd]
      obtain h | h | h := h
      · rw [hd] at h; cases h
      · split
        · next hm _ => exact absurd hm h
        · rfl
      · rw [h]
        cases n.xla.mode <;> rfl

end Sys2Proof.Machine
end

section
/-!
PROOFS. What arrives on the links: agreement and output frames (FramesReceivedComplete, O13), the control messages of R102 that are valid at
their receiver (ControlMessagesComplete, O14) and those that are not (InvalidControlMessagesAreDiscarded, O15).
-/
namespace Sys2Proof.Machine

open Sys2Proof

/-! ### Agreement frames -/

section
variable {l : Lane} (h : l.own = .standby ∨ l.own = .authority)
include h

/-- What a lane that runs keeps of a peer's shown state: its agreement state alone changes, and of that neither the frames, the lanes heard, the
twin bits nor the mode. -/
theorem Lane.report_of_running (x : LaneId) (code : Nat) : ∃ lst lost donor adm, l.report x code =
    l.onXla (fun q => { q with lst := lst, lostNow := lost, donorTo := donor, admitted := adm }) ∧ lst.get l.id = l.xla.lst.get l.id := by
  have hpeer : ∀ st, ∃ lst lost donor adm, l.setPeer x st =
      l.onXla (fun q => { q with lst := lst, lostNow := lost, donorTo := donor, admitted := adm }) ∧ lst.get l.id = l.xla.lst.get l.id := by
    intro st
    unfold Lane.setPeer
    split
    · exact ⟨_, _, _, _, rfl, rfl⟩
    · next hx =>
      have hown : (l.xla.lst.set x st).get l.id = l.xla.lst.get l.id := Tri.get_set_ne _ _ _ _ (Ne.symm hx)
      refine ⟨l.xla.lst.set x st, _, _, _, (ite_eq_right_iff.mpr fun _ => ?_), hown⟩
      refine ite_of_eq_false ?_
      rw [Lane.own, Lane.onXla_xla, Lane.onXla_id, hown, ← Lane.own]
      obtain h | h := h <;> rw [h] <;> rfl
  unfold Lane.report
  dsimp only
  split
  · exact ⟨_, _, _, _, rfl, rfl⟩
  · exact hpeer _

theorem Lane.follow_of_running (f : AgreeFrame) : l.follow f = l := by
  unfold Lane.follow
  obtain h | h := h <;> simp [h]

end

section
variable (s : State) (l : LaneId) (t link : Nat)

theorem completes_agreementFrame (f : AgreeFrame) (hup : ((s.lane l).atTick t).linkUp link = true) (hcrc : f.crcOk = true) (htype : f.type = 1)
    (hccn : f.ccn = ((s.lane l).atTick t).ccn) (hown : ((s.lane l).atTick t).own ≠ .sync) : Completes (.agreementFrame l t link f) s l
      ((((s.lane l).atTick t).hear link).takeAgree (((s.lane l).atTick t).peerOf link) f) := by
  refine .of_eq rfl ((ite_of_eq_false (congrArg Bool.not hup)).trans ((ite_of_eq_false ?_).trans (if_pos ?_)))
  · rw [decide_eq_false hown, Bool.and_false, Bool.false_and]
  · rw [hcrc, decide_eq_true htype, decide_eq_true hccn]
    rfl

theorem completes_outputFrame (f : OutFrame) (hup : ((s.lane l).atTick t).linkUp link = true) (hcrc : f.crcOk = true) (htype : f.type = 2)
    (hccn : f.ccnLo = ((s.lane l).atTick t).ccn.setWidth 8) {v : Lane}
    (hv : (if ((s.lane l).atTick t).tick ≤ 3210 then (((s.lane l).atTick t).hear link).onXla fun x =>
        { x with oframe := x.oframe.set (((s.lane l).atTick t).peerOf link) (some f) } else ((s.lane l).atTick t).hear link) = v) :
    Completes (.outputFrame l t link f) s l v := by
  refine .of_eq rfl ((ite_of_eq_false (congrArg Bool.not hup)).trans ((if_pos ?_).trans hv))
  rw [hcrc, decide_eq_true htype, decide_eq_true hccn]
  rfl

end

/-- An agreement frame that came in time is kept as its sender's, with its twin bit; the rest of the lane's frames, its mode, registers and
memories stay. -/
theorem Lane.takeAgree_of_running {l : Lane} (h : l.own = .standby ∨ l.own = .authority) (x : LaneId) (f : AgreeFrame) (ht : l.tick ≤ 1620)
    (hleft : l.leftOut f = false) :
    (l.takeAgree x f).xla.aframe = l.xla.aframe.set x (some f) ∧ (l.takeAgree x f).xla.linkHeard = l.xla.linkHeard ∧
    (l.takeAgree x f).xla.twins = l.xla.twins.set x f.twin ∧ (l.takeAgree x f).xla.oframe = l.xla.oframe ∧
    (l.takeAgree x f).xla.mode = l.xla.mode ∧ (l.takeAgree x f).regs = l.regs ∧ (l.takeAgree x f).mem = l.mem := by
  obtain ⟨lst, lost, donor, adm, hrep, hown⟩ := Lane.report_of_running h x f.lstate
  have hnot : ¬ (l.tick ≤ 1620 ∧ l.leftOut f = true) := fun hl => Bool.eq_false_iff.mp hleft hl.2
  rw [Lane.takeAgree, if_neg hnot, if_pos ht, hrep, Lane.follow_of_running]
  · exact ⟨rfl, rfl, rfl, rfl, rfl, rfl, rfl⟩
  · change lst.get l.id = _ ∨ lst.get l.id = _
    rwa [hown]

/-- Settles O13: the branches of the two frames' reception. -/
theorem framesReceivedComplete : Obligations.FramesReceivedComplete := by
  refine ⟨?kept, ?leftOut, ?taken, ?sync, ?invalid, ?down, ?output, ?late, ?badOutput, ?outputDown⟩
  case kept =>
    intro s l t link f n x hup hcrc htype hccn hrun ht hleft
    have hsync : n.own ≠ .sync := by obtain h | h := hrun <;> rw [h] <;> exact LaneState.noConfusion
    have htick : (n.hear link).tick ≤ 1620 := by rwa [← Lane.atTick_tick (s.lane l) t] at ht
    obtain ⟨hframe, hheard, htwin, hout, hmode, hregs, hmem⟩ := Lane.takeAgree_of_running (l := n.hear link) hrun x f htick hleft
    refine ⟨_, completes_agreementFrame s l t link f hup hcrc htype hccn hsync, ?_, ?_, ?_, hout, hmode, hregs, hmem⟩
    · exact (congrArg (Tri.get · x) hframe).trans (Tri.get_set_self _ _ _)
    · exact (congrArg (Tri.get · x) hheard).trans (Tri.get_set_self _ _ _)
    · exact (congrArg (Tri.get · x) htwin).trans (Tri.get_set_self _ _ _)
  case leftOut =>
    intro s l t link f n x hup hcrc htype hccn hrun ht hleft
    have hsync : n.own ≠ .sync := by obtain h | h := hrun <;> rw [h] <;> exact LaneState.noConfusion
    have htick : (n.hear link).tick ≤ 1620 := by rwa [← Lane.atTick_tick (s.lane l) t] at ht
    have htake : (n.hear link).takeAgree x f = ((((n.hear link).report x f.lstate).onXla fun q => { q with twins := q.twins.set x f.twin }).onXla
        fun q => { q with aframe := q.aframe.set x (some f) }).ownFence 0x1E 0x4 (BitVec.ofNat 32 n.id.code) false := by
      rw [Lane.takeAgree, if_pos ⟨htick, hleft⟩, if_pos htick]
      rfl
    exact htake ▸ completes_agreementFrame s l t link f hup hcrc htype hccn hsync
  case taken => exact fun s l t link f => completes_agreementFrame s l t link f
  case sync =>
    intro s l t link f n hup hcrc htype hown hst
    refine .of_eq rfl ((ite_of_eq_false (congrArg Bool.not hup)).trans (if_pos ?_))
    rw [hcrc, decide_eq_true htype, decide_eq_true hown, decide_eq_true hst]
    rfl
  case invalid =>
    intro s l t link f n hup h
    refine .of_eq rfl ((ite_of_eq_false (congrArg Bool.not hup)).trans ((ite_of_eq_false ?_).trans (ite_of_eq_false ?_)))
    · obtain h | h | ⟨-, h | h⟩ := h
      · rw [h]; rfl
      · rw [decide_eq_false h, Bool.and_false, Bool.false_and, Bool.false_and]
      · rw [decide_eq_false h, Bool.and_false, Bool.false_and]
      · rw [decide_eq_false h, Bool.and_false]
    · obtain h | h | ⟨h, -⟩ := h
      · rw [h]; rfl
      · rw [decide_eq_false h, Bool.and_false, Bool.false_and]
      · rw [decide_eq_false h, Bool.and_false]
  case down => exact fun s l t link f h => .of_eq rfl (if_pos (congrArg Bool.not h))
  case output =>
    intro s l t link f n x hup hcrc htype hccn ht
    have htick : n.tick ≤ 3210 := by rwa [← Lane.atTick_tick (s.lane l) t] at ht
    exact completes_outputFrame s l t link f hup hcrc htype hccn (if_pos htick)
  case late =>
    intro s l t link f n x hup hcrc htype hccn ht
    have htick : ¬ n.tick ≤ 3210 := by rw [← Lane.atTick_tick (s.lane l) t] at ht; exact ht.not_ge
    exact completes_outputFrame s l t link f hup hcrc htype hccn (if_neg htick)
  case badOutput =>
    intro s l t link f n hup h
    refine .of_eq rfl ((ite_of_eq_false (congrArg Bool.not hup)).trans (ite_of_eq_false ?_))
    obtain h | h | h := h
    · rw [h]; rfl
    · rw [decide_eq_false h, Bool.and_false, Bool.false_and]
    · rw [decide_eq_false h, Bool.and_false]
  case outputDown => exact fun s l t link f h => .of_eq rfl (if_pos (congrArg Bool.not h))

/-! ### Control messages -/

theorem Lane.control_of_ok {l : Lane} {code link : Nat} {h : CtlHdr} (f : LaneId → Lane → Lane) (hup : l.linkUp link = true)
    (hok : l.ctlOk code h = true) : l.control code link h f = f (l.peerOf link) (l.hear link) :=
  (ite_of_eq_false (congrArg Bool.not hup)).trans (if_pos hok)

theorem Lane.control_of_bad {l : Lane} {code link : Nat} {h : CtlHdr} (f : LaneId → Lane → Lane) (hup : l.linkUp link = true)
    (hok : l.ctlOk code h = false) : l.control code link h f = l.discardFrame link :=
  (ite_of_eq_false (congrArg Bool.not hup)).trans (ite_of_eq_false hok)

theorem Lane.control_of_down {l : Lane} {code link : Nat} {h : CtlHdr} (f : LaneId → Lane → Lane) (hup : l.linkUp link = false) :
    l.control code link h f = l := if_pos (congrArg Bool.not hup)

/-- Settles O14: each message does what its kind does to the lane that has heard its sender. -/
theorem controlMessagesComplete : Obligations.ControlMessagesComplete := by
  intro s l t link h n x hup
  refine ⟨?same, ?changed, ?fence, ?claim, ?noClaim, ?move, ?noMove, ?ready, ?image, ?known, ?start, ?noStart⟩
  case same =>
    intro m hok hmode hst
    refine .of_eq rfl ((Lane.control_of_ok _ hup hok).trans (ite_of_eq_false ?_))
    exact Bool.or_eq_false_iff.mpr ⟨decide_eq_false (not_not.mpr hmode), decide_eq_false (not_not.mpr hst)⟩
  case changed =>
    intro m hok h
    refine .of_eq rfl ((Lane.control_of_ok _ hup hok).trans (if_pos ?_))
    exact Bool.or_eq_true_iff.mpr (h.imp decide_eq_true decide_eq_true)
  case fence => exact fun cause hok => .of_eq rfl (Lane.control_of_ok _ hup hok)
  case claim => exact fun named hok hm => .of_eq rfl ((Lane.control_of_ok _ hup hok).trans (if_pos hm))
  case noClaim => exact fun named hok hm => .of_eq rfl ((Lane.control_of_ok _ hup hok).trans (ite_of_eq_false hm))
  case move =>
    intro target at_ q hok hmove htarget hat
    refine .of_eq rfl ((Lane.control_of_ok _ hup hok).trans ?_)
    have hmove' : (n.hear link).xla.move = some q := hmove
    rw [hmove']
    exact if_pos ⟨htarget, hat⟩
  case noMove =>
    intro target at_ hok hno
    refine .of_eq rfl ((Lane.control_of_ok _ hup hok).trans ?_)
    cases hmove : (n.hear link).xla.move with
    | none => rfl
    | some q => exact if_neg fun hq => (hno q hmove).elim (· hq.1) (· hq.2)
  case ready => exact fun at_ tag hok => .of_eq rfl (Lane.control_of_ok _ hup hok)
  case image => exact fun img hok hk => .of_eq rfl ((Lane.control_of_ok _ hup hok).trans (ite_of_eq_false hk))
  case known => exact fun img hok hk => .of_eq rfl ((Lane.control_of_ok _ hup hok).trans (if_pos hk))
  case start =>
    intro start hok hown hel
    refine .of_eq rfl ((Lane.control_of_ok _ hup hok).trans (if_pos ?_))
    exact Bool.and_eq_true_iff.mpr ⟨decide_eq_true hown, decide_eq_true hel⟩
  case noStart =>
    intro start hok h
    refine .of_eq rfl ((Lane.control_of_ok _ hup hok).trans (ite_of_eq_false ?_))
    exact Bool.and_eq_false_iff.mpr (h.imp (fun h => decide_eq_false h) fun h => decide_eq_false h)

theorem Lane.ctlOk_eq_false {l : Lane} {code : Nat} {h : CtlHdr}
    (hbad : h.crcOk code = false ∨ h.type ≠ 3 ∨ (h.ccn ≠ l.ccn ∧ l.unsynced = false) ∨ (h.dest ≠ 3 ∧ h.dest ≠ l.id.code)) :
    l.ctlOk code h = false := by
  unfold Lane.ctlOk
  obtain hcrc | htype | ⟨hccn, hsync⟩ | ⟨hall, hme⟩ := hbad
  · rw [hcrc]; rfl
  · rw [decide_eq_false htype, Bool.and_false, Bool.false_and, Bool.false_and]
  · rw [decide_eq_false hccn, hsync, Bool.or_false, Bool.and_false, Bool.false_and]
  · rw [decide_eq_false hall, decide_eq_false hme, Bool.or_false, Bool.and_false]

/-- Settles O15: every control message goes through the same check of its frame. -/
theorem invalidControlMessagesAreDiscarded : Obligations.InvalidControlMessagesAreDiscarded := by
  intro s l t link h n c code hc
  obtain ⟨f, hexec⟩ : ∃ f, exec c s = .next (s.setLane l (n.control code link h f)) := by
    obtain ⟨_, rfl, rfl⟩ | ⟨_, rfl, rfl⟩ | ⟨_, rfl, rfl⟩ | ⟨_, _, rfl, rfl⟩ | ⟨_, _, rfl, rfl⟩ | ⟨_, rfl, rfl⟩ | ⟨rfl, rfl⟩ | ⟨_, _, rfl, rfl⟩ |
      ⟨_, _, rfl, rfl⟩ | ⟨_, rfl, rfl⟩ := hc
    all_goals exact ⟨_, rfl⟩
  exact ⟨fun hup hbad => .of_eq hexec (Lane.control_of_bad f hup (Lane.ctlOk_eq_false hbad)), fun hdown => .of_eq hexec (Lane.control_of_down f hdown)⟩

end Sys2Proof.Machine
end

section
/-!
PROOFS. Commits, agreed commands and the initial start (AuthorityAndStartComplete, O16), joining and the state transfer
(JoinAndTransferComplete, O17), markers, pulses and links (MarkersAndLinksComplete, O18).
-/
namespace Sys2Proof.Machine

open Sys2Proof

/-- Settles O16: the branch of each command that its conditions select. -/
theorem authorityAndStartComplete : Obligations.AuthorityAndStartComplete := by
  refine ⟨?move, ?commit, ?dropped, ?agreed, ?timeout, ?decision, ?start⟩
  case move =>
    intro s l m n hmove hat hrun
    refine .of_eq rfl ?_
    rw [hmove]
    exact if_pos (by rw [decide_eq_true hat, hrun]; rfl)
  case commit =>
    intro s l r n n1 hcommit hrun
    have hstart : n.commitStart = if r.stepped then (if n.ccn = r.m + 1 then n.commitDone r else n)
        else if n.ccn = r.m then
          (if n.commitVerdict r ≠ 0 then
            ((n.onHif fun h => { h with commit := none }).settleSwitch false).commitFails r.img (n.commitVerdict r)
          else if r.twoStep then ((n1.applyStep1 n.stage.cfg).onXla fun x => { x with commitHold := true }).onHif fun h =>
            { h with commit := some { r with stepped := true } }
          else n1.commitDone r)
        else n := by
      rw [Lane.commitStart, hcommit]
      exact ite_of_eq_false (congrArg Bool.not hrun)
    refine ⟨fun hs hm htwo hv => .of_eq rfl (hstart.trans ?_), fun hs hm htwo hv => .of_eq rfl (hstart.trans ?_),
      fun hs hm => .of_eq rfl (hstart.trans ?_), fun hs hm hv => .of_eq rfl (hstart.trans ?_)⟩
    · rw [ite_of_eq_false hs, if_pos hm, if_neg (not_not.mpr hv), ite_of_eq_false htwo]
    · rw [ite_of_eq_false hs, if_pos hm, if_neg (not_not.mpr hv), if_pos htwo]
    · rw [if_pos hs, if_pos hm]
    · rw [ite_of_eq_false hs, if_pos hm, if_pos hv]
  case dropped =>
    intro s l r n hcommit hrun
    refine .of_eq rfl ?_
    rw [Lane.commitStart, hcommit]
    exact if_pos (congrArg Bool.not hrun)
  case agreed =>
    intro s l t img p i o n hsession hgrant hnow hfree
    refine .of_eq rfl ((if_neg hsession).trans ((if_neg hgrant).trans ((if_pos ?_).trans (ite_of_eq_false hfree))))
    rw [hnow, decide_eq_true rfl]
    rfl
  case timeout =>
    intro s l t img p n hfind hlate hsession hgrant
    refine .of_eq rfl ?_
    rw [hfind]
    refine (if_pos hlate).trans ?_
    dsimp only
    split
    · exact absurd ‹_› hsession
    · exact absurd ‹_› hgrant
    · rfl
  case decision =>
    intro s l t start n hown hel hnone hnow h
    refine .of_eq rfl (if_pos ?_)
    rw [decide_eq_true hown, decide_eq_true hel, hnone, decide_eq_true hnow]
    obtain h | ⟨r, hr, hlate⟩ := h
    · rw [decide_eq_true h]; rfl
    · rw [hr]; dsimp only; rw [decide_eq_true hlate]; exact Bool.or_true _
  case start =>
    intro s l at_ e n hstart hel hown hheld hstop hhalt
    refine .of_eq rfl ?_
    rw [hstart, hel]
    exact if_pos ⟨hown, congrArg Bool.not hheld, congrArg Bool.not hstop, congrArg Bool.not hhalt⟩

/-- A lane in RESYNC whose transfer has failed is fenced with cause 0x7. -/
theorem Lane.resyncFails_of_resync {l : Lane} (h : l.own = .resync) : l.resyncFails = ((l.fault 0x14).homeFenced 0x14).fence 0x7 :=
  if_pos (by rw [h]; rfl)

/-- Settles O17: the branch of each command that its conditions select. -/
theorem joinAndTransferComplete : Obligations.JoinAndTransferComplete := by
  refine ⟨?join, ?send, ?xfer, ?xferCut, ?cut, ?clean, ?timeout⟩
  case join =>
    intro s l t link h n x hup hok
    refine ⟨fun hrun hadm => ?_, fun hno => .of_eq rfl ?_⟩
    · intro n1
      have hjoin : (n.own.healthy && (n.hear link).admits x) = true := Bool.and_eq_true_iff.mpr ⟨hrun, hadm⟩
      exact ⟨fun hd => .of_eq rfl ((Lane.control_of_ok _ hup hok).trans ((if_pos hjoin).trans (if_pos hd))),
        fun hd => .of_eq rfl ((Lane.control_of_ok _ hup hok).trans ((if_pos hjoin).trans (if_neg hd)))⟩
    · exact (Lane.control_of_ok _ hup hok).trans (ite_of_eq_false (Bool.and_eq_false_iff.mpr hno))
  case send =>
    intro s l t b k x n hdonor hphase hrun hup hb n1 hk
    have hdone : (decide (k = 0) == (n1.xferLeft x).isEmpty) = true := by
      rw [beq_iff_eq, Bool.eq_iff_iff, decide_eq_true_iff, List.isEmpty_iff, hk]
    have hmay : (decide (n.clk.phase = .background) && n.own.healthy && n.linkUp (n.linkTo x) && b.all (n.xferState x).contains &&
        decide (k = 0) == (n1.xferLeft x).isEmpty) = true := by
      rw [decide_eq_true hphase, hrun, hup, hb]
      exact hdone
    refine ⟨fun hread => .of_eq rfl ?_, fun hread => .of_eq rfl ?_, fun hread hleft hcut => .of_eq rfl ?_⟩
    all_goals rw [hdonor]
    · exact (if_pos hmay).trans (if_pos (congrArg Bool.not hread))
    · exact (if_pos hmay).trans ((ite_of_eq_false (congrArg Bool.not hread)).trans (if_pos rfl))
    · refine (if_pos hmay).trans ((ite_of_eq_false (congrArg Bool.not hread)).trans ((ite_of_eq_false rfl).trans (if_pos ?_)))
      exact Bool.and_eq_true_iff.mpr ⟨List.isEmpty_iff.mpr hleft, hcut⟩
  case xfer => exact fun s l t link h b k hup hok hrec => .of_eq rfl ((Lane.control_of_ok _ hup hok).trans (if_pos hrec))
  case xferCut =>
    intro s l t link h b c n n1 hup hok hrec hahead
    exact .of_eq rfl ((Lane.control_of_ok _ hup hok).trans (if_pos (Bool.and_eq_true_iff.mpr ⟨hrec, hahead⟩)))
  case cut =>
    intro s l n
    refine ⟨fun hown hphase hcut => .of_eq rfl (if_pos ?_), fun h => .of_eq rfl (ite_of_eq_false ?_)⟩
    · rw [decide_eq_true hown, decide_eq_true hphase, decide_eq_true hcut]; rfl
    · obtain h | h | h := h
      · rw [decide_eq_false h]; rfl
      · rw [decide_eq_false h, Bool.and_false, Bool.false_and]
      · rw [decide_eq_false h, Bool.and_false]
  case clean =>
    intro s l n hown hphase hcount
    refine .of_eq rfl (if_pos ?_)
    have hneeded : n.cleanNeeded ≤ n.rd XLA.RESYNC_CLEAN_COUNT := hcount
    rw [decide_eq_true hown, decide_eq_true hphase, decide_eq_true hneeded]
    rfl
  case timeout =>
    intro s l t a n hacc hown hphase hlate
    refine .of_eq rfl ?_
    rw [hacc]
    refine (if_pos ?_).trans (Lane.resyncFails_of_resync hown)
    rw [decide_eq_true hown, decide_eq_true hphase, decide_eq_true hlate]
    rfl

/-- Settles O18: the branch of each event that its conditions select. -/
theorem markersAndLinksComplete : Obligations.MarkersAndLinksComplete := by
  refine ⟨?marker, fun s l link off h => .of_eq rfl (if_pos h), fun s l link off h => .of_eq rfl (if_neg h.not_ge), ?lost, ?trained⟩
  case marker =>
    intro s l link arr n x off n1
    have hheard : n.linkUp link = true → n.xla.markOff.get x = none → (!n.linkUp link || (n.xla.markOff.get x).isSome) = false :=
      fun hup hfirst => by rw [hup, hfirst]; rfl
    refine ⟨fun hup hfirst hm href => .of_eq rfl ?_, fun hup hfirst hm hsome href => .of_eq rfl ?_, fun hup hfirst h => .of_eq rfl ?_,
      fun h => .of_eq rfl (if_pos ?_)⟩
    · refine (ite_of_eq_false (hheard hup hfirst)).trans ((ite_of_eq_false ?_).trans ?_)
      · rw [hm, href]; rfl
      · exact congrArg (fun m : Lane => (m.runsOfOthers x).judgeAlign) (if_pos href)
    · refine (ite_of_eq_false (hheard hup hfirst)).trans ((ite_of_eq_false ?_).trans ?_)
      · rw [hm, Option.isNone_eq_false_iff.mpr hsome]; rfl
      · exact congrArg (fun m : Lane => (m.runsOfOthers x).judgeAlign) (if_neg href)
    · refine (ite_of_eq_false (hheard hup hfirst)).trans (if_pos ?_)
      obtain h | h := h
      · rw [h]; rfl
      · rw [h]; exact Bool.or_true _
    · obtain h | h := h
      · rw [h]; rfl
      · rw [h]; exact Bool.or_true _
  case lost =>
    intro s l t link n hlink hlock
    exact .of_eq rfl (if_pos (by rw [decide_eq_true hlink, hlock]; rfl))
  case trained =>
    intro s l t link lat n hlink hoff hnot n1
    exact .of_eq rfl (if_pos (by rw [decide_eq_true hlink, decide_eq_true hoff, hnot]; rfl))

end Sys2Proof.Machine
end

section
/-!
PROOFS. The lockstep pair: its window compares, its bus writes and the rehearsal of its comparator (LockstepComplete, O22).
-/
namespace Sys2Proof.Machine

open Sys2Proof

theorem or_of_ne {a b : Bool} (h : a ≠ b) : (a || b) = true := by cases a <;> cases b <;> simp_all

theorem Lane.not_stopped_of_comparing {l : Lane} (h : l.comparing = true) : l.bcn.stopped = false := by
  unfold Lane.comparing at h
  simpa using (Bool.and_eq_true_iff.mp h).2

/-! ### Window compares -/

section
variable {l : Lane} {wa wc : List (BitVec 64)} (h : l.comparing = true) (hlen : 128 ≤ l.coreCount) (hdue : l.coreCount % 128 = 2)
  (hflip : l.bcn.flip = false)
include h hlen hdue hflip

/-- A compare that is due flags what the comparator copies report of the folded signatures. -/
theorem Lane.windowCompare_of_due (bad0 bad1 : Bool) :
    let m := foldBacks l.bcn.sigMain wa
    let c := foldBacks l.bcn.sigChk wc
    l.windowCompare wa wc bad0 bad1 = if (decide (m ≠ c) != bad0) || (decide (m ≠ c) != bad1) then
        l.lockstepFail 0x01 (if (decide (m ≠ c) != bad0) = (decide (m ≠ c) != bad1) then 0x1 else 0x4) m c
      else { l with bcn := { l.bcn with sigMain := Config.sigStart, sigChk := Config.sigStart } } := by
  intro m c
  have hgo : (l.comparing && decide (128 ≤ l.coreCount) && decide (l.coreCount % 128 = 2)) = true := by
    rw [h, decide_eq_true hlen, decide_eq_true hdue]; rfl
  rw [Lane.windowCompare, if_pos hgo]
  simp only [hflip, Bool.false_eq_true, if_false]
  rfl

theorem Lane.windowCompare_of_equal (he : foldBacks l.bcn.sigMain wa = foldBacks l.bcn.sigChk wc) : l.windowCompare wa wc false false =
    { l with bcn := { l.bcn with sigMain := Config.sigStart, sigChk := Config.sigStart } } := by
  rw [Lane.windowCompare_of_due h hlen hdue hflip, decide_eq_false (not_not.mpr he)]
  rfl

theorem Lane.windowCompare_of_unequal (he : foldBacks l.bcn.sigMain wa ≠ foldBacks l.bcn.sigChk wc) :
    l.windowCompare wa wc false false = l.lockstepFail 0x01 0x1 (foldBacks l.bcn.sigMain wa) (foldBacks l.bcn.sigChk wc) := by
  rw [Lane.windowCompare_of_due h hlen hdue hflip, decide_eq_true he]
  rfl

/-- A difference that one copy alone reports is a fault of the comparator, whatever the signatures. -/
theorem Lane.windowCompare_of_one_copy (bad0 bad1 : Bool) (hone : bad0 ≠ bad1) :
    l.windowCompare wa wc bad0 bad1 = l.lockstepFail 0x01 0x4 (foldBacks l.bcn.sigMain wa) (foldBacks l.bcn.sigChk wc) := by
  rw [Lane.windowCompare_of_due h hlen hdue hflip]
  generalize decide (foldBacks l.bcn.sigMain wa ≠ foldBacks l.bcn.sigChk wc) = differ
  have hcopies : (differ != bad0) ≠ (differ != bad1) := by cases differ <;> simpa using hone
  rw [if_neg hcopies, if_pos (or_of_ne hcopies)]

end

/-! ### Bus writes of the pair -/

section
variable {l : Lane} {w chk : BusWr} {wa wc : List (BitVec 64)}

/-- The pair with both cores' writebacks and writes folded into their signatures. -/
def Lane.writeFolded (l : Lane) (w chk : BusWr) (wa wc : List (BitVec 64)) : Lane :=
  { l with bcn := { l.bcn with
      sigMain := Config.foldWrite (foldBacks l.bcn.sigMain wa) w, sigChk := Config.foldWrite (foldBacks l.bcn.sigChk wc) chk } }

/-- What working comparator copies find of the two writes: they agree, or the first of address and access kind, data and strobes, and
signatures that differs names the cause. -/
theorem Lane.coreWrite_of_comparing (h : l.comparing = true) (hh : l.bcn.halted = false) : l.coreWrite w chk wa wc false false =
    let addrBad := decide (w.addr ≠ chk.addr) || decide (w.attr ≠ chk.attr)
    let dataBad := decide (w.data ≠ chk.data) || decide (w.strobe ≠ chk.strobe)
    let sigBad := decide ((l.writeFolded w chk wa wc).bcn.sigMain ≠ (l.writeFolded w chk wa wc).bcn.sigChk)
    if addrBad || dataBad || sigBad then
      (l.writeFolded w chk wa wc).lockstepOpen 0x01 (if addrBad then 0x2 else if dataBad then 0x3 else 0x1)
    else (l.writeFolded w chk wa wc).busWrite 0x0 w := by
  have hrun : (l.bcn.stopped || l.bcn.halted) = false := by rw [Lane.not_stopped_of_comparing h, hh]; rfl
  rw [Lane.coreWrite, ite_of_eq_false hrun, if_pos h]
  simp only [Bool.bne_false, Bool.or_self, ne_eq, not_true_eq_false, if_false]
  rfl

end

/-! ### The rehearsal of the comparator -/

theorem Lane.rehearse_of_due {l : Lane} (h : l.comparing = true) (hpos : 0 < l.coreCount) (hdue : l.coreCount % 600000 = 0) (flag0 flag1 : Bool) :
    let l1 := l.wr BCN.RH_STATUS_BIT_POS ((l.rd BCN.RH_STATUS_BIT_POS + 1) % 64)
    l.rehearse flag0 flag1 = if flag0 && flag1 then l1.wrapInc BCN.RH_STATUS_PASS_COUNT
      else
        let l2 := if flag0 then l1 else l1.flag BCN.RH_STATUS_FAIL_0 true
        (if flag1 then l2 else l2.flag BCN.RH_STATUS_FAIL_1 true).lockstepOpen 0x02 (if flag1 then 0x5 else if flag0 then 0x6 else 0x7) := by
  have hgo : (l.comparing && decide (0 < l.coreCount) && decide (l.coreCount % 600000 = 0)) = true := by
    rw [h, decide_eq_true hpos, decide_eq_true hdue]; rfl
  rw [Lane.rehearse, if_pos hgo]

section
variable {l : Lane} (h : l.comparing = true) (hpos : 0 < l.coreCount) (hdue : l.coreCount % 600000 = 0)
include h hpos hdue

/-- The rehearsal passes when both copies flag; a copy that does not is marked, and the pair stops with its cause. -/
theorem Lane.rehearse_outcomes :
    let l1 := l.wr BCN.RH_STATUS_BIT_POS ((l.rd BCN.RH_STATUS_BIT_POS + 1) % 64)
    l.rehearse true true = l1.wrapInc BCN.RH_STATUS_PASS_COUNT ∧
    l.rehearse false true = (l1.flag BCN.RH_STATUS_FAIL_0 true).lockstepOpen 0x02 0x5 ∧
    l.rehearse true false = (l1.flag BCN.RH_STATUS_FAIL_1 true).lockstepOpen 0x02 0x6 ∧
    l.rehearse false false = ((l1.flag BCN.RH_STATUS_FAIL_0 true).flag BCN.RH_STATUS_FAIL_1 true).lockstepOpen 0x02 0x7 := by
  simp -implicitDefEqProofs [Lane.rehearse_of_due h hpos hdue]

end

/-- Settles O22: window compares, bus writes and rehearsals by what the comparator copies report. -/
theorem lockstepComplete : Obligations.LockstepComplete := by
  refine ⟨?window, ?write, ?uncompared, ?rehearsal⟩
  case window =>
    intro s l t wa wc n hd h hlen hdue hflip m c
    have hon : ∀ v, n.gated 0 v = v := fun v => Lane.gated_of_on _ _ _ hd
    exact ⟨fun he => .of_eq rfl ((hon _).trans (Lane.windowCompare_of_equal h hlen hdue hflip he)),
      fun he => .of_eq rfl ((hon _).trans (Lane.windowCompare_of_unequal h hlen hdue hflip he)),
      .of_eq rfl ((hon _).trans (Lane.windowCompare_of_one_copy h hlen hdue hflip true false (by decide))),
      .of_eq rfl ((hon _).trans (Lane.windowCompare_of_one_copy h hlen hdue hflip false true (by decide)))⟩
  case write =>
    intro s l t w chk wa wc n hd h hh m c n1
    have hwrite : n.gated 0 (n.coreWrite w chk wa wc false false) = _ :=
      (Lane.gated_of_on _ _ _ hd).trans (Lane.coreWrite_of_comparing h hh)
    refine ⟨fun he hsig => .of_eq rfl (hwrite.trans ?_), fun hbad => .of_eq rfl (hwrite.trans ?_),
      fun ha hat hbad => .of_eq rfl (hwrite.trans ?_), fun he hsig => .of_eq rfl (hwrite.trans ?_)⟩
    · subst he
      simp only [ne_eq, not_true_eq_false, decide_false, Bool.or_self, Bool.false_or]
      exact ite_of_eq_false (decide_eq_false (not_not.mpr hsig))
    · have haddr : (decide (w.addr ≠ chk.addr) || decide (w.attr ≠ chk.attr)) = true :=
        Bool.or_eq_true_iff.mpr (hbad.imp decide_eq_true decide_eq_true)
      simp only [haddr, Bool.true_or, if_true]
      rfl
    · have hdata : (decide (w.data ≠ chk.data) || decide (w.strobe ≠ chk.strobe)) = true :=
        Bool.or_eq_true_iff.mpr (hbad.imp decide_eq_true decide_eq_true)
      simp only [ha, hat, hdata, ne_eq, not_true_eq_false, decide_false, Bool.or_self, Bool.false_or, Bool.true_or, if_true, Bool.false_eq_true, if_false]
      rfl
    · subst he
      simp only [ne_eq, not_true_eq_false, decide_false, Bool.or_self, Bool.false_or, Bool.false_eq_true, if_false]
      exact if_pos (decide_eq_true hsig)
  case uncompared =>
    intro s l t w c wa wc n hd
    have hon : ∀ v, n.gated 0 v = v := fun v => Lane.gated_of_on _ _ _ hd
    refine ⟨fun hmode hs hh => .of_eq rfl ((hon _).trans ((ite_of_eq_false ?_).trans (ite_of_eq_false ?_))),
      fun h => .of_eq rfl ((hon _).trans (if_pos ?_))⟩
    · rw [hs, hh]; rfl
    · rw [Lane.comparing, hmode]; rfl
    · exact Bool.or_eq_true_iff.mpr h
  case rehearsal =>
    intro s l t n hd h hpos hdue
    have hon : ∀ v, n.gated 0 v = v := fun v => Lane.gated_of_on _ _ _ hd
    obtain ⟨hpass, hfirst, hsecond, hboth⟩ := Lane.rehearse_outcomes h hpos hdue
    exact ⟨.of_eq rfl ((hon _).trans hpass), .of_eq rfl ((hon _).trans hfirst), .of_eq rfl ((hon _).trans hsecond),
      .of_eq rfl ((hon _).trans hboth)⟩

end Sys2Proof.Machine
end

section
/-!
PROOFS. Errors of the memories and their scrubs (MemoryErrorsComplete, O23), writes to table memory (TableMemoryWritesComplete, O26) and the
debug actions on the lockstep pair (DebugComplete, O27).
-/
namespace Sys2Proof.Machine

open Sys2Proof

/-! ### Reads of lane SRAM that meet an upset -/

section
variable {l : Lane} {ini : Nat} {addr : Word} (hr : l.sramRight ini addr.toNat false = true) (hd : l.domOn 0 = true)
include hr hd

theorem Lane.sramGet_of_right (up : Upset) : l.sramGet ini addr up = l.sramRead ini addr.toNat up :=
  (ite_of_eq_false (congrArg Bool.not hr)).trans (if_pos hd)

/-- A single-bit error found with a word that stores none is corrected and written back, and the word answered. -/
theorem Lane.sramGet_single (hini : ini ≠ 0) (he : l.mem.err (word64 addr.toNat) = 0) : l.sramGet ini addr .single =
    ((l.wordWritten (word64 addr.toNat)).corrected).busDone (BitVec.ofNat 64 (l.mem.read (word64 addr.toNat) 8)) := by
  simp only [Lane.sramGet_of_right hr hd, Lane.sramRead, Lane.sramCheck, he, if_true, Lane.readDone, if_neg hini]

theorem Lane.sramGet_double (syn : BitVec 8) : l.sramGet ini addr (.double syn) = (l.sramUe ini (word64 addr.toNat) syn).busError :=
  (Lane.sramGet_of_right hr hd _).trans rfl

theorem Lane.sramGet_misplaced (syn : BitVec 8) : l.sramGet ini addr (.misplaced syn) =
    ((l.recordUe ini 0 0 (word64 addr.toNat) syn).fault 0x03 (BitVec.ofNat 32 (word64 addr.toNat))).busError :=
  (Lane.sramGet_of_right hr hd _).trans rfl

end

theorem Lane.readDone_frame (l : Lane) (ini : Nat) (d : BitVec 64) : (l.readDone ini d).mem = l.mem ∧ (l.readDone ini d).regs = l.regs := by
  unfold Lane.readDone
  split
  · have h : ((l.feedChecker (.readData d)).mem = l.mem) ∧ ((l.feedChecker (.readData d)).regs = l.regs) := by
      rw [l.feedChecker_frame]
      exact ⟨rfl, rfl⟩
    exact h
  · exact ⟨rfl, rfl⟩

/-! ### Scrubs -/

theorem Lane.scrubDue_of_some {l : Lane} {a : Nat} (h : l.bcn.scrubTick = some a) :
    l.scrubDue = decide (a + 2 * l.rd BCN.SRAM_CTRL_SCRUB_INTERVAL ≤ l.clk.now) := by
  unfold Lane.scrubDue
  rw [h]

theorem Lane.tableScrubDue_of_some {l : Lane} {a : Nat} (h : l.cen.scrubTick = some a) :
    l.tableScrubDue = decide (a + l.rd CEN.TBL_SCRUB_INTERVAL ≤ l.clk.now) := by
  unfold Lane.tableScrubDue
  rw [h]

/-- Settles O23: reads by what is found with the word, scrubs by their interval, core memories by their owner. -/
theorem memoryErrorsComplete : Obligations.MemoryErrorsComplete := by
  refine ⟨?read, ?outside, ?scrub, ?tableScrub, ?core, ?watchdog⟩
  case read =>
    intro s l t ini addr n d hin hr hd
    have hget : ∀ up v, n.sramGet ini addr up = v → Completes (.laneSramRead l t ini addr up) s l v := fun up v hv =>
      .of_eq rfl ((ite_of_eq_false (congrArg Bool.not hin)).trans hv)
    refine ⟨fun he => ⟨⟨_, completes_laneSramRead s l t ini addr hin hr hd he, rfl, n.readDone_frame ini d⟩, fun hini => ?_⟩, fun syn => ⟨?_, ?_⟩⟩
    · exact hget _ _ (Lane.sramGet_single hr hd hini he)
    · exact hget _ _ (Lane.sramGet_double hr hd syn)
    · exact hget _ _ (Lane.sramGet_misplaced hr hd syn)
  case outside =>
    intro s l t ini addr up data strobe n hin
    exact ⟨.of_eq rfl (if_pos (congrArg Bool.not hin)), .of_eq rfl (if_pos (congrArg Bool.not hin))⟩
  case scrub =>
    intro s l t up n k n1 hd
    refine ⟨fun h => .of_eq rfl ((Lane.gated_of_on _ _ _ hd).trans (if_pos ?_)), fun a ha hlate => .of_eq rfl
      ((Lane.gated_of_on _ _ _ hd).trans (ite_of_eq_false ?_))⟩
    · obtain h | ⟨a, ha, hlate⟩ := h
      · rw [Lane.scrubDue, h]
      · exact (Lane.scrubDue_of_some ha).trans (decide_eq_true hlate)
    · exact (Lane.scrubDue_of_some ha).trans (decide_eq_false hlate.not_ge)
  case tableScrub =>
    intro s l t up n k n1 hd
    refine ⟨fun h => .of_eq rfl ((Lane.gated_of_on _ _ _ hd).trans (if_pos ?_)), fun a ha hlate => .of_eq rfl
      ((Lane.gated_of_on _ _ _ hd).trans (ite_of_eq_false ?_))⟩
    · obtain h | ⟨a, ha, hlate⟩ := h
      · rw [Lane.tableScrubDue, h]
      · exact (Lane.tableScrubDue_of_some ha).trans (decide_eq_true hlate)
    · exact (Lane.tableScrubDue_of_some ha).trans (decide_eq_false hlate.not_ge)
  case core =>
    intro s l t off syn n hd
    refine ⟨fun mem dataMem => .of_eq rfl (Lane.gated_of_on _ _ _ hd), fun k dataMem hk => .of_eq rfl ((Lane.gated_of_on _ _ _ hd).trans ?_),
      fun dataMem => .of_eq rfl (Lane.gated_of_on _ _ _ hd), fun dataMem => .of_eq rfl (Lane.gated_of_on _ _ _ hd)⟩
    simp only [Lane.coreUe, coreMemCodes, Nat.mod_eq_of_lt hk]
    rfl
  case watchdog =>
    intro s l t n hd
    exact ⟨fun h => .of_eq rfl ((Lane.gated_of_on _ _ _ hd).trans (if_pos h)),
      fun h => .of_eq rfl ((Lane.gated_of_on _ _ _ hd).trans (if_neg h.not_ge))⟩

/-! ### Table memory -/

theorem tableWriteRight_of {ini : Nat} (h : ini = 0 ∨ ini = 0x8 ∨ ini = 0xB) : tableWriteRight ini = true := by
  obtain rfl | rfl | rfl := h <;> rfl

theorem tableWriteRight_of_none {ini : Nat} (h0 : ini ≠ 0) (h8 : ini ≠ 0x8) (hB : ini ≠ 0xB) : tableWriteRight ini = false := by
  simp [tableWriteRight, h0, h8, hB]

/-- Settles O26: the store's branch, and the access that ends in error. -/
theorem tableMemoryWritesComplete : Obligations.TableMemoryWritesComplete := by
  refine ⟨?right, ?noRight, fun s l t ini addr data hin => .of_eq rfl (if_pos (congrArg Bool.not hin))⟩
  case right =>
    intro s l t ini addr data n w hin hini hd
    have hput : ∀ v, n.tableWrite ini addr data = v → Completes (.tableMemoryWrite l t ini addr data) s l v := fun v hv =>
      .of_eq rfl ((ite_of_eq_false (congrArg Bool.not hin)).trans ((if_pos (tableWriteRight_of hini)).trans ((if_pos hd).trans hv)))
    refine ⟨fun ho href harm => hput _ ?_, fun h => hput _ (ite_of_eq_false ?_)⟩
    · have hopen : (n.stage.isOpen && !n.referenced w) = true := by rw [ho, href]; rfl
      rw [Lane.tableWrite, if_pos hopen, decide_eq_false harm]
      rfl
    · obtain h | h := h
      · rw [h]; rfl
      · exact (congrArg (n.stage.isOpen && !·) h).trans (Bool.and_false _)
  case noRight =>
    intro s l t ini addr data n hin ⟨h0, h8, hB⟩
    exact .of_eq rfl ((ite_of_eq_false (congrArg Bool.not hin)).trans (ite_of_eq_false (tableWriteRight_of_none h0 h8 hB)))

/-! ### The replay queue -/

/-- As many drains as a list is long do not look at its elements. -/
theorem foldl_range_succ (f : Lane → Lane) (k : Nat) (l : Lane) :
    (List.range (k + 1)).foldl (fun m _ => f m) l = (List.range k).foldl (fun m _ => f m) (f l) := by
  rw [List.range_succ_eq_map, List.foldl_cons, List.foldl_map]

theorem foldl_range_of_fixed {f : Lane → Lane} {l : Lane} (h : f l = l) (k : Nat) : (List.range k).foldl (fun m _ => f m) l = l := by
  induction k with
  | zero => rfl
  | succ k ih => rw [foldl_range_succ, h, ih]

section
variable {l : Lane} {a : DbgAct} {at_ : Nat} {rest : List (DbgAct × Nat)} (h : l.bcn.replay = (a, at_) :: rest)
include h

/-- The oldest entry, two core cycles after it was taken, acts on the checker core and lets the oldest stalled action in. -/
theorem Lane.drainOne_of_old (hold : at_ + 2 ≤ l.clk.now) : l.drainOne =
    let m := ({ l with bcn := { l.bcn with replay := rest, stalled := l.bcn.stalled.drop 1 } } : Lane).chkEffect a
    match l.bcn.stalled with | b :: _ => m.dbgTake b (at_ + 2) | [] => m := by
  rw [Lane.drainOne, h]
  exact if_pos hold

theorem Lane.drainOne_of_old_alone (hold : at_ + 2 ≤ l.clk.now) (hs : l.bcn.stalled = []) :
    l.drainOne = ({ l with bcn := { l.bcn with replay := rest, stalled := l.bcn.stalled.drop 1 } } : Lane).chkEffect a := by
  rw [Lane.drainOne_of_old h hold]
  dsimp only
  split
  · next hb => rw [hs] at hb; cases hb
  · rfl

theorem Lane.drainOne_of_old_stalled {b : DbgAct} {bs : List DbgAct} (hold : at_ + 2 ≤ l.clk.now) (hs : l.bcn.stalled = b :: bs) :
    l.drainOne =
      (({ l with bcn := { l.bcn with replay := rest, stalled := l.bcn.stalled.drop 1 } } : Lane).chkEffect a).dbgTake b (at_ + 2) := by
  rw [Lane.drainOne_of_old h hold]
  dsimp only
  split
  · next hb => rw [hs] at hb; cases hb; rfl
  · next hb => rw [hs] at hb; cases hb

theorem Lane.drainOne_of_young (hyoung : l.clk.now < at_ + 2) : l.drainOne = l := by
  rw [Lane.drainOne, h]
  exact if_neg hyoung.not_ge

theorem Lane.drainReplay_of_cons : l.drainReplay =
    (List.range (rest.length + l.bcn.stalled.length)).foldl (fun (k : Lane) _ => k.drainOne) l.drainOne := by
  rw [Lane.drainReplay, h, List.length_cons, Nat.add_right_comm, foldl_range_succ]

end

theorem Lane.drainOne_of_empty {l : Lane} (h : l.bcn.replay = []) : l.drainOne = l := by rw [Lane.drainOne, h]

/-! ### Halts (R88) -/

/-- A part in FIELD, or sealed in DEVELOP, halts by its own state; another but a BLANK one always. -/
theorem Lane.haltAccepted_eq (l : Lane) :
    (l.otp.lifecycle = 0 → l.haltAccepted = false) ∧ (l.otp.lifecycle = 1 → l.haltAccepted = true) ∧
    (l.otp.lifecycle = 3 → l.own = .authority → l.haltAccepted = false) ∧
    (l.otp.lifecycle = 3 → l.own = .standby → (l.haltAccepted = true ↔ l.xla.mode = .triplex)) ∧
    (l.otp.lifecycle = 2 → l.otp.sealed = false → l.haltAccepted = true) := by
  unfold Lane.haltAccepted
  refine ⟨fun h => ?_, fun h => ?_, fun h hown => ?_, fun h hown => ?_, fun h hs => ?_⟩
  · rw [if_pos h]
  · simp [h]
  · simp [h, hown]
  · simp [h, hown]
  · simp [h, hs]

/-- Settles O27: each debug command by its level and the pair's state; drains are counted out by the queue's length. -/
theorem debugComplete : Obligations.DebugComplete := by
  refine ⟨?halt, Lane.haltAccepted_eq, ?step, ?write, ?refused, ?hit, ?drain⟩
  case halt =>
    intro s l t n
    refine ⟨fun hacc hl => .of_eq rfl ((ite_of_eq_false ?_).trans (if_pos hacc)), fun hacc hl => .of_eq rfl (if_pos ?_),
      fun hacc => .of_eq rfl ((ite_of_eq_false ?_).trans (ite_of_eq_false hacc))⟩
    · rw [hacc, decide_eq_false hl.not_gt]; rfl
    · rw [hacc, decide_eq_true hl]; rfl
    · rw [hacc]; rfl
  case step =>
    exact fun s l t hl hh => ⟨.of_eq rfl ((if_neg hl.not_gt).trans (if_pos hh)), .of_eq rfl ((if_neg hl.not_gt).trans (if_pos hh))⟩
  case write => exact fun s l t target val hl => .of_eq rfl (if_neg hl.not_gt)
  case refused => exact fun s l t target val hl => ⟨.of_eq rfl (if_pos hl), .of_eq rfl (if_pos hl), .of_eq rfl (if_pos hl)⟩
  case hit =>
    intro s l t watch idx n hd hh hidx
    refine ⟨fun hset => .of_eq rfl ((Lane.gated_of_on _ _ _ hd).trans (if_pos ?_)),
      fun hnone => .of_eq rfl ((Lane.gated_of_on _ _ _ hd).trans (ite_of_eq_false ?_))⟩
    · rw [decide_eq_true hidx, hset, hh]; rfl
    · rw [hnone, decide_eq_true hidx]; rfl
  case drain =>
    intro s l t n hd
    have hdrain : ∀ v, n.drainReplay = v → Completes (.replayQueueDrain l t) s l v := fun v hv =>
      .of_eq rfl ((Lane.gated_of_on _ _ _ hd).trans hv)
    refine ⟨fun a at_ rest hq hold => ?_, fun a at_ rest hq hyoung => hdrain _ (foldl_range_of_fixed (Lane.drainOne_of_young hq hyoung) _),
      fun hq => hdrain _ (foldl_range_of_fixed (Lane.drainOne_of_empty hq) _)⟩
    intro m
    refine ⟨Lane.drainOne_of_old_alone hq hold, fun b bs hs => Lane.drainOne_of_old_stalled hq hold hs, fun hrest hs => hdrain _ ?_,
      hdrain _ (Lane.drainReplay_of_cons hq)⟩
    have hlast : rest.length + n.bcn.stalled.length = 0 := by rw [hrest, hs]; rfl
    rw [Lane.drainReplay_of_cons hq, hlast]
    exact Lane.drainOne_of_old_alone hq hold hs

end Sys2Proof.Machine
end

section
/-!
PROOFS. The operators' commands (ArithmeticOperatorsComplete, O28; FilterAndCheckOperatorsComplete, O29) and the other commands of the Percolator
and the control engine (PercolatorCommandsComplete, O30).
-/
namespace Sys2Proof.Machine

open Sys2Proof

theorem Lane.runOp_of_runs {n : Lane} {c : Nat} {w : Work} {code : Nat} (h : runsOp n c w code) (f : OpFn) (hits : Hits) :
    n.runOp c code f hits = n.completeNode c w f hits := by
  obtain ⟨hd, hw, hop⟩ := h
  refine (Lane.gated_of_on _ _ _ hd).trans ?_
  rw [hw]
  exact if_pos hop

/-- Every operator's command runs its operator on its core, so a clause is the equation of `runOp`. -/
theorem completes_of_runOp {c : Instr} {s : State} {l : LaneId} {n : Lane} {core : Nat} {w : Work} {code : Nat} {f : OpFn} {hits : Hits}
    (hc : exec c s = .next (s.setLane l (n.runOp core code f hits))) (h : runsOp n core w code) :
    Completes c s l (n.completeNode core w f hits) := .of_eq hc (Lane.runOp_of_runs h f hits)

/-- Settles O28: each of the 24 commands runs its own operator. -/
theorem arithmeticOperatorsComplete : Obligations.ArithmeticOperatorsComplete := by
  intro s l t c w n
  and_intros
  all_goals exact completes_of_runOp rfl

/-- Settles O29: each of the 24 commands runs its own operator, the table operators with the upsets of their reads. -/
theorem filterAndCheckOperatorsComplete : Obligations.FilterAndCheckOperatorsComplete := by
  intro s l t c w n
  refine ⟨?_, ?_, ?_, ?_, ?_, ?_, ?_, ?_, fun h _ => completes_of_runOp rfl h, fun h _ => completes_of_runOp rfl h,
    fun h _ => completes_of_runOp rfl h, ?_, ?_, ?_, ?_, ?_, ?_, ?_, ?_, ?_, ?_, ?_, ?_, ?_⟩
  all_goals exact completes_of_runOp rfl

/-- Settles O30: pre-emption by whether the waiting node may run, supervision by its limit, passages by what `passageOf` finds. -/
theorem percolatorCommandsComplete : Obligations.PercolatorCommandsComplete := by
  refine ⟨?preemption, ?unresponsive, ?scrub, ?slot, ?generator⟩
  case preemption =>
    intro s l t c r w n k ctx n1 hd hr hw
    refine ⟨fun h => .of_eq rfl ((Lane.gated_of_on _ _ _ hd).trans ?_), fun h => .of_eq rfl ((Lane.gated_of_on _ _ _ hd).trans ?_)⟩
    · split
      · next hr' hw' =>
        cases hr.symm.trans hr'
        cases hw.symm.trans hw'
        exact if_pos h
      · next hnone => exact absurd hw (hnone r w hr)
    · split
      · next hr' hw' =>
        cases hr.symm.trans hr'
        cases hw.symm.trans hw'
        exact ite_of_eq_false h
      · next hnone => exact absurd hw (hnone r w hr)
  case unresponsive =>
    intro s l t c w n limit hd hw hc
    refine ⟨fun h => .of_eq rfl ((Lane.gated_of_on _ _ _ hd).trans ?_), fun h => .of_eq rfl ((Lane.gated_of_on _ _ _ hd).trans ?_)⟩
    · rw [hw]
      exact if_pos (by rw [decide_eq_true hc, decide_eq_true h]; rfl)
    · rw [hw]
      exact ite_of_eq_false (by rw [decide_eq_false h.not_gt, Bool.and_false])
  case scrub =>
    intro s l t bank arcTable entry syn n hd
    exact ⟨.of_eq rfl (Lane.gated_of_on _ _ _ hd), .of_eq rfl (Lane.gated_of_on _ _ _ hd), .of_eq rfl (Lane.gated_of_on _ _ _ hd)⟩
  case slot =>
    intro s l t slot hits n hd hlt
    refine ⟨fun flow a h => .of_eq rfl ((Lane.gated_of_on _ _ _ hd).trans ?_), fun h => .of_eq rfl ((Lane.gated_of_on _ _ _ hd).trans ?_)⟩
    · rw [h]
      exact if_pos hlt
    · rw [h]
  case generator =>
    intro s l t gen n hd hlt
    refine ⟨fun flow a h => .of_eq rfl ((Lane.gated_of_on _ _ _ hd).trans ?_), fun h => .of_eq rfl ((Lane.gated_of_on _ _ _ hd).trans ?_)⟩
    · rw [h]
      exact if_pos hlt
    · rw [h]

end Sys2Proof.Machine
end

section
/-!
PROOFS. The events of commutation and current measurement (CommutationComplete, O37) and of the position feedback (FeedbackComplete, O40).
-/
namespace Sys2Proof.Machine

open Sys2Proof

/-- A command that does its work in the DRV domain alone: a clause with that domain ON is the work's own equation. -/
theorem completes_of_drv {c : Instr} {s : State} {l : LaneId} {n x v : Lane} (hd : n.domOn 6 = true)
    (hc : exec c s = .next (s.setLane l (n.gated 6 x))) (hv : x = v) : Completes c s l v :=
  .of_eq hc ((Lane.gated_of_on _ _ _ hd).trans hv)

/-! ### A register write with a rule of its own -/

section
variable {l : Lane} {ini k : Nat} {addr v : Word} {r : RegRow} {f : Nat → RegRow → Lane → Lane} (hal : ini ≠ 0xB ∨ addr.toNat % 4 = 0)
  (hacc : l.regAccess ini addr true = .ok k r) (hd : l.domOn (blockDomain (k / 0x10000)) = true)
include hal hacc hd

theorem Lane.guardWrite_of_ok : l.guardWrite ini addr v f = (f k r l).logAbort ini addr := by
  have haligned : ¬ (ini = 0xB ∧ addr.toNat % 4 ≠ 0) := fun h => hal.elim (· h.1) h.2
  rw [Lane.guardWrite, if_neg haligned, hacc]
  exact if_pos hd

/-- A write that does not end in a bus error is not noted as a completer abort. -/
theorem Lane.guardWrite_of_done (hbus : (f k r l).bus ≠ .error) : l.guardWrite ini addr v f = f k r l :=
  (Lane.guardWrite_of_ok hal hacc hd).trans (if_neg fun h => hbus h.2)

/-- Nor is a write of another initiator than the host. -/
theorem Lane.guardWrite_of_notHost (hini : ini ≠ 0xB) : l.guardWrite ini addr v f = f k r l :=
  (Lane.guardWrite_of_ok hal hacc hd).trans (if_neg fun h => hini h.1)

end

/-! ### The time-out of a start sequence, and the calibration of a current channel -/

theorem Lane.startTimeout_of_due {l : Lane} {b t0 : Nat} (h : (l.bridge b).startAt = some t0)
    (hdue : t0 + 600000 * l.rd CMU.START_CFG_TIMEOUT b ≤ l.clk.now) (hrun : l.rd CMU.APPLIED_START b ≠ 0) (htop : l.topEntry b = 0) :
    l.startTimeout b = (((((((l.note b).setBridge b { l.bridge b with startAt := none, timedOut := true, pat := l.disablePat b }).wr
      CMU.APPLIED_START 0 b).wr CMU.APPLIED_DUTY 0 b).wrapInc CMU.START_COUNT_TIMEOUTS b).followStatus b).fault (0x40 + b)) := by
  unfold Lane.startTimeout
  rw [h]
  exact if_pos ⟨hdue, hrun, htop⟩

theorem Lane.startTimeout_of_early {l : Lane} {b t0 : Nat} (h : (l.bridge b).startAt = some t0)
    (hearly : l.clk.now < t0 + 600000 * l.rd CMU.START_CFG_TIMEOUT b) : l.startTimeout b = l := by
  unfold Lane.startTimeout
  rw [h]
  exact if_neg fun hdue => hearly.not_ge hdue.1

/-- Settles O37: each event by whether its tick, its count or its time has come. -/
theorem commutationComplete : Obligations.CommutationComplete := by
  refine ⟨?boundary, ?startTimeout, ?sample, ?deferredSector, ?conversions, ?calibration, ?chopper, ?overvoltage⟩
  case boundary =>
    intro s l t b n hd
    refine ⟨fun hlen hb hat => completes_of_drv hd rfl (if_pos ?_), fun h => completes_of_drv hd rfl (ite_of_eq_false ?_)⟩
    · rw [Lane.runsPwm, decide_eq_true hlen, decide_eq_true hb, hat]
      rfl
    · obtain hlen | hat := h
      · rw [Lane.runsPwm, decide_eq_false hlen.not_ge, Bool.false_and, Bool.false_and]
      · rw [hat, Bool.and_false]
  case startTimeout =>
    intro s l t b t0 n hd hb hat
    exact ⟨fun hdue hrun htop => completes_of_drv hd rfl ((if_pos hb).trans (Lane.startTimeout_of_due hat hdue hrun htop)),
      fun hearly => completes_of_drv hd rfl ((if_pos hb).trans (Lane.startTimeout_of_early hat hearly))⟩
  case sample => exact fun s l b cu cw cv hd hb => completes_of_drv hd rfl (if_pos hb)
  case deferredSector =>
    intro s l t b sec at_ n hd hdef
    refine ⟨fun h => completes_of_drv hd rfl ?_, fun h => completes_of_drv hd rfl ?_⟩
    · rw [hdef]
      exact if_pos h
    · rw [hdef]
      exact if_neg h
  case conversions => exact fun s l t conv code hd => ⟨completes_of_drv hd rfl rfl, completes_of_drv hd rfl rfl⟩
  case calibration =>
    intro s l t ch n mean n1 hd hch
    exact ⟨fun hn hlim => completes_of_drv hd rfl ((if_pos ⟨hn, hch⟩).trans (if_pos hlim)),
      fun hn hlim => completes_of_drv hd rfl ((if_pos ⟨hn, hch⟩).trans (if_neg hlim.not_ge)),
      fun hn => completes_of_drv hd rfl (if_neg fun h => hn h.1)⟩
  case chopper =>
    intro s l t on at_ n hd hdef
    refine ⟨fun h => completes_of_drv hd rfl ?_, fun h => completes_of_drv hd rfl ?_⟩
    · rw [hdef]
      exact if_pos h
    · rw [hdef]
      exact if_neg h
  case overvoltage =>
    intro s l t t0 n hd hov
    refine ⟨fun h => completes_of_drv hd rfl ?_, fun h => completes_of_drv hd rfl ?_⟩
    · rw [hov]
      exact if_pos h
    · rw [hov]
      exact if_neg h.not_ge

/-- Settles O40: each event by its line, port or receiver, and by whether its time has come. -/
theorem feedbackComplete : Obligations.FeedbackComplete := by
  refine ⟨?edge, ?glitch, ?window, ?chatter, fun s l hd => completes_of_drv hd rfl rfl, ?ssiStart, ?ssiFrame, ?sent, ?arm⟩
  case edge => exact fun s l t lines levels hd => completes_of_drv hd rfl rfl
  case glitch =>
    intro s l t i n hd hi
    refine ⟨fun h => completes_of_drv hd rfl (if_pos ?_), fun h => completes_of_drv hd rfl (ite_of_eq_false ?_)⟩
    · rw [decide_eq_true hi, h]
      rfl
    · rw [h]
      exact Bool.and_false _
  case window => exact fun s l t hd => ⟨fun h => completes_of_drv hd rfl (if_pos h), fun h => completes_of_drv hd rfl (ite_of_eq_false h)⟩
  case chatter =>
    intro s l t i c n hd hc
    refine ⟨fun h => completes_of_drv hd rfl ?_, fun h => completes_of_drv hd rfl ?_⟩
    · rw [hc]
      exact if_pos h
    · rw [hc]
      exact if_neg h.not_ge
  case ssiStart =>
    intro s l t p high n hd hp hon
    refine ⟨fun h => completes_of_drv hd rfl (if_pos ?_), fun h => completes_of_drv hd rfl (ite_of_eq_false ?_)⟩
    · rw [decide_eq_true hp, hon, h]
      rfl
    · rw [h, Bool.and_false]
  case ssiFrame =>
    intro s l t p raw n hd hp hrun
    refine ⟨fun h => completes_of_drv hd rfl (if_pos ?_), fun h => completes_of_drv hd rfl (ite_of_eq_false ?_)⟩
    · rw [decide_eq_true hp, hrun, decide_eq_true h]
      rfl
    · rw [decide_eq_false h.not_ge, Bool.and_false]
  case sent =>
    intro s l t p sync ivs n hd hp
    refine ⟨fun h => completes_of_drv hd rfl (if_pos ?_), fun h => completes_of_drv hd rfl (ite_of_eq_false ?_)⟩
    · rw [decide_eq_true hp, h]
      rfl
    · rw [h, Bool.and_false]
  case arm =>
    intro s l t ini v k r n hacc hd
    exact .of_eq rfl (Lane.guardWrite_of_done (.inr (by decide)) hacc hd nofun)

end Sys2Proof.Machine
end

section
/-!
PROOFS. The events of the drive die (DriveDieComplete, O41), of safety inputs and outputs (SafetyCommandsComplete, O43) and of the fault collector
(FaultCommandsComplete, O44).
-/
namespace Sys2Proof.Machine

open Sys2Proof

/-! ### Comparators, and the fall of VGD -/

theorem Lane.compTrips_of {l : Lane} {sw mv thr delay : Nat} (hsw : sw < 13) (hw : l.watched sw = true) (hmv : thr < mv)
    (hdelay : l.watchedSince sw + delay ≤ l.clk.now) : l.compTrips sw mv thr delay = true := by
  rw [Lane.compTrips, decide_eq_true hsw, hw, decide_eq_true hmv, decide_eq_true hdelay]
  rfl

theorem Lane.compTrips_of_unwatched {l : Lane} {sw : Nat} (mv thr delay : Nat) (hw : l.watched sw = false) :
    l.compTrips sw mv thr delay = false := by
  rw [Lane.compTrips, hw, Bool.and_false, Bool.false_and, Bool.false_and]

section
variable {l : Lane} (hr : l.drive.vgdRisen = true) (hu : l.drive.uvlo = false)

/-- What a fall of VGD outside a lockout leaves before it is reported. -/
def Lane.lockedOut (l : Lane) : Lane :=
  { l.noteAll with drive := { l.noteAll.drive with
      uvlo := true, uvAt := l.clk.now, uvLatch := l.drive.uvLatch || decide (3 ≤ (l.tries 3).length) } }

include hr hu

theorem Lane.vgdFall_of_risen : l.vgdFall = if l.gdc.linkUp && !l.drive.notice then
    ((l.lockedOut.tripInfo 5 0).setLevel 0x84 true).driveFault 0x84 else l.lockedOut := by
  unfold Lane.vgdFall
  rw [hr, hu]
  rfl

end

/-- Settles O41: each event by the condition that its rule names. -/
theorem driveDieComplete : Obligations.DriveDieComplete := by
  refine ⟨fun s l t leg byDie hd hleg => completes_of_drv hd rfl (if_pos hleg), ?trips, ?retry, ?vgd, fun s l t above => .of_eq rfl rfl,
    fun s l t k on time hd hk => completes_of_drv hd rfl (if_pos hk), ?update, ?snuff, ?autonomous⟩
  case trips =>
    intro s l t sw mv n ds
    exact ⟨fun hsw hw hmv hdelay => .of_eq rfl (if_pos (Lane.compTrips_of hsw hw hmv hdelay)),
      fun hsw hw hmv hdelay => .of_eq rfl (if_pos (Lane.compTrips_of hsw hw hmv hdelay)),
      fun hw => ⟨.of_eq rfl (ite_of_eq_false (Lane.compTrips_of_unwatched _ _ _ hw)),
        .of_eq rfl (ite_of_eq_false (Lane.compTrips_of_unwatched _ _ _ hw))⟩⟩
  case retry =>
    intro s l t u n hd
    exact ⟨fun hwait hover => completes_of_drv hd rfl (if_pos ⟨hwait, hover⟩), fun hno => completes_of_drv hd rfl (if_neg fun h => hno h.1)⟩
  case vgd =>
    intro s l t n m
    refine ⟨.of_eq rfl rfl, fun hr hu => ⟨fun hn hlink => .of_eq rfl ((Lane.vgdFall_of_risen hr hu).trans (if_pos ?_)),
      fun hquiet => .of_eq rfl ((Lane.vgdFall_of_risen hr hu).trans (ite_of_eq_false ?_))⟩,
      fun hr => .of_eq rfl (if_pos (congrArg Bool.not hr)), fun hu hlatch hover => .of_eq rfl (if_pos ?_), fun h => .of_eq rfl (ite_of_eq_false ?_)⟩
    · rw [hlink, hn]
      rfl
    · obtain hn | hlink := hquiet
      · rw [hn]
        exact Bool.and_false _
      · rw [hlink]
        rfl
    · rw [hu, hlatch, hover]
      rfl
    · obtain hu | hlatch := h
      · rw [hu]
        rfl
      · rw [hlatch, Bool.not_true, Bool.and_false, Bool.false_and]
  case update =>
    exact fun s l t hd => ⟨completes_of_drv hd rfl rfl, completes_of_drv hd rfl rfl, fun hb => completes_of_drv hd rfl rfl⟩
  case snuff =>
    intro s l t n m
    refine ⟨fun h => .of_eq rfl (if_pos ?_), fun hm ho hh => .of_eq rfl (ite_of_eq_false ?_), fun h => .of_eq rfl (if_pos h),
      fun h => .of_eq rfl (ite_of_eq_false h)⟩
    · obtain h | h | h := h
      · rw [Lane.snuffDue, decide_eq_true h]
        rfl
      · rw [Lane.snuffDue, h, Bool.not_false, Bool.or_true, Bool.true_or]
      · rw [Lane.snuffDue, h, Bool.or_true]
    · rw [Lane.snuffDue, decide_eq_false hm, ho, hh]
      rfl
  case autonomous =>
    intro s l t n m hlink hauto hmiss
    refine .of_eq rfl (if_pos ?_)
    rw [hlink, hauto, hmiss]
    rfl

/-- Settles O43: each event by the condition that its rule names. -/
theorem safetyCommandsComplete : Obligations.SafetyCommandsComplete := by
  refine ⟨fun s l la lb hd => completes_of_drv hd rfl rfl, ?pulse, ?pulseEnd, fun s l t o hd =>
    ⟨fun h => completes_of_drv hd rfl (if_pos h), fun h => completes_of_drv hd rfl (ite_of_eq_false h)⟩, ?session⟩
  case pulse =>
    intro s l t o n hd ho
    refine ⟨fun hon hno hint hdue => completes_of_drv hd rfl (if_pos ?_), fun hoff => completes_of_drv hd rfl (ite_of_eq_false ?_)⟩
    · rw [decide_eq_true ho, hon, hno, decide_eq_true hint, decide_eq_true hdue]
      rfl
    · rw [hoff, Bool.and_false, Bool.false_and, Bool.false_and, Bool.false_and]
  case pulseEnd =>
    intro s l t o n hd hp
    refine ⟨fun hdue => ?_, fun below hearly => completes_of_drv hd rfl (ite_of_eq_false ?_)⟩
    · have hcond : ((n.safeOut o).pulse && decide ((n.safeOut o).testAt + 6000 * n.rd SFU.SO_CFG_PULSE o ≤ n.clk.now)) = true := by
        rw [hp, decide_eq_true hdue]
        rfl
      exact ⟨completes_of_drv hd rfl (if_pos hcond), completes_of_drv hd rfl (if_pos hcond)⟩
    · rw [decide_eq_false hearly.not_ge, Bool.and_false]
  case session =>
    intro s l t n hd
    refine ⟨fun hs hlost => completes_of_drv hd rfl (if_pos ?_), fun h => completes_of_drv hd rfl (ite_of_eq_false ?_)⟩
    · rw [hs, decide_eq_true hlost]
      rfl
    · obtain hs | halive := h
      · rw [hs]
        rfl
      · rw [decide_eq_false halive.not_ge, Bool.and_false]

/-! ### Fault events and recoveries -/

section
variable {l : Lane} {src : Nat} (hmay : l.mayRecover src = true)
include hmay

theorem Lane.recover_of_few
    (hfew : l.rd FCL.SRC_REC_K src = 0 ∨
      (within l.clk.cycles (l.msCycles (1000 * l.rd FCL.SRC_REC_W src)) (l.src src).recov).length + 1 < l.rd FCL.SRC_REC_K src) :
    l.recover src = l.setSrc src { l.src src with
      active := false, demand := 0, lift := (l.src src).fence
      recov := l.clk.cycles :: within l.clk.cycles (l.msCycles (1000 * l.rd FCL.SRC_REC_W src)) (l.src src).recov } :=
  (if_pos hmay).trans (if_neg fun h => hfew.elim h.1 (·.not_ge h.2))

theorem Lane.recover_of_many (hk : l.rd FCL.SRC_REC_K src ≠ 0)
    (hmany : l.rd FCL.SRC_REC_K src ≤
      (within l.clk.cycles (l.msCycles (1000 * l.rd FCL.SRC_REC_W src)) (l.src src).recov).length + 1) :
    l.recover src =
      if l.on FCL.EPISODE_OPEN && decide (l.rd FCL.EPISODE_SOURCE = src) then
        (l.setSrc src { l.src src with sticky := true }).flag FCL.LOG0_STICKY true (l.rd FCL.EPISODE_ENTRY)
      else l.setSrc src { l.src src with sticky := true } :=
  (if_pos hmay).trans (if_pos ⟨hk, hmany⟩)

end

/-- The word that INJECT writes: GO, the target from bit 8 and the source from bit 0. -/
def injectWord (target src : Nat) : Word := BitVec.ofNat 32 (0x80000000 + 256 * target + src % 256)

theorem injectWord_fields {target src : Nat} (h : target < 5) :
    bitsOf (injectWord target src) 31 1 = 1 ∧ bitsOf (injectWord target src) 8 3 = target ∧ bitsOf (injectWord target src) 0 8 = src % 256 := by
  have hword : (injectWord target src).toNat = 0x80000000 + 256 * target + src % 256 := Nat.mod_eq_of_lt (by omega)
  unfold bitsOf
  rw [hword]
  omega

/-- What an injection does in MAKER, by its target. -/
def Lane.injectedAs (l : Lane) (target src : Nat) : Lane :=
  match target with
  | 0 => l.fault src 0 true
  | 1 => { l with bcn := { l.bcn with flip := true } }
  | k => { l with fcl := { l.fcl with armed := k } }

section
variable {l : Lane} {ini k target src : Nat} {r : RegRow} (hacc : l.regAccess ini (privAddr FCL.INJECT_GO.key) true = .ok k r)
  (hd : l.domOn (blockDomain (k / 0x10000)) = true)
include hacc hd

theorem Lane.injectBy_of_access : l.injectBy ini src target = l.injectWrite ini (privAddr FCL.INJECT_GO.key) (injectWord target src) :=
  Lane.guardWrite_of_done (f := fun _ _ m => m.injectWrite ini (privAddr FCL.INJECT_GO.key) (injectWord target src)) (.inr (by decide)) hacc hd
    (fun h => by cases h)

theorem Lane.injectBy_of_maker (hmaker : l.otp.lifecycle = 1) (htarget : target < 5) (hsrc : src < 256) :
    l.injectBy ini src target = (l.injectedAs target src).busDone 0 := by
  obtain ⟨hgo, htgt, hs⟩ := injectWord_fields (src := src) htarget
  rw [Lane.injectBy_of_access hacc hd, Lane.injectWrite, if_neg (not_not_intro hmaker), hgo, htgt, hs, Nat.mod_eq_of_lt hsrc]
  interval_cases target <;> rfl

theorem Lane.injectBy_of_not_maker (hmaker : l.otp.lifecycle ≠ 1) :
    l.injectBy ini src target = (l.fault 0x07 (accessInfo (privAddr FCL.INJECT_GO.key) ini)).busDone 0 := by
  rw [Lane.injectBy_of_access hacc hd, Lane.injectWrite, if_pos hmaker]

end

/-- Settles O44: events by their level, recoveries by their number within the window, injections by the lifecycle state. -/
theorem faultCommandsComplete : Obligations.FaultCommandsComplete := by
  refine ⟨fun s l t src info => ⟨.of_eq rfl rfl, .of_eq rfl rfl, .of_eq rfl rfl⟩, ?recovery, ?maker, ?elsewhere⟩
  case recovery =>
    intro s l t src n k recent
    refine ⟨fun h => .of_eq rfl (ite_of_eq_false h), fun h hfew => .of_eq rfl (Lane.recover_of_few h hfew), fun h hk hmany => ?_⟩
    refine .of_eq rfl ((Lane.recover_of_many h hk hmany).trans ?_)
    simp only [Bool.and_eq_true, decide_eq_true_eq]
  case maker =>
    intro s l t ini src k r n hacc hd hmaker hsrc
    exact ⟨.of_eq rfl (Lane.injectBy_of_maker hacc hd hmaker (by decide) hsrc), .of_eq rfl (Lane.injectBy_of_maker hacc hd hmaker (by decide) (by decide)),
      .of_eq rfl (Lane.injectBy_of_maker hacc hd hmaker (by decide) (by decide)),
      .of_eq rfl (Lane.injectBy_of_maker hacc hd hmaker (by decide) (by decide)),
      .of_eq rfl (Lane.injectBy_of_maker hacc hd hmaker (by decide) (by decide))⟩
  case elsewhere =>
    intro s l t ini src k r n v hacc hd hmaker
    exact ⟨.of_eq rfl (Lane.injectBy_of_not_maker hacc hd hmaker), .of_eq rfl (Lane.injectBy_of_not_maker hacc hd hmaker),
      .of_eq rfl (Lane.injectBy_of_not_maker hacc hd hmaker), .of_eq rfl (Lane.injectBy_of_not_maker hacc hd hmaker),
      .of_eq rfl (Lane.injectBy_of_not_maker hacc hd hmaker)⟩

end Sys2Proof.Machine
end

section
/-!
PROOFS. The queues of the host interface and the events of PCIe (QueueCommandsComplete, O47), and the commands that one lane executes alone
(LocalCommandsComplete, O48).
-/
namespace Sys2Proof.Machine

open Sys2Proof

/-- A command that does its work in the HSI domain alone: a clause with that domain ON is the work's own equation. -/
theorem completes_of_hsi {c : Instr} {s : State} {l : LaneId} {n x v : Lane} (hd : n.domOn 5 = true)
    (hc : exec c s = .next (s.setLane l (n.gated 5 x))) (hv : x = v) : Completes c s l v :=
  .of_eq hc ((Lane.gated_of_on _ _ _ hd).trans hv)

/-- With the domain not ON such a command leaves the lane at its tick. -/
theorem completes_of_hsi_off {c : Instr} {s : State} {l : LaneId} {n x : Lane} (hd : n.domOn 5 = false)
    (hc : exec c s = .next (s.setLane l (n.gated 5 x))) : Completes c s l n :=
  .of_eq hc (Lane.gated_of_off _ _ _ hd)

theorem Lane.tokenWrite_of_halted {l : Lane} {q off : Nat} {token : Word} {c : Cmd} (f : Cmd → Lane → Lane) (hc : (l.qp q).cmd = some c)
    (hh : c.halted = true) (ht : l.word (QDM.QP_STATUS_TOKEN.at_ q 0) = token) (h0 : token ≠ 0) :
    l.tokenWrite q off token f = f c (l.setWord (QDM.QP_STATUS_TOKEN.at_ q 0) 0) := by
  unfold Lane.tokenWrite
  rw [hc]
  exact if_pos ⟨hh, ht, h0⟩

theorem Lane.onHif_congr {l : Lane} {f g : Hif → Hif} (h : f l.hif = g l.hif) : l.onHif f = l.onHif g := by
  rw [Lane.onHif, h, Lane.onHif]

/-- Settles O47: doorbells by their queue and value, the fetch and the burst by their checks in order, the events of PCIe by the state of the link. -/
theorem queueCommandsComplete : Obligations.QueueCommandsComplete := by
  refine ⟨?pointers, ?tokens, ?fetch, ?input, ?fault, ?post, ?timeout, ?enable, ?link, ?off⟩
  case pointers =>
    intro s l t fn q v n hd hq hfn
    exact ⟨fun hv => completes_of_hsi hd rfl ((if_pos ⟨hq, hfn⟩).trans (if_pos hv)),
      fun hv => completes_of_hsi hd rfl ((if_pos ⟨hq, hfn⟩).trans (if_pos hv))⟩
  case tokens =>
    intro s l t fn q token c n m hd hq hfn hc hh ht h0
    exact ⟨completes_of_hsi hd rfl ((if_pos ⟨hq, hfn⟩).trans (Lane.tokenWrite_of_halted _ hc hh ht h0)),
      completes_of_hsi hd rfl ((if_pos ⟨hq, hfn⟩).trans (Lane.tokenWrite_of_halted _ hc hh ht h0))⟩
  case fetch =>
    intro s l t q ws tag r n head d c n1 hd
    refine ⟨fun h => completes_of_hsi hd rfl (ite_of_eq_false h), fun h hup => completes_of_hsi hd rfl ((if_pos h).trans (if_pos hup)), fun h hup => ?_⟩
    have hfetch : ∀ v, (if !descOk d then ((n1.completeCmd q 3).bump HIF.CMD_ERR_FORMAT).fault 0xAE
        else if !n.permitted d.opcode q then n1.completeCmd q 4
        else match opRow d.opcode with
          | some r =>
            if r.pay = .input then n1.setQp q { n1.qp q with cmd := some { c with stage := .input } }
            else n1.authenticate q c (n1.tagHolds q c []) 0
          | none => n1) = v → Completes (.descriptorFetch l t q ws tag) s l v := fun v hv =>
      completes_of_hsi hd rfl ((if_pos h).trans ((ite_of_eq_false hup).trans hv))
    refine ⟨fun hok => hfetch _ (if_pos (congrArg Bool.not hok)),
      fun hok hp => hfetch _ ((ite_of_eq_false (congrArg Bool.not hok)).trans (if_pos (congrArg Bool.not hp))),
      fun hok hp hrow hpay => hfetch _ ((ite_of_eq_false (congrArg Bool.not hok)).trans ((ite_of_eq_false (congrArg Bool.not hp)).trans ?_)),
      fun hok hp hrow hpay => hfetch _ ((ite_of_eq_false (congrArg Bool.not hok)).trans ((ite_of_eq_false (congrArg Bool.not hp)).trans ?_))⟩
    · rw [hrow]
      exact if_pos hpay
    · rw [hrow]
      exact if_neg hpay
  case input =>
    intro s l t q data hash pay c n w m size c1 n3 c2 hd hq hwin hc hst htr
    have htotal : c.total = c.desc.length := by rw [Cmd.total, hst]
    have hout : decide (c.stage = .output) = false := by rw [hst]; rfl
    refine ⟨fun hmore => completes_of_hsi hd rfl ?_, fun hlast => completes_of_hsi hd rfl ?_⟩
    · rw [decide_eq_true hq, hwin, hc, Bool.and_true]
      dsimp only
      rw [hout, htotal]
      exact (if_neg (not_not_intro htr)).trans ((ite_of_eq_false rfl).trans (if_pos hmore))
    · rw [decide_eq_true hq, hwin, hc, Bool.and_true]
      dsimp only
      rw [hout, htotal]
      exact (if_neg (not_not_intro htr)).trans ((ite_of_eq_false rfl).trans ((if_neg hlast.not_gt).trans (ite_of_eq_false rfl)))
  case fault =>
    intro s l t q hostOk data hash pay c n w out m hd hq hwin hc
    refine ⟨fun htr => completes_of_hsi hd rfl ?_, fun htr => completes_of_hsi hd rfl ?_⟩
    · rw [decide_eq_true hq, hwin, hc]
      exact if_pos htr
    · rw [decide_eq_true hq, hwin, hc]
      exact (if_neg (not_not_intro htr)).trans (if_pos rfl)
  case post =>
    intro s l t q c cs n tail n2 n3 n4 hd hq hw
    refine ⟨fun hroom hpost hruns hfence => ?_, fun hroom => completes_of_hsi hd rfl ?_⟩
    · have hgo : (decide (q < 8) && n.cqRoom q && n.postable c && n.fnRuns (n.queueFn q) && !n.fenced (.port .pcie)) = true := by
        rw [decide_eq_true hq, hroom, hpost, hruns, hfence]
        rfl
      refine ⟨fun h => completes_of_hsi hd rfl ?_, fun hirq hstat => completes_of_hsi hd rfl ?_⟩
      · rw [hw]
        exact (if_pos hgo).trans (congrArg (Lane.stopQueue · q) (if_pos h))
      · rw [hw]
        exact (if_pos hgo).trans (congrArg (Lane.stopQueue · q) (if_neg (not_or.mpr ⟨Bool.eq_false_iff.mp hirq, hstat⟩)))
    · rw [hw]
      exact ite_of_eq_false (by rw [hroom, Bool.and_false, Bool.false_and, Bool.false_and, Bool.false_and])
  case timeout =>
    intro s l t q c cs n hd hw hraised hroom hdue
    refine completes_of_hsi hd rfl ?_
    rw [hw]
    exact if_pos (by rw [hraised, hroom, decide_eq_true hdue]; rfl)
  case enable =>
    intro s l t ini q v k r n addr hini hacc hd
    exact .of_eq rfl (Lane.guardWrite_of_notHost (.inl hini) hacc hd hini)
  case link =>
    intro s l t n hd
    refine ⟨fun hup => completes_of_hsi hd rfl (if_pos hup), fun speed h1 h3 => completes_of_hsi hd rfl (if_neg (by omega)),
      fun speed hs => completes_of_hsi hd rfl (if_pos (by omega)), fun fn hfn => ?_⟩
    intro bme noD3 n1 n2
    refine ⟨completes_of_hsi hd rfl ?_, fun d3hot on => ?_⟩
    · obtain rfl | rfl : fn = 0 ∨ fn = 1 := by omega
      · exact if_pos rfl
      · exact (if_neg Nat.one_ne_zero).trans ((if_pos rfl).trans (if_neg Nat.one_ne_zero).symm)
    · intro p
      have hp : ((n.flag bme on).onHif fun h => { h with d3 := (if h.d3.testBit fn then h.d3 - 2 ^ fn else h.d3) + if d3hot then 2 ^ fn else 0 })
          = p := Lane.onHif_congr (by rw [Lane.flag_hif])
      refine ⟨fun h => completes_of_hsi hd rfl ((if_neg hfn.not_ge).trans ((if_pos ?_).trans (congrArg (Lane.stopFn · fn) hp))),
        fun hd3 hon => completes_of_hsi hd rfl ((if_neg hfn.not_ge).trans ((ite_of_eq_false ?_).trans hp))⟩
      · obtain rfl | rfl := h
        · rfl
        · exact Bool.or_true _
      · rw [hd3, hon]
        rfl
  case off =>
    intro s l t n hd
    exact ⟨fun fn q v token => ⟨completes_of_hsi_off hd rfl, completes_of_hsi_off hd rfl, completes_of_hsi_off hd rfl, completes_of_hsi_off hd rfl⟩,
      fun q ws tag => completes_of_hsi_off hd rfl, fun q ok data hash pay => completes_of_hsi_off hd rfl, fun q => completes_of_hsi_off hd rfl,
      completes_of_hsi_off hd rfl, fun speed => completes_of_hsi_off hd rfl⟩

/-! ### Commands that one lane executes alone -/

section
variable {l : Lane} {q opcode : Nat}

section
variable {c : Cmd} (hc : (l.qp q).cmd = some c) (hst : c.stage = .ready) (hh : c.halted = false) (hop : c.desc.opcode = opcode)
include hc hst hh hop

theorem Lane.localCmd_of_ready (f : Cmd → Lane → Lane × Nat × Nat × Nat) :
    l.localCmd q opcode f = (f c l).1.completeCmd q (f c l).2.1 (f c l).2.2.1 (f c l).2.2.2 := by
  have hgo : (decide (c.stage = .ready) && !c.halted && decide (c.desc.opcode = opcode)) = true := by
    rw [decide_eq_true hst, hh, decide_eq_true hop]
    rfl
  unfold Lane.localCmd
  rw [hc]
  exact if_pos hgo

theorem Lane.outCmd_of_ready (f : Cmd → Lane → List Nat × Nat) :
    l.outCmd q opcode f =
      let data := (f c l).1.take (c.desc.length / 4)
      if data.isEmpty then l.completeCmd q 0 (f c l).2
      else l.setQp q { l.qp q with cmd := some { c with stage := .output, data := data, r0 := (f c l).2 } } := by
  have hgo : (decide (c.stage = .ready) && !c.halted && decide (c.desc.opcode = opcode)) = true := by
    rw [decide_eq_true hst, hh, decide_eq_true hop]
    rfl
  unfold Lane.outCmd
  rw [hc]
  exact if_pos hgo

end

variable (hc : (l.qp q).cmd = none)
include hc

theorem Lane.localCmd_of_none (f : Cmd → Lane → Lane × Nat × Nat × Nat) : l.localCmd q opcode f = l := by
  unfold Lane.localCmd
  rw [hc]

theorem Lane.outCmd_of_none (f : Cmd → Lane → List Nat × Nat) : l.outCmd q opcode f = l := by
  unfold Lane.outCmd
  rw [hc]

end

/-- Settles O48: `localCmd` and `outCmd` of a ready command, and of a queue without one. -/
theorem localCommandsComplete : Obligations.LocalCommandsComplete := by
  refine ⟨?ready, ?idle⟩
  case ready =>
    intro s l t q c n writes hc hst hh
    refine ⟨fun hop => .of_eq rfl (Lane.localCmd_of_ready hc hst hh hop _), fun hop => .of_eq rfl (Lane.localCmd_of_ready hc hst hh hop _),
      fun hop => .of_eq rfl (Lane.localCmd_of_ready hc hst hh hop _), fun es n1 k hop hpay => ⟨fun hall => ?_, fun hall => ?_⟩,
      fun hop => .of_eq rfl (Lane.outCmd_of_ready hc hst hh hop _), fun hop => .of_eq rfl (Lane.outCmd_of_ready hc hst hh hop _),
      fun lost hop hd => ?_⟩
    · refine .of_eq rfl ((Lane.localCmd_of_ready hc hst hh hop _).trans ?_)
      rw [hpay]
      dsimp only
      rw [hall]
      rfl
    · refine .of_eq rfl ((Lane.localCmd_of_ready hc hst hh hop _).trans ?_)
      rw [hpay]
      dsimp only
      rw [hall]
      rfl
    · exact ⟨fun hm => .of_eq rfl ((Lane.gated_of_on _ _ _ hd).trans ((ite_of_eq_false hm).trans (Lane.localCmd_of_ready hc hst hh hop _))),
        fun hm => .of_eq rfl ((Lane.gated_of_on _ _ _ hd).trans ((if_pos hm).trans (Lane.outCmd_of_ready hc hst hh hop _)))⟩
  case idle =>
    intro s l t q lost n hc
    refine ⟨.of_eq rfl (Lane.localCmd_of_none hc _), .of_eq rfl (Lane.localCmd_of_none hc _), .of_eq rfl (Lane.localCmd_of_none hc _),
      .of_eq rfl (Lane.localCmd_of_none hc _), .of_eq rfl (Lane.outCmd_of_none hc _), .of_eq rfl (Lane.outCmd_of_none hc _), .of_eq rfl ?_⟩
    rw [Lane.localCmd_of_none hc, Lane.outCmd_of_none hc, ite_self]
    exact ite_self _

end Sys2Proof.Machine
end

section
/-!
PROOFS. The commands of class A that are agreed (AgreedCommandsComplete, O49), and the mailboxes and sessions (MailboxAndSessionComplete, O50).
-/
namespace Sys2Proof.Machine

open Sys2Proof

/-! ### An agreed command -/

section
variable {l : Lane} {img : CmdImage} {opcode : Nat} (hop : img.opcode = opcode)

theorem Lane.agreedAs_of_not (f : Lane → Lane) (hno : l.agreedNow img = false) : l.agreedAs opcode img f = l :=
  ite_of_eq_false (by rw [hno, Bool.and_false])

include hop
variable (hnow : l.agreedNow img = true)
include hnow

theorem Lane.agreedAs_of_free (f : Lane → Lane) (hfree : (l.take img).keyoffBusy = false) : l.agreedAs opcode img f = f (l.take img) :=
  (if_pos (by rw [decide_eq_true hop, hnow]; rfl)).trans (ite_of_eq_false hfree)

variable (hbusy : (l.take img).keyoffBusy = true)
include hbusy

/-- During a key-off test the image is refused, after a record that its opcode may ask for. -/
theorem Lane.agreedAs_of_busy (f : Lane → Lane) : l.agreedAs opcode img f =
    (if opcode = 0x38 then (l.take img).fault 0xE9
      else if opcode = 0x20 then (l.take img).sysRecord 0x08 [(img.args.getD 0 0).toNat, 8, 0x0D] else l.take img).finish img false 8 0x0D :=
  (if_pos (by rw [decide_eq_true hop, hnow]; rfl)).trans (if_pos hbusy)

theorem Lane.agreedAs_of_busy_plain (f : Lane → Lane) (hplain : opcode ≠ 0x38 ∧ opcode ≠ 0x20) :
    l.agreedAs opcode img f = (l.take img).finish img false 8 0x0D := by
  rw [Lane.agreedAs_of_busy hop hnow hbusy, if_neg hplain.1, if_neg hplain.2]

end

section
variable {l : Lane} {img : CmdImage} (hnow : l.agreedNow img = true) (hbusy : (l.take img).keyoffBusy = true)
include hnow hbusy

theorem Lane.agreedAs_of_busy_test (f : Lane → Lane) (hop : img.opcode = 0x38) :
    l.agreedAs 0x38 img f = ((l.take img).fault 0xE9).finish img false 8 0x0D := by
  rw [Lane.agreedAs_of_busy hop hnow hbusy, if_pos rfl]

theorem Lane.agreedAs_of_busy_enable (f : Lane → Lane) {k : Nat} (hop : img.opcode = 0x20) (harg : (img.args.getD 0 0).toNat = k) :
    l.agreedAs 0x20 img f = ((l.take img).sysRecord 0x08 [k, 8, 0x0D]).finish img false 8 0x0D := by
  rw [Lane.agreedAs_of_busy hop hnow hbusy, if_neg (by decide), if_pos rfl, harg]

end

/-- Settles O49: the row of each opcode through `agreedAs`, free, busy with a key-off test, and not to be carried out. -/
theorem agreedCommandsComplete : Obligations.AgreedCommandsComplete := by
  refine ⟨?free, ?busy, ?idle⟩
  case free =>
    intro s l t img p w o n hnow hfree
    refine ⟨?_, ?_, ?_, ?_, ?_, ?_, ?_, ?_, ?_, ?_, ?_, ?_, ?_, ?_, ?_, ?_,
      fun hop harg => .of_eq rfl ((if_pos harg).trans (Lane.agreedAs_of_free hop hnow _ hfree)),
      fun hop harg => .of_eq rfl ((if_pos harg).trans (Lane.agreedAs_of_free hop hnow _ hfree)),
      fun hop harg => .of_eq rfl ((if_pos harg).trans (Lane.agreedAs_of_free hop hnow _ hfree)),
      fun hop harg => .of_eq rfl ((if_pos harg).trans (Lane.agreedAs_of_free hop hnow _ hfree))⟩
    all_goals exact fun hop => .of_eq rfl (Lane.agreedAs_of_free hop hnow _ hfree)
  case busy =>
    intro s l t img p w o n hnow hbusy
    refine ⟨?_, ?_, ?_, ?_, ?_, ?_, ?_, ?_, ?_, ?_, ?_, ?_, ?_, ?_, ?_, ?_,
      fun hop harg => .of_eq rfl ((if_pos harg).trans (Lane.agreedAs_of_busy_enable hnow hbusy _ hop (by rw [harg]; rfl))),
      fun hop harg => .of_eq rfl ((if_pos harg).trans (Lane.agreedAs_of_busy_enable hnow hbusy _ hop (by rw [harg]; rfl))),
      fun hop harg => .of_eq rfl ((if_pos harg).trans (Lane.agreedAs_of_busy_test hnow hbusy _ hop)),
      fun hop harg => .of_eq rfl ((if_pos harg).trans (Lane.agreedAs_of_busy_test hnow hbusy _ hop))⟩
    all_goals exact fun hop => .of_eq rfl (Lane.agreedAs_of_busy_plain hop hnow hbusy _ (by decide))
  case idle =>
    intro s l t img p w o n hno
    have hnone : ∀ opcode f (a : Prop) [Decidable a], (if a then n.agreedAs opcode img f else n) = n := fun opcode f a _ => by
      rw [Lane.agreedAs_of_not f hno, ite_self]
    refine ⟨?_, ?_, ?_, ?_, ?_, ?_, ?_, ?_, ?_, ?_, ?_, ?_, ?_, ?_, ?_, ?_, .of_eq rfl (hnone _ _ _), .of_eq rfl (hnone _ _ _),
      .of_eq rfl (hnone _ _ _), .of_eq rfl (hnone _ _ _)⟩
    all_goals exact .of_eq rfl (Lane.agreedAs_of_not _ hno)

/-! ### A message in a mailbox -/

section
variable {l : Lane} {m type : Nat} (f : List Byte → Lane → Lane)

theorem Lane.mailTake_of_empty (hfull : l.mailFull m = false) : l.mailTake m type f = l := if_pos (by rw [hfull]; rfl)

variable (hfull : l.mailFull m = true) (hbox : m = 0 ∨ 2 ≤ m ∧ m ≤ 4)
include hfull hbox

theorem Lane.mailTake_of_full : l.mailTake m type f =
    if !l.mailSound m then l.mailBad m
    else if l.mailType m ≠ type then l
    else if l.mailLast m then f (Sparse.get [] l.mbx.parts m ++ l.mailBytes m) ((l.awaitSeg m 0 []).emptyMail m)
    else (l.awaitSeg m (l.mailSeg m + 1) (Sparse.get [] l.mbx.parts m ++ l.mailBytes m)).emptyMail m := by
  have htakes : (decide (m = 0) || decide (2 ≤ m) && decide (m ≤ 4)) = true := by
    simpa only [Bool.or_eq_true, Bool.and_eq_true, decide_eq_true_eq] using hbox
  exact ite_of_eq_false (by rw [hfull, htakes]; rfl)

theorem Lane.mailTake_of_unsound (hsound : l.mailSound m = false) : l.mailTake m type f = l.mailBad m :=
  (Lane.mailTake_of_full f hfull hbox).trans (if_pos (congrArg Bool.not hsound))

variable (hsound : l.mailSound m = true) (htype : l.mailType m = type)
include hsound htype

theorem Lane.mailTake_of_part (hlast : l.mailLast m = false) : l.mailTake m type f =
    (l.awaitSeg m (l.mailSeg m + 1) (Sparse.get [] l.mbx.parts m ++ l.mailBytes m)).emptyMail m :=
  (Lane.mailTake_of_full f hfull hbox).trans ((ite_of_eq_false (congrArg Bool.not hsound)).trans
    ((if_neg (not_not_intro htype)).trans (ite_of_eq_false hlast)))

theorem Lane.mailTake_of_last (hlast : l.mailLast m = true) : l.mailTake m type f =
    f (Sparse.get [] l.mbx.parts m ++ l.mailBytes m) ((l.awaitSeg m 0 []).emptyMail m) :=
  (Lane.mailTake_of_full f hfull hbox).trans ((ite_of_eq_false (congrArg Bool.not hsound)).trans
    ((if_neg (not_not_intro htype)).trans (if_pos hlast)))

end

section
variable {l : Lane} {ini m : Nat} {addr : Word}

theorem Lane.mailPost_of_sender (hini : ini = mailSender m) (hfull : l.mailFull m = false) : l.mailPost ini addr m 1 =
    (if mailReceiver m = 0xB then (l.setFull m true).msix (mailFn m) 8 else l.setFull m true).busDone 0 :=
  (ite_of_eq_false hfull).trans ((if_neg (by decide)).trans (if_neg (not_not_intro hini)))

theorem Lane.mailAck_of_receiver (hini : ini = mailReceiver m) : l.mailAck ini addr m 1 = (l.emptyMail m).busDone 0 :=
  (if_neg (by decide)).trans (if_neg (not_not_intro hini))

end

/-- Settles O50: words and posts by whether the mailbox is full, messages by `mailTake`, sessions by what the message names. -/
theorem mailboxAndSessionComplete : Obligations.MailboxAndSessionComplete := by
  refine ⟨?data, ?post, ?ack, ?message, ?segment, ?idle, ?unsound, ?agreed, ?notMine⟩
  case data =>
    intro s l t ini m w v k r n hm hw hal hacc hd
    have hbox : m % 8 = m := Nat.mod_eq_of_lt hm
    have hword : w % 16 = w := Nat.mod_eq_of_lt hw
    have hput : ∀ v', (n.mailData ini m w v).logAbort ini (privAddr (MBX.DATA_WORD.at_ m w)) = v' →
        Completes (.mailboxDataWrite l t ini m w v) s l v' := fun v' hv => by
      refine .of_eq rfl ?_
      rw [hbox, hword]
      exact (Lane.guardWrite_of_ok hal hacc hd).trans hv
    refine ⟨fun hfull => hput _ ?_, fun hfull hini => hput _ ?_⟩
    · rw [Lane.mailData, if_pos hfull]
      rfl
    · rw [Lane.mailData, hfull, if_neg Bool.false_ne_true, if_pos hini]
      exact if_neg fun h => by cases h.2
  case post =>
    intro s l t m k r n hm hacc hd hal hfull
    have hbox : m % 8 = m := Nat.mod_eq_of_lt hm
    have hpost := n.mailPost_of_sender (addr := privAddr (MBX.POST_GO.at_ m 0)) rfl hfull
    refine .of_eq rfl ?_
    rw [hbox]
    refine (Lane.guardWrite_of_done hal hacc hd ?_).trans hpost
    exact fun h => by rw [hpost] at h; cases h
  case ack =>
    intro s l t m k r n hm hacc hd hal
    have hbox : m % 8 = m := Nat.mod_eq_of_lt hm
    have hack := n.mailAck_of_receiver (m := m) (addr := privAddr (MBX.ACK_GO.at_ m 0)) rfl
    refine .of_eq rfl ?_
    rw [hbox]
    refine (Lane.guardWrite_of_done hal hacc hd ?_).trans hack
    exact fun h => by rw [hack] at h; cases h
  case message =>
    intro s l t m n bs e hfull hsound hlast
    refine ⟨fun h2 h4 htype => ?_, fun h2 h4 htype => ?_, fun h2 h4 htype => ?_, fun hbox htype => ?_, ?_, ?_, ?_⟩
    · exact .of_eq rfl ((if_pos h2).trans (Lane.mailTake_of_last _ hfull (.inr ⟨h2, h4⟩) hsound htype hlast))
    · exact .of_eq rfl ((if_pos h2).trans (Lane.mailTake_of_last _ hfull (.inr ⟨h2, h4⟩) hsound htype hlast))
    · exact .of_eq rfl ((if_pos h2).trans (Lane.mailTake_of_last _ hfull (.inr ⟨h2, h4⟩) hsound htype hlast))
    · exact .of_eq rfl (Lane.mailTake_of_last _ hfull hbox hsound htype hlast)
    · rintro rfl htype hlen hsess
      refine .of_eq rfl ((Lane.mailTake_of_last _ hfull (.inl rfl) hsound htype hlast).trans ((ite_of_eq_false ?_).trans (if_pos hsess)))
      exact decide_eq_false hlen.not_gt
    · rintro fn hash ok rfl htype hlen
      exact .of_eq rfl ((Lane.mailTake_of_last _ hfull (.inl rfl) hsound htype hlast).trans (if_pos hlen))
    · rintro fn hash rfl htype hlen hfn
      have hopen : ∀ ok, Completes (.sessionOpen l t fn hash ok) s l (e.openReceived fn hash ok bs) := fun ok =>
        .of_eq rfl ((Lane.mailTake_of_last _ hfull (.inl rfl) hsound htype hlast).trans ((if_neg (not_not_intro hlen)).trans (if_pos hfn)))
      refine ⟨fun hkey => ?_, fun hkey => ?_, fun hkey ok => ?_⟩
      · have hsub := hopen true
        rwa [Lane.openReceived, hkey] at hsub
      · have hsub := hopen false
        rwa [Lane.openReceived, hkey] at hsub
      · have hsub := hopen ok
        rwa [Lane.openReceived, hkey] at hsub
  case segment =>
    intro s l t m type n hfull hsound hlast htype htype' h2 h4
    exact .of_eq rfl ((if_pos h2).trans (Lane.mailTake_of_part _ hfull (.inr ⟨h2, h4⟩) hsound (htype.trans htype') hlast))
  case idle =>
    intro s l t m n hfull
    have hnone : ∀ type f, (if 2 ≤ m then n.mailTake m type f else n) = n := fun type f => by
      rw [Lane.mailTake_of_empty f hfull, ite_self]
    refine ⟨.of_eq rfl (hnone _ _), .of_eq rfl (hnone _ _), .of_eq rfl (hnone _ _), .of_eq rfl (Lane.mailTake_of_empty _ hfull), ?_⟩
    rintro rfl fn hash ok
    exact ⟨.of_eq rfl (Lane.mailTake_of_empty _ hfull), .of_eq rfl (Lane.mailTake_of_empty _ hfull)⟩
  case unsound => exact fun s l t m hfull hbox hsound => .of_eq rfl (Lane.mailTake_of_unsound _ hfull hbox hsound)
  case agreed =>
    intro s l t img n hop hmine hvset hnow
    refine .of_eq rfl (if_pos ⟨hop, hmine, ?_⟩)
    rw [if_pos hvset]
    exact hnow
  case notMine => exact fun s l t img hno => .of_eq rfl (if_neg fun h => Bool.eq_false_iff.mp hno h.2.1)

end Sys2Proof.Machine
end

section
/-!
PROOFS. The Wick ring and the Ethernet ports (WickCommandsComplete, O52).
-/
namespace Sys2Proof.Machine

open Sys2Proof

/-! ### The time base -/

section
variable {l : Lane} {off : Int}

/-- The lane that has noted the offset of a Sync message. -/
def Lane.syncNoted (l : Lane) (off : Int) : Lane :=
  { l.setWord WCK.SYNC_OFFSET_VALUE.key (BitVec.ofInt 32 (clampInt (-2147483648) 2147483647 off)) with
    wck := { l.wck with syncAt := some l.clk.now } }

theorem Lane.ptpSync_of_beyond (h : 10 * l.rd WCK.PTP_SYNC_LIMIT < off.natAbs) : l.ptpSync off = (l.syncNoted off).syncLost := if_pos h

theorem Lane.ptpSync_of_third (h : off.natAbs ≤ 10 * l.rd WCK.PTP_SYNC_LIMIT) (hrun : 2 ≤ l.wck.syncRun) : l.ptpSync off =
    (({ l.syncNoted off with wck := { (l.syncNoted off).wck with syncRun := 3 } } : Lane).flag WCK.STATUS_SYNCED true).setLevel 0xBA false := by
  have hmin : min (l.wck.syncRun + 1) 3 = 3 := Nat.min_eq_right (by omega)
  rw [Lane.ptpSync, if_neg h.not_gt]
  dsimp only
  rw [if_pos hmin, hmin]
  rfl

end

theorem Lane.syncLost_of_synced {l : Lane} (h : l.on WCK.STATUS_SYNCED = true) :
    l.syncLost =
      ({ (l.flag WCK.STATUS_SYNCED false).flag WCK.STATUS_TX_EN false with
          wck := { ((l.flag WCK.STATUS_SYNCED false).flag WCK.STATUS_TX_EN false).wck with syncRun := 0, syncAll := false, txOk := false } } :
        Lane).faultLevel 0xBA := if_pos h

/-! ### A frame that arrives -/

section
variable {l : Lane} {port : Nat} {f : WickFrame} (own : Bool) (take : Lane → Lane)

theorem Lane.wickArrive_of_idle (h : l.wickRuns = false) : l.wickArrive port f own take = l :=
  ite_of_eq_false (by rw [h]; rfl)

variable (hruns : l.wickRuns = true) (hport : l.portSends port = true) (hwick : l.isWick f.toEthHdr = true)
include hruns hport hwick

theorem Lane.wickArrive_of_heard : l.wickArrive port f own take =
    if f.node = l.rd WCK.CFG_NODE then l.noteFrame port f
    else if !l.inAnyWindow (f.dir % 2) l.wickAt then ((l.noteFrame port f).bump WCK.MISSED_HI (f.dir % 2)).netCount (4 + f.dir % 2)
    else if own then take ((l.noteFrame port f).forwardWick f) else l.noteFrame port f :=
  if_pos (by rw [hruns, hport, hwick]; rfl)

theorem Lane.wickArrive_of_own (hnode : f.node = l.rd WCK.CFG_NODE) : l.wickArrive port f own take = l.noteFrame port f :=
  (Lane.wickArrive_of_heard own take hruns hport hwick).trans (if_pos hnode)

variable (hnode : f.node ≠ l.rd WCK.CFG_NODE) (hdir : f.dir < 2)
include hnode hdir

theorem Lane.wickArrive_of_missed (hwin : l.inAnyWindow f.dir l.wickAt = false) :
    l.wickArrive port f own take = ((l.noteFrame port f).bump WCK.MISSED_HI f.dir).netCount (4 + f.dir) := by
  rw [Lane.wickArrive_of_heard own take hruns hport hwick, if_neg hnode, Nat.mod_eq_of_lt hdir, hwin]
  rfl

theorem Lane.wickArrive_of_inside (hwin : l.inAnyWindow f.dir l.wickAt = true) (hown : own = true) :
    l.wickArrive port f own take = take ((l.noteFrame port f).forwardWick f) := by
  rw [Lane.wickArrive_of_heard own take hruns hport hwick, if_neg hnode, Nat.mod_eq_of_lt hdir, hwin, hown]
  rfl

end

/-! ### A best-effort frame -/

section
variable {l : Lane} {port x bytes : Nat} (hp : port < 2) (hs : l.portSends port = true) (hbreak : l.on WCK.PORT_CFG_BE_BREAK (1 - port) = false)
include hp hs hbreak

theorem Lane.bestEffort_of_open : l.bestEffort port x bytes =
    let l1 := l.drainQueue 64 (1 - port) x
    let y := l1.beStart (1 - port) x
    if (l1.wck.queue (1 - port)).isEmpty && l1.portSends (1 - port) && l1.beFits (1 - port) y bytes then l1.beSend (1 - port) y bytes
    else if queueBytes (l1.wck.queue (1 - port)) + bytes ≤ 16384 then
      (l1.setQueue (1 - port) (l1.wck.queue (1 - port) ++ [(false, bytes)])).bump WCK.BE_COUNT_LO
    else (l1.bump WCK.BE_COUNT_HI).fault 0xBE := by
  rw [Lane.bestEffort, Nat.mod_eq_of_lt hp, hs, hbreak]
  rfl

end

/-- Settles O52: each row by whether the network runs, by the window of the frame and by the port's state. -/
theorem wickCommandsComplete : Obligations.WickCommandsComplete := by
  refine ⟨?sync, ?syncTimeout, fun s l t w hruns => .of_eq rfl (if_pos hruns), ?slot, ?frame, ?control, ?bestEffort, ?notBestEffort, ?link, ?idle⟩
  case sync =>
    intro s l t port off n l1 hp hruns hsends
    have hrow : ∀ v, n.ptpSync off = v → Completes (.ptpSyncMessage l t port off) s l v := fun v hv =>
      .of_eq rfl ((if_pos (by rw [Nat.mod_eq_of_lt hp, hruns, hsends]; rfl)).trans hv)
    exact ⟨fun h => hrow _ (Lane.ptpSync_of_beyond h), fun h hrun => hrow _ (Lane.ptpSync_of_third h hrun)⟩
  case syncTimeout =>
    intro s l t a n l1 hd hat hlate hsynced
    refine .of_eq rfl ((Lane.gated_of_on _ _ _ hd).trans ?_)
    rw [hat]
    exact (if_pos (by rw [decide_eq_true hlate, hsynced]; rfl)).trans (Lane.syncLost_of_synced hsynced)
  case slot =>
    intro s l t d slot n m g len hat hd hruns htx hhealthy hsends hvalid howner hen
    refine .of_eq rfl ?_
    rw [Nat.mod_eq_of_lt hd]
    refine if_pos ?_
    rw [hruns, htx, Lane.wickState, hhealthy, hsends, hvalid, decide_eq_true hat, decide_eq_true howner, hen]
    rfl
  case frame =>
    intro s l t port f n n1 m hp hdir hruns hsends hwick
    have hport : port % 2 = port := Nat.mod_eq_of_lt hp
    have hsends' : n.portSends (port % 2) = true := by rw [hport, hsends]
    refine ⟨fun hnode => ?_, fun hnode hwin => ?_, fun hnode hwin => ⟨fun hown => ?_, fun hown => ?_⟩⟩
    · have hrow : ∀ own take, n.wickArrive (port % 2) f own take = n1 := fun own take => by
        rw [Lane.wickArrive_of_own own take hruns hsends' hwick hnode, hport]
      exact ⟨.of_eq rfl (hrow _ _), .of_eq rfl (hrow _ _), .of_eq rfl (hrow _ _), .of_eq rfl (hrow _ _)⟩
    · intro v
      have hrow : ∀ own take, n.wickArrive (port % 2) f own take = v := fun own take => by
        rw [Lane.wickArrive_of_missed own take hruns hsends' hwick hnode hdir hwin, hport]
      exact ⟨.of_eq rfl (hrow _ _), .of_eq rfl (hrow _ _), .of_eq rfl (hrow _ _), .of_eq rfl (hrow _ _)⟩
    · have hrow : ∀ v, (if n.dataValid f && decide (f.kind = 0) then m.takeData port f else m) = v →
          Completes (.wickDataFrame l t port f.toEthHdr f.toWickHdr) s l v := fun v hv => by
        refine .of_eq rfl ((Lane.wickArrive_of_inside _ _ hruns hsends' hwick hnode hdir hwin ?_).trans ?_)
        · rw [Nat.mod_eq_of_lt hdir]
          exact hown
        · rw [hport]
          exact hv
      exact ⟨fun hvalid hkind => hrow _ (if_pos (by rw [hvalid, decide_eq_true hkind]; rfl)),
        fun hvalid => hrow _ (ite_of_eq_false (by rw [hvalid]; rfl))⟩
    · have hrow : ∀ take, n.wickArrive (port % 2) f (inSubWindow n.regs f.node n.wickAt) take = take m := fun take => by
        rw [Lane.wickArrive_of_inside _ take hruns hsends' hwick hnode hdir hwin hown, hport]
      exact ⟨fun h => .of_eq rfl ((hrow _).trans (if_pos h)), fun h => .of_eq rfl ((hrow _).trans (if_pos h)),
        fun h => .of_eq rfl ((hrow _).trans (if_pos h))⟩
  case control =>
    intro s l t sw n hruns hwin hsw
    have hrow : ∀ v, n.subWindow = v → Completes (.wickControlSubwindow l t) s l v := fun v hv =>
      .of_eq rfl ((if_pos (by rw [hruns, hwin]; rfl)).trans hv)
    refine ⟨fun hc hw => hrow _ ?_, fun hc ha => hrow _ ?_, fun hc ha hn hw => hrow _ ?_⟩
    · rw [Lane.subWindow, hsw]
      exact if_pos (by rw [hc, decide_eq_true hw]; rfl)
    · rw [Lane.subWindow, hsw]
      exact (ite_of_eq_false (by rw [hc]; rfl)).trans (if_pos ha)
    · rw [Lane.subWindow, hsw]
      exact (ite_of_eq_false (by rw [hc]; rfl)).trans ((ite_of_eq_false ha).trans (if_pos (by rw [hn, decide_eq_true hw]; rfl)))
  case bestEffort =>
    intro s l t port e bytes n q l1 y hp hruns hsends hbreak hbytes hwick hptp
    have hrow : ∀ v, (if (l1.wck.queue q).isEmpty && l1.portSends q && l1.beFits q y bytes then l1.beSend q y bytes
        else if queueBytes (l1.wck.queue q) + bytes ≤ 16384 then (l1.setQueue q (l1.wck.queue q ++ [(false, bytes)])).bump WCK.BE_COUNT_LO
        else (l1.bump WCK.BE_COUNT_HI).fault 0xBE) = v → Completes (.bestEffortFrame l t port e bytes) s l v := fun v hv =>
      .of_eq rfl ((if_pos (by rw [hruns, decide_eq_true hbytes, hwick, decide_eq_true hptp]; rfl)).trans
        ((Lane.bestEffort_of_open hp hsends hbreak).trans hv))
    refine ⟨fun hq hs hfit => hrow _ (if_pos (by rw [hq, hs, hfit]; rfl)),
      fun hwait hroom => hrow _ ((ite_of_eq_false ?_).trans (if_pos hroom)),
      fun hq hfull => hrow _ ((ite_of_eq_false ?_).trans (if_neg hfull.not_ge))⟩
    · obtain hq | hs | hfit := hwait
      · rw [List.isEmpty_eq_false_iff.mpr hq, Bool.false_and, Bool.false_and]
      · rw [hs, Bool.and_false, Bool.false_and]
      · rw [hfit, Bool.and_false]
    · rw [List.isEmpty_eq_false_iff.mpr hq, Bool.false_and, Bool.false_and]
  case notBestEffort =>
    intro s l t port e bytes n h
    refine .of_eq rfl (ite_of_eq_false ?_)
    obtain h | h | h := h
    · rw [decide_eq_false (not_not_intro h), Bool.and_false]
    · rw [h, Bool.not_true, Bool.and_false, Bool.false_and]
    · rw [decide_eq_false h.not_ge, Bool.and_false, Bool.false_and, Bool.false_and]
  case link =>
    intro s l t p n f hp hen hd
    have hport : p % 2 = p := Nat.mod_eq_of_lt hp
    have hopen : (!n.on WCK.PORT_CFG_ENABLE p || !n.domOn 3) = false := by
      rw [hen, hd]
      rfl
    refine ⟨.of_eq rfl ?_, fun hup => .of_eq rfl ?_⟩
    · rw [hport]
      exact (ite_of_eq_false hopen).trans (if_pos rfl)
    · rw [hport]
      exact (ite_of_eq_false hopen).trans ((ite_of_eq_false rfl).trans (if_pos hup))
  case idle =>
    intro s l t n hruns
    have harrive : ∀ port f own take, n.wickArrive port f own take = n := fun port f own take => Lane.wickArrive_of_idle own take hruns
    refine ⟨fun port off => .of_eq rfl (ite_of_eq_false (by rw [hruns]; rfl)), fun w => .of_eq rfl (ite_of_eq_false hruns),
      fun d slot => .of_eq rfl (ite_of_eq_false (by rw [hruns]; rfl)),
      fun port e w => ⟨.of_eq rfl (harrive _ _ _ _), .of_eq rfl (harrive _ _ _ _), .of_eq rfl (harrive _ _ _ _), .of_eq rfl (harrive _ _ _ _)⟩,
      .of_eq rfl (ite_of_eq_false (by rw [hruns]; rfl)), fun port e bytes => .of_eq rfl (ite_of_eq_false (by rw [hruns]; rfl))⟩

end Sys2Proof.Machine
end

section
/-!
PROOFS. The CAN controllers and their address claims (CanCommandsComplete, O53).
-/
namespace Sys2Proof.Machine

open Sys2Proof

theorem Lane.canTalks_of_off {l : Lane} {i : Nat} (h : l.canOn i = false) : l.canTalks i = false := by
  rw [Lane.canTalks, h]
  rfl

/-- Settles O53: each row by the state of its controller, and the claims by the names compared. -/
theorem canCommandsComplete : Obligations.CanCommandsComplete := by
  refine ⟨?due, ?transmitted, ?received, ?errorState, ?claims, ?off⟩
  case due =>
    intro s l t i buf n times hon hbuf hen
    refine ⟨fun h => .of_eq rfl (if_pos ?_), fun h => .of_eq rfl (ite_of_eq_false ?_)⟩
    · rw [decide_eq_true hbuf, hon, hen, decide_eq_true h]
      rfl
    · rw [decide_eq_false h.not_gt, Bool.and_false]
  case transmitted =>
    intro s l t i n htalks
    refine ⟨fun hno => .of_eq rfl ((ite_of_eq_false (congrArg Bool.not htalks)).trans ?_), fun b hb => ?_⟩
    · rw [hno]
    · intro f a1
      refine .of_eq rfl ((ite_of_eq_false (congrArg Bool.not htalks)).trans ?_)
      rw [hb]
  case received =>
    intro s l t i f n a0 hon hst hfd hfence
    have hgo : (!n.canOn i || decide (n.rd CAN.STATUS_STATE i = 2) || (f.fdf && !n.on CAN.CTRL_FD i) || n.fenced (.port (.can i))) = false := by
      have hframe : (f.fdf && !n.on CAN.CTRL_FD i) = false := by
        cases hf : f.fdf
        · rfl
        · rw [hfd hf]
          rfl
      rw [hon, decide_eq_false hst, hframe, hfence]
      rfl
    refine ⟨fun hr => .of_eq rfl ((ite_of_eq_false hgo).trans (if_pos hr)), fun hr hno => ?_, fun r hr hsome => ?_⟩
    · refine .of_eq rfl ((ite_of_eq_false hgo).trans ((ite_of_eq_false hr).trans ?_))
      rw [hno]
    · refine .of_eq rfl ((ite_of_eq_false hgo).trans ((ite_of_eq_false hr).trans ?_))
      rw [hsome]
      rfl
  case errorState =>
    intro s l t i tec rec n a1 hon
    have hgo : n.rd CAN.STATUS_STATE i ≠ 2 → (!n.canOn i || decide (n.rd CAN.STATUS_STATE i = 2)) = false := fun hst => by
      rw [hon, decide_eq_false hst]
      rfl
    refine ⟨fun hst htec => .of_eq rfl ((ite_of_eq_false (hgo hst)).trans ?_), fun hst htec hpassive =>
      .of_eq rfl ((ite_of_eq_false (hgo (by rw [hst]; decide))).trans ?_), fun hst htec hrec => .of_eq rfl ((ite_of_eq_false (hgo hst)).trans ?_),
      fun hst hrec => .of_eq rfl (if_pos ?_), fun hauto hrec => .of_eq rfl (ite_of_eq_false ?_)⟩
    · have hnew : (if 255 < tec then 2 else if 127 < tec ∨ 127 < rec then 1 else 0) = 2 := if_pos htec
      rw [hnew]
      exact if_pos rfl
    · have hnew : (if 255 < tec then 2 else if 127 < tec ∨ 127 < rec then 1 else 0) = 1 := (if_neg htec.not_gt).trans (if_pos hpassive)
      rw [hnew]
      exact (if_neg (by decide)).trans (if_pos ⟨rfl, by rw [hst]; decide⟩)
    · have hnew : (if 255 < tec then 2 else if 127 < tec ∨ 127 < rec then 1 else 0) = 0 :=
        (if_neg (by omega)).trans (if_neg (by omega))
      rw [hnew]
      exact (if_neg (by decide)).trans ((if_neg fun h => by cases h.1).trans (if_pos rfl))
    · rw [hon, decide_eq_true hst, Bool.or_eq_true_iff.mpr hrec]
      rfl
    · rw [hauto, hrec, Bool.or_false, Bool.and_false]
  case claims =>
    intro s l t i name n c a1 hon hcomms hiso hfence hst
    have hgo : (!(n.canOn i && n.commsRuns && n.on CAN.CTRL_ISO i) || n.fenced (.port (.can i)) || decide (n.rd CAN.STATUS_ISO_STATE i = 0) ||
        decide (n.rd CAN.STATUS_ISO_STATE i = 3) || decide (c.cand ≠ c.cand)) = false := by
      have h0 : n.rd CAN.STATUS_ISO_STATE i ≠ 0 := by omega
      have h3 : n.rd CAN.STATUS_ISO_STATE i ≠ 3 := by omega
      rw [hon, hcomms, hiso, hfence, decide_eq_false h0, decide_eq_false h3, decide_eq_false (not_not_intro rfl)]
      rfl
    refine ⟨fun h => .of_eq rfl ((ite_of_eq_false hgo).trans (if_pos h)), fun x h hx =>
      .of_eq rfl ((ite_of_eq_false hgo).trans ((if_neg h.not_gt).trans ?_)), fun h hx =>
      .of_eq rfl ((ite_of_eq_false hgo).trans ((if_neg h.not_gt).trans ?_)), .of_eq rfl (if_pos ?_), fun h1 hset => .of_eq rfl (if_pos ?_)⟩
    · rw [hx]
    · rw [hx]
    · have h0 : n.rd CAN.STATUS_ISO_STATE i ≠ 0 := by omega
      rw [hon, hcomms, hiso, hfence, decide_eq_true h0]
      rfl
    · rw [hon, hcomms, decide_eq_true h1, decide_eq_true hset]
      rfl
  case off =>
    intro s l t i n hoff
    have hoff' : (!n.canOn i) = true := congrArg Bool.not hoff
    exact ⟨fun buf => .of_eq rfl (ite_of_eq_false (by rw [hoff, Bool.and_false, Bool.false_and, Bool.false_and])),
      .of_eq rfl (if_pos (congrArg Bool.not (Lane.canTalks_of_off hoff))),
      fun f => .of_eq rfl (if_pos (by rw [hoff']; rfl)), fun tec rec => .of_eq rfl (if_pos (by rw [hoff']; rfl)),
      .of_eq rfl (ite_of_eq_false (by rw [hoff]; rfl)), fun a name => .of_eq rfl (if_pos (by rw [hoff]; rfl)),
      .of_eq rfl (ite_of_eq_false (by rw [hoff]; rfl)), .of_eq rfl (ite_of_eq_false (by rw [hoff]; rfl))⟩

end Sys2Proof.Machine
end

section
/-!
PROOFS. The NOR and NAND devices and the recorder (StorageCommandsComplete, O55).
-/
namespace Sys2Proof.Machine

open Sys2Proof

/-- A command that does its work in the STO domain alone: a clause with that domain ON is the work's own equation. -/
theorem completes_of_sto {c : Instr} {s : State} {l : LaneId} {n x v : Lane} (hd : n.domOn 4 = true)
    (hc : exec c s = .next (s.setLane l (n.gated 4 x))) (hv : x = v) : Completes c s l v :=
  .of_eq hc ((Lane.gated_of_on _ _ _ hd).trans hv)

/-- With the domain not ON such a command leaves the lane at its tick. -/
theorem completes_of_sto_off {c : Instr} {s : State} {l : LaneId} {n x : Lane} (hd : n.domOn 4 = false)
    (hc : exec c s = .next (s.setLane l (n.gated 4 x))) : Completes c s l n :=
  .of_eq hc (Lane.gated_of_off _ _ _ hd)

/-! ### The end of a NOR operation -/

/-- The lane whose NOR program has left the port. -/
def Lane.norLeft (l : Lane) : Lane := { l.flag STM.STATUS_NOR_BUSY false with stm := { l.stm with norOp := none } }

section
variable {l : Lane} {j : NorJob} (hsys : l.stm.sysOps = [])
include hsys

theorem Lane.norEnds_failed : l.norEnds j false = ((l.norLeft.bump STM.NOR_ERR_FAILS).fault 0xD3).finish j.img false 0xC 1 := by
  rw [Lane.norEnds, hsys]
  rfl

theorem Lane.norEnds_done : l.norEnds j true =
    let w := written (norSlot l.nor j.slot) j
    let l2 : Lane := { l.norLeft with nor := norSetSlot l.nor j.slot w }
    if j.image.isSome && slotWhole l.otp w then
      if (slotReject l.otp w).1 = 0 then (l2.slotState j.slot 2).finish j.img false 0
      else (l2.rejectSlot j.slot (slotReject l.otp w).1 (slotReject l.otp w).2).finish j.img false 8 0x08
    else l2.finish j.img false 0 := by
  rw [Lane.norEnds, hsys]
  rfl

end

section
variable {l : Lane} (op : NorSys) (rest : List NorSys)

/-- The lane whose operation of the STM's own has left the port. -/
def Lane.sysLeft (l : Lane) (rest : List NorSys) : Lane :=
  { l.flag STM.STATUS_NOR_BUSY (!rest.isEmpty || l.stm.norOp.isSome) with
    stm := { (l.flag STM.STATUS_NOR_BUSY (!rest.isEmpty || l.stm.norOp.isSome)).stm with sysOps := rest, opAt := l.clk.now } }

theorem Lane.sysEnds_dir (k : Bool) : l.sysEnds (.dir k) rest 0 = l.sysLeft rest ∧
    l.sysEnds (.dir k) rest 1 = (((l.sysLeft rest).bump STM.NOR_ERR_FAILS).fault 0xD3).dirFails k := ⟨rfl, rfl⟩

theorem Lane.sysEnds_conf (img : CmdImage) : l.sysEnds (.conf (some img)) rest 0 = (l.sysLeft rest).finish img false 0 ∧
    l.sysEnds (.conf (some img)) rest 1 = ((((l.sysLeft rest).bump STM.NOR_ERR_FAILS).fault 0xD3).confFails).finish img false 0xC 1 := ⟨rfl, rfl⟩

end

section
variable {l : Lane} (h : l.stm.sysOps = [])
include h

theorem Lane.norTimeout_of_program {j : NorJob} (hj : l.stm.norOp = some j) : l.norTimeout = l.norLeft.finish j.img false 0xC 4 := by
  rw [Lane.norTimeout, h, hj]
  rfl

theorem Lane.norTimeout_of_idle (hj : l.stm.norOp = none) : l.norTimeout = l := by
  rw [Lane.norTimeout, h, hj]

end

theorem Lane.norTimeout_of_own {l : Lane} {op : NorSys} {rest : List NorSys} (h : l.stm.sysOps = op :: rest) :
    l.norTimeout = l.sysEnds op rest 4 := by
  rw [Lane.norTimeout, h]

/-! ### The NAND -/

theorem Lane.nandTimeout_of_none {l : Lane} (h : (l.flag STM.STATUS_NAND_BUSY false).readingQueue = none) :
    l.nandTimeout = l.flag STM.STATUS_NAND_BUSY false := by
  unfold Lane.nandTimeout
  dsimp only
  rw [h]

theorem Lane.nandTimeout_of_some {l : Lane} {q : Nat} (h : (l.flag STM.STATUS_NAND_BUSY false).readingQueue = some q) :
    l.nandTimeout = (l.flag STM.STATUS_NAND_BUSY false).completeCmd q 0x0C 4 := by
  unfold Lane.nandTimeout
  dsimp only
  rw [h]

theorem Lane.scrubMove_of_fresh {l : Lane} {b c worst : Nat} {good : Bool} (h : l.rd STM.NAND_CFG_SCRUB_THR < worst)
    (hfresh : (l.failFresh good).freshBlock = some c) : l.scrubMove b worst good =
      let v := ((l.failFresh good).moveBlock b c).wrapInc STM.SCRUB_MOVES
      { v with nand := { v.nand with passed := c :: v.nand.passed } } := by
  unfold Lane.scrubMove
  rw [if_pos h]
  dsimp only
  rw [hfresh]

section
variable {l : Lane} {b c : Nat}

theorem Lane.nandReadDone_of_uncorrectable (bad : Bool) (h : bad = true ∨ 16 < c) :
    l.nandReadDone b c bad = l.nandRead b (if bad then c else 0) 1 := if_pos h

theorem Lane.nandReadDone_of_corrected (h : c ≤ 16) : l.nandReadDone b c false =
    if l.rd STM.NAND_CFG_SCRUB_THR < c then
      ({ l.nandRead b c 0 with nand := { (l.nandRead b c 0).nand with weak := b :: (l.nandRead b c 0).nand.weak } } : Lane).moveWeak
    else l.nandRead b c 0 := if_neg fun hbad => hbad.elim Bool.false_ne_true h.not_gt

theorem Lane.retireBlock_of_unused (hm : l.on STM.STATUS_NAND_MOUNTED = true) (hbad : l.nand.bad.contains b = false)
    (hgeom : b < l.rd STM.NAND_GEOM_BLOCKS) (hused : l.nand.used.contains b = false) : l.retireBlock b = (l.enterBad b).recFirst.fault 0xD2 := by
  rw [Lane.retireBlock, hm, hbad, decide_eq_false hgeom.not_ge, hused]
  rfl

theorem Lane.pageDue_of (hpage : l.stm.page ≠ [])
    (hdue : l.recsPerPage ≤ l.stm.page.length ∨ l.stm.pageAt + 600000 * l.rd STM.REC_CFG_FLUSH_MS ≤ l.clk.now) : l.pageDue = true := by
  rw [Lane.pageDue, List.isEmpty_eq_false_iff.mpr hpage, Bool.or_eq_true_iff.mpr (hdue.imp decide_eq_true decide_eq_true)]
  rfl

end

/-- Settles O55: operations by what ends and whether it failed, reads by the bits corrected, time-outs by what waits. -/
theorem storageCommandsComplete : Obligations.StorageCommandsComplete := by
  refine ⟨?program, ?own, ?nand, ?timeout, ?window, ?mount, ?page, ?scrub, ?wear, ?off⟩
  case program =>
    intro s l t j n hd hsys hj l1 w
    have hrow : ∀ ok v, n.norEnds j ok = v → Completes (.xspiOperationComplete l t (.norDone ok)) s l v := fun ok v hv => by
      refine completes_of_sto hd rfl ?_
      dsimp only
      rw [hsys, hj]
      exact hv
    refine ⟨hrow false _ (Lane.norEnds_failed hsys), fun himg => hrow true _ ((Lane.norEnds_done hsys).trans (ite_of_eq_false ?_)),
      fun himg hwhole hrej => hrow true _ ((Lane.norEnds_done hsys).trans ((if_pos ?_).trans (if_pos hrej)))⟩
    · rw [himg]
      rfl
    · rw [himg, hwhole]
      rfl
  case own =>
    intro s l t op rest n l1 l2 bad hd hsys
    have hrow : ∀ ok v, n.sysEnds op rest (if ok then 0 else 1) = v → Completes (.xspiOperationComplete l t (.norDone ok)) s l v :=
      fun ok v hv => by
        refine completes_of_sto hd rfl ?_
        dsimp only
        rw [hsys]
        exact hv
    refine ⟨fun k hop => ?_, fun img hop => ?_⟩
    · subst hop
      exact ⟨hrow true _ (Lane.sysEnds_dir rest k).1, hrow false _ (Lane.sysEnds_dir rest k).2⟩
    · subst hop
      exact ⟨hrow true _ (Lane.sysEnds_conf rest img).1, hrow false _ (Lane.sysEnds_conf rest img).2⟩
  case nand =>
    intro s l t b c n hd
    refine ⟨fun hm => ?_, ?_⟩
    · intro l1 good
      have hrow : ∀ bad v, n.nandReadDone b c bad = v → Completes (.xspiOperationComplete l t (.nandRead b c bad)) s l v := fun bad v hv =>
        completes_of_sto hd rfl ((if_pos hm).trans hv)
      exact ⟨fun h16 hthr => hrow _ _ ((Lane.nandReadDone_of_corrected h16).trans (if_neg hthr.not_gt)),
        fun h16 hthr => hrow _ _ ((Lane.nandReadDone_of_corrected h16).trans (if_pos hthr)),
        fun h16 => hrow _ _ (Lane.nandReadDone_of_uncorrectable false (.inr h16)), hrow _ _ (Lane.nandReadDone_of_uncorrectable true (.inl rfl))⟩
    · intro m
      exact ⟨completes_of_sto hd rfl rfl, fun hm hbad hgeom hused => completes_of_sto hd rfl (Lane.retireBlock_of_unused hm hbad hgeom hused)⟩
  case timeout =>
    intro s l t n n1 hd
    have hrow : ∀ v, (if n.norBusy && decide (n.clk.now < n.stm.opAt + n.stm.norMax) then n else n1.norTimeout) = v →
        Completes (.xspiTimeout l t 0 false) s l v := fun v hv =>
      completes_of_sto hd rfl ((if_neg (by decide)).trans ((ite_of_eq_false rfl).trans ((if_neg (by decide)).trans hv)))
    refine ⟨fun hb hearly => hrow _ (if_pos ?_), fun hb hlate => ?_, fun hb hs hj => hrow _ ((ite_of_eq_false ?_).trans (Lane.norTimeout_of_idle hs hj)),
      fun cs hcs => completes_of_sto hd rfl ((if_neg hcs.not_ge).trans (if_pos rfl)), ?_⟩
    · rw [hb, decide_eq_true hearly]
      rfl
    · have hover : (n.norBusy && decide (n.clk.now < n.stm.opAt + n.stm.norMax)) = false := by
        rw [decide_eq_false hlate.not_gt, Bool.and_false]
      exact ⟨fun j hs hj => hrow _ ((ite_of_eq_false hover).trans (Lane.norTimeout_of_program hs hj)),
        fun op rest hs => hrow _ ((ite_of_eq_false hover).trans (Lane.norTimeout_of_own hs))⟩
    · rw [hb]
      rfl
    · intro m
      have hnand : ∀ v, n1.nandTimeout = v → Completes (.xspiTimeout l t 1 false) s l v := fun v hv =>
        completes_of_sto hd rfl ((if_neg (by decide)).trans ((ite_of_eq_false rfl).trans ((if_pos rfl).trans hv)))
      exact ⟨fun hq => hnand _ (Lane.nandTimeout_of_none hq), fun q hq => hnand _ (Lane.nandTimeout_of_some hq)⟩
  case window =>
    intro s l t ini addr n off hlo hhi hini hd
    have hin : ¬ (addr.toNat < 0x60000000 ∨ 0x70000000 ≤ addr.toNat) := by omega
    have hrow : ∀ v, (if n.on STM.STATUS_NOR_BUSY then (n.bump STM.NOR_ERR_BUSY_READS).busError
        else if n.norCap ≤ off then n.busError
        else n.readDone ini (BitVec.ofNat 64 (natSum ((List.range 8).map fun i => (n.norByte (off / 8 * 8 + i)).toNat * 256 ^ i)))) = v →
        Completes (.norWindowRead l t ini addr) s l v := fun v hv =>
      .of_eq rfl ((if_neg hin).trans ((if_neg hini).trans ((ite_of_eq_false (congrArg Bool.not hd)).trans hv)))
    exact ⟨fun hb => hrow _ (if_pos hb), fun hb hcap => hrow _ ((ite_of_eq_false hb).trans (if_pos hcap)),
      fun hb hcap => hrow _ ((ite_of_eq_false hb).trans (if_neg hcap.not_ge))⟩
  case mount =>
    intro s l t d nor dev n hd h0 h1 n1
    have hup : (n.on XSP.STATUS_CS0_UP || n.on XSP.STATUS_CS1_UP) = false := by rw [h0, h1]; rfl
    exact ⟨completes_of_sto hd rfl (ite_of_eq_false hup), completes_of_sto hd rfl (ite_of_eq_false hup),
      completes_of_sto hd rfl (ite_of_eq_false hup), completes_of_sto hd rfl (ite_of_eq_false hup), completes_of_sto hd rfl (ite_of_eq_false hup)⟩
  case page =>
    intro s l t n hd
    refine ⟨fun h => .of_eq rfl (if_pos ?_), fun h => .of_eq rfl (ite_of_eq_false ?_)⟩
    · rw [hd, Lane.pageDue_of h.1 h.2]
      rfl
    · rw [h, Bool.and_false]
  case scrub =>
    intro s l t b worst total bad good n bad' n1
    refine ⟨fun hdue hthr => .of_eq rfl ((if_pos hdue).trans (if_neg hthr.not_gt)), fun c hdue hthr => ?_, fun hno => .of_eq rfl (ite_of_eq_false hno)⟩
    intro n2 hfresh v
    exact .of_eq rfl ((if_pos hdue).trans (Lane.scrubMove_of_fresh hthr hfresh))
  case wear =>
    intro s l t lo hi c n hd hm hlo hhi hc
    have hrow : ∀ v, (if !n.pageDue && decide (n.nand.wear lo + n.rd STM.NAND_CFG_WL_DELTA < n.nand.wear hi) then
        (n.moveBlock lo c).wrapInc STM.SCRUB_MOVES else n) = v → Completes (.staticWearLevel l t) s l v := fun v hv => by
      refine completes_of_sto hd rfl ?_
      rw [hm, hlo, hhi, hc]
      exact hv
    refine ⟨fun hp hw => hrow _ (if_pos (by rw [hp, decide_eq_true hw]; rfl)), fun h => hrow _ (ite_of_eq_false ?_)⟩
    obtain hp | hw := h
    · rw [hp]
      rfl
    · rw [decide_eq_false hw.not_gt, Bool.and_false]
  case off =>
    intro s l t n hd
    exact ⟨fun op => completes_of_sto_off hd rfl, fun cs r => completes_of_sto_off hd rfl, fun cap nor dev => completes_of_sto_off hd rfl,
      .of_eq rfl (ite_of_eq_false (by rw [hd]; rfl)), completes_of_sto_off hd rfl⟩

end Sys2Proof.Machine
end

section
/-!
PROOFS. Reset sources, supplies, the boot sequence and lane ready (ResetAndBootComplete, O56).
-/
namespace Sys2Proof.Machine

open Sys2Proof

/-! ### Reset sources -/

section
variable {l : Lane} {rail ns : Nat}

theorem Lane.railLow_of_unmonitored (h : monitored_ l.pmu.power rail = false) : l.railLow rail ns = l :=
  if_pos (congrArg Bool.not h)

variable (h : monitored_ l.pmu.power rail = true)
include h

theorem Lane.railLow_of_dip (hns : ns < 2000) : l.railLow rail ns = l.bump PMU.SUPPLY_DIPS :=
  (ite_of_eq_false (congrArg Bool.not h)).trans (if_pos hns)

theorem Lane.railLow_of_low (hns : 2000 ≤ ns) : l.railLow rail ns =
    if rail = 3 then l.laneReset 1
    else (l.laneReset 2).keepGood (l.rd PMU.SUPPLY_GOOD - l.rd PMU.SUPPLY_GOOD / 2 ^ rail % 2 * 2 ^ rail) :=
  (ite_of_eq_false (congrArg Bool.not h)).trans (if_neg hns.not_gt)

end

section
variable {l : Lane}

/-- A power state in which the lane runs from its clocks, so that a clock fault resets it. -/
def Power.clocked (p : Power) : Bool := match p with | .run | .doze => true | _ => false

theorem Lane.clockFault_some (lost : Bool) (d : Int) : l.clockFault lost (some d) =
    let l1 := l.wrS CRU.CLK_MON_DEV (clampInt (-128) 127 d)
    if l.pmu.power.clocked && (lost || decide (50 < iabs d)) then
      let l2 := ((l1.fault 0xD9).wrapInc CRU.CLK_MON_FAULTS).flag CRU.STATUS_PLL_LOCK false
      ((if decide (50 < iabs d) then l2.flag CRU.STATUS_XTAL_OK false else l2).laneReset 5).allOn
    else l1 := rfl

end

section
variable {l : Lane} {rail : Nat} (h : rail < 3)
include h

/-- Good supplies of a lane that does not wake are shown, and nothing more happens. -/
theorem Lane.railGood_of_awake (hw : l.pmu.waking = false) :
    l.railGood rail = l.wr PMU.SUPPLY_GOOD (l.rd PMU.SUPPLY_GOOD ||| 2 ^ rail) := by
  simp only [Lane.railGood, if_pos h, Lane.wr_pmu, hw, Bool.false_and, Bool.false_eq_true, if_false]

/-- A lane that wakes from EMBER waits for its last supply, and restarts with it. -/
theorem Lane.railGood_of_waking (hw : l.pmu.waking = true) : l.railGood rail =
    let l0 := l.wr PMU.SUPPLY_GOOD (l.rd PMU.SUPPLY_GOOD ||| 2 ^ rail)
    let l1 := if rail = 0 then l0.onPmu fun p => { p with enIo := true } else l0
    if l1.rd PMU.SUPPLY_GOOD = 7 then (l1.laneReset 4).keepGood 7 else l1 := by
  have hio : (l.pmu.waking && decide (rail = 0)) = decide (rail = 0) := by rw [hw, Bool.true_and]
  have hwake : (if rail = 0 then (l.wr PMU.SUPPLY_GOOD (l.rd PMU.SUPPLY_GOOD ||| 2 ^ rail)).onPmu fun p => { p with enIo := true }
      else l.wr PMU.SUPPLY_GOOD (l.rd PMU.SUPPLY_GOOD ||| 2 ^ rail)).pmu.waking = true := by
    split
    · exact hw
    · exact hw
  rw [Lane.railGood, if_pos h]
  dsimp only
  rw [Lane.wr_pmu, hio]
  simp only [decide_eq_true_eq, hwake, Bool.true_and]

end

/-! ### The boot sequence -/

section
variable {l : Lane}

/-- The lane whose clocks run and whose SRAM is cleared where the reset's cause asks for it. -/
def Lane.clocksUp (l : Lane) : Lane :=
  let l0 := ((l.flag CRU.STATUS_XTAL_OK true).flag CRU.STATUS_PLL_LOCK true).flag CRU.STATUS_SERDES_LOCK true
  if l.rd CRU.RESET_CAUSE_LAST ≤ 4 then l0.clearSram.bootLine 1 else l0

theorem Lane.bootRom_of_unreadable : l.bootRom false = (l.clocksUp.fault 0xE4).bootFails := rfl

theorem Lane.bootRom_of_no_directory (h : l.clocksUp.norDir = none) :
    l.bootRom true = ((l.clocksUp.wr SEC.STATUS_BOOT_RESULT 4).fault 0xE0).bootFails := by
  unfold Lane.clocksUp at h
  unfold Lane.bootRom
  dsimp only at h ⊢
  rw [if_neg (by decide), h]
  rfl

theorem Lane.bootRom_of_slot {d d2 : NorDir} {k : Nat} {l2 : Lane} (h : l.clocksUp.norDir = some d)
    (hslot : (if l.rd CRU.RESET_CAUSE_LAST = 6 then l.clocksUp.bootLine 3 else (l.clocksUp.bootLine 2).bootLine 3).trySlots
      (bootOrder d (decide (l.rd CRU.RESET_CAUSE_LAST = 6))) = (l2, some k)) (hd : l2.norDir = some d2) :
    l.bootRom true = l2.bootSlot d2 k := by
  unfold Lane.clocksUp at h hslot
  unfold Lane.bootRom
  dsimp only at h hslot ⊢
  rw [if_neg (by decide), h]
  dsimp only
  rw [hslot]
  dsimp only
  rw [hd]

end

/-- Settles O56: resets by their source's duration, the boot by what the NOR holds, lane ready by its checks. -/
theorem resetAndBootComplete : Obligations.ResetAndBootComplete := by
  refine ⟨?supply, ?resetN, ?clock, ?rising, ?boot, ?ready⟩
  case supply =>
    intro s l t rail ns n good
    exact ⟨fun h => .of_eq rfl (Lane.railLow_of_unmonitored h), fun h hns => .of_eq rfl (Lane.railLow_of_dip h hns),
      fun h hns hr => .of_eq rfl ((Lane.railLow_of_low h hns).trans (if_pos hr)),
      fun h hns hr => .of_eq rfl ((Lane.railLow_of_low h hns).trans (if_neg hr))⟩
  case resetN =>
    intro s l t ns n
    exact ⟨.of_eq rfl rfl, fun h => .of_eq rfl (if_pos h), fun h => .of_eq rfl (if_neg h.not_ge)⟩
  case clock =>
    intro s l t lost d n n1 n2
    refine ⟨fun hp => ?_, fun hp => .of_eq rfl ((n.clockFault_some lost d).trans (ite_of_eq_false ?_))⟩
    · have hclocked : n.pmu.power.clocked = true := by
        obtain hp | hp := hp
        · rw [hp]; rfl
        · rw [hp]; rfl
      refine ⟨fun hd => .of_eq rfl ((n.clockFault_some false d).trans (ite_of_eq_false ?_)),
        fun hd => .of_eq rfl ((n.clockFault_some true d).trans ((if_pos ?_).trans ?_)),
        fun hd => .of_eq rfl ((n.clockFault_some lost d).trans ((if_pos ?_).trans ?_))⟩
      · rw [decide_eq_false hd.not_gt, Bool.or_false, Bool.and_false]
      · rw [hclocked, Bool.true_or, Bool.true_and]
      · exact congrArg (fun m : Lane => (m.laneReset 5).allOn) (ite_of_eq_false (decide_eq_false hd.not_gt))
      · rw [hclocked, decide_eq_true hd, Bool.or_true, Bool.true_and]
      · exact congrArg (fun m : Lane => (m.laneReset 5).allOn) (if_pos (decide_eq_true hd))
    · obtain hp | hp := hp
      · rw [hp]; rfl
      · rw [hp]; rfl
  case rising =>
    intro s l t rail n l0 l1
    exact ⟨fun h hw => .of_eq rfl (Lane.railGood_of_awake h hw), fun h hw hno => .of_eq rfl ((Lane.railGood_of_waking h hw).trans (if_neg hno)),
      fun h hw hall => .of_eq rfl ((Lane.railGood_of_waking h hw).trans (if_pos hall))⟩
  case boot =>
    intro s l t ok n l0 l1
    refine ⟨fun hown hloaded hquick hfailed => ?_, fun h => .of_eq rfl (ite_of_eq_false ?_)⟩
    · have hrow : ∀ ok v, n.bootRom ok = v → Completes (.bootSequence l t ok) s l v := fun ok v hv =>
        .of_eq rfl ((if_pos (by rw [decide_eq_true hown, hloaded, hquick, hfailed]; rfl)).trans hv)
      refine ⟨hrow false _ Lane.bootRom_of_unreadable, fun hdir => hrow true _ (Lane.bootRom_of_no_directory hdir),
        fun d k l2 d2 hdir hcause htry hd2 => hrow true _ (Lane.bootRom_of_slot hdir ?_ hd2),
        fun d k l2 d2 hdir hcause htry hd2 => hrow true _ (Lane.bootRom_of_slot hdir ?_ hd2)⟩
      · rw [if_neg hcause, decide_eq_false hcause]
        exact htry
      · rw [if_pos hcause, decide_eq_true hcause]
        exact htry
    · obtain h | h | h | h := h
      · rw [decide_eq_false h]
        rfl
      · rw [h, Bool.not_true, Bool.and_false, Bool.false_and, Bool.false_and]
      · rw [h, Bool.not_true, Bool.and_false, Bool.false_and]
      · rw [h, Bool.not_true, Bool.and_false]
  case ready =>
    intro s l t n m rs hown hboot hpass hnor hnand
    have hboot' : (n.boot.loaded || n.boot.quick) = true := Bool.or_eq_true_iff.mpr hboot
    have hrow : n.tooHot = false → ∀ v, n.checkReady = v → Completes (.laneReady l t) s l v := fun hcool v hv =>
      .of_eq rfl ((if_pos (by rw [decide_eq_true hown, hboot', hpass, hcool, hnor, hnand]; rfl)).trans hv)
    refine ⟨fun hhot => .of_eq rfl (ite_of_eq_false ?_), fun hcool hcfg => hrow hcool _ (ite_of_eq_false hcfg),
      fun hcool hcfg hok => hrow hcool _ ((if_pos hcfg).trans (if_pos hok)),
      fun hcool hcfg hbad => hrow hcool _ ((if_pos hcfg).trans (ite_of_eq_false hbad))⟩
    rw [hhot, Bool.not_true, Bool.and_false, Bool.false_and, Bool.false_and]

end Sys2Proof.Machine
end

section
/-!
PROOFS. Votes, power entries, wakes, the key, the access timer and temperatures (PowerCommandsComplete, O57).
-/
namespace Sys2Proof.Machine

open Sys2Proof

/-! ### Registers of the power unit with a rule of their own -/

section
variable {l : Lane} {ini : Nat} {addr v : Word} {r : RegRow}

theorem Lane.regEffect_ctrl : l.regEffect ini addr PMU.CTRL_ENTER.key r v = l.ctrlWrite ini addr v := rfl

theorem Lane.regEffect_rtc : l.regEffect ini addr PMU.RTC_SET_SECONDS.key r v = l.rtcWrite v := rfl

theorem Lane.regEffect_fat : l.regEffect ini addr CRU.FAT_CFG_CYCLES.key r v = l.fatWrite ini addr CRU.FAT_CFG_CYCLES.key r v := rfl

theorem Lane.ctrlWrite_of_main {target : Nat} (h : 0 < target) (h4 : target < 4) :
    l.ctrlWrite 0 addr (BitVec.ofNat 32 target) = (l.requestEntry target).busDone 0 := by
  have hbits : bitsOf (BitVec.ofNat 32 target) 0 2 = target := by
    interval_cases target <;> rfl
  rw [Lane.ctrlWrite, hbits, if_neg (by omega), if_pos rfl]

theorem Lane.ctrlWrite_of_other {target : Nat} (h : 0 < target) (h4 : target < 4) (hini : ini ≠ 0) :
    l.ctrlWrite ini addr (BitVec.ofNat 32 target) = (l.fault 0x07 (accessInfo addr ini)).busDone 0 := by
  have hbits : bitsOf (BitVec.ofNat 32 target) 0 2 = target := by
    interval_cases target <;> rfl
  rw [Lane.ctrlWrite, hbits, if_neg (by omega), if_neg hini]

/-- A request for an entry is answered whoever makes it, so it is never noted as a completer abort. -/
theorem Lane.enterBy_of_ok {target : Nat} (hacc : l.regAccess ini (privAddr PMU.CTRL_ENTER.key) true = .ok PMU.CTRL_ENTER.key r)
    (hd : l.domOn (blockDomain (PMU.CTRL_ENTER.key / 0x10000)) = true) (h : 0 < target) (h4 : target < 4) :
    l.enterBy ini target = l.ctrlWrite ini (privAddr PMU.CTRL_ENTER.key) (BitVec.ofNat 32 target) := by
  refine Lane.guardWrite_of_done (f := fun k r n => n.regEffect ini (privAddr PMU.CTRL_ENTER.key) k r (BitVec.ofNat 32 target))
    (.inr (by decide)) hacc hd ?_
  rw [Lane.regEffect_ctrl]
  by_cases hini : ini = 0
  · rw [hini, Lane.ctrlWrite_of_main h h4]
    exact fun hbus => by cases hbus
  · rw [Lane.ctrlWrite_of_other h h4 hini]
    exact fun hbus => by cases hbus

end

/-! ### Entries and wakes -/

section
variable {l : Lane}

theorem Lane.drainEnd_of_ready {target t0 : Nat} (hreq : l.pmu.request = some (target, t0))
    (h : l.draining target = false ∨ t0 + 30000000 ≤ l.clk.now) : l.drainEnd =
      match l.stillHeld target with
      | some (d, v) => l.refuseEntry target 0 d v
      | none => if target = 1 then l.startEntry target
                else
                  let l1 := l.onPmu fun p => { p with keyReq := none, keyTest := false }
                  if l.sec.silent then l1.startEntry target
                  else l1.onPmu fun p => { p with request := none, accepted := some target, shown := false } := by
  have hready : (!l.draining target || decide (t0 + 30000000 ≤ l.clk.now)) = true :=
    Bool.or_eq_true_iff.mpr (h.imp (congrArg Bool.not) decide_eq_true)
  unfold Lane.drainEnd
  rw [hreq]
  exact if_pos hready

theorem Lane.drainEnd_of_draining {target t0 : Nat} (hreq : l.pmu.request = some (target, t0)) (hdrain : l.draining target = true)
    (hearly : l.clk.now < t0 + 30000000) : l.drainEnd = l := by
  unfold Lane.drainEnd
  rw [hreq]
  exact ite_of_eq_false (by rw [hdrain, decide_eq_false hearly.not_ge]; rfl)

theorem Lane.wakeEvent_of_wakes {src : Nat} (hentry : l.pmu.entry = none) (hen : (l.rd PMU.WAKE_CFG_EN).testBit (src - 1) = true)
    (hw : wakes l.pmu.power src = true) : l.wakeEvent src = l.wakeUp src := by
  unfold Lane.wakeEvent
  rw [hen, hentry]
  exact if_pos hw

end

/-- Settles O57: votes by the voters, entries by their step and what waits, wakes by what the power state takes, timers by their time. -/
theorem powerCommandsComplete : Obligations.PowerCommandsComplete := by
  refine ⟨?withdrawn, ?arrives, ?writes, ?enter, ?drain, ?entry, ?drop, ?wake, ?keyoff, ?access, ?temperature⟩
  case withdrawn =>
    intro s l t d n h1 h5 hrun htarget hdom
    refine ⟨fun hno => .of_eq rfl ((if_pos ?_).trans (if_neg (by omega))), fun hvote => .of_eq rfl (ite_of_eq_false ?_)⟩
    · rw [decide_eq_true h1, decide_eq_true (show d ≤ 6 by omega), decide_eq_true hrun, decide_eq_true htarget, decide_eq_true hdom, hno]
      rfl
    · rw [hvote, Bool.and_false]
  case arrives =>
    intro s l t d n h6 hrun hvote
    have hgo : (decide (d ≤ 6) && decide (n.pmu.power = .run) && !(n.votersOf d).isEmpty) = true := by
      rw [decide_eq_true h6, decide_eq_true hrun, hvote]
      rfl
    exact ⟨fun hstep => .of_eq rfl (congrArg Lane.resumeStalled ((if_pos hgo).trans (if_pos hstep))),
      fun hstep hoff => .of_eq rfl (congrArg Lane.resumeStalled ((if_pos hgo).trans ((if_neg (not_not_intro hstep)).trans (if_pos hoff))))⟩
  case writes =>
    intro s l t v ini k r n hini
    have hwrite : ∀ {j : Nat} {addr : Word}, n.regAccess ini addr true = .ok j r → n.domOn (blockDomain (j / 0x10000)) = true →
        n.regWrite ini addr v = n.regEffect ini addr j r v := fun {j addr} hacc hd =>
      Lane.guardWrite_of_notHost (f := fun k r n => n.regEffect ini addr k r v) (.inl hini) hacc hd hini
    exact ⟨fun hacc hd => .of_eq rfl (hwrite hacc hd), fun hacc hd => .of_eq rfl ((hwrite hacc hd).trans Lane.regEffect_rtc),
      fun hacc hd => .of_eq rfl ((hwrite hacc hd).trans Lane.regEffect_fat)⟩
  case enter =>
    intro s l t ini r n no hacc hd
    have hrow : ∀ target, 0 < target → target < 4 →
        n.enterBy ini target = n.ctrlWrite ini (privAddr PMU.CTRL_ENTER.key) (BitVec.ofNat 32 target) := fun target => Lane.enterBy_of_ok hacc hd
    refine ⟨?_, fun hini => ⟨?_, ?_, ?_⟩⟩
    · rintro rfl
      exact ⟨.of_eq rfl ((hrow 1 (by decide) (by decide)).trans (Lane.ctrlWrite_of_main (by decide) (by decide))),
        .of_eq rfl ((hrow 2 (by decide) (by decide)).trans (Lane.ctrlWrite_of_main (by decide) (by decide))),
        .of_eq rfl ((hrow 3 (by decide) (by decide)).trans (Lane.ctrlWrite_of_main (by decide) (by decide)))⟩
    · exact .of_eq rfl ((hrow 1 (by decide) (by decide)).trans (Lane.ctrlWrite_of_other (by decide) (by decide) hini))
    · exact .of_eq rfl ((hrow 2 (by decide) (by decide)).trans (Lane.ctrlWrite_of_other (by decide) (by decide) hini))
    · exact .of_eq rfl ((hrow 3 (by decide) (by decide)).trans (Lane.ctrlWrite_of_other (by decide) (by decide) hini))
  case drain =>
    intro s l t target t0 n hreq
    refine ⟨fun hdrain hearly => .of_eq rfl (congrArg Lane.resumeStalled (Lane.drainEnd_of_draining hreq hdrain hearly)), fun h => ?_⟩
    have hready := Lane.drainEnd_of_ready hreq h
    refine ⟨fun d v hheld => ?_, fun hfree h1 => ?_, fun hfree h1 => ⟨fun hs => ?_, fun hs => ?_⟩⟩
    · rw [hheld] at hready
      exact .of_eq rfl (congrArg Lane.resumeStalled hready)
    · rw [hfree] at hready
      exact .of_eq rfl (congrArg Lane.resumeStalled (hready.trans (if_pos h1)))
    · rw [hfree] at hready
      exact .of_eq rfl (congrArg Lane.resumeStalled (hready.trans ((if_neg h1).trans (if_pos hs))))
    · rw [hfree] at hready
      exact .of_eq rfl (congrArg Lane.resumeStalled (hready.trans ((if_neg h1).trans (ite_of_eq_false hs))))
  case entry =>
    intro s l t e n hentry
    have hrow : ∀ v, n.entryStep e = v → Completes (.entryStepComplete l t 7) s l v.resumeStalled := fun v hv => by
      refine .of_eq rfl ((if_pos rfl).trans ?_)
      rw [hentry]
      exact congrArg Lane.resumeStalled hv
    have hlate : ∀ v, (if n.overran e.step e.since then n.abandonEntry e 0xF else n) = v →
        Completes (.quiesceTimeout l t 7) s l v.resumeStalled := fun v hv => by
      refine .of_eq rfl (congrArg Lane.resumeStalled ((if_pos rfl).trans ?_))
      rw [hentry]
      exact hv
    refine ⟨fun hin h4 hw => hrow _ ((ite_of_eq_false hin).trans ((if_pos h4).trans ?_)),
      fun w hin h4 hw => hrow _ ((ite_of_eq_false hin).trans ((if_pos h4).trans ?_)),
      fun h1 hover => hlate _ (if_pos ?_), fun hin => hlate _ (ite_of_eq_false hin)⟩
    · rw [hw]
    · rw [hw]
    · rw [Lane.overran, decide_eq_true h1, decide_eq_true hover]
      rfl
  case drop =>
    intro s l t d n hd h0 h4
    have h7 : d ≠ 7 := by omega
    refine ⟨fun hin => ?_, fun h1 hover => .of_eq rfl (congrArg Lane.resumeStalled ((if_neg h7).trans (if_pos ?_)))⟩
    · have hrow : ∀ v, (if n.dropVoted d then n.abandonDrop d 8 else n.setDrop d (n.dropStep d + 1) false) = v →
          Completes (.entryStepComplete l t d) s l v.resumeStalled := fun v hv =>
        .of_eq rfl ((if_neg h7).trans ((if_pos hd).trans (congrArg Lane.resumeStalled
          ((if_neg (not_or.mpr ⟨h0, Bool.eq_false_iff.mp hin⟩)).trans ((if_pos h4).trans hv)))))
      exact ⟨fun hv => hrow _ (ite_of_eq_false hv), fun hv => hrow _ (if_pos hv)⟩
    · rw [Lane.overran, decide_eq_true h1, decide_eq_true hover]
      rfl
  case wake =>
    intro s l t ms n hit
    refine ⟨fun hentry => ⟨fun h hfilt hkey => ?_, fun h hfilt hkey => ?_, fun h halarm hdue => ?_, fun h hfilt => ?_, fun h => ?_, fun h => ?_⟩,
      fun hfilt => ⟨.of_eq rfl (ite_of_eq_false (by rw [hfilt]; rfl)), .of_eq rfl (ite_of_eq_false (by rw [hfilt]; rfl))⟩,
      fun high hfilt => .of_eq rfl (if_pos (congrArg Bool.not hfilt))⟩
    · refine .of_eq rfl ((if_pos ?_).trans (congrArg Lane.resumeStalled (Lane.wakeEvent_of_wakes hentry h.1 h.2)))
      rw [hfilt, hkey]
      rfl
    · refine .of_eq rfl ((if_pos ?_).trans (congrArg Lane.resumeStalled (Lane.wakeEvent_of_wakes hentry h.1 h.2)))
      rw [hfilt, hkey]
      rfl
    · have h0 : (n.word PMU.RTC_ALARM_SECONDS.key).toNat ≠ 0 := fun h0 => halarm (BitVec.eq_of_toNat_eq h0)
      exact .of_eq rfl ((if_pos ⟨h0, hdue⟩).trans (congrArg Lane.resumeStalled (Lane.wakeEvent_of_wakes hentry h.1 h.2)))
    · exact .of_eq rfl ((ite_of_eq_false (congrArg Bool.not hfilt)).trans
        ((if_pos rfl).trans (congrArg Lane.resumeStalled (Lane.wakeEvent_of_wakes hentry h.1 h.2))))
    · exact .of_eq rfl ((ite_of_eq_false rfl).trans (congrArg Lane.resumeStalled (Lane.wakeEvent_of_wakes hentry h.1 h.2)))
    · have hrd : (n.flag DBG.STATUS_ATTACHED true).rd PMU.WAKE_CFG_EN = n.rd PMU.WAKE_CFG_EN := Lane.rd_wr_ne _ _ _ _ _ _ _ _ (by decide)
      exact .of_eq rfl (congrArg Lane.resumeStalled (Lane.wakeEvent_of_wakes hentry (by rw [hrd]; exact h.1) h.2))
  case keyoff =>
    intro s l t k n hkey
    refine ⟨fun hoff hstate hdue htest hreq => ?_, fun hreq hdue => .of_eq rfl ?_⟩
    · have hrow : ∀ v, (if n.otp.selfTest then n.onPmu fun p => { p with keyTest := true } else n.keyoffRequest) = v →
          Completes (.keyoffDelayExpiry l t) s l v := fun v hv => by
        refine .of_eq rfl ?_
        unfold Lane.keyoffDue
        rw [hoff]
        exact (if_pos (by rw [hkey, decide_eq_true hstate, decide_eq_true hdue, htest, hreq]; rfl)).trans hv
      exact ⟨fun h => hrow _ (if_pos h), fun h => hrow _ (ite_of_eq_false h)⟩
    · unfold Lane.keyoffRetry
      rw [hreq]
      exact if_pos (by rw [hkey, decide_eq_true hdue]; rfl)
  case access =>
    intro s l t a rest n v hst hon
    refine ⟨fun hdue => ?_, fun hearly => .of_eq rfl ?_⟩
    · have hrow : ∀ w, (if a.write.isSome then v.logAbort a.ini a.addr else v) = w → Completes (.fabricAccessTimeout l t) s l w := fun w hw => by
        refine .of_eq rfl ?_
        unfold Lane.accessTimeout
        rw [hst]
        exact (if_pos ⟨hdue, congrArg Bool.not hon⟩).trans hw
      exact ⟨fun hr => hrow _ (ite_of_eq_false (by rw [hr]; rfl)), fun hw => hrow _ (if_pos (Option.isSome_iff_ne_none.mpr hw))⟩
    · unfold Lane.accessTimeout
      rw [hst]
      exact if_neg fun h => hearly.not_ge h.1
  case temperature => exact fun s l t x y => ⟨fun h => .of_eq rfl (if_pos h), fun h => .of_eq rfl (ite_of_eq_false h)⟩

end Sys2Proof.Machine
end

section
/-!
PROOFS. Debug authentication, self-tests, the test access port, trace and statistics (DebugAndTestComplete, O59).
-/
namespace Sys2Proof.Machine

open Sys2Proof

/-- A read of another initiator than the host that its register's view permits. -/
theorem Lane.guardRead_of_ok {l : Lane} {ini k : Nat} {addr : Word} {r : RegRow} {f : Nat → RegRow → Lane → Lane}
    (hal : ini ≠ 0xB ∨ addr.toNat % 4 = 0) (hacc : l.regAccess ini addr false = .ok k r) :
    l.guardRead ini addr f = if l.domOn (blockDomain (k / 0x10000)) then f k r l else l.stall ini addr none := by
  have haligned : ¬ (ini = 0xB ∧ addr.toNat % 4 ≠ 0) := fun h => hal.elim (· h.1) h.2
  rw [Lane.guardRead, if_neg haligned, hacc]

theorem Lane.grantAgreed_of_asked {l : Lane} {k : Nat} (hnow : l.agreedNow (grantImage l.id k) = true) (hask : l.sec.ask = some k) :
    l.grantAgreed (grantImage l.id k) =
      let l1 := (l.take (grantImage l.id k)).onHif fun h =>
        { h with authed := h.authed.filter (fun p => decide (p.img ≠ grantImage l.id k))
                 known := h.known.filter (fun i => decide (i ≠ grantImage l.id k)) }
      { l1 with sec := { l1.sec with level := k, ask := none } } := by
  rw [Lane.grantAgreed, if_pos ⟨rfl, hnow⟩, hask]
  exact if_pos rfl

/-! ### Partitions of the built-in self-test -/

section
variable {l : Lane} {p : Nat}

/-- The lane that shows a partition as tested and passed. -/
def Lane.partShown (l : Lane) (p : Nat) : Lane :=
  (l.wr BST.STATUS_TESTED (l.rd BST.STATUS_TESTED ||| 2 ^ p)).wr BST.STATUS_PASSED (l.rd BST.STATUS_PASSED ||| 2 ^ p)

theorem nextPart_powerUp (h : p < 6) : nextPart 1 p = some (p + 1) := by
  interval_cases p <;> rfl

theorem Lane.partPassed_powerUp (h : p < 6) : l.partPassed 1 p = (l.partShown p).wr BST.STATUS_PART (p + 1) := by
  rw [Lane.partPassed, if_neg (show ¬ (1 = 2 ∧ p = 6) by omega), if_neg (fun hkey => absurd hkey.1 (by decide)), nextPart_powerUp h]
  rfl

/-- The key that has come back abandons the rest of the key-off test. -/
theorem Lane.partPassed_abandoned (h : p < 6) (hkey : l.pmu.key = true) : l.partPassed 2 p =
    (((l.partShown p).flag BST.STATUS_RUNNING false).flag BST.STATUS_ABANDONED true).onXla fun x => { x with testOver := true } := by
  rw [Lane.partPassed, if_neg (show ¬ (2 = 2 ∧ p = 6) by omega), if_pos ⟨rfl, hkey⟩]
  rfl

end

/-- Settles O59: signatures and grants by their check, tests by their time and their signature, requests by the debug level. -/
theorem debugAndTestComplete : Obligations.DebugAndTestComplete := by
  refine ⟨?signature, ?grant, ?lockout, ?powerUp, ?keyoff, ?notKeyoff, fun s l t sig exp hoff => .of_eq rfl (ite_of_eq_false hoff), ?partition, ?tap,
    ?gdp, ?trace, ?boundary⟩
  case signature =>
    intro s l t level sigOk n img
    refine ⟨fun h => .of_eq rfl (if_pos h), fun hmaker hblocked => ?_⟩
    have hopen : ¬ (n.otp.lifecycle = 1 ∨ n.sec.blocked.isSome = true) := not_or.mpr ⟨hmaker, by rw [hblocked]; decide⟩
    refine ⟨fun hsig hlife hlevel => .of_eq rfl ((if_neg hopen).trans (if_pos ?_)),
      fun hsig => .of_eq rfl ((if_neg hopen).trans (ite_of_eq_false (by rw [hsig]; rfl)))⟩
    rw [hsig, decide_eq_true hlife, Bool.or_eq_true_iff.mpr (hlevel.imp decide_eq_true decide_eq_true)]
    rfl
  case grant => exact fun s l t k hnow hask => .of_eq rfl (Lane.grantAgreed_of_asked hnow hask)
  case lockout =>
    intro s l t b n
    refine ⟨fun hb hover => .of_eq rfl ?_, fun h => .of_eq rfl ?_, .of_eq rfl rfl⟩
    · rw [hb]
      exact if_pos hover
    · obtain hb | ⟨hb, hyoung⟩ := h
      · rw [hb]
      · rw [hb]
        exact if_neg hyoung.not_ge
  case powerUp =>
    intro s l t n hown hloaded hquick htests hcause hocc
    refine ⟨fun hat => .of_eq rfl (if_pos ?_), fun hat => .of_eq rfl (ite_of_eq_false ?_)⟩
    · rw [Lane.powerUpDue, decide_eq_true hown, hloaded, hquick, htests, decide_eq_true hcause, decide_eq_true hocc, decide_eq_true hat]
      rfl
    · rw [Lane.powerUpDue, decide_eq_false hat, Bool.and_false]
  case keyoff =>
    intro s l n htest hkey hmode hslot hrun
    exact .of_eq rfl (if_pos (by rw [htest, hkey, decide_eq_true hmode, decide_eq_true hslot, hrun]; rfl))
  case notKeyoff =>
    intro s l n h
    refine .of_eq rfl (ite_of_eq_false ?_)
    obtain h | h := h
    · rw [h]
      rfl
    · rw [decide_eq_false h, Bool.and_false, Bool.false_and]
  case partition =>
    intro s l t sig exp p n l1 hrun hp
    have hrow : ∀ o v, n.rd BST.STATUS_OCCASION = o → (if sig = exp then n.partPassed o p else n.partFailed o p sig exp) = v →
        Completes (.lbistPartitionComplete l t sig exp) s l v := fun o v ho hv => by
      refine .of_eq rfl ((if_pos hrun).trans ?_)
      rw [ho, hp]
      exact hv
    exact ⟨fun ho hsig h6 => hrow 1 _ ho ((if_pos hsig).trans (Lane.partPassed_powerUp h6)),
      fun ho hsig h6 hkey => hrow 2 _ ho ((if_pos hsig).trans (Lane.partPassed_abandoned h6 hkey)), fun ho hsig => hrow 1 _ ho (if_neg hsig)⟩
  case tap =>
    intro s l t n
    refine ⟨.of_eq rfl rfl, .of_eq rfl rfl, fun hmaker => ⟨.of_eq rfl ?_, .of_eq rfl ?_⟩, fun hmaker => ⟨.of_eq rfl ?_, .of_eq rfl ?_⟩⟩
    · rw [Lane.selectTap, decide_eq_true hmaker]
      rfl
    · rw [Lane.selectTap, decide_eq_true hmaker]
      rfl
    · rw [Lane.selectTap, decide_eq_false hmaker]
      rfl
    · rw [Lane.selectTap, decide_eq_false hmaker]
      rfl
  case gdp => exact fun s l t req => ⟨fun h => .of_eq rfl (if_pos h), fun h => .of_eq rfl (if_neg h.not_ge)⟩
  case trace =>
    intro s l t ini r n ws hini hacc hd hflow
    exact .of_eq rfl ((Lane.guardRead_of_ok (.inl hini) hacc).trans ((if_pos hd).trans ((if_pos rfl).trans (ite_of_eq_false hflow))))
  case boundary =>
    intro s l t n
    refine ⟨fun h => .of_eq rfl (ite_of_eq_false ?_), fun hper hmul hnew => .of_eq rfl (if_pos ?_)⟩
    · obtain h | h | h := h
      · rw [decide_eq_false (not_not_intro h)]
        rfl
      · rw [decide_eq_false h, Bool.and_false, Bool.false_and]
      · rw [decide_eq_false (not_not_intro h), Bool.and_false]
    · rw [decide_eq_true hper, decide_eq_true hmul, decide_eq_true hnew]
      rfl

end Sys2Proof.Machine
end

section
/-!
PROOFS. Reads and writes of registers, accesses that reach none, and locks (RegisterAccessesComplete, O60).
-/
namespace Sys2Proof.Machine

open Sys2Proof

/-! ### Accesses that are aligned -/

section
variable {l : Lane} {ini : Nat} {addr v : Word} {f : Nat → RegRow → Lane → Lane} (hal : ini ≠ 0xB ∨ addr.toNat % 4 = 0)
include hal

theorem Lane.guardWrite_of_off {k : Nat} {r : RegRow} (hacc : l.regAccess ini addr true = .ok k r)
    (hd : l.domOn (blockDomain (k / 0x10000)) = false) : l.guardWrite ini addr v f = l.stall ini addr (some v) := by
  have haligned : ¬ (ini = 0xB ∧ addr.toNat % 4 ≠ 0) := fun h => hal.elim (· h.1) h.2
  rw [Lane.guardWrite, if_neg haligned, hacc]
  exact ite_of_eq_false hd

/-- An access that its view does not permit, or that reaches no register, ends as its outcome says. -/
theorem Lane.guardWrite_of_refused {a : Access} (hacc : l.regAccess ini addr true = a) (ha : a = .unmapped ∨ a = .violation ∨ a = .vigil) :
    l.guardWrite ini addr v f = (l.refuseAccess ini addr a).logAbort ini addr := by
  have haligned : ¬ (ini = 0xB ∧ addr.toNat % 4 ≠ 0) := fun h => hal.elim (· h.1) h.2
  rw [Lane.guardWrite, if_neg haligned, hacc]
  obtain rfl | rfl | rfl := ha <;> rfl

theorem Lane.guardRead_of_refused {a : Access} (hacc : l.regAccess ini addr false = a) (ha : a = .unmapped ∨ a = .violation ∨ a = .vigil) :
    l.guardRead ini addr f = l.refuseAccess ini addr a := by
  have haligned : ¬ (ini = 0xB ∧ addr.toNat % 4 ≠ 0) := fun h => hal.elim (· h.1) h.2
  rw [Lane.guardRead, if_neg haligned, hacc]
  obtain rfl | rfl | rfl := ha <;> rfl

end

/-! ### Registers without an action of their own -/

/-- The registers that `regEffect` gives an action of their own, by block or by name. -/
def plainReg (k : Nat) : Prop :=
  k % 0x10000 ≠ 0xFC ∧ k / 0x10000 ≠ 3 ∧ k / 0x10000 ≠ 0x39 ∧
    k ∉ [PFB.ARM_INDEX.key, FCL.INJECT_GO.key, PMU.CTRL_ENTER.key, PMU.RTC_SET_SECONDS.key, CRU.FAT_CFG_CYCLES.key, DBG.TRACE_CFG_ENABLE.key,
      DBG.TRACE_CCN_CCN.key]

section
variable {l : Lane} {ini k : Nat} {addr v : Word} {r : RegRow}

theorem Lane.regEffect_of_plain (h : plainReg k) : l.regEffect ini addr k r v = l.plainWrite ini addr k r v := by
  obtain ⟨hlock, hmail, hqueue, hnamed⟩ := h
  simp only [List.mem_cons, List.not_mem_nil, or_false, not_or] at hnamed
  obtain ⟨harm, hinject, hctrl, hrtc, hfat, htrace, hccn⟩ := hnamed
  rw [Lane.regEffect, if_neg hlock, if_neg hmail, if_neg hqueue, if_neg harm, if_neg hinject, if_neg hctrl, if_neg hrtc, if_neg hfat,
    if_neg htrace, if_neg hccn]

theorem Lane.plainWrite_of_open (h : l.locked k = false ∨ r.rwl = 0) :
    l.plainWrite ini addr k r v = (l.setWord k (r.write k (l.locked k) (l.word k) v)).busDone 0 := by
  refine congrArg (Lane.busDone · 0) (ite_of_eq_false ?_)
  obtain h | h := h
  · rw [h]
    rfl
  · rw [decide_eq_false (not_not_intro h), Bool.and_false]

theorem Lane.plainWrite_of_locked (h : l.locked k = true) (hrwl : r.rwl ≠ 0) : l.plainWrite ini addr k r v =
    ((l.setWord k (r.write k (l.locked k) (l.word k) v)).fault 0x07 (accessInfo addr ini)).busDone 0 := by
  refine congrArg (Lane.busDone · 0) (if_pos ?_)
  rw [h, decide_eq_true hrwl]
  rfl

theorem Lane.plainWrite_bus : (l.plainWrite ini addr k r v).bus ≠ .error := fun h => by cases h

theorem Lane.lockWrite_of_open (hrwl : r.rwl = 0) (h : k ≠ GDC.LOCK_LOCK.key) :
    l.lockWrite ini addr k r 1 = (l.setWord k (r.write k (l.locked k) (l.word k) 1)).busDone 0 :=
  (if_neg fun hk => h hk.1).trans (Lane.plainWrite_of_open (.inr hrwl))

theorem Lane.lockWrite_of_drive (hrwl : r.rwl = 0) (h : k = GDC.LOCK_LOCK.key) :
    l.lockWrite ini addr k r 1 = ((l.setWord k (r.write k (l.locked k) (l.word k) 1)).busDone 0).copySnuffCfg :=
  (if_pos ⟨h, by decide⟩).trans (congrArg Lane.copySnuffCfg (Lane.plainWrite_of_open (.inr hrwl)))

end

theorem inRegs_bounds {a : Nat} (h : inRegs a = true) : 0x40000000 ≤ a ∧ a < 0x51000000 := by
  simp only [inRegs, Bool.or_eq_true, Bool.and_eq_true, decide_eq_true_eq] at h
  omega

section
variable {a : Nat}

theorem inSram_of_above (h : 0x10600000 ≤ a) : inSram a = false := by
  rw [inSram, decide_eq_false h.not_gt, Bool.and_false]

theorem inTable_of_above (h : 0x20100000 ≤ a) : inTable a = false := by
  rw [inTable, decide_eq_false h.not_gt, Bool.and_false]

theorem inRegs_of_above (h : 0x51000000 ≤ a) : inRegs a = false := by
  rw [inRegs, decide_eq_false (show ¬ a < 0x41000000 by omega), decide_eq_false h.not_gt, Bool.and_false, Bool.and_false]
  rfl

end

/-- Settles O60: accesses by what `regAccess` finds, writes by the register's rule, locks by the block. -/
theorem registerAccessesComplete : Obligations.RegisterAccessesComplete := by
  refine ⟨?write, ?read, ?refused, ?lock⟩
  case write =>
    intro s l t ini addr v k r n hal hacc
    refine ⟨fun hd => .of_eq rfl (Lane.guardWrite_of_off hal hacc hd), fun hd => .of_eq rfl (Lane.guardWrite_of_ok hal hacc hd),
      fun hd hlock hmail hqueue hnamed => ?_⟩
    intro l1
    have hrow : ∀ w, n.plainWrite ini addr k r v = w → Completes (.registerWrite l t ini addr v) s l w := fun w hw => by
      have heffect : n.regEffect ini addr k r v = n.plainWrite ini addr k r v := Lane.regEffect_of_plain ⟨hlock, hmail, hqueue, hnamed⟩
      refine .of_eq rfl ((Lane.guardWrite_of_done (f := fun k r n => n.regEffect ini addr k r v) hal hacc hd ?_).trans (heffect.trans hw))
      rw [heffect]
      exact Lane.plainWrite_bus
    exact ⟨fun h => hrow _ (Lane.plainWrite_of_open h), fun h hrwl => hrow _ (Lane.plainWrite_of_locked h hrwl)⟩
  case read =>
    intro s l t ini addr k r n hal hacc
    refine ⟨fun hd hk => ?_, fun hd => .of_eq rfl ((Lane.guardRead_of_ok hal hacc).trans (ite_of_eq_false hd))⟩
    have hrow : ∀ m : Lane, (if r.rc = 0 then n else n.setWord k (n.word k &&& ~~~(BitVec.ofNat 32 r.rc))) = m →
        Completes (.registerRead l t ini addr) s l (m.readDone ini ((n.readWord k r).setWidth 64)) := fun m hm =>
      .of_eq rfl ((Lane.guardRead_of_ok hal hacc).trans ((if_pos hd).trans ((if_neg hk).trans
        (congrArg (Lane.readDone · ini ((n.readWord k r).setWidth 64)) hm))))
    exact ⟨fun hrc => hrow _ (if_pos hrc), fun hrc => hrow _ (if_neg hrc)⟩
  case refused =>
    intro s l t ini addr v w n hal
    refine ⟨fun h => .of_eq rfl (Lane.guardWrite_of_refused hal h (.inl rfl)), fun h => .of_eq rfl (Lane.guardWrite_of_refused hal h (.inr (.inl rfl))),
      fun h => .of_eq rfl (Lane.guardRead_of_refused hal h (.inl rfl)), fun h => .of_eq rfl (Lane.guardRead_of_refused hal h (.inr (.inl rfl))),
      fun hin h => ?_, fun h => .of_eq rfl (Lane.guardWrite_of_refused hal h (.inr (.inr rfl))),
      fun h => .of_eq rfl (Lane.guardRead_of_refused hal h (.inr (.inr rfl))), fun h => .of_eq rfl ((if_pos h).trans (if_pos rfl)),
      fun hlo hhi => ?_⟩
    · obtain ⟨hlo, hhi⟩ := inRegs_bounds hin
      intro m
      refine .of_eq rfl ((if_neg (by omega)).trans ((ite_of_eq_false (inSram_of_above (by omega))).trans
        ((ite_of_eq_false ?_).trans ((if_pos hin).trans ?_))))
      · rw [inTable_of_above (by omega), decide_eq_false (by omega)]
        rfl
      · rw [h]
        rfl
    · refine .of_eq rfl ((if_neg (by omega)).trans ((ite_of_eq_false (inSram_of_above (by omega))).trans
        ((ite_of_eq_false ?_).trans (ite_of_eq_false (inRegs_of_above (by omega))))))
      rw [inTable_of_above (by omega), decide_eq_false (by omega)]
      rfl
  case lock =>
    intro s l t ini blk r n k l1 hini hblk hacc hd hrwl
    have hrow : ∀ w, n.lockWrite ini (privAddr k) k r 1 = w → Completes (.blockLockSet l t ini blk) s l w := fun w hw => by
      refine .of_eq rfl ?_
      rw [Nat.mod_eq_of_lt hblk]
      exact (Lane.guardWrite_of_notHost (.inl hini) hacc hd hini).trans hw
    refine ⟨fun hk => hrow _ (Lane.lockWrite_of_open hrwl hk), fun hk => ⟨hrow _ (Lane.lockWrite_of_drive hrwl hk), .of_eq rfl ?_⟩⟩
    rw [← hk]
    exact (Lane.guardWrite_of_notHost (.inl hini) hacc hd hini).trans (Lane.lockWrite_of_drive hrwl hk)

end Sys2Proof.Machine
end
